-- ==== Sys2Proof/Word.lean ====
section
/-! DEFINITION. Word.lean: the word and byte types, a bit field of a register, one row of the register map, and the
shape of a sparse table. -/

namespace Sys2Proof

/-- A 32-bit register (R3). -/
abbrev Word := BitVec 32

/-- A 64-bit register (R4). -/
abbrev Word64 := BitVec 64

/-- One byte. -/
abbrev Byte := BitVec 8

/-- A sparse table by key, sorted by key. -/
abbrev Tbl (α : Type) := List (Nat × α)

/-- A bit field of a 32-bit register: BAR offset of the register, highest and lowest bit. -/
structure Fld where
  off : Nat
  hi  : Nat
  lo  : Nat
  deriving DecidableEq, Repr

/-- Whether an offset holds a 32-bit register or one half of a 64-bit register (R4). -/
inductive RegWidth where
  | word | low | high
  deriving DecidableEq, Repr

/-- One row of the register map: access codes of R6 as bit masks; bits in none of the masks are RO or reserved. -/
structure RegRow where
  name  : String
  off   : Nat
  /-- stride, first index and count of each instance index -/
  idx   : List (Nat × Nat × Nat)
  rw    : Nat
  wo    : Nat
  w1c   : Nat
  w1s   : Nat
  rs    : Nat
  img   : Nat
  rst   : Nat
  width : RegWidth
  deriving DecidableEq, Repr

end Sys2Proof
end

