-- ==== Sys2Proof/Syntax.lean ====
section
/-! DEFINITION. Syntax.lean: the commands of spec/opcode_table.json, one constructor for each row, with the operands that
the row's rule gives the command. A requester operand `r` is a requester number of R441 (0 to 18; the control island,
19, is never checked). `ns` is the local reference time in ns since the command before it. What the outside world sends
(packet contents, read completions, measured values) is an operand. -/

namespace Sys2Proof

/-- What the CSI-2 header ECC finds (R115). -/
inductive HdrCheck where
  | ok | corrected | uncorrectable
  deriving DecidableEq, Repr

/-- How a packet arrives at its port (R107, R108, R115): what the header ECC finds, the rate of its burst in the units of
PORT_p_LINK.rate, whether it is an LRTE packet, and whether it is scrambled. -/
structure Arrival where
  hdr  : HdrCheck
  rate : Nat
  lrte : Bool
  scr  : Bool
  deriving DecidableEq, Repr

/-- How a control-channel transfer ends (R87, R137, R148): done with the bytes read, not acknowledged, or abandoned. -/
inductive XferRes where
  | done (bytes : List Byte)
  | nack
  | abandoned
  deriving DecidableEq, Repr

/-- How an attempt of a glue transfer ends (R372): done with the bytes read, not acknowledged, arbitration lost to another master, or
the clock stretched for more than 10 ms. -/
inductive GlueRes where
  | done (bytes : List Byte)
  | nack
  | lost
  | stretched
  deriving DecidableEq, Repr

/-- Whose back-off of R148 is over: a control channel's; a glue bus's, with how its next attempt ends and whether SDA is still low after a bus
clear (R372); or the follower's with its control request on the Erkuhar link (R384). -/
inductive BackWho where
  | channel (p : Fin 24)
  | glue (n : Fin 2) (res : GlueRes) (sdaLow : Bool)
  | erkuhar
  deriving DecidableEq, Repr

/-- A frame that a CAN controller receives (R361): controller, kind (0 classical, 1 FD, 2 XL, 3 a remote frame), extended identifier,
identifier, payload. -/
structure CanFrame where
  c     : Fin 4
  kind  : Fin 4
  ext   : Bool
  ident : Fin 536870912
  bytes : List Byte
  deriving DecidableEq, Repr

/-- A moment at which the bridge sends (R368): whether the new frame wins arbitration before its next period, and the frames
received in the same clock cycle (R370). -/
structure CanSend where
  wins : Bool
  now  : List CanFrame
  deriving DecidableEq, Repr

/-- A moment at which signals are bound to a frame (R365): its number, and the frames received in the same clock cycle (R370). -/
structure BindAt where
  num : Fin 4294967296
  now : List CanFrame
  deriving DecidableEq, Repr

/-- What a long packet carries of the Camera Service Extensions (R396): whether their CRC is right, and their message counter. -/
structure CseField where
  ok  : Bool
  ctr : Fin 65536
  deriving DecidableEq, Repr

/-- What the checks of a long packet find (R115, R396): whether its payload CRC is right, and its CSE field. -/
structure PktCheck where
  crcOk : Bool
  cse   : CseField
  deriving DecidableEq, Repr

/-- What the Ethernet port receives (R152): of gPTP, a Sync with the master's time where it is one-step, a Follow_Up with that
of a two-step Sync, each with the identity of its sender; the end of a peer-delay exchange that Falith asked for (MAC interval
from request to response, turnaround at the peer), the peer's own peer-delay request; an announcement with its priority vector as one
number, the better the lower, and its sender; or a frame that is not gPTP. -/
inductive GptpMsg where
  | sync (origin : Option Nat) (from_ : Nat)
  | followUp (origin from_ : Nat)
  | peerDelay (trip turn : Nat)
  | peerRequest
  | announce (vector from_ : Nat)
  | other
  deriving DecidableEq, Repr

/-- What a function's Device Control registers say (R301, R310, R320): Max Payload Size 128 × 2^mps, Max Read Request Size
128 × 2^mrrs, Enable Relaxed Ordering, and the tags that requests may use: 0 of 8 bits, 1 of 10 bits, 2 of 14 bits. -/
structure DevCtl where
  mps  : Fin 3
  mrrs : Fin 6
  ro   : Bool
  tags : Fin 3
  deriving DecidableEq, Repr

/-- The main supplies other than VDD_CORE (R31). -/
inductive Rail where
  | sram | phy | phyH | io18 | io33
  deriving DecidableEq, Repr

/-- A main supply that leaves its range (R38), and whether it is absent then. -/
structure RailLoss where
  rail   : Rail
  absent : Bool
  deriving DecidableEq, Repr

/-- The main supplies other than VDD_CORE that are outside their ranges, and those absent (R37, R38). -/
structure Mains where
  out    : List Rail
  absent : List Rail
  deriving DecidableEq, Repr

/-- What feeds Falith when the warmer is powered again (R456): the main supplies, and whether WARM_SRC selects the internal
regulator (R17, R34). -/
structure Supplies where
  mains    : Mains
  internal : Bool
  deriving DecidableEq, Repr

/-- A function's MSI-X Enable and Function Mask bits (R437). -/
structure MsixCtl where
  en    : Bool
  fmask : Bool
  deriving DecidableEq, Repr

/-- What a user-defined packet carries (R109): data type 0x30 + kind, and the payload bytes. -/
structure UserData where
  kind  : Fin 8
  bytes : List Byte
  deriving DecidableEq, Repr

/-- What a long packet of another data type carries (R111): its data type, and how many payload bytes. -/
structure OtherData where
  dt  : Fin 64
  len : Nat
  deriving DecidableEq, Repr

/-- A clear of event counters (R434): the requester, and the sources that occur in the same cycle. -/
structure Clearing where
  r   : Fin 19
  now : List (Fin 1536)
  deriving DecidableEq, Repr

/-- What a register write carries (R304): 4 bytes, or 8 with a high half. -/
structure WriteData where
  v  : Word
  hi : Option Word
  deriving DecidableEq, Repr

/-- A word that a register write carries, and the bits of the register whose conditions occur in the same cycle (R6, R7). -/
structure WriteWord where
  v   : Word
  now : Word
  deriving DecidableEq, Repr

/-- What ends a frame from the SPI controller beside the fields that its command uses (R373): the bytes between those fields and byte
15, and byte 15, its CRC-8. A frame with other than 16 bytes in all has more or fewer of the former. -/
structure SdiEnd where
  rest : List Byte
  crc  : Byte
  deriving DecidableEq, Repr

/-- What a Boot meets outside Falith (R19, R71, R77, R88): strap levels, the fastest mode of the SFDP table, the modes in
which slot headers cannot be read alike (mask), the slots whose reads fail in every mode (mask), whether the SFDP table gives erase
suspend (R465), and whether Boot runs to its end or stands before step 11 when the next command arrives. -/
structure BootEnv where
  clk      : Bool
  xspi     : Fin 4
  sfdp     : Fin 3
  badModes : Fin 8
  readFail : Fin 4
  suspend  : Bool
  finish   : Bool
  deriving DecidableEq, Repr

/-- The result of one BIST run (R416, R418): power domain, logic failed, memory failed beyond repair, soft repairs made. -/
structure BistResult where
  dom     : Fin 152
  logic   : Bool
  memory  : Bool
  repairs : Nat
  deriving DecidableEq, Repr

/-- An IDE_KM message in the SPDM session (R301): a query, keys programmed, the stream switched on, the stream stopped. -/
inductive IdeMsg where
  | query | keyProg | setGo | setStop
  deriving DecidableEq, Repr

/-- What occurs inside Falith without a command of its own (R432). -/
inductive Happening where
  /-- the bare occurrence of source n -/
  | source (n : Fin 1536)
  /-- an error logged in AER (R338) -/
  | aer (uncorr : Bool)
  /-- an error in a line buffer or context slot of easel e (R232) -/
  | easelMem (e : Fin 12) (uncorr : Bool)
  /-- code bits of a palette word flip, as a mask of its 39 (R279) -/
  | palUpset (word : Fin 25165824) (mask : Nat)
  /-- an error in the link entry of a palette cell (R281) -/
  | palLink (cell : Fin 49152) (uncorr : Bool)
  /-- a corrected error in the control-island SRAM (R457) -/
  | sramCorrected
  /-- the parity of a queue's stored item n goes wrong (R291) -/
  | queUpset (q : Fin 96) (n : Nat)
  /-- a queue's reset is forced: 0 pointer mismatch, 1 link pointer parity, 2 length slot parity (R291); in the same cycle a
  requester may pop it, and one may push a word (R293) -/
  | queForced (q : Fin 96) (cause : Fin 3) (pop : Option (Fin 19)) (push : Option (Fin 19 × Word))
  /-- data bits of a word in the buffer cells of channel c flip: the word's place in those cells, taken modulo their 8,192 words (R341,
  R352) -/
  | pourBuffer (c : Fin 128) (word : Nat) (mask : Word)
  /-- an IDE integrity failure -/
  | ideFail
  /-- CXL.cache becomes usable or unusable -/
  | cxlCache (on : Bool)
  deriving DecidableEq, Repr

/-- How a read of host memory ends (R315, R321, R343): its bytes, or a completion with Unsupported Request or Completer
Abort, poison, a failed translation, or bytes of which a word of the palette's fixed cells 0 to 2,559, where they lie until they are
used, has an uncorrected error (R274, R280). -/
inductive HostRead where
  | data (bytes : List Byte)
  | unsupported
  | poisoned
  | untranslated
  | bufferError (word : Fin 1310720)
  deriving DecidableEq, Repr

/-- The outstanding read that reaches its completion timeout (R321): of ring r its descriptor fetch or its flush; of channel
c its descriptor fetch, its flush read, or the data read of its drip. -/
inductive LateRead where
  | ringFetch (r : Fin 264)
  | ringFlush (r : Fin 264)
  | txeFetch (c : Fin 128)
  | txeFlush (c : Fin 128)
  | txeData (c : Fin 128)
  deriving DecidableEq, Repr

/-- The commands (spec/opcode_table.json). -/
inductive Instr where
  /-- POWER_ON_RESET (R67): PORST_N falls. -/
  | powerOnReset (ns : Nat)
  /-- SUPPLY_OUT_OF_RANGE (R38): a main supply other than VDD_CORE leaves its range. -/
  | supplyOutOfRange (loss : RailLoss) (ns : Nat)
  /-- VDD_CORE_LOSS (R38). -/
  | vddCoreLoss (ns : Nat)
  /-- VDD_CORE_RETURN (R37): VDD_CORE is within its range; the other main supplies that are outside theirs, and those absent. -/
  | vddCoreReturn (mains : Mains)
  /-- WARMER_POWER_LOSS (R37). -/
  | warmerPowerLoss
  /-- WARMER_POWER_UP (R456): the warmer is powered again; whether VDD_CORE is within its range then, the other main
  supplies that are outside theirs, those absent, and whether WARM_SRC selects the internal regulator (R17, R34). -/
  | warmerPowerUp (coreOk : Bool) (sup : Supplies)
  /-- RESET_RELEASE (R73): the strap levels, what the flash answers, and how far Boot runs. -/
  | resetRelease (env : BootEnv)
  /-- SUPPLY_WARNING (R465): SUPW_N falls; the ageing readings of the record (region, normalised count). -/
  | supplyWarning (ages : List (Fin 32 × Fin 65536)) (ns : Nat)
  /-- SUPPLY_WARNING_RELEASE (R465): SUPW_N rises. -/
  | supplyWarningRelease (ns : Nat)
  /-- REFERENCE_LOSS (R57). -/
  | referenceLoss (ns : Nat)
  /-- PLL_UNLOCK (R61): PLL CK_n loses lock. -/
  | pllUnlock (n : Fin 8) (ns : Nat)
  /-- PLL_RELOCK (R61): PLL CK_n locks again; the lock time in 0.1 us. -/
  | pllRelock (n : Fin 8) (lockTime : Fin 256) (ns : Nat)
  /-- LOCKSTEP_MISMATCH (R67). -/
  | lockstepMismatch (ns : Nat)
  /-- WATCHDOG_EXPIRY (R67). -/
  | watchdogExpiry (ns : Nat)
  /-- SOFTWARE_RESET (R67): requester r writes BOOT_CMD with op 0x1. -/
  | softwareReset (r : Fin 19)
  /-- HOST_LINK_RESET_COMMAND (R67): requester r writes BOOT_CMD with op 0x2. -/
  | hostLinkResetCommand (r : Fin 19)
  /-- RAISE_ROLLBACK_FLOOR (R93): requester r writes BOOT_CMD with op 0x3; whether VFUSE is present. -/
  | raiseRollbackFloor (r : Fin 19) (vfuse : Bool)
  /-- PERST_ASSERT (R56). -/
  | perstAssert (ns : Nat)
  /-- PERST_RELEASE (R24). -/
  | perstRelease (ns : Nat)
  /-- HOST_LINK_RESET_END (R69). -/
  | hostLinkResetEnd (ns : Nat)
  /-- LINK_TRAINING_START (R71). -/
  | linkTrainingStart (ns : Nat)
  /-- CONFIG_REQUEST_DURING_BOOT (R71): a configuration request to function fn. -/
  | configRequestDuringBoot (fn : Fin 16)
  /-- XTAL32K_STOP (R60). -/
  | xtal32kStop (ns : Nat)
  /-- XTAL32K_RETURN (R454). -/
  | xtal32kReturn (ns : Nat)
  /-- RC_TRIM (R454): the measured deviation in ppm. -/
  | rcTrim (ppm : Int)
  /-- KEYON_BIST_WAVE_END (R415): wave number and the domains of it that failed. -/
  | keyonBistWaveEnd (wave : Fin 6) (results : List BistResult)
  /-- STANDBY_ENTER (R50): requester r writes PM_CTRL.cmd = 0b01. -/
  | standbyEnter (r : Fin 19)
  /-- STANDBY_ENTRY_COMPLETE (R50). -/
  | standbyEntryComplete (ns : Nat)
  /-- WAKE_COMMAND (R54): requester r writes PM_CTRL.cmd = 0b10. -/
  | wakeCommand (r : Fin 19)
  /-- WAKE_COMPLETE (R54). -/
  | wakeComplete (ns : Nat)
  /-- PM_DCTRL_HOLD_OFF (R47): requester r sets hold_off of domain n. -/
  | pmDctrlHoldOff (r : Fin 19) (n : Fin 152)
  /-- PM_DCTRL_HOLD_ON (R66): requester r sets hold_on of domain n. -/
  | pmDctrlHoldOn (r : Fin 19) (n : Fin 152)
  /-- DOMAIN_RAMP_START (R42): the ramp slot of domain n begins. -/
  | domainRampStart (n : Fin 152) (ns : Nat)
  /-- DOMAIN_WAKE_DONE (R41): the three wake steps of domain n have ended. -/
  | domainWakeDone (n : Fin 152) (ns : Nat)
  /-- DOMAIN_DRAIN_DONE (R46): every transfer of domain n has paused. -/
  | domainDrainDone (n : Fin 152) (ns : Nat)
  /-- AVS_TICK (R63): the worst margin in 0.25 %, whether the PMBus transfer succeeds within its three attempts. -/
  | avsTick (margin : Fin 256) (busOk : Bool) (ns : Nat)
  /-- AVS_ALERT (R62). -/
  | avsAlert (ns : Nat)
  /-- PM_REFUSE_READ (R66). -/
  | pmRefuseRead (r : Fin 19)
  /-- FUNCTION_D3HOT_ENTRY (R55): the host puts function fn into D3hot. -/
  | functionD3hotEntry (fn : Fin 16) (ns : Nat)
  /-- FUNCTION_D0_ENTRY (R332): function fn is in D0; its MSI-X Enable and Function Mask bits, its Device Control. -/
  | functionD0Entry (fn : Fin 16) (msix : MsixCtl) (dc : DevCtl) (ns : Nat)
  /-- FUNCTION_LEVEL_RESET (R332). -/
  | functionLevelReset (fn : Fin 16) (ns : Nat)
  /-- VF_REMOVAL (R332). -/
  | vfRemoval (vf : Fin 15) (ns : Nat)
  /-- L1_EXIT (R309). -/
  | l1Exit (ns : Nat)
  /-- HOST_LINK_UP (R308): rate and width codes trained, CXL or PCIe. -/
  | hostLinkUp (rate : Fin 16) (width : Fin 16) (cxl : Bool) (ns : Nat)
  /-- HOST_LINK_DOWN (R56). -/
  | hostLinkDown (ns : Nat)
  /-- COMMIT_OPEN (R94). -/
  | commitOpen (r : Fin 19)
  /-- COMMIT_GO (R95). -/
  | commitGo (r : Fin 19)
  /-- COMMIT_ABORT (R94). -/
  | commitAbort (r : Fin 19)
  /-- COMMIT_EXECUTE (R96): the drip boundary of the accepted commit. -/
  | commitExecute (ns : Nat)
  /-- NOR_ERASE (R98). -/
  | norErase (r : Fin 19)
  /-- NOR_PROGRAM (R98). -/
  | norProgram (r : Fin 19)
  /-- NOR_READ (R98). -/
  | norRead (r : Fin 19)
  /-- NOR_OP_DONE (R98): whether the flash reports a failure. -/
  | norOpDone (failed : Bool) (ns : Nat)
  /-- APHY_LINK_UP (R101): port p, the gear the serializer requests, lanes. -/
  | aphyLinkUp (p : Fin 16) (gear : Fin 8) (ns : Nat)
  /-- APHY_LINK_LOSS (R103). -/
  | aphyLinkLoss (p : Fin 16) (ns : Nat)
  /-- RETRAIN_REQUEST (R103): requester r writes PORT_p_LINK.retrain = 1. -/
  | retrainRequest (r : Fin 19) (p : Fin 24)
  /-- RETRAIN_START (R103). -/
  | retrainStart (p : Fin 16) (ns : Nat)
  /-- EQ_MARGIN_UPDATE (R102). -/
  | eqMarginUpdate (p : Fin 24) (margin : Fin 256)
  /-- EQ_MARGIN_READ (R132). -/
  | eqMarginRead (r : Fin 19) (p : Fin 24)
  /-- APHY_PACKET_CHECK_FAIL (R104): resends, and whether the packet is lost. -/
  | aphyPacketCheckFail (p : Fin 16) (resends : Nat) (lost : Bool)
  /-- FRAME_START_PACKET (R115): link, virtual channel, CSI-2 frame number. -/
  | frameStartPacket (p : Fin 24) (link : Bool) (vc : Fin 32) (num : Fin 65536) (arr : Arrival) (ns : Nat)
  /-- LINE_PACKET (R115): data type, line number, decoded sample codes, payload check, CSE field, room in the ingress
  buffer. -/
  | linePacket (p : Fin 24) (link : Bool) (vc : Fin 32) (dt : Fin 64) (line : Option (Fin 65536)) (codes : List Nat)
      (crcOk : Bool) (cse : CseField) (room : Bool) (arr : Arrival) (ns : Nat)
  /-- FRAME_END_PACKET (R115). -/
  | frameEndPacket (p : Fin 24) (link : Bool) (vc : Fin 32) (arr : Arrival) (ns : Nat)
  /-- EMBEDDED_DATA_PACKET (R252): the payload bytes. -/
  | embeddedDataPacket (p : Fin 24) (link : Bool) (vc : Fin 32) (bytes : List Byte) (arr : Arrival) (chk : PktCheck) (ns : Nat)
  /-- USER_DEFINED_PACKET (R109): data type 0x30 + kind. -/
  | userDefinedPacket (p : Fin 24) (link : Bool) (vc : Fin 32) (data : UserData) (arr : Arrival) (chk : PktCheck) (ns : Nat)
  /-- OTHER_LONG_PACKET (R111). -/
  | otherLongPacket (p : Fin 24) (link : Bool) (vc : Fin 32) (data : OtherData) (arr : Arrival) (ns : Nat)
  /-- LINE_TIMEOUT (R119): map entry k of port p. -/
  | lineTimeout (p : Fin 24) (k : Fin 4) (ns : Nat)
  /-- IDLE_TIMEOUT (R121). -/
  | idleTimeout (p : Fin 24) (k : Fin 4) (ns : Nat)
  /-- SENSOR_REINIT_COMPLETE (R124). -/
  | sensorReinitComplete (p : Fin 24) (k : Fin 4) (ns : Nat)
  /-- CONTROL_TRANSFER_DONE (R87): how the transfer of channel p ended. -/
  | controlTransferDone (p : Fin 24) (res : XferRes) (ns : Nat)
  /-- SEQUENCE_DELAY_EXPIRY (R86). -/
  | sequenceDelayExpiry (p : Fin 24) (ns : Nat)
  /-- NACK_RETRY_TIMER (R148). -/
  | nackRetryTimer (p : Fin 24) (ns : Nat)
  /-- BACKOFF_TIMER (R148): whose back-off is over. -/
  | backoffTimer (who : BackWho) (ns : Nat)
  /-- TUNNEL_ANSWER_TIMEOUT (R148). -/
  | tunnelAnswerTimeout (p : Fin 16) (ns : Nat)
  /-- CLOCK_STRETCH_TIMEOUT (R134). -/
  | clockStretchTimeout (p : Fin 24) (ns : Nat)
  /-- INIT_RETRY_TIMER (R137). -/
  | initRetryTimer (p : Fin 24) (k : Fin 4) (ns : Nat)
  /-- BUS_CLEAR_RETRY (R138, R372): channel p, or glue bus p − 24; whether SDA is still low after the STOP. -/
  | busClearRetry (p : Fin 26) (sdaLow : Bool) (ns : Nat)
  /-- FIRST_ATTEMPT_TIMEOUT (R139). -/
  | firstAttemptTimeout (p : Fin 16) (ns : Nat)
  /-- SYNC_GROUP_START (R139). -/
  | syncGroupStart (ns : Nat)
  /-- WRITE_WINDOW_CLOSE (R145). -/
  | writeWindowClose (p : Fin 24) (k : Fin 4) (ns : Nat)
  /-- IN_BAND_INTERRUPT (R147): address and payload. -/
  | inBandInterrupt (p : Fin 24) (addr : Fin 128) (payload : List Byte) (ns : Nat)
  /-- SC_MAILBOX_READ (R161): requester, channel, target, register, two bytes or one, byte order. -/
  | scMailboxRead (r : Fin 19) (p : Fin 24) (tgt : Fin 4) (reg : Fin 65536) (two lsb : Bool)
  /-- SC_MAILBOX_WRITE (R161): the data are SC_p_XDATA. -/
  | scMailboxWrite (r : Fin 19) (p : Fin 24) (tgt : Fin 4) (reg : Fin 65536) (two lsb : Bool)
  /-- GPTP_MESSAGE (R153): the frame's gPTP domain, and the offset it yields, reference minus vehicle time in ns. -/
  | gptpMessage (domain : Fin 256) (msg : GptpMsg) (ns : Nat)
  /-- PTM_DIALOGUE (R152): host PTM time minus vehicle time. -/
  | ptmDialogue (offset : Int) (ns : Nat)
  /-- PPS_EDGE (R154). -/
  | ppsEdge (ns : Nat)
  /-- PPS_TIMEOUT (R153). -/
  | ppsTimeout (ns : Nat)
  /-- HOLDOVER_TIMEOUT (R153). -/
  | holdoverTimeout (ns : Nat)
  /-- TIME_TOD_WRITE (R154): requester r writes TIME_TOD as one 64-bit access. -/
  | timeTodWrite (r : Fin 19) (v : Word64)
  /-- MDIO_POLL (R152): the link bit of the PHY's basic status register. -/
  | mdioPoll (linkUp : Bool) (ns : Nat)
  /-- SYNC_EDGE (R155): the next edge of group g falls due. -/
  | syncEdge (g : Fin 8)
  /-- FSO_OUTPUT_EDGE (R156): output n, 0 to 15 = FSO0 to FSO15, 16 + p = the tunnelled line of AP port p. -/
  | fsoOutputEdge (n : Fin 32) (ns : Nat)
  /-- FSO_PULSE_END (R156). -/
  | fsoPulseEnd (n : Fin 32) (ns : Nat)
  /-- EASEL_LINE_BOUNDARY (R168): easel e reaches a line boundary. -/
  | easelLineBoundary (e : Fin 12) (ns : Nat)
  /-- STROKE_END (R170): the stroke in hand of easel e finishes. -/
  | strokeEnd (e : Fin 12) (ns : Nat)
  /-- STROKE_DEADLINE_MISS (R173): a stroke of stream s passes its deadline. -/
  | strokeDeadlineMiss (s : Fin 32) (ns : Nat)
  /-- REST_ROTATION (R183). -/
  | restRotation (ns : Nat)
  /-- ROTATION_DRAIN_DONE (R183). -/
  | rotationDrainDone (ns : Nat)
  /-- RESTING_BIST_DONE (R184): 0 passed, 1 logic failure, 2 memory failure. -/
  | restingBistDone (result : Fin 3) (repairs : Nat) (ns : Nat)
  /-- EASEL_RETIRE_COMMAND (R185). -/
  | easelRetireCommand (r : Fin 19) (e : Fin 12)
  /-- EASEL_READMIT_COMMAND (R188). -/
  | easelReadmitCommand (r : Fin 19) (e : Fin 12)
  /-- EASEL_READMIT (R188): the BIST of easel e has passed. -/
  | easelReadmit (e : Fin 12) (ns : Nat)
  /-- TABLE_RELOAD_OPEN (R229). -/
  | tableReloadOpen (r : Fin 19)
  /-- TABLE_RELOAD_GO (R230). -/
  | tableReloadGo (r : Fin 19)
  /-- TABLE_RELOAD_ABORT (R229). -/
  | tableReloadAbort (r : Fin 19)
  /-- TABLE_RELOAD_EXECUTE (R231): the drip boundary of the accepted reload. -/
  | tableReloadExecute (ns : Nat)
  /-- EAS_WAIT_READ (R235). -/
  | easWaitRead (r : Fin 19) (e : Fin 12)
  /-- PLACEMENT_REFUSAL_READ (R196). -/
  | placementRefusalRead (r : Fin 19)
  /-- STATS_BLOCK_CLOSE (R243): of stream s. -/
  | statsBlockClose (s : Fin 32) (ns : Nat)
  /-- CONTROL_LAWS_END (R260): of stream s. -/
  | controlLawsEnd (s : Fin 32) (ns : Nat)
  /-- LEDGER_CMD_SET (R258). -/
  | ledgerCmdSet (r : Fin 19) (s : Fin 32)
  /-- LEDGER_CMD_RELEASE (R258). -/
  | ledgerCmdRelease (r : Fin 19) (s : Fin 32)
  /-- RESULT_HEAD_READ (R269). -/
  | resultHeadRead (r : Fin 19) (s : Fin 32)
  /-- SCRUB_DRIP (R282). -/
  | scrubDrip (ns : Nat)
  /-- QUEUE_PUSH (R287): requester r writes w to QUE_q_PUSH. -/
  | queuePush (r : Fin 19) (q : Fin 96) (w : Word)
  /-- QUEUE_POP (R289): a read of the low half of QUE_q_POP, or (wide) of both halves at once. -/
  | queuePop (r : Fin 19) (q : Fin 96) (wide : Bool)
  /-- QUEUE_RESET (R292). -/
  | queueReset (r : Fin 19) (q : Fin 96)
  /-- FC_MIN_WIDTH_EXPIRY (R295): pin n. -/
  | fcMinWidthExpiry (n : Fin 8) (ns : Nat)
  /-- REG64_LOW_HALF_READ (R4): the register whose low half stands at an offset. -/
  | reg64LowHalfRead (r : Fin 19) (off : Fin 16777216)
  /-- REG64_HIGH_HALF_WRITE (R4): the register whose high half stands at an offset. -/
  | reg64HighHalfWrite (r : Fin 19) (off : Fin 16777216) (v : Word)
  /-- OUTPUT_DOORBELL (R311). -/
  | outputDoorbell (r : Fin 19) (ring : Fin 264)
  /-- DESCRIPTOR_FETCH_COMPLETE (R315): how the oldest outstanding fetch of a ring ends. -/
  | descriptorFetchComplete (ring : Fin 264) (res : HostRead) (ns : Nat)
  /-- DESCRIPTOR_RETRY_TIMER (R315). -/
  | descriptorRetryTimer (ring : Fin 264) (ns : Nat)
  /-- OUTPUT_READY (R316): whether the buffer's address translates. -/
  | outputReady (ring : Fin 264) (xlatOk : Bool) (ns : Nat)
  /-- FLUSH_READ_COMPLETE (R321): how the flush read of a ring ends. -/
  | flushReadComplete (ring : Fin 264) (res : HostRead) (ns : Nat)
  /-- COMPLETION_TIMEOUT (R321). -/
  | completionTimeout (which : LateRead) (ns : Nat)
  /-- FAULT_MAILBOX_WRITE (R323). -/
  | faultMailboxWrite (r : Fin 19) (v : Word64)
  /-- MEMBER_BUDGET_EXPIRY (R11): of stream s. -/
  | memberBudgetExpiry (s : Fin 32) (ns : Nat)
  /-- PALETTE_VIEW_READ (R305): n bytes from an offset of BAR2. -/
  | paletteViewRead (off : Fin 134217728) (n : Fin 4097)
  /-- PALETTE_VIEW_WRITE (R305). -/
  | paletteViewWrite (off : Fin 134217728)
  /-- MISALIGNED_ACCESS (R304): a register access of a wrong width or alignment. -/
  | misalignedAccess (r : Fin 19) (off : Fin 16777216) (write : Bool)
  /-- HL_TAGS_READ (R338). -/
  | hlTagsRead (r : Fin 19)
  /-- ATS_INVALIDATION (R301). -/
  | atsInvalidation (fn : Fin 16) (ns : Nat)
  /-- GET_VERSION (R412). -/
  | getVersion
  /-- GET_CAPABILITIES (R412): the requester's bytes. -/
  | getCapabilities (req : List Byte)
  /-- NEGOTIATE_ALGORITHMS (R412): what the requester offers: bit 0 ECDSA P-384, 1 SHA-384, 2 secp384r1, 3 AES-256-GCM. -/
  | negotiateAlgorithms (offered : Fin 16)
  /-- GET_DIGESTS (R412). -/
  | getDigests
  /-- GET_CERTIFICATE (R412): slot, offset, length. -/
  | getCertificate (slot : Fin 8) (off len : Fin 65536)
  /-- CHALLENGE (R412). -/
  | challenge (slot : Fin 8) (nonce : List Byte)
  /-- GET_MEASUREMENTS (R413): index 0 for the number of blocks, 255 for all; whether a signature is asked for. -/
  | getMeasurements (index : Fin 256) (signed : Bool) (nonce : List Byte)
  /-- KEY_EXCHANGE (R412): the session's number and the requester's key share. -/
  | keyExchange (session : Fin 65536) (share : List Byte)
  /-- FINISH (R412): whether the requester's check value is right. -/
  | finish (ok : Bool)
  /-- END_SESSION (R412). -/
  | endSession
  /-- HEARTBEAT (R412). -/
  | heartbeat
  /-- KEY_UPDATE (R412). -/
  | keyUpdate
  /-- TXE_DOORBELL (R343). -/
  | txeDoorbell (r : Fin 19) (c : Fin 128)
  /-- TXE_DESCRIPTOR_FETCH (R343): how the fetch of channel c ends. -/
  | txeDescriptorFetch (c : Fin 128) (res : HostRead) (ns : Nat)
  /-- TXE_RETRY_TIMER (R343). -/
  | txeRetryTimer (c : Fin 128) (ns : Nat)
  /-- TXE_COPY (R345): a drip of a copy: how its reads end, and whether its destination translates. -/
  | txeCopy (c : Fin 128) (src : HostRead) (dstXlat : Bool) (ns : Nat)
  /-- TXE_FILL (R345): a drip of a fill. -/
  | txeFill (c : Fin 128) (dstXlat : Bool) (ns : Nat)
  /-- TXE_COMPARE (R345): a drip of a compare. -/
  | txeCompare (c : Fin 128) (src dst : HostRead) (ns : Nat)
  /-- TXE_CHECK_FED_COPY (R345): a drip of a check-fed copy. -/
  | txeCheckFedCopy (c : Fin 128) (src : HostRead) (dstXlat : Bool) (ns : Nat)
  /-- TXE_UNKNOWN_OP (R351): the write-back of a refused descriptor. -/
  | txeUnknownOp (c : Fin 128) (ns : Nat)
  /-- TXE_DRIP_BOUNDARY (R348). -/
  | txeDripBoundary (c : Fin 128) (ns : Nat)
  /-- DRIP_TIME_LIMIT (R347). -/
  | dripTimeLimit (c : Fin 128) (ns : Nat)
  /-- TXE_FLUSH_COMPLETE (R350). -/
  | txeFlushComplete (c : Fin 128) (res : HostRead) (ns : Nat)
  /-- TXE_PAUSE (R353). -/
  | txePause (r : Fin 19) (c : Fin 128)
  /-- TXE_UNPAUSE (R353). -/
  | txeUnpause (r : Fin 19) (c : Fin 128)
  /-- TXE_RESUME (R354). -/
  | txeResume (r : Fin 19) (c : Fin 128)
  /-- TXE_ABORT (R355). -/
  | txeAbort (r : Fin 19) (c : Fin 128)
  /-- TXE_UNIT_AVAILABLE (R356): the unit that channel c waits for is free. -/
  | txeUnitAvailable (c : Fin 128) (ns : Nat)
  /-- TXE_BUF_READ (R358). -/
  | txeBufRead (r : Fin 19)
  /-- CAN_FRAME_RECEIVED (R361): controller, frame kind (0 classic, 1 FD, 2 XL, 3 a remote frame), extended identifier, identifier,
  payload. -/
  | canFrameReceived (c : Fin 4) (kind : Fin 4) (ext : Bool) (ident : Fin 536870912) (bytes : List Byte) (ns : Nat)
  /-- CAN_MESSAGE_TIMEOUT (R361): definition m. -/
  | canMessageTimeout (m : Fin 64) (ns : Nat)
  /-- SIGNAL_BIND (R365): for a frame of stream s. -/
  | signalBind (s : Fin 32) (frame : BindAt) (ns : Nat)
  /-- CAN_TX_PERIOD (R368): definition j; whether the new frame wins arbitration before its next period. -/
  | canTxPeriod (j : Fin 16) (send : CanSend) (ns : Nat)
  /-- CAN_BUS_OFF (R360). -/
  | canBusOff (c : Fin 4) (ns : Nat)
  /-- CAN_BUSOFF_RECOVERY (R359). -/
  | canBusoffRecovery (c : Fin 4) (ns : Nat)
  /-- GPIO_EDGE (R371): a debounced input has taken a level. -/
  | gpioEdge (n : Fin 32) (high : Bool) (ns : Nat)
  /-- GLUE_READ (R372): requester r writes SIG_GM_n_XFER with go and rd = 1, the other fields as in w; how the first attempt ends,
  and whether SDA is still low after a bus clear. -/
  | glueRead (r : Fin 19) (n : Fin 2) (w : Word) (res : GlueRes) (sdaLow : Bool)
  /-- GLUE_WRITE (R372): the same with rd = 0. -/
  | glueWrite (r : Fin 19) (n : Fin 2) (w : Word) (res : GlueRes) (sdaLow : Bool)
  /-- SPI_CMD_NONE (R373, R374): command 0x00 and the rest of its frame; whether the last command is still in progress. -/
  | spiCmdNone (sdi : SdiEnd) (busy : Bool) (ns : Nat)
  /-- SPI_CMD_READ (R374): sequence number and offset. -/
  | spiCmdRead (seq : Fin 256) (off : Fin 16777216) (sdi : SdiEnd) (busy : Bool) (ns : Nat)
  /-- SPI_CMD_WRITE (R374). -/
  | spiCmdWrite (seq : Fin 256) (off : Fin 16777216) (d : WriteWord) (sdi : SdiEnd) (busy : Bool) (ns : Nat)
  /-- SPI_CMD_WAKE (R54). -/
  | spiCmdWake (seq : Fin 256) (sdi : SdiEnd) (busy : Bool) (ns : Nat)
  /-- SAFETY_CYCLE (R375). -/
  | safetyCycle (ns : Nat)
  /-- I2CT_WRITE (R376): the address sent, offset, data. -/
  | i2ctWrite (addr : Fin 128) (off : Fin 16777216) (d : WriteWord) (crc : Byte) (ns : Nat)
  /-- I2CT_READ (R376). -/
  | i2ctRead (addr : Fin 128) (off : Fin 16777216) (crc : Byte) (ns : Nat)
  /-- ERK_LINK_UP (R378): the role that the peer claims, true = follower. -/
  | erkLinkUp (peer : Bool) (ns : Nat)
  /-- ERK_LINK_LOSS (R378). -/
  | erkLinkLoss (ns : Nat)
  /-- ERK_DATA_FRAME (R381): header fields, payload. `gap` = its acknowledgement shows a gap. -/
  | erkDataFrame (seq ack : Word) (gap crcOk : Bool) (flags : Fin 4) (st : Fin 32) (w : Fin 8) (num off : Word)
      (data : List Byte) (ns : Nat)
  /-- ERK_TIME_FRAME (R383): the peer's send time, and this end's last send time with its reception time at the peer. -/
  | erkTimeFrame (seq ack : Word) (gap crcOk : Bool) (sent : Word64) (echo : Option (Word64 × Word64)) (ns : Nat)
  /-- ERK_CENSUS_FRAME (R411). -/
  | erkCensusFrame (seq ack : Word) (gap crcOk : Bool) (epoch : Word) (digest : List Byte) (ns : Nat)
  /-- ERK_CONTROL_REQUEST (R384): read, offset, data. -/
  | erkControlRequest (seq ack : Word) (gap crcOk : Bool) (rd : Bool) (off : Fin 16777216) (d : WriteWord) (ns : Nat)
  /-- ERK_CONTROL_ANSWER (R384): whether the peer denied it, data. -/
  | erkControlAnswer (seq ack : Word) (gap crcOk : Bool) (denied : Bool) (v : Word) (ns : Nat)
  /-- ERK_NOTICE_RECEIVED (R382): the output's first sequence number, the cause: 1 delivery-failed, 2 not handed over, 3 incomplete. -/
  | erkNoticeReceived (seq ack : Word) (gap crcOk : Bool) (first : Word) (cause : Fin 4) (ns : Nat)
  /-- ERK_IDLE_FRAME (R379). -/
  | erkIdleFrame (ack : Word) (gap crcOk : Bool) (ns : Nat)
  /-- ERK_REPLAY_TIMEOUT (R380). -/
  | erkReplayTimeout (ns : Nat)
  /-- ERK_TIME_SEND (R383). -/
  | erkTimeSend (ns : Nat)
  /-- ERK_CENSUS_SEND (R383). -/
  | erkCensusSend (ns : Nat)
  /-- ERK_PEER_READ (R384): requester r writes ERK_PCTL with go and rd = 1. -/
  | erkPeerRead (r : Fin 19) (off : Fin 16777216)
  /-- ERK_PEER_WRITE (R384): the same with rd = 0; the data are those of ERK_PCTL_DATA. -/
  | erkPeerWrite (r : Fin 19) (off : Fin 16777216)
  /-- CHK_START (R390): requester r writes CHK_n_CTRL with start and the fields of w. -/
  | chkStart (r : Fin 19) (n : Fin 16) (w : Word)
  /-- CHK_CLOSE (R392). -/
  | chkClose (r : Fin 19) (n : Fin 16)
  /-- CHK_SCAN (R394). -/
  | chkScan (r : Fin 19) (n : Fin 16)
  /-- CHK_SCAN_ABORT (R395). -/
  | chkScanAbort (r : Fin 19) (n : Fin 16)
  /-- CHK_SCAN_DRIP (R395). -/
  | chkScanDrip (ns : Nat)
  /-- CHK_FEED (R391). -/
  | chkFeed (r : Fin 19) (n : Fin 16) (v : Word)
  /-- CHK_RUN_WRITE (R391). -/
  | chkRunWrite (r : Fin 19) (n : Fin 16) (v : Word)
  /-- CHK_ALIVE_WRITE (R393). -/
  | chkAliveWrite (r : Fin 19) (n : Fin 16) (v : Word)
  /-- CENSUS_PASS (R402): whether the known-answer test of the check units passes. -/
  | censusPass (katOk : Bool) (ns : Nat)
  /-- CENSUS_DRIP (R402). -/
  | censusDrip (ns : Nat)
  /-- SENSOR_READBACK (R403): target k of channel p. -/
  | sensorReadback (p : Fin 24) (k : Fin 4) (ns : Nat)
  /-- DIGEST_PUBLISH (R408). -/
  | digestPublish (ns : Nat)
  /-- CEN_PUB_READ (R409). -/
  | cenPubRead (r : Fin 19)
  /-- BIST_LOGIC_MEMORY (R417). -/
  | bistLogicMemory (r : Fin 19) (d : Fin 152)
  /-- BIST_MEMORY_ONLY (R417). -/
  | bistMemoryOnly (r : Fin 19) (d : Fin 152)
  /-- BIST_FUSE_REPAIR (R420): whether VFUSE is present. -/
  | bistFuseRepair (r : Fin 19) (d : Fin 152) (vfuse : Bool)
  /-- BIST_DONE (R418). -/
  | bistDone (result : BistResult) (ns : Nat)
  /-- FI_ENABLE (R421). -/
  | fiEnable (r : Fin 19)
  /-- EVENT_OCCURRENCE (R432). -/
  | eventOccurrence (h : Happening) (ns : Nat)
  /-- EVENT_STATUS_CLEAR (R433): requester r writes v to EVT_STAT_w; the sources that occur in the same cycle. -/
  | eventStatusClear (r : Fin 19) (w : Fin 48) (v : Word) (now : List (Fin 1536))
  /-- EVENT_COUNTER_CLEAR_ALL (R434). -/
  | eventCounterClearAll (c : Clearing)
  /-- EVENT_COUNTER_CLEAR_ONE (R434): the counter of source n. -/
  | eventCounterClearOne (c : Clearing) (n : Fin 1536)
  /-- EVENT_ENABLE_WRITE (R435): requester r writes v to EVT_EN_w. -/
  | eventEnableWrite (r : Fin 19) (w : Fin 48) (v : Word)
  /-- EVENT_ROUTE_WRITE (R444): requester r writes v to EVT_n_ROUTE. -/
  | eventRouteWrite (r : Fin 19) (n : Fin 1536) (v : Word)
  /-- MSIX_MODERATION_EXPIRY (R438). -/
  | msixModerationExpiry (fn : Fin 16) (vec : Fin 2048) (ns : Nat)
  /-- MSIX_UNMASK (R437): function fn clears the mask of a vector in its table, or (none) its function mask. -/
  | msixUnmask (fn : Fin 16) (vec : Option (Fin 2048))
  /-- FAULT_MIN_WIDTH_EXPIRY (R439): pin FAULT_N[k]. -/
  | faultMinWidthExpiry (k : Fin 2) (ns : Nat)
  /-- GUARD_APPLY (R448). -/
  | guardApply (r : Fin 19)
  /-- GUARD_DISCARD (R448). -/
  | guardDiscard (r : Fin 19)
  /-- GUARD_TABLE_SWITCH (R448). -/
  | guardTableSwitch (ns : Nat)
  /-- CALENDAR_TICK (R453); the ageing readings of a calendar-set record. -/
  | calendarTick (ages : List (Fin 32 × Fin 65536)) (ns : Nat)
  /-- CALENDAR_SET (R455): requester r writes LIFE_CAL_SET as one 64-bit access. -/
  | calendarSet (r : Fin 19) (v : Word64)
  /-- TEMPERATURE_SAMPLE (R458): the sensors' readings in degrees Celsius. -/
  | temperatureSample (temps : List Int) (ns : Nat)
  /-- POWERED_MINUTE (R457). -/
  | poweredMinute (ns : Nat)
  /-- WARM_MINUTE (R457). -/
  | warmMinute
  /-- JOURNAL_PERIODIC (R462); the ageing readings of the record. -/
  | journalPeriodic (ages : List (Fin 32 × Fin 65536)) (ns : Nat)
  /-- JOURNAL_BOOT_RECORD (R462); the ageing readings of the record. -/
  | journalBootRecord (ages : List (Fin 32 × Fin 65536)) (ns : Nat)
  /-- JOURNAL_OP_DONE (R463): whether the flash reports a failure. -/
  | journalOpDone (failed : Bool) (ns : Nat)
  /-- REGISTER_WRITE (R471): requester r writes d; with a high half, an 8-byte access; `now` = the bits of the
  register whose condition occurs in the same cycle, where setting wins over a clear (R7). -/
  | registerWrite (r : Fin 19) (off : Fin 16777216) (d : WriteData) (now : Word64)
  /-- TIME_REFERENCE_LOST (R153). -/
  | timeReferenceLost (ns : Nat)
  /-- LINK_LOW_POWER_ENTRY (R309): 1 L0p, 2 L1, 3 L1.1, 4 L1.2, 5 L2, and 0 the return from L0p to L0; the width of L0p or of
  L0. -/
  | linkLowPowerEntry (state : Fin 6) (width : Fin 16) (ns : Nat)
  /-- CXL_SNOOP (R302): the address asked for. -/
  | cxlSnoop (addr : Word64) (ns : Nat)
  /-- IDE_KM_REQUEST (R301). -/
  | ideKmRequest (m : IdeMsg)
  /-- CAN_ERROR_PASSIVE (R386): the receive and transmit error counts. -/
  | canErrorPassive (c : Fin 4) (rec tec : Fin 256) (ns : Nat)
  /-- SPI_UNKNOWN_COMMAND (R373): a command code from 0x04 up. -/
  | spiUnknownCommand (cmd : Fin 256) (seq : Fin 256) (sdi : SdiEnd) (busy : Bool) (ns : Nat)
  /-- DEBUG_AUTHORISATION (R431): authorised or withdrawn. -/
  | debugAuthorisation (on : Bool) (ns : Nat)
  deriving DecidableEq, Repr

end Sys2Proof
end

