-- ==== Sys2Proof/Machine/Operands.lean ====
section
/-! DEFINITION. Machine/Operands.lean: bit fields, byte order, signed numbers, saturation, serial number comparison, and
the sparse tables and stores that State is made of. -/

namespace Sys2Proof.Machine

/-! ## Bits -/

/-- Bits hi:lo of a number. -/
def bits (w hi lo : Nat) : Nat := (w >>> lo) % 2 ^ (hi + 1 - lo)

/-- Bit b of a number. -/
def bit (w b : Nat) : Bool := (w >>> b) % 2 == 1

/-- A number with bits hi:lo replaced. -/
def putBits (w hi lo v : Nat) : Nat :=
  (w >>> (hi + 1)) <<< (hi + 1) + (v % 2 ^ (hi + 1 - lo)) <<< lo + w % 2 ^ lo

/-- 1 for true, 0 for false. -/
def b2n (b : Bool) : Nat := if b then 1 else 0

/-- How many bits of a field are there. -/
def fldMax (f : Fld) : Nat := 2 ^ (f.hi + 1 - f.lo) - 1

/-- A field of a register's word. -/
def fldGet (f : Fld) (w : Word) : Nat := bits w.toNat f.hi f.lo

/-- A register's word with one field replaced. -/
def fldPut (f : Fld) (v : Nat) (w : Word) : Word := BitVec.ofNat 32 (putBits w.toNat f.hi f.lo v)

/-- The positions of the 1 bits of an n-bit number, lowest first. -/
def onesOf (n w : Nat) : List Nat := (List.range n).filter (fun b => bit w b)

/-- How many of the low n bits are 1. -/
def popCount (n w : Nat) : Nat := (onesOf n w).length

/-- The lowest position of a 1 bit below n. -/
def lowestOne (n w : Nat) : Option Nat := (List.range n).find? (fun b => bit w b)

/-- Bit mask of a list of positions. -/
def maskOf (l : List Nat) : Nat := l.foldl (fun m b => m ||| (1 <<< b)) 0

/-! ## Signed numbers and saturation -/

/-- The signed number that n bits spell. -/
def sgn (n w : Nat) : Int :=
  let v := w % 2 ^ n
  if v < 2 ^ (n - 1) then (v : Int) else (v : Int) - (2 ^ n : Nat)

/-- The n bits that spell a signed number, wrapping. -/
def unsgn (n : Nat) (i : Int) : Nat := (i % ((2 ^ n : Nat) : Int)).toNat

/-- The smaller of a sum and a ceiling. -/
def satAdd (ceil a b : Nat) : Nat := Nat.min ceil (a + b)

/-- A signed number held between two bounds. -/
def clampI (lo hi x : Int) : Int := if x < lo then lo else if hi < x then hi else x

/-- A natural number held between two bounds. -/
def clampN (lo hi x : Nat) : Nat := Nat.max lo (Nat.min hi x)

/-- Round half away from zero after dividing by 2^n: floor((x + 2^(n-1)) / 2^n). -/
def rshRound (x n : Nat) : Nat := if n == 0 then x else (x + 2 ^ (n - 1)) / 2 ^ n

/-- `a - b` modulo 2^32. -/
def sub32 (a b : Nat) : Nat := (a + 2 ^ 32 - b % 2 ^ 32) % 2 ^ 32

/-- Add modulo 2^32. -/
def add32 (a b : Nat) : Nat := (a + b) % 2 ^ 32

/-- Frame number a lies at or after b in the wrapping order of 32-bit numbers. -/
def serGE (a b : Nat) : Bool := Nat.blt (sub32 a b) (2 ^ 31)

/-! ## Bytes -/

/-- n bytes of a number, lowest byte first. -/
def leBytes : Nat → Nat → List Nat
  | 0, _ => []
  | n + 1, v => (v % 256) :: leBytes n (v / 256)

/-- The number that bytes spell, lowest byte first. -/
def leVal : List Nat → Nat
  | [] => 0
  | b :: bs => b % 256 + 256 * leVal bs

/-- n bytes of a number, highest byte first. -/
def beBytes (n v : Nat) : List Nat := (leBytes n v).reverse

/-- The number that bytes spell, highest byte first. -/
def beVal (bs : List Nat) : Nat := bs.foldl (fun a b => a * 256 + b % 256) 0

/-- The 32-bit words of a byte list, little-endian. -/
def wordsOf : List Nat → List Nat
  | a :: b :: c :: d :: rest => leVal [a, b, c, d] :: wordsOf rest
  | [] => []
  | rest => [leVal rest]

/-- The bytes of a list of 32-bit words, little-endian. -/
def bytesOfWords (ws : List Nat) : List Nat := ws.flatMap (leBytes 4)

/-- Bytes [o, o+n) of a list. -/
def slice (l : List Nat) (o n : Nat) : List Nat := (l.drop o).take n

/-- The little-endian number at a byte offset of a list. -/
def leAt (l : List Nat) (o n : Nat) : Nat := leVal (slice l o n)

/-- Pad a list with 0 to a length. -/
def padTo (n : Nat) (l : List Nat) : List Nat := l ++ List.replicate (n - l.length) 0

/-! ## Sparse tables: lists of (key, value) sorted by key -/

/-- The entry of a key, or a default. -/
def tget {α : Type} (t : Tbl α) (k : Nat) (d : α) : α :=
  match t with
  | [] => d
  | (k', v) :: rest => if k' == k then v else tget rest k d

/-- The entry of a key, if any. -/
def tget? {α : Type} (t : Tbl α) (k : Nat) : Option α :=
  match t with
  | [] => none
  | (k', v) :: rest => if k' == k then some v else tget? rest k

/-- Whether a key has an entry. -/
def thas {α : Type} (t : Tbl α) (k : Nat) : Bool := (tget? t k).isSome

/-- Set the entry of a key, keeping the table sorted. -/
def tset {α : Type} (t : Tbl α) (k : Nat) (v : α) : Tbl α :=
  match t with
  | [] => [(k, v)]
  | (k', v') :: rest =>
    if Nat.blt k k' then (k, v) :: (k', v') :: rest
    else if k' == k then (k, v) :: rest
    else (k', v') :: tset rest k v

/-- Remove the entry of a key. -/
def tdel {α : Type} (t : Tbl α) (k : Nat) : Tbl α := t.filter (fun e => !(e.1 == k))

/-- Change the entry of a key, starting from a default. -/
def tmod {α : Type} (t : Tbl α) (k : Nat) (d : α) (f : α → α) : Tbl α := tset t k (f (tget t k d))

/-- A list without the repeats of its elements. -/
def noRepeats (l : List Nat) : List Nat := l.foldl (fun a x => if a.contains x then a else a ++ [x]) []

/-- The keys of a table. -/
def tkeys {α : Type} (t : Tbl α) : List Nat := t.map (fun e => e.1)

/-! ## Sparse stores in canonical form: keys strictly rising, no entry equal to the default -/

/-- Read a cell: the default where nothing is listed. -/
def cellGet {n : Nat} (d : BitVec n) (m : List (Nat × BitVec n)) (a : Nat) : BitVec n :=
  match m with
  | [] => d
  | (k, v) :: rest => if k == a then v else cellGet d rest a

/-- List a cell at its place, or replace its value. -/
def cellIns {n : Nat} (m : List (Nat × BitVec n)) (a : Nat) (v : BitVec n) : List (Nat × BitVec n) :=
  match m with
  | [] => [(a, v)]
  | (k, w) :: rest =>
    if Nat.blt a k then (a, v) :: (k, w) :: rest
    else if k == a then (a, v) :: rest
    else (k, w) :: cellIns rest a v

/-- Write a cell; writing the default removes the entry. -/
def cellPut {n : Nat} (d : BitVec n) (m : List (Nat × BitVec n)) (a : Nat) (v : BitVec n) : List (Nat × BitVec n) :=
  if v == d then m.filter (fun e => !(e.1 == a)) else cellIns m a v

/-- The canonical form of a store whose unlisted cells read d, with every key above a bound. -/
def cellsFrom {n : Nat} (d : BitVec n) (lo : Option Nat) (m : List (Nat × BitVec n)) : Bool :=
  match m with
  | [] => true
  | (k, v) :: rest =>
    (match lo with
     | none => true
     | some l => Nat.blt l k) && !(v == d) && cellsFrom d (some k) rest

/-- The canonical form of a store whose unlisted cells read d. -/
def cellsWf {n : Nat} (d : BitVec n) (m : List (Nat × BitVec n)) : Bool := cellsFrom d none m

/-- Replace the element at a position. -/
def setAt {α : Type} (l : List α) (i : Nat) (v : α) : List α := l.set i v

/-- The element at a position, or a default. -/
def nth {α : Type} (l : List α) (i : Nat) (d : α) : α := (l[i]?).getD d

/-- The sum of a list. -/
def sumL (l : List Nat) : Nat := l.foldl (fun a b => a + b) 0

/-- The maximum of a list, 0 for the empty one. -/
def maxL (l : List Nat) : Nat := l.foldl Nat.max 0

/-- The least element of a list under a key, the earliest among equals. -/
def leastBy {α : Type} (key : α → Nat) : List α → Option α
  | [] => none
  | x :: xs =>
    match leastBy key xs with
    | none => some x
    | some y => if Nat.ble (key x) (key y) then some x else some y

/-- Insert into a list kept in rising order of a key, after its equals. -/
def insBy {α : Type} (key : α → Nat) (x : α) : List α → List α
  | [] => [x]
  | y :: ys => if Nat.blt (key x) (key y) then x :: y :: ys else y :: insBy key x ys

/-- Sort by a key, keeping the order of equals. -/
def sortBy {α : Type} (key : α → Nat) (l : List α) : List α := l.foldl (fun acc x => insBy key x acc) []

/-- Apply a state change for each element in order. -/
def forEach {α σ : Type} (l : List α) (f : α → σ → σ) (s : σ) : σ := l.foldl (fun s x => f x s) s

/-- Greatest r with r*r at most n, by bits from the top. -/
def isqrtGo (n : Nat) : Nat → Nat → Nat
  | 0, r => r
  | b + 1, r =>
    let c := r + 2 ^ b
    if Nat.ble (c * c) n then isqrtGo n b c else isqrtGo n b r

/-- Integer square root of a number below 2^128. -/
def isqrt (n : Nat) : Nat := isqrtGo n 64 0

end Sys2Proof.Machine
end

