-- ==== Sys2Proof/Machine/Crypto.lean ====
section
/-! DEFINITION. Machine/Crypto.lean: the check codes and the cryptographic functions that the spec names by their
standards: CRC codes (R326, R391), SHA-384 (FIPS 180-4), ECDSA over P-384 (FIPS 186-4), AES-256 in GCM (FIPS 197,
SP 800-38D). -/

namespace Sys2Proof.Machine

/-! ## CRC codes -/

/-- Reverse the low n bits of a number. -/
def revBits : Nat → Nat → Nat
  | 0, _ => 0
  | n + 1, v => (v % 2) * 2 ^ n + revBits n (v / 2)

/-- Shift one bit out of a CRC register of n bits, highest first. -/
def crcShift (n poly : Nat) : Nat → Nat → Nat
  | 0, c => c
  | k + 1, c =>
    let c2 := (2 * c) % 2 ^ n
    crcShift n poly k (if bit c (n - 1) then c2 ^^^ poly else c2)

/-- Feed bytes into a CRC register of n bits, highest bit first, each byte reversed first where `refl` says so. -/
def crcFeed (n poly : Nat) (refl : Bool) (bs : List Nat) (c : Nat) : Nat :=
  bs.foldl (fun c b => crcShift n poly 8 (c ^^^ ((if refl then revBits 8 (b % 256) else b % 256) <<< (n - 8)))) c

/-- CRC-8 SAE J1850: polynomial 0x1D, initial value and final inversion 0xFF. -/
def crc8j (bs : List Nat) : Nat := crcFeed 8 0x1D false bs 0xFF ^^^ 0xFF

/-- CRC-32C (Castagnoli), reflected, from a running value in its final form (R326). -/
def crc32cFrom (run : Nat) (bs : List Nat) : Nat :=
  revBits 32 (crcFeed 32 0x1EDC6F41 true bs (revBits 32 (run ^^^ 0xFFFFFFFF))) ^^^ 0xFFFFFFFF

/-- CRC-32C of a byte list. -/
def crc32c (bs : List Nat) : Nat := crc32cFrom 0 bs

/-- The CRC-16 of a CSI-2 payload: polynomial 0x1021, reflected, initial value 0xFFFF (R333; as MIPI CSI-2 has it: PRESUMED,
log 170). -/
def csiCrc (bs : List Nat) : Nat := revBits 16 (crcFeed 16 0x1021 true bs 0xFFFF)

/-! ## SHA-384 -/

/-- Greatest r below 2^b with r^3 at most n. -/
def icbrtGo (n : Nat) : Nat → Nat → Nat
  | 0, r => r
  | b + 1, r =>
    let c := r + 2 ^ b
    if Nat.ble (c * c * c) n then icbrtGo n b c else icbrtGo n b r

/-- The first 80 primes. -/
def primes80 : List Nat :=
  [2, 3, 5, 7, 11, 13, 17, 19, 23, 29, 31, 37, 41, 43, 47, 53, 59, 61, 67, 71] ++
  [73, 79, 83, 89, 97, 101, 103, 107, 109, 113, 127, 131, 137, 139, 149, 151, 157, 163, 167, 173] ++
  [179, 181, 191, 193, 197, 199, 211, 223, 227, 229, 233, 239, 241, 251, 257, 263, 269, 271, 277, 281] ++
  [283, 293, 307, 311, 313, 317, 331, 337, 347, 349, 353, 359, 367, 373, 379, 383, 389, 397, 401, 409]

/-- SHA-512 round constants: the first 64 bits of the fractional parts of the primes' cube roots. -/
def shaK : List Nat := primes80.map (fun p => icbrtGo (p * 2 ^ 192) 70 0 % 2 ^ 64)

/-- SHA-384 initial value: the first 64 bits of the fractional parts of the square roots of the 9th to 16th primes. -/
def shaInit : List Nat := ((primes80.drop 8).take 8).map (fun p => isqrtGo (p * 2 ^ 128) 70 0 % 2 ^ 64)

/-- Rotate a 64-bit number right. -/
def rotr64 (x n : Nat) : Nat := (x >>> n) ||| ((x <<< (64 - n)) % 2 ^ 64)

/-- Sum modulo 2^64. -/
def add64 (l : List Nat) : Nat := sumL l % 2 ^ 64

/-- Extend a message schedule to 80 words, given newest first. -/
def shaSched : Nat → List Nat → List Nat
  | 0, w => w
  | n + 1, w =>
    let w2 := nth w 1 0
    let w7 := nth w 6 0
    let w15 := nth w 14 0
    let w16 := nth w 15 0
    let s0 := rotr64 w15 1 ^^^ rotr64 w15 8 ^^^ (w15 >>> 7)
    let s1 := rotr64 w2 19 ^^^ rotr64 w2 61 ^^^ (w2 >>> 6)
    shaSched n (add64 [w16, s0, w7, s1] :: w)

/-- One SHA-512 round on the eight working variables. -/
def shaRound (v : List Nat) (kw : Nat × Nat) : List Nat :=
  match v with
  | [a, b, c, d, e, f, g, h] =>
    let s1 := rotr64 e 14 ^^^ rotr64 e 18 ^^^ rotr64 e 41
    let ch := (e &&& f) ^^^ ((e ^^^ 0xFFFFFFFFFFFFFFFF) &&& g)
    let t1 := add64 [h, s1, ch, kw.1, kw.2]
    let s0 := rotr64 a 28 ^^^ rotr64 a 34 ^^^ rotr64 a 39
    let mj := (a &&& b) ^^^ (a &&& c) ^^^ (b &&& c)
    [add64 [t1, s0, mj], a, b, c, add64 [d, t1], e, f, g]
  | _ => v

/-- Compress one block of 128 bytes. -/
def shaBlock (h : List Nat) (blk : List Nat) : List Nat :=
  let w := (List.range 16).map (fun i => beVal (slice blk (8 * i) 8))
  let ws := (shaSched 64 w.reverse).reverse
  List.zipWith (fun a b => add64 [a, b]) h ((List.zip shaK ws).foldl shaRound h)

/-- Compress n blocks. -/
def shaBlocks : Nat → List Nat → List Nat → List Nat
  | 0, h, _ => h
  | n + 1, h, m => shaBlocks n (shaBlock h (m.take 128)) (m.drop 128)

/-- SHA-384 of a byte string: 48 bytes. -/
def sha384 (m : List Nat) : List Nat :=
  let n := m.length
  let z := (239 - n % 128) % 128
  let p := m ++ [128] ++ List.replicate z 0 ++ beBytes 16 (8 * n)
  ((shaBlocks (p.length / 128) shaInit p).flatMap (beBytes 8)).take 48

/-! ## ECDSA over P-384 -/

/-- The field prime of P-384. -/
def p384 : Nat := 2 ^ 384 - 2 ^ 128 - 2 ^ 96 + 2 ^ 32 - 1

/-- The curve coefficient b. -/
def p384b : Nat := 0xB3312FA7E23EE7E4988E056BE3F82D19181D9C6EFE8141120314088F5013875AC656398D8A2ED19D2A85C8EDD3EC2AEF

/-- The group order. -/
def p384n : Nat := 0xFFFFFFFFFFFFFFFFFFFFFFFFFFFFFFFFFFFFFFFFFFFFFFFFC7634D81F4372DDF581A0DB248B0A77AECEC196ACCC52973

/-- The base point. -/
def p384g : Nat × Nat :=
  (0xAA87CA22BE8B05378EB1C71EF320AD746E1D3B628BA79B9859F741E082542A385502F25DBF55296C3A545E3872760AB7,
   0x3617DE4A96262C6F5D9E98BF9292DC29F8F41DBD289A147CE9DA3113B5F0B8C00A60B1CE1D7E819D7A431D7C90EA0E5F)

/-- x^e modulo m, over the low b bits of e from the top. -/
def powModGo (m x e : Nat) : Nat → Nat → Nat
  | 0, acc => acc
  | b + 1, acc =>
    let sq := acc * acc % m
    powModGo m x e b (if bit e b then sq * x % m else sq)

/-- Inverse modulo a prime of 384 bits. -/
def invMod (m x : Nat) : Nat := powModGo m (x % m) (m - 2) 384 1

/-- Add two points of P-384; none is the point at infinity. -/
def ecAdd (a b : Option (Nat × Nat)) : Option (Nat × Nat) :=
  match a, b with
  | none, q => q
  | q, none => q
  | some (x1, y1), some (x2, y2) =>
    let p := p384
    if x1 == x2 && (y1 + y2) % p == 0 then none
    else
      let l := if x1 == x2 then (3 * x1 * x1 + (p - 3)) % p * invMod p (2 * y1) % p
               else (y2 + p - y1) % p * invMod p ((x2 + p - x1) % p) % p
      let x3 := (l * l + 2 * p - x1 - x2) % p
      some (x3, (l * ((x1 + p - x3) % p) + p - y1) % p)

/-- k times a point, over the low b bits of k from the top. -/
def ecMulGo (k : Nat) (q : Option (Nat × Nat)) : Nat → Option (Nat × Nat) → Option (Nat × Nat)
  | 0, acc => acc
  | b + 1, acc =>
    let d := ecAdd acc acc
    ecMulGo k q b (if bit k b then ecAdd d q else d)

/-- k times a point. -/
def ecMul (k : Nat) (q : Nat × Nat) : Option (Nat × Nat) := ecMulGo k (some q) 384 none

/-- Whether a point lies on the curve. -/
def ecOn (q : Nat × Nat) : Bool :=
  Nat.blt q.1 p384 && Nat.blt q.2 p384 &&
    q.2 * q.2 % p384 == (q.1 * q.1 * q.1 + (p384 - 3) * q.1 + p384b) % p384

/-- ECDSA verification of a 48-byte digest: signature r (48 bytes) then s (48 bytes) (R79). -/
def ecdsaVerify (key : Nat × Nat) (digest sig : List Nat) : Bool :=
  let r := beVal (sig.take 48)
  let t := beVal (slice sig 48 48)
  if r == 0 || t == 0 || Nat.ble p384n r || Nat.ble p384n t || !(ecOn key) then false
  else
    let w := invMod p384n t
    let u1 := beVal digest * w % p384n
    let u2 := r * w % p384n
    match ecAdd (ecMul u1 p384g) (ecMul u2 key) with
    | none => false
    | some q => q.1 % p384n == r

/-! ## AES-256 in GCM -/

/-- Multiply by x in GF(2^8) of AES. -/
def xtime (b : Nat) : Nat := if Nat.ble 128 b then (2 * b) % 256 ^^^ 0x1B else 2 * b

/-- Multiply in GF(2^8) of AES, over the low n bits of the second factor. -/
def gmul : Nat → Nat → Nat → Nat
  | 0, _, _ => 0
  | n + 1, a, b => (if b % 2 == 1 then a else 0) ^^^ gmul n (xtime a) (b / 2)

/-- x^254 in GF(2^8): the inverse, 0 for 0. -/
def ginv (a : Nat) : Nat := (List.range 253).foldl (fun acc _ => gmul 8 acc a) a

/-- Rotate a byte left. -/
def rotl8 (b n : Nat) : Nat := ((b <<< n) ||| (b >>> (8 - n))) % 256

/-- The AES S-box. -/
def aesSub (b : Nat) : Nat :=
  let i := ginv (b % 256)
  i ^^^ rotl8 i 1 ^^^ rotl8 i 2 ^^^ rotl8 i 3 ^^^ rotl8 i 4 ^^^ 0x63

/-- Exclusive or of two byte lists. -/
def xorBytes (a b : List Nat) : List Nat := List.zipWith (fun x y => x ^^^ y) a b

/-- Key schedule of AES-256: extend the words (newest first) by n words, counting from word i. -/
def aesExpand : Nat → Nat → Nat → List (List Nat) → List (List Nat)
  | 0, _, _, w => w
  | n + 1, i, rcon, w =>
    let t := nth w 0 []
    let back := nth w 7 []
    let t1 :=
      if i % 8 == 0 then xorBytes ((t.drop 1 ++ t.take 1).map aesSub) [rcon, 0, 0, 0]
      else if i % 8 == 4 then t.map aesSub else t
    aesExpand n (i + 1) (if i % 8 == 0 then xtime rcon else rcon) (xorBytes back t1 :: w)

/-- The 15 round keys of AES-256, 16 bytes each. -/
def aesKeys (key : List Nat) : List (List Nat) :=
  let w0 := (List.range 8).map (fun i => slice key (4 * i) 4)
  let ws := (aesExpand 52 8 1 w0.reverse).reverse
  (List.range 15).map (fun r => (slice ws.flatten (16 * r) 16))

/-- ShiftRows on a block in column order. -/
def aesShift (b : List Nat) : List Nat :=
  (List.range 16).map (fun i => nth b ((i + 4 * (i % 4)) % 16) 0)

/-- MixColumns. -/
def aesMix (b : List Nat) : List Nat :=
  (List.range 16).map (fun i =>
    let c := i / 4 * 4
    let g := fun k => nth b (c + (i + k) % 4) 0
    gmul 8 (g 0) 2 ^^^ gmul 8 (g 1) 3 ^^^ g 2 ^^^ g 3)

/-- Encrypt one block under the round keys. -/
def aesBlock (ks : List (List Nat)) (b : List Nat) : List Nat :=
  let b0 := xorBytes b (nth ks 0 [])
  let b13 := (List.range 13).foldl (fun b r => xorBytes (aesMix (aesShift (b.map aesSub))) (nth ks (r + 1) [])) b0
  xorBytes (aesShift (b13.map aesSub)) (nth ks 14 [])

/-- Multiply in GF(2^128) of GCM: bit 0 of a block is the highest bit of its first byte. -/
def ghashMulGo (x : Nat) : Nat → Nat → Nat → Nat
  | 0, z, _ => z
  | n + 1, z, v =>
    let z' := if bit x n then z ^^^ v else z
    ghashMulGo x n z' (if v % 2 == 1 then (v / 2) ^^^ (0xE1 * 2 ^ 120) else v / 2)

/-- Feed n blocks of 16 bytes into GHASH. -/
def ghash (h : Nat) : Nat → List Nat → Nat → Nat
  | 0, _, y => y
  | n + 1, bs, y => ghash h n (bs.drop 16) (ghashMulGo (y ^^^ beVal (padTo 16 (bs.take 16))) 128 0 h)

/-- Pad a byte list with zeros to whole blocks of 16. -/
def pad16 (bs : List Nat) : List Nat := bs ++ List.replicate ((16 - bs.length % 16) % 16) 0

/-- The GCM counter-mode stream over n blocks, from counter c. -/
def gctr (ks : List (List Nat)) (iv : List Nat) : Nat → Nat → List Nat → List Nat
  | 0, _, _ => []
  | n + 1, c, bs => xorBytes (bs.take 16) (aesBlock ks (iv ++ beBytes 4 c)) ++ gctr ks iv n (c + 1) (bs.drop 16)

/-- AES-256-GCM decryption with a 96-bit IV: the plaintext and whether the tag is right (R80). -/
def gcmOpen (key iv aad ct tag : List Nat) : List Nat × Bool :=
  let ks := aesKeys key
  let h := beVal (aesBlock ks (List.replicate 16 0))
  let dat := pad16 aad ++ pad16 ct ++ beBytes 8 (8 * aad.length) ++ beBytes 8 (8 * ct.length)
  let y := ghash h (dat.length / 16) dat 0
  let t := xorBytes (beBytes 16 y) (aesBlock ks (iv ++ beBytes 4 1))
  (gctr ks iv ((ct.length + 15) / 16) 2 ct, t == tag)

end Sys2Proof.Machine
end

