-- ==== Sys2Proof/Config.lean ====
section
/-! DEFINITION. Config.lean: the values that the spec leaves open and a step meets: opaque functions that no proof can
look into, applied to a counter of State or to the operands. -/

namespace Sys2Proof

/-- The frequency correction in ppb that the slew of vehicle time chooses after an offset in ns (R153). -/
opaque Config.slew : Int → Nat → Int

/-- The contents a flash byte has after an operation on its page or sector was cut short or failed (R30, R98, R463). -/
opaque Config.norByte : Nat → Nat → BitVec 8

/-- The ECDSA public keys fused into the part, x and y of key 0 to 3 (R80). -/
opaque Config.otpKey : Nat → Nat × Nat

/-- The AES-256 image key fused into the part, byte by byte (R80). -/
opaque Config.otpAes : Nat → BitVec 8

/-- The byte layout of the placement result record, which the spec does not give (R178). -/
opaque Config.recordBytes : List Nat → List Nat

/-- The error-correcting code of a CSI-2 packet header of a virtual channel, a data type and a word count: MIPI's code, which the
spec names and does not give (R333). -/
opaque Config.csiEcc : Nat → Nat → Nat → Nat

/-- A signature that Falith's device key makes over a byte string (R412, R413). -/
opaque Config.sign : List Nat → Nat → List Nat

/-- Bytes of an SPDM response that the standard leaves to the device: nonces, key shares, certificate chain (R412). -/
opaque Config.spdmBytes : Nat → Nat → List Nat

/-- What a palette word of a line store, a history, a statistics block or a buffer holds: the spec gives no layout of
them (R274, R305). -/
opaque Config.palWord : Nat → Nat → BitVec 32

/-- A result that the spec does not state for the operands met, by draw and place: a law's division by zero, a value out of
its format (R262, R265, R261). -/
opaque Config.openVal : Nat → Nat → Nat

end Sys2Proof
end

