-- ==== Sys2Proof/Machine/Out.lean ====
section
/-! DEFINITION. Machine/Out.lean: what Falith sends out: messages on its links and buses, levels on its pins, answers to
reads. State keeps them in a list, newest first; the list is the model's own record and no command reads it. -/

namespace Sys2Proof.Machine

/-- The output pins whose levels commands change (R20). -/
inductive OutPin where
  | faultN (k : Nat)
  | intN (k : Nat)
  | fc (k : Nat)
  | fso (n : Nat)
  | gpio (n : Nat)
  | canTxd (n : Nat)
  | clkreqN
  | xspiRstN
  deriving DecidableEq, Repr

/-- The DMTF type of a measurement block (R413). -/
inductive MeasType where
  | rom | firmwareConfig | hardwareConfig
  deriving DecidableEq, Repr

/-- What the DOE mailbox of the physical function answers (R301, R412, R413): the SPDM responses with what they carry, and
those of IDE_KM. The bytes of these messages are the standards', not the spec's. -/
inductive DoeAns where
  /-- the SPDM versions supported, major × 16 + minor -/
  | version (v : List Nat)
  /-- certificates, challenge, signed measurements, key exchange, encryption, heartbeat and key update are supported -/
  | capabilities
  /-- the algorithms selected: bit 0 ECDSA P-384, 1 SHA-384, 2 ECDHE secp384r1, 3 AES-256-GCM -/
  | algorithms (sel : Nat)
  /-- SHA-384 of the certificate chain in slot 0 -/
  | digests (slot0 : List Nat)
  /-- a portion of the slot 0 chain and how many bytes follow it -/
  | certificate (part : List Nat) (left : Nat)
  | challengeAuth (chain : List Nat) (sig : List Nat)
  /-- how many measurement blocks there are -/
  | blockCount (n : Nat)
  /-- measurement blocks (index, type, value), with a signature where the request asks for one -/
  | measurements (blocks : List (Nat × MeasType × List Nat)) (sig : Option (List Nat))
  | keyExchange (session : Nat) (sig : List Nat)
  | finish
  | endSession
  | heartbeat
  | keyUpdate
  /-- answers of IDE_KM: to a query (the stream is secure), and acknowledgements -/
  | ideQuery (secure : Bool)
  | ideProg
  | ideGo
  | ideStop
  /-- the request is refused -/
  | error
  deriving DecidableEq, Repr

/-- How a CSI-2 transmit port sends a packet: scrambled, with a continuous D-PHY clock, the header's error-correcting code, the
payload's CRC-16 of a long packet (R333). -/
structure CsoHow where
  scr : Bool
  clk : Bool
  ecc : Nat
  crc : Option Nat
  deriving DecidableEq, Repr

/-- One thing that leaves Falith. -/
inductive Out where
  /-- level of a pin: true = high -/
  | pin (p : OutPin) (high : Bool)
  /-- an open-drain pin: true = driven low, false = released -/
  | pull (p : OutPin) (low : Bool)
  /-- the answer of a register read by requester r: offset, value -/
  | read (r off : Nat) (v : Nat)
  /-- the answer of a palette-view read by requester r: offset, bytes (R305) -/
  | palRead (r off : Nat) (bytes : List Nat)
  /-- a read that is answered with all ones or Completer Abort (R303, R304) -/
  | abort (r off : Nat)
  /-- an MSI-X message: function, address, data (R435) -/
  | msix (fn addr data : Nat)
  /-- a posted host write on PCIe or CXL.io: function, address, relaxed ordering, bytes; one longer than Max Payload Size stands
  for its packets in ascending order (R9, R302, R320) -/
  | hostWrite (fn addr : Nat) (ro : Bool) (bytes : List Nat)
  /-- a posted host write with its poisoned bit set (R352) -/
  | hostPoison (fn addr : Nat) (ro : Bool) (bytes : List Nat)
  /-- a host read: function, address, length, and whether it travels as RdCurr of CXL.cache (R302, R315, R321, R343) -/
  | hostRead (fn addr len : Nat) (rdCurr : Bool)
  /-- a configuration request completed with Request Retry Status (R71) -/
  | retryStatus (fn : Nat)
  /-- PCIe link training starts: rate code, width code, SRIS (R71, R72) -/
  | train (rate width : Nat) (sris : Bool)
  /-- the host link leaves a low-power state -/
  | linkExit
  /-- an answer to a CXL snoop: invalid (R302) -/
  | snoopInvalid (addr : Nat)
  /-- an ATS invalidation completion (R301) -/
  | atsDone (fn : Nat)
  /-- an answer of the DOE mailbox (R301, R412) -/
  | doe (a : DoeAns)
  /-- PMBus VOUT_COMMAND code, then STATUS_WORD read (R63) -/
  | pmbus (code : Nat)
  /-- a STATUS_WORD read on an alert (R62) -/
  | pmbusStatus
  /-- a control-channel transfer launched: channel, target address, read, register address bytes as sent, data bytes as sent,
  bytes to read (R87) -/
  | sensor (ch addr : Nat) (rd : Bool) (reg bytes : List Nat) (n : Nat)
  /-- a bus clear of a channel, with the HDR exit pattern first on an I3C bus (R138) -/
  | busClear (ch : Nat) (hdrExit : Bool)
  /-- a bus clear on a glue bus (R30, R372) -/
  | glueClear (n : Nat)
  /-- an I3C common command on a channel: its code, and for a direct one the target's static address and the dynamic address
  given to it (R136) -/
  | ccc (ch code : Nat) (tgt : Option (Nat × Nat))
  /-- a tunnelled GPIO line: port, line, level (R86, R156) -/
  | tunnel (p line : Nat) (level : Bool)
  /-- a CAN frame: bus, kind (0 classical, 1 FD, 2 XL), identifier, extended, data (R368) -/
  | can (bus kind ident : Nat) (ext : Bool) (bytes : List Nat)
  /-- an answer frame of the SPI target (R373) -/
  | spi (bytes : List Nat)
  /-- bytes of the I2C target, or its refusal of a message (R376) -/
  | i2ct (bytes : List Nat)
  | i2ctNack
  /-- a glue-master transfer: bus, address, read, two-byte register address, register, bytes (R372) -/
  | glue (n addr : Nat) (rd wide : Bool) (reg : Nat) (bytes : List Nat)
  /-- an Erkuhar frame as it is sent: header, payload, CRC (R379) -/
  | erk (frame : List Nat)
  /-- a retrain of the Erkuhar link begins -/
  | erkTrain
  /-- a CSI-2 transmit packet: port, virtual channel, data type, word count field or payload, bits of the whole packet that
  an injector flipped, and how it is sent (R333, R423) -/
  | cso (n vc dt : Nat) (bytes : List Nat) (flips : List Nat) (how : CsoHow)
  /-- a PTM request to the host, and the answer to the Ethernet peer's peer-delay request (R152) -/
  | ptmRequest
  | peerResponse
  | peerRequest
  /-- an Ethernet management read (R152) -/
  | mdio
  /-- TDO debug output becomes available or not (R431) -/
  | debug (on : Bool)
  deriving DecidableEq, Repr

end Sys2Proof.Machine
end

