-- ==== Sys2Proof/Machine/Parts.lean ====
section
/-! DEFINITION. Machine/Parts.lean: the parts of State that the control island, the warmer, the flash, the clocks, the
sensor channels, the time base, the ports and the placement engine hold beside their registers. -/

namespace Sys2Proof.Machine

/-- Device state: the states of R37 with Reset and Boot apart, a failed Boot (R90), and the two transitions that
PM_STATE shows (R66). -/
inductive Phase where
  | off | warm | reset | boot | failed | active | entering | standby | waking
  deriving DecidableEq, Repr

/-- Supplies, straps, reset pins and the fault latch (R17, R19, R22, R31, R38). -/
structure Power where
  /-- VDD_CORE within its operating range -/
  core : Bool
  /-- the other main supplies that are outside their range -/
  out : List Rail
  /-- those of them that are absent -/
  absent : List Rail
  /-- WARM_SRC selects the internal regulator on VDDIO_33 (R17, R34) -/
  internal : Bool
  /-- PORST_N low -/
  porst : Bool
  /-- SUPW_N low -/
  supw : Bool
  /-- VFUSE present -/
  vfuse : Bool
  /-- PERST_N low -/
  perst : Bool
  /-- STRAP_CLK as sampled -/
  strapClk : Nat
  /-- STRAP_XSPI as sampled -/
  strapXspi : Nat
  /-- the FAULT_N latch of R22 -/
  latch : Bool
  /-- slots that this Boot cannot read, as a mask (R77, R88) -/
  unread : Nat
  deriving DecidableEq, Repr

/-- One open-drain pin with a minimum assertion time (R295, R439): driven low, and its minimum width still running. -/
structure PinHold where
  low  : Bool
  hold : Bool
  deriving DecidableEq, Repr

/-- OTP contents: ROM version, device number, public keys (x, y) and revocation, image key, rollback floor, laboratory
and repair fuses (R80, R93, R420, R473). -/
structure Otp where
  rom     : Nat
  uid     : Nat
  keys    : List (Nat × Nat)
  revoked : Nat
  aesKey  : List Nat
  floor   : Nat
  repairs : List Nat
  deriving DecidableEq, Repr

/-- What a journal operation does (R462, R463). -/
inductive JKind where
  | record (kind : Nat)
  | erase (sector : Nat)
  deriving DecidableEq, Repr

/-- The warmer domain: calendar, oscillators, reset causes, folded life counters and journal position (R453 to R467). -/
structure Warm where
  cal      : Nat
  calValid : Bool
  /-- a LIFE_CAL_SET value waiting for the next tick (R455) -/
  calSet   : Option Nat
  onRc     : Bool
  xtalOk   : Bool
  /-- trim of the RC oscillator in ppm of the crystal (R454) -/
  trim     : Int
  causes   : Nat
  core     : List Nat
  items    : Tbl Nat
  /-- sequence number of the last record written -/
  seq      : Nat
  /-- sequence number that the next record takes -/
  nextSeq  : Nat
  failures : Nat
  supwLate : Nat
  bad      : Nat
  /-- power was lost since the last Boot (R464) -/
  lost     : Bool
  /-- supply-warning records that did not reach the flash in time since the last Boot (R465) -/
  late     : Nat
  /-- calendar count at the last supply-warning record (R465) -/
  supwCal  : Option Nat
  /-- journal records that a reset, or a time without the flash, has kept from it: the next Boot writes them (R37, R455) -/
  owed     : List JKind
  deriving DecidableEq, Repr

/-- One flash operation: a journal write or erase, or a command of BOOT_NOR_CTRL (R98). -/
structure JOp where
  kind  : JKind
  addr  : Nat
  data  : List Nat
  /-- already failed once (R463) -/
  again : Bool
  deriving DecidableEq, Repr

/-- The control island's life accounting: counts not folded into the warmer yet, journal operations due and in flight,
the highest temperature of the running minute (R457, R458, R462). -/
structure Life where
  core     : List Nat
  items    : Tbl Nat
  due      : List JKind
  op       : Option JOp
  /-- an erase that a supply-warning record has suspended (R465) -/
  parked   : Option JOp
  /-- the flash can suspend an erase, as its SFDP table states (R465) -/
  suspend  : Bool
  maxTemp  : Option Int
  /-- highest AVS code confirmed since the last fold, and the one confirmed last (item 228) -/
  maxCode  : Nat
  lastCode : Option Nat
  /-- local time of the last supply-warning record (R465) -/
  supwAt   : Option Nat
  deriving DecidableEq, Repr

/-- A flash operation of BOOT_NOR_CTRL in progress: op code, address, page bytes, and whether it has begun, which a journal write that
is in flight keeps it from (R98, R462). -/
structure NorOp where
  op   : Nat
  addr : Nat
  data : List Nat
  on   : Bool
  deriving DecidableEq, Repr

/-- One record of the loaded image (R81). -/
structure Rec where
  typ     : Nat
  inst    : Nat
  flags   : Nat
  payload : List Nat
  deriving DecidableEq, Repr

/-- The loaded image: its slot (0 none, 1 A, 2 B), header facts and records (R73, R79, R84). -/
structure Image where
  slot    : Nat
  version : Nat
  base    : Nat
  secVer  : Nat
  keyId   : Nat
  lab     : Bool
  digest  : List Nat
  recs    : List Rec
  deriving DecidableEq, Repr

/-- An accepted commit that waits for its drip boundary (R96). -/
structure Commit where
  entries : List (Nat × Nat)
  /-- target stream and frame -/
  target  : Option (Nat × Nat)
  /-- of each enable word among the entries, the bits whose sources the requester may write (R444, as at go by R450) -/
  ens     : Tbl Nat
  deriving DecidableEq, Repr

/-- What an executed commit leaves for its target frame's boundary (R97, R164): the target, the streams that close there, and
whether placement runs. -/
structure Turn where
  target : Nat × Nat
  closes : List Nat
  run    : Bool
  deriving DecidableEq, Repr

/-- The commit buffer: who claims it, the accepted commits in the order of their acceptance, and what executed ones have left
for their target frames' boundaries, what waits for a domain's wake (R94 to R97, R471). -/
structure CommitSt where
  claim  : Option Nat
  waiting : List Commit
  turns  : List Turn
  /-- registers of sleeping domains that commits have changed, with the word that they had before: what they set going follows at the
  wake (R471) -/
  asleep : Tbl Word
  deriving DecidableEq, Repr

/-- Power state of a switched domain (R41, R46). -/
inductive DomSt where
  | off | waking | on | draining | powerdown
  deriving DecidableEq, Repr

/-- Moderation of one MSI-X vector (R438): its interval runs, and a merged message waits. -/
structure ModSt where
  running : Bool
  waiting : Bool
  deriving DecidableEq, Repr

/-- Whether every main supply other than VDD_CORE is within its range. -/
def Power.main (p : Power) : Bool := p.out.isEmpty

/-- A PCIe function (R303, R306, R332): present, in D0, resetting, bus mastering MSI-X enable and function mask, frames
dropped against it. -/
structure FnSt where
  present : Bool
  d0      : Bool
  inReset : Bool
  msixEn  : Bool
  fmask   : Bool
  dc      : DevCtl
  deriving DecidableEq, Repr

/-- A host read that waits for a free tag (R310). -/
structure HostRd where
  fn    : Nat
  addr  : Nat
  len   : Nat
  flush : Bool
  deriving DecidableEq, Repr

/-- Vehicle time (R150 to R154): the local reference, the vehicle counter, the frequency correction in ppb, consecutive
good offsets, the armed PPS time, the part of a tick that has passed, the mean link delay, the reception time of a two-step
Sync whose Follow_Up has not come. -/
structure TimeSt where
  loc   : Nat
  veh   : Nat
  corr  : Int
  good  : Nat
  tod   : Option Nat
  /-- local time at which holdover began -/
  hold  : Option Nat
  /-- the Ethernet link was up when the PHY was last read (R152) -/
  eth   : Bool
  /-- vehicle time since the last tick of 2 ns, in 10⁻⁹ ns (R150) -/
  frac  : Nat
  /-- mean link delay to the Ethernet peer (R152) -/
  linkDelay : Int
  syncRx : Option Int
  /-- the master that the announcements give: priority vector and sender (R152) -/
  master : Option (Nat × Nat)
  deriving DecidableEq, Repr

/-- A member stream of a pour period (R11, R329, R330): its frame, whether it is accounted for, the flags byte of its
entry, the extra frames, and its published and failed masks. -/
structure Member where
  st    : Nat
  frame : Option Nat
  done  : Bool
  flags : Nat
  extra : Nat
  pub   : Nat
  fail  : Nat
  deriving DecidableEq, Repr

/-- One pour period of a group: number, vehicle time of its edge, synced flag of the edge, members, and once the record
is due, when, whether at a budget expiry, and the function and address of the slot that it is bound to (R329 to R331). -/
structure Period where
  num     : Nat
  edge    : Nat
  synced  : Bool
  members : List Member
  due     : Option (Nat × Bool)
  slot    : Nat × Nat
  deriving DecidableEq, Repr

/-- A sync group (R155, R158): last issued edge (vehicle, local), and its open pour periods. -/
structure Group where
  last     : Option (Nat × Nat)
  /-- vehicle time of the edge before the last one -/
  prev     : Option Nat
  /-- number that the next pour period takes -/
  periodNo : Nat
  /-- pour periods whose record is neither published nor dropped, oldest first -/
  periods  : List Period
  /-- extra frames that wait for the group's next record, by stream (R329) -/
  carry    : Tbl Nat
  deriving DecidableEq, Repr

/-- What a control channel works on (R86, R136, R144, R161, R403). -/
inductive Job where
  | busClear
  /-- the broadcast DISEC, and SETDASA of target `k` (R136) -/
  | disec
  | setdasa (k : Nat)
  /-- SENSOR_INIT operation `op` of target `k` -/
  | init (k op : Nat)
  /-- write `i` of the settings set of target `k`; `window` = in a write window, else step 5 of R136 or step 3 of R124 -/
  | settings (k i : Nat) (window : Bool)
  | standby (k op : Nat)
  | wake (k op : Nat)
  | mailbox
  /-- census read-back of register `i` of target `k`; `reinit` = step 4 of R124 -/
  | readback (k i : Nat) (reinit : Bool)
  /-- repair write `i` of the census list of target `k` -/
  | fix (k i : Nat)
  /-- write of signal `sig`'s value to target `k` (R367) -/
  | swr (k sig v : Nat)
  deriving DecidableEq, Repr

/-- What a channel's job waits for. -/
inductive JobWait where
  | transfer | delay | nack | backoff
  deriving DecidableEq, Repr

/-- A mailbox transfer as taken at go (R161). -/
structure Mailbox where
  rd    : Bool
  width : Nat
  tgt   : Nat
  lsb   : Bool
  reg   : Nat
  data  : Nat
  deriving DecidableEq, Repr

/-- A settings set that a channel is to write: target, stream, frame it governs, and the writes
(register address, bytes) in order (R144). -/
structure SetPlan where
  k      : Nat
  stream : Nat
  frame  : Nat
  writes : List (Nat × List Nat)
  deriving DecidableEq, Repr

/-- A control channel (R133 to R148). -/
structure Chan where
  job      : Option Job
  wait     : JobWait
  /-- NACKs and abandonments of the transfer in hand -/
  nacks    : Nat
  backs    : Nat
  /-- jobs waiting, in order -/
  todo     : List Job
  /-- targets that completed step 5, and targets that ended their first attempt, as masks -/
  ready    : Nat
  tried    : Nat
  /-- I3C targets that have their dynamic address, as a mask (R136) -/
  dasa     : Nat
  firstEnd : Bool
  started  : Bool
  mail     : Option Mailbox
  /-- settings sets in hand or waiting, at most one for each target -/
  plans    : List SetPlan
  /-- targets whose write window is open, and whose set of that window has been started, as masks -/
  winOpen  : Nat
  winDone  : Nat
  /-- bytes read back of the census list of each target, oldest first -/
  rb       : Tbl (List Nat)
  /-- repair writes in hand (register, bytes), and targets whose list is being read again after a repair -/
  fixes    : Tbl (List (Nat × List Nat))
  recheck  : Nat
  /-- targets whose standby sequence, and whose wake sequence, failed last, as masks (R137, R143) -/
  badSb    : Nat
  badWk    : Nat
  deriving DecidableEq, Repr

/-- A packet held in the ingress buffer while the sensor counter is awaited (R122): a frame start with its capture, an
embedded-data packet, a user-defined packet, a frame end. -/
inductive HeldPkt where
  | start (num : Nat) (cap : Nat × Bool)
  | embedded (vc : Nat) (bytes : List Nat)
  | user (vc kind : Nat) (bytes : List Nat)
  | stop
  deriving DecidableEq, Repr

/-- A packet as the CSI-2 receiver of a port meets it (R109, R115): its kind with what the header and the payload say. -/
inductive PktBody where
  | start (num : Nat)
  | line (dt : Nat) (num : Option Nat) (codes : List Nat) (crcOk : Bool) (cse : CseField) (room : Bool)
  | stop
  | embedded (bytes : List Nat) (crcOk : Bool) (cse : CseField)
  | user (kind : Nat) (bytes : List Nat) (crcOk : Bool) (cse : CseField)
  | other (dt len : Nat)
  deriving DecidableEq, Repr

/-- A packet on its way between PHY and receiver: link of a combo port, virtual channel, how it arrives, body. -/
structure Packet where
  port : Nat
  link : Bool
  vc   : Nat
  arr  : Arrival
  body : PktBody
  deriving DecidableEq, Repr

/-- A packet that waits in a port's ingress buffer for domains that are not ready, with its capture (R44). -/
structure Ingr where
  pkt : Packet
  cap : Nat × Bool
  deriving DecidableEq, Repr

/-- How a map entry's frame ended (R112). -/
structure EntEnd where
  trunc : Bool
  valid : Nat
  deriving DecidableEq, Repr

/-- A map entry of a port (R110 to R125). -/
structure Entry where
  /-- lines taken so far, in order; each is a list of raw codes -/
  lines    : List (List Nat)
  repaired : Nat
  firstRep : Nat
  /-- the run of lines without an open frame is counted -/
  strayRun : Bool
  /-- lines beyond the height counted this frame -/
  beyond   : Bool
  /-- the sensor counter of the open or last frame -/
  ctr      : Option Nat
  /-- counter of the last frame before the loss -/
  lossCtr  : Option Nat
  /-- the link went down since the loss -/
  downSince : Bool
  /-- packets held until the sensor counter is checked, oldest first (R122) -/
  held     : List HeldPkt
  /-- the frame's lines are dropped until its frame end (R186, R164) -/
  skip     : Bool
  ended    : Option EntEnd
  /-- embedded data seen this frame -/
  emb      : Bool
  /-- capture of the frame start and of each line: vehicle time, synced -/
  capFs    : Nat × Bool
  caps     : List (Nat × Bool)
  /-- the sensor was found reset: a new frame follows R124 -/
  wasReset : Bool
  /-- the open frame is the first after a gap and its embedded data have not come yet (R125) -/
  gapNew   : Bool
  deriving DecidableEq, Repr

/-- A stream's placement (R178): in-line or palette, slot, stroke length, cells, share. -/
structure Place where
  palette : Bool
  slot    : Nat
  ns      : Nat
  cells   : Nat
  share   : Nat
  deriving DecidableEq, Repr

/-- The placement engine (R175 to R188). -/
structure PlcSt where
  /-- result record in force, by stream -/
  result   : Tbl Place
  /-- physical easel of each logical slot -/
  slotMap  : List Nat
  resting  : Option Nat
  /-- the resting easel passed its BIST since it began to rest -/
  restOk   : Bool
  /-- easel leaving service during a rotation -/
  leaving  : Option Nat
  /-- retired easels with their reasons -/
  retired  : Tbl Nat
  /-- degraded streams in the order they were degraded -/
  degraded : List Nat
  /-- load of each slot in parts per 10,000, rounded up -/
  loads    : List Nat
  /-- easels whose readmission waits for BIST -/
  readmit  : List Nat
  /-- logical slot under which each stream runs, 15 where it has none (R181) -/
  slotNow  : Tbl Nat
  /-- easel that takes a retired easel's slot and is not powered yet (R186) -/
  taking   : Option Nat
  /-- a rotation that is due waits for a migration to end (R180) -/
  rotDue   : Bool
  /-- stroke length and cells of the placement under which each stream runs (R166, R276, R278) -/
  runs     : Tbl (Nat × Nat)
  deriving DecidableEq, Repr

/-! ## Transmit ports -/

/-- The lines of a transmit port: the local time at which the packets in hand began, their bits, and for each frame end among them
that is not counted yet the bits up to its end (R336, R340). -/
structure CsoLine where
  start : Nat
  bits  : Nat
  ends  : List Nat
  deriving DecidableEq, Repr

/-- Lines with nothing on them. -/
def CsoLine.init : CsoLine := ⟨0, 0, []⟩

/-! ## Streams and frames -/

/-- A ledger entry (R250), without the summary state and the digest, which follow from the rest. -/
structure LEntry where
  frame : Nat
  cmd   : Nat
  flags : Nat
  exp   : List Nat
  gain  : List Nat
  conv  : List Nat
  temp  : Nat
  lscW  : Nat
  wb    : List Nat
  tone  : Nat
  alpha : Nat
  grid  : Nat
  src   : Nat
  deriving DecidableEq, Repr

/-- What a frame is bound to at its command deadline: the epoch and the stream's registers in force (R96, R204, R260). -/
structure FrameCfg where
  epoch : Nat
  regs  : List (Nat × Word)
  deriving DecidableEq, Repr

/-- An accepted host command (R256 to R258): its place in the order of acceptance from 1, applied frame, op release, mask, value words, slipped, and whether
the slipped flag has been set in its entry. -/
structure HostCmd where
  ord    : Nat
  at_    : Nat
  rel    : Bool
  mask   : Nat
  vals   : List Nat
  slip   : Bool
  marked : Bool
  deriving DecidableEq, Repr

/-- A published result of the laws: frame and data words, with a serial number (R269, R270). -/
structure LawResult where
  serial : Nat
  frame  : Nat
  words  : List Nat
  deriving DecidableEq, Repr

/-- A stream (R164, R243 to R260): open, number of the last frame opened, configurations bound by frame number, host
commands pending, fields under host control (value, place of the command) by mask bit, commands accepted, the last frames
whose sensor-side and device-side values are fixed, local-contrast grids by frame, the newest law result, the snapshots
of the guard domains, and the alive counters of the six windows. -/
structure Strm where
  opened : Bool
  /-- the boundary at which the stream closes has come, and its open frame runs on (R164, R181) -/
  closing : Bool
  /-- enabled again before it has closed: it opens anew then (R164) -/
  again  : Bool
  last   : Option Nat
  cfgs   : Tbl FrameCfg
  cmds   : List HostCmd
  host   : Tbl (Nat × Nat)
  num    : Nat
  fixS   : Option Nat
  fixD   : Option Nat
  /-- the laws' own values of planned entries, by frame -/
  raw    : Tbl LEntry
  grids  : Tbl (List Nat)
  result : Option LawResult
  snaps  : Tbl LawResult
  alive  : List Nat
  /-- lines in the line store, oldest first: frame, line, cells (R275) -/
  store  : List (Nat × Nat × List Nat)
  /-- the line store's list is broken until the next frame boundary, and the cells that were lost with it (R281) -/
  broken : Bool
  lostCells : List Nat
  /-- cells of the table records 7, 8 and 9, and the 96 statistics cells: two blocks of 46, then 4 of law state (R231, R243) -/
  tabCells : Tbl (List Nat)
  statCells : List Nat
  /-- frames whose write window was missed before their entry was planned (R254) -/
  missed : List Nat
  /-- sensor-side values that step 3 of R124 wrote: exposure times, gains, conversion modes -/
  resent : Option (List Nat × List Nat × List Nat)
  /-- strokes of the open frame released so far -/
  rel    : Nat
  /-- group edge of the frame opened last (R43, R163) -/
  edge   : Option Nat
  /-- line positions of the open frame that found no cell (R277) -/
  noCell : List Nat
  deriving DecidableEq, Repr

/-- How far an output window of a frame has come (R316, R320). -/
inductive WinPhase where
  | waiting | bound | written | done
  deriving DecidableEq, Repr

/-- An output window of a frame: its number, phase, buffer address and length, function and descriptor address, alive
counter, status flags, valid bytes, valid lines, payload CRC, delivery failure, and an injector's withheld ownership write
(R316 to R322, R423). -/
structure WinSt where
  w      : Nat
  phase  : WinPhase
  addr   : Nat
  len    : Nat
  fn     : Nat
  desc   : Nat
  alive  : Nat
  status : Nat
  vb     : Nat
  vl     : Nat
  crc    : Nat
  failed : Bool
  hold   : Bool
  /-- the translation of the buffer's address failed before the writes (R322) -/
  noXlat : Bool
  deriving DecidableEq, Repr

/-- A stroke of a through-palette frame: input lines a to b, deadline in local time, on which easel, whether its work has
begun, and whether its deadline was missed (R166, R172, R173). -/
structure Stroke where
  st     : Nat
  num    : Nat
  a      : Nat
  b      : Nat
  dl     : Nat
  easel  : Nat
  active : Bool
  missed : Bool
  deriving DecidableEq, Repr

/-- An easel's line boundary state (R166 to R168): in-line lines that are ready (stream, frame, time), oldest first, and the
stroke in its stroke slot (stream, frame, first line). -/
structure EasSt where
  ready : List (Nat × Nat × Nat)
  slot  : Option (Nat × Nat × Nat)
  deriving DecidableEq, Repr

/-- A stored embedded-data or user-defined packet: data type, virtual channel, exposure, payload (R327). -/
structure Pkt where
  dt   : Nat
  vc   : Nat
  exp  : Nat
  data : List Nat
  deriving DecidableEq, Repr

/-- A frame from its opening until every output, its laws and its pour record are done with it. -/
structure Frame where
  st      : Nat
  num     : Nat
  cfg     : FrameCfg
  /-- the table records that it uses, by type (R204) -/
  tabs    : Tbl (List Nat)
  /-- local time of its opening (R406) -/
  at_     : Nat
  /-- lines that its strokes read with an uncorrected error, with the draw that gives their codes (R280) -/
  asRead  : Tbl Nat
  cap     : Nat × Bool
  capLast : Nat × Bool
  /-- path code of STRM_s_STAT at the frame's opening, and its easel -/
  path    : Nat
  easel   : Nat
  /-- stroke length (R172), reference time (R163), and the budget drop choice at its opening (R308) -/
  ns      : Nat
  ref     : Nat
  bdrop   : Bool
  isOpen  : Bool
  trunc   : Bool
  /-- cut by a retirement: input lines that had entered the easel (R186) -/
  cut     : Option Nat
  /-- valid lines V; lines of each exposure once closed -/
  valid   : Nat
  lines   : List (List (List Nat))
  repaired : Nat
  firstRep : Nat
  ctr     : Option Nat
  /-- gap counters last and first, and the frame number of R125 -/
  gap     : Option (Nat × Nat × Nat)
  pkts    : List Pkt
  full    : Bool
  edSeen  : Bool
  /-- reported values of compared settings that mismatch: (setting, exposure, value) (R253) -/
  reported : List (Nat × Nat × Nat)
  withdrawn : Bool
  /-- a stroke of it missed its deadline (R173) -/
  missedDl : Bool
  /-- law inputs and metadata signal entries bound to the frame (R261, R365, R366) -/
  inputs  : List (Option Int)
  sigs    : List (List Nat)
  sigBound : Bool
  /-- group and number of the pour period that the frame is a member frame of -/
  per     : Option (Nat × Nat)
  /-- statistics block once closed; laws ended -/
  stats   : Option (List Nat)
  lawed   : Bool
  dpc     : Nat
  palBad  : Nat
  palCell : Option Nat
  wins    : List WinSt
  pub     : Nat
  failM   : Nat
  dropM   : Nat
  /-- EV_STRM_FRAME_DONE has been raised -/
  done    : Bool
  /-- its ledger entry and its grid, final at its close (R203, R204, R255) -/
  own     : Option (List Nat × List Nat)
  /-- it belongs to an opening of the stream before the present one (R164) -/
  prior   : Bool
  deriving DecidableEq, Repr

/-- A descriptor fetched or to be fetched for a slot of a ring (R315): the frame or period it is for, its function and
address, a read outstanding, another read asked for meanwhile, timer retries used, the buffer once handed over, and
whether its output is gone while the read is still outstanding. -/
structure Fetch where
  num   : Nat
  fn    : Nat
  desc  : Nat
  busy  : Bool
  again : Bool
  tries : Nat
  got   : Option (Nat × Nat)
  dead  : Bool
  /-- the descriptor stayed bound from an output that was dropped (R316) -/
  stay  : Bool
  deriving DecidableEq, Repr

/-- A publication for the fault search: function, ring, frame, buffer, length, descriptor address and length (R323). -/
structure Pub where
  fn   : Nat
  ring : Nat
  num  : Nat
  buf  : Nat
  len  : Nat
  desc : Nat
  dlen : Nat
  deriving DecidableEq, Repr

/-- An output ring: fetches in order, descriptors that stay bound by slot (R316), outputs lost since the last
publication. -/
structure Ring where
  fetches : List Fetch
  kept    : Tbl (Nat × Nat)
  lost    : Nat
  deriving DecidableEq, Repr

/-! ## Table reload (R229 to R231) -/

/-- An accepted reload: record type, stream, new payload, target frame, the cells that hold the new payload. -/
structure Reload where
  typ     : Nat
  st      : Nat
  payload : List Nat
  target  : Option Nat
  cells   : List Nat
  deriving DecidableEq, Repr

/-- A reload that has executed: the old payload, in its cells, stays in use for frames before `first`. -/
structure HeldTab where
  typ   : Nat
  st    : Nat
  old   : List Nat
  first : Nat
  cells : List Nat
  deriving DecidableEq, Repr

/-- The table reload unit: the claiming requester, the accepted reload, the executed one. -/
structure TrlSt where
  claim   : Option Nat
  waiting : Option Reload
  held    : Option HeldTab
  deriving DecidableEq, Repr

/-! ## Census and check units (R389 to R411) -/

/-- The census: the set in check with members done and running CRC, the published pair, the snapshots of the guard
domains, sets whose repair has stopped, sets repaired (with the local time), the local time at which the last check of a set began,
that at which the last passing check of a set began, and the mismatched sets without a passing check since, with the streams
that set 153 names (R406); the sets that wait for their repair, with whether their first differing register is still to be recorded, those
in their check after repair with members done and running CRC (R405), and the local time at which each easel last worked on a stream, at 32
times the easel plus the stream. -/
structure CenSt where
  cur   : Option (Nat × Nat × Nat)
  pub   : Nat × List Nat
  snaps : Tbl (List Nat)
  stop  : List Nat
  fixed : Tbl Nat
  begun : Tbl Nat
  since : Tbl Nat
  bad   : Tbl (List Nat)
  fix   : List (Nat × Bool)
  re    : List (Nat × Nat × Nat)
  work  : Tbl Nat
  deriving DecidableEq, Repr

/-- A check unit beside its registers: the requester or channel that has taken it, whether an alive value was written
since the start, scan bytes done, an abort asked for, the scan in hand (first byte, length, space: R394), and the last message counter of
each CSE context (R396). -/
structure ChkSt where
  by_   : Nat
  alive : Bool
  pos   : Nat
  abort : Bool
  scan  : Nat × Nat × Nat
  ctrs  : Tbl Nat
  deriving DecidableEq, Repr

/-! ## Palette and queues -/

/-- A live palette cell as its link entry has it: owner kind, stream, next cell of its list, 0xFFFF at the end (R274, R275). -/
structure Cell where
  kind : Nat
  st   : Nat
  next : Nat
  deriving DecidableEq, Repr

/-- One item of a queue: value, its word failed its parity check. -/
structure QItem where
  v   : Nat
  bad : Bool
  deriving DecidableEq, Repr

/-- A packet of a packet queue, or the whole content of another: items with the length slot first in a packet queue. -/
structure QPkt where
  items : List QItem
  /-- the length slot has not been popped yet -/
  head  : Bool
  closed : Bool
  /-- the word of the length slot failed its parity check -/
  slotBad : Bool
  deriving DecidableEq, Repr

/-- A queue (R283 to R293): packets oldest first (one entry holds all items of a queue with packet = 0), whether items are
discarded until the next sop, the position of the head item within its cell, and the cells held from head to tail (true = a
cell of the other half). -/
structure Queue where
  pkts  : List QPkt
  skip  : Bool
  off   : Nat
  cells : List Bool
  deriving DecidableEq, Repr

/-! ## Signals and glue (R359 to R377) -/

/-- A message definition of the bridge (R361): local time of its last reception or of its start, and its timeout signalled. -/
structure MsgSt where
  last  : Nat
  late  : Bool
  deriving DecidableEq, Repr

/-- An outgoing definition (R368): alive counter, and a frame that has not won arbitration yet. -/
structure TxSt where
  alive  : Nat
  unsent : Bool
  deriving DecidableEq, Repr

/-- The SPI target (R373, R374): status, sequence number and data of the last accepted command, flags of the last frame. -/
structure Spi where
  status : Nat
  seq    : Nat
  data   : Nat
  crcBad : Bool
  drop   : Bool
  deriving DecidableEq, Repr

/-- A glue transfer in flight (R372): address, read, two register bytes, register, data bytes, the bytes written, arbitration losses
so far, and whether it waits for the back-off of R148. -/
structure GlueX where
  addr    : Nat
  rd      : Bool
  two     : Bool
  reg     : Nat
  width   : Nat
  data    : List Nat
  losses  : Nat
  waiting : Bool
  deriving DecidableEq, Repr

/-- The bridge and the glue interfaces: receptions kept (time, value) of each signal, newest first, and the time of its first one since the
image load; message definitions; outgoing definitions; last value written to a sensor by signal; GPIOs that signals drive high; GPIO
outputs driven high; stuck glue buses; the glue transfers in flight; the SPI target. -/
structure SigSt where
  recs    : Tbl (List (Nat × Int))
  firsts  : Tbl Nat
  msgs    : Tbl MsgSt
  tx      : Tbl TxSt
  swr     : Tbl Nat
  gpioSig : Nat
  gpioOut : Nat
  stuck   : Nat
  /-- glue buses that have had the bus clear of their first use (R30) -/
  gmClear : Nat
  gm      : Tbl GlueX
  spi     : Spi
  deriving DecidableEq, Repr

/-! ## Transfer engine (R341 to R356) -/

/-- A fetched software descriptor (R344). -/
structure TxeDesc where
  w0  : Nat
  len : Nat
  src : Nat
  dst : Nat
  deriving DecidableEq, Repr

/-- What a software channel does (R343 to R351). -/
inductive TxePhase where
  | idle | fetching | retry | running | refused | flushing | waitUnit | stalled
  deriving DecidableEq, Repr

/-- A software channel (R343 to R355): phase, doorbell kept, timer retries, descriptor, bytes moved up to the last drip
boundary and in the drip in hand, whether a drip is in hand, result code and result word found, software pause reached,
drain pause asked for and reached, function reset pending, check unit held. -/
structure TxeCh where
  phase  : TxePhase
  again  : Bool
  tries  : Nat
  desc   : Option TxeDesc
  pos    : Nat
  moved  : Nat
  drip   : Bool
  code   : Nat
  result : Nat
  paused : Bool
  drain  : Bool
  drained : Bool
  reset  : Bool
  unit   : Bool
  /-- bytes of the drip in hand, read and not yet written (R341) -/
  buf    : List Nat
  /-- TXE_c_CRC holds the running value of a unit that the channel has given back (R353) -/
  saved  : Bool
  deriving DecidableEq, Repr

/-- The part of a send mirror in an output (R381): the mirror, the first sequence number once a frame of the output has gone, and
whether its part is over. -/
structure MirLeg where
  m     : Nat
  first : Option Nat
  ended : Bool
  deriving DecidableEq, Repr

/-- The work of a pour channel on one output (R341, R347): its ring and frame number; function, address and relaxed ordering of the
host's buffer, none where only mirrors take it; its bytes with the trailer, the descriptor bytes for the peer, the send mirrors; bytes
written up to the last drip boundary and in the drip in hand; its deadline in vehicle time (R348). -/
structure PourJob where
  ring  : Nat
  num   : Nat
  host  : Option (Nat × Nat × Bool)
  bytes : List Nat
  body  : List Nat
  legs  : List MirLeg
  pos   : Nat
  moved : Nat
  due   : Nat
  deriving DecidableEq, Repr

/-- The pour channels and the write engine: outputs in hand and outputs that wait, by channel; the channel whose drip the write engine
has in hand, the software channel that it served last, and the pour drips since then while a software channel waited (R348). -/
structure PourSt where
  jobs  : Tbl PourJob
  queue : Tbl (List PourJob)
  hand  : Option Nat
  last  : Nat
  run   : Nat
  deriving DecidableEq, Repr

/-! ## SPDM and IDE (R412, R413, R419, R301) -/

/-- The SPDM responder: how far the connection has come (version, capabilities, algorithms), the bytes exchanged so far,
the open session with its number and whether FINISH has ended its handshake, heartbeats and key updates of it, the
link IDE stream: 0 insecure, 1 keys programmed, 2 secure; and whether the key store of domain 150 holds its keys (R419). -/
structure Spdm where
  stage : Nat
  log   : List Nat
  sess  : Option (Nat × Bool)
  beats : Nat
  updates : Nat
  ide   : Nat
  keys  : Bool
  deriving DecidableEq, Repr

/-! ## Erkuhar link (R378 to R384) -/

/-- A journal entry of a mirrored output (R382): first and last sequence number, stream, window, frame. -/
structure ErkOut where
  first : Nat
  last  : Nat
  st    : Nat
  w     : Nat
  num   : Nat
  deriving DecidableEq, Repr

/-- An output that a receive mirror gathers (R381): mirror, its first sequence number, window, frame, bytes so far. -/
structure ErkIn where
  m     : Nat
  first : Nat
  w     : Nat
  num   : Nat
  bytes : List Nat
  deriving DecidableEq, Repr

/-- A complete output of a receive mirror that is being poured (R381): mirror, first sequence number, window, frame, its
payload with trailer, the sender's descriptor bytes 0x10 to 0x3F, how far it has come, and the slot that it is bound to. -/
structure ErkPour where
  m     : Nat
  first : Nat
  w     : Nat
  num   : Nat
  bytes : List Nat
  body  : List Nat
  phase : WinPhase
  fn    : Nat
  desc  : Nat
  addr  : Nat
  len   : Nat
  failed : Bool
  /-- an injector withholds the ownership write (R423) -/
  hold  : Bool
  deriving DecidableEq, Repr

/-- The Erkuhar link: sequence number that the next frame sent takes, oldest unacknowledged one, next one expected, frames
kept for replay (number, bytes), replays of each of them, the journal, outputs being received and poured, this
end's open control request (read, offset, data, abandonments) and whether it waits for its back-off, the peer's last send time with its reception time, and the
vehicle time of the last time frame sent. -/
structure Erk where
  txSeq : Nat
  acked : Nat
  rxSeq : Nat
  store : List (Nat × List Nat)
  reps  : Tbl Nat
  journal : List ErkOut
  ins   : List ErkIn
  pours : List ErkPour
  ctl   : Option (Bool × Nat × Nat × Nat)
  back  : Bool
  peer  : Option (Nat × Nat)
  sent  : Nat
  deriving DecidableEq, Repr

end Sys2Proof.Machine
end

