-- ==== Sys2Proof/Machine/RegMap.lean ====
section
/-! DEFINITION. Machine/RegMap.lean: the register map (R474): the BAR offset of every register, every field of every
register's table, and one row per register with its access codes (R6), its image fields (R83) and its Reset column (R477). -/

namespace Sys2Proof.Machine

/-- GLB_ID: identification (R473). -/
def Reg.GLB_ID : Nat := 0x0
/-- GLB_REV: revision (R473). -/
def Reg.GLB_REV : Nat := 0x4
/-- GLB_CAPS: capacity (R473). -/
def Reg.GLB_CAPS : Nat := 0x8
/-- GLB_SELF: identity of the reader (R473). -/
def Reg.GLB_SELF : Nat := 0xC
/-- GLB_UID: device number, 64-bit (R473). -/
def Reg.GLB_UID : Nat := 0x10
/-- GLB_TAG: system tag (R473). -/
def Reg.GLB_TAG : Nat := 0x18
/-- GLB_SCRATCH: scratch (R473). -/
def Reg.GLB_SCRATCH : Nat := 0x1C
/-- GLB_OFFWR: writes to domains that were off (R473). -/
def Reg.GLB_OFFWR : Nat := 0x20
/-- PM_STATE: device state (R66). -/
def Reg.PM_STATE : Nat := 0x10000
/-- PM_CTRL: device state command (R66). -/
def Reg.PM_CTRL : Nat := 0x10004
/-- PM_REFUSE: last refusal (R66). -/
def Reg.PM_REFUSE : Nat := 0x10008
/-- PM_AVS_CTRL: voltage scaling control (R66). -/
def Reg.PM_AVS_CTRL : Nat := 0x10010
/-- PM_AVS_STAT: voltage scaling status (R66). -/
def Reg.PM_AVS_STAT : Nat := 0x10014
/-- PM_n_DCTRL: domain request (R66). -/
def Reg.PM_DCTRL (n : Nat) : Nat := 0x11000 + 0x10 * n
/-- PM_n_DSTAT: domain status (R66). -/
def Reg.PM_DSTAT (n : Nat) : Nat := 0x11004 + 0x10 * n
/-- CK_SRC: clock sources (R66). -/
def Reg.CK_SRC : Nat := 0x18000
/-- CK_n_PLL: fast PLL status (R66). -/
def Reg.CK_PLL (n : Nat) : Nat := 0x18100 + 0x10 * n
/-- BOOT_STATUS: boot state (R99). -/
def Reg.BOOT_STATUS : Nat := 0x20000
/-- BOOT_RST_CAUSE: reset causes, kept in the warmer domain (R99). -/
def Reg.BOOT_RST_CAUSE : Nat := 0x20004
/-- BOOT_CMD: boot command (R99). -/
def Reg.BOOT_CMD : Nat := 0x20008
/-- BOOT_IMAGE: loaded image identity (R99). -/
def Reg.BOOT_IMAGE : Nat := 0x2000C
/-- BOOT_EPOCH_BASE: epoch base of the loaded image (R99). -/
def Reg.BOOT_EPOCH_BASE : Nat := 0x20010
/-- BOOT_SEC: security state (R99). -/
def Reg.BOOT_SEC : Nat := 0x20014
/-- BOOT_n_DIGEST: image digest (R99). -/
def Reg.BOOT_DIGEST (n : Nat) : Nat := 0x20020 + 0x4 * n
/-- BOOT_n_SLOT: slot result (R99). -/
def Reg.BOOT_SLOT (n : Nat) : Nat := 0x20060 + 0x4 * n
/-- BOOT_CMT_CTRL: commit control (R99). -/
def Reg.BOOT_CMT_CTRL : Nat := 0x20080
/-- BOOT_CMT_TARGET: commit target (R99). -/
def Reg.BOOT_CMT_TARGET : Nat := 0x20084
/-- BOOT_CMT_FRAME: target frame number (R99). -/
def Reg.BOOT_CMT_FRAME : Nat := 0x20088
/-- BOOT_CMT_EPOCH: expected epoch (R99). -/
def Reg.BOOT_CMT_EPOCH : Nat := 0x2008C
/-- BOOT_CMT_STAT: commit status (R99). -/
def Reg.BOOT_CMT_STAT : Nat := 0x20090
/-- BOOT_NOR_ADDR: flash address (R99). -/
def Reg.BOOT_NOR_ADDR : Nat := 0x200A0
/-- BOOT_NOR_CTRL: flash operation (R99). -/
def Reg.BOOT_NOR_CTRL : Nat := 0x200A4
/-- BOOT_n_CMT_DATA: commit entries (R99). -/
def Reg.BOOT_CMT_DATA (n : Nat) : Nat := 0x21000 + 0x4 * n
/-- BOOT_n_NOR_BUF: flash page buffer (R99). -/
def Reg.BOOT_NOR_BUF (n : Nat) : Nat := 0x22000 + 0x4 * n
/-- EVT_MSI_DROP: messages not sent (R451). -/
def Reg.EVT_MSI_DROP : Nat := 0x30000
/-- EVT_CNT_CLR: counter clear (R451). -/
def Reg.EVT_CNT_CLR : Nat := 0x30004
/-- EVT_SUM_n: summary (R451). -/
def Reg.EVT_SUM (n : Nat) : Nat := 0x30010 + 0x4 * n
/-- EVT_MOD_k: moderation interval (R451). -/
def Reg.EVT_MOD (k : Nat) : Nat := 0x30020 + 0x4 * k
/-- EVT_STAT_n: status (R451). -/
def Reg.EVT_STAT (n : Nat) : Nat := 0x30100 + 0x4 * n
/-- EVT_EN_n: enable (R451). -/
def Reg.EVT_EN (n : Nat) : Nat := 0x30200 + 0x4 * n
/-- EVT_i_ROUTE: route (R451). -/
def Reg.EVT_ROUTE (i : Nat) : Nat := 0x31000 + 0x8 * i
/-- EVT_i_CNT: occurrence counter (R451). -/
def Reg.EVT_CNT (i : Nat) : Nat := 0x31004 + 0x8 * i
/-- GRD_STAT: table state (R452). -/
def Reg.GRD_STAT : Nat := 0x40000
/-- GRD_CTRL: table command (R452). -/
def Reg.GRD_CTRL : Nat := 0x40004
/-- GRD_LOG_CNT: denial log state (R452). -/
def Reg.GRD_LOG_CNT : Nat := 0x40008
/-- GRD_REQ_r: requester mapping (R452). -/
def Reg.GRD_REQ (r : Nat) : Nat := 0x40100 + 0x4 * r
/-- GRD_WIN_w: window masks (R452). -/
def Reg.GRD_WIN (w : Nat) : Nat := 0x40200 + 0x4 * w
/-- GRD_STRM_s: stream masks (R452). -/
def Reg.GRD_STRM (s : Nat) : Nat := 0x40400 + 0x4 * s
/-- GRD_QUE_q: queue masks (R452). -/
def Reg.GRD_QUE (q : Nat) : Nat := 0x40500 + 0x4 * q
/-- GRD_TXE_c: channel masks (R452). -/
def Reg.GRD_TXE (c : Nat) : Nat := 0x40800 + 0x4 * c
/-- GRD_GRP_g: sync group masks (R452). -/
def Reg.GRD_GRP (g : Nat) : Nat := 0x40A00 + 0x4 * g
/-- GRD_CHK_n: check unit masks (R452). -/
def Reg.GRD_CHK (n : Nat) : Nat := 0x40A40 + 0x4 * n
/-- GRD_VEC_b: vector block mask (R452). -/
def Reg.GRD_VEC (b : Nat) : Nat := 0x40B00 + 0x4 * b
/-- GRD_LOG_n_INFO: denial entry (R452). -/
def Reg.GRD_LOG_INFO (n : Nat) : Nat := 0x41000 + 0x10 * n
/-- GRD_LOG_n_ADDR: denied offset (R452). -/
def Reg.GRD_LOG_ADDR (n : Nat) : Nat := 0x41004 + 0x10 * n
/-- GRD_LOG_n_GEN: generation of the denial (R452). -/
def Reg.GRD_LOG_GEN (n : Nat) : Nat := 0x41008 + 0x10 * n
/-- CEN_CTRL: census policy (R426). -/
def Reg.CEN_CTRL : Nat := 0x50000
/-- CEN_STAT: census status (R426). -/
def Reg.CEN_STAT : Nat := 0x50004
/-- CEN_EPOCH: epoch in force (R426). -/
def Reg.CEN_EPOCH : Nat := 0x50008
/-- CEN_PUB: published epoch (R426). -/
def Reg.CEN_PUB : Nat := 0x5000C
/-- CEN_n_DIGEST: published digest (R426). -/
def Reg.CEN_DIGEST (n : Nat) : Nat := 0x50010 + 0x4 * n
/-- CEN_MIS: first mismatch (R426). -/
def Reg.CEN_MIS : Nat := 0x50020
/-- CEN_MIS_REG: first differing register (R426). -/
def Reg.CEN_MIS_REG : Nat := 0x50024
/-- CEN_PEER_EXP_EPOCH: expected peer epoch (R426). -/
def Reg.CEN_PEER_EXP_EPOCH : Nat := 0x50030
/-- CEN_PEER_EXP_n: expected peer digest (R426). -/
def Reg.CEN_PEER_EXP (n : Nat) : Nat := 0x50040 + 0x4 * n
/-- CEN_SET_m_GOLD: golden value (R426). -/
def Reg.CEN_SET_GOLD (m : Nat) : Nat := 0x51000 + 0x8 * m
/-- CEN_SET_m_STAT: set state (R426). -/
def Reg.CEN_SET_STAT (m : Nat) : Nat := 0x51004 + 0x8 * m
/-- CHK_n_CTRL: unit control (R426). -/
def Reg.CHK_CTRL (n : Nat) : Nat := 0x58000 + 0x40 * n
/-- CHK_n_RUN: running value (R426). -/
def Reg.CHK_RUN (n : Nat) : Nat := 0x58004 + 0x40 * n
/-- CHK_n_FEED: feed (R426). -/
def Reg.CHK_FEED (n : Nat) : Nat := 0x58008 + 0x40 * n
/-- CHK_n_RESULT: result (R426). -/
def Reg.CHK_RESULT (n : Nat) : Nat := 0x5800C + 0x40 * n
/-- CHK_n_EXPECT: expected value (R426). -/
def Reg.CHK_EXPECT (n : Nat) : Nat := 0x58010 + 0x40 * n
/-- CHK_n_ALIVE: alive counter (R426). -/
def Reg.CHK_ALIVE (n : Nat) : Nat := 0x58014 + 0x40 * n
/-- CHK_n_ALIVE_STAT: alive results (R426). -/
def Reg.CHK_ALIVE_STAT (n : Nat) : Nat := 0x58018 + 0x40 * n
/-- CHK_n_SCAN_START: scan start (R426). -/
def Reg.CHK_SCAN_START (n : Nat) : Nat := 0x58020 + 0x40 * n
/-- CHK_n_SCAN_LEN: scan length (R426). -/
def Reg.CHK_SCAN_LEN (n : Nat) : Nat := 0x58024 + 0x40 * n
/-- CHK_n_STAT: unit status (R426). -/
def Reg.CHK_STAT (n : Nat) : Nat := 0x58028 + 0x40 * n
/-- CHK_n_CTX_k: CSE context (R426). -/
def Reg.CHK_CTX (n : Nat) (k : Nat) : Nat := 0x58030 + 0x40 * n + 0x4 * k
/-- LIFE_CFG: ledger policy (R467). -/
def Reg.LIFE_CFG : Nat := 0x60000
/-- LIFE_STAT: ledger status (R467). -/
def Reg.LIFE_STAT : Nat := 0x60004
/-- LIFE_CAL: calendar, 64-bit (R467). -/
def Reg.LIFE_CAL : Nat := 0x60008
/-- LIFE_CAL_SET: calendar setting, 64-bit (R467). -/
def Reg.LIFE_CAL_SET : Nat := 0x60010
/-- LIFE_SEQ: journal position (R467). -/
def Reg.LIFE_SEQ : Nat := 0x60018
/-- LIFE_NOR: journal health (R467). -/
def Reg.LIFE_NOR : Nat := 0x6001C
/-- LIFE_BAD: marked sectors, 64-bit (R467). -/
def Reg.LIFE_BAD : Nat := 0x60020
/-- LIFE_CORE_n: core counter (R467). -/
def Reg.LIFE_CORE (n : Nat) : Nat := 0x60040 + 0x4 * n
/-- LIFE_ITEM_i: ledger item (R467). -/
def Reg.LIFE_ITEM (i : Nat) : Nat := 0x61000 + 0x4 * i
/-- TIME_CFG: time configuration (R161). -/
def Reg.TIME_CFG : Nat := 0x70000
/-- TIME_STAT: time status (R161). -/
def Reg.TIME_STAT : Nat := 0x70004
/-- TIME_NOW: vehicle time, 64-bit (R161). -/
def Reg.TIME_NOW : Nat := 0x70008
/-- TIME_OFFSET: last offset (R161). -/
def Reg.TIME_OFFSET : Nat := 0x70010
/-- TIME_PPS: PPS capture, 64-bit (R161). -/
def Reg.TIME_PPS : Nat := 0x70018
/-- TIME_PTM: host time offset, 64-bit (R161). -/
def Reg.TIME_PTM : Nat := 0x70020
/-- TIME_TOD: time of day for PPS, 64-bit (R161). -/
def Reg.TIME_TOD : Nat := 0x70028
/-- TIME_PHY: PHY latency correction (R161). -/
def Reg.TIME_PHY : Nat := 0x70030
/-- SYNC_g_PERIOD: group period (R161). -/
def Reg.SYNC_PERIOD (g : Nat) : Nat := 0x71000 + 0x20 * g
/-- SYNC_g_PHASE: group phase (R161). -/
def Reg.SYNC_PHASE (g : Nat) : Nat := 0x71004 + 0x20 * g
/-- SYNC_g_CTRL: group control (R161). -/
def Reg.SYNC_CTRL (g : Nat) : Nat := 0x71008 + 0x20 * g
/-- SYNC_g_NEXT: next edge, 64-bit (R161). -/
def Reg.SYNC_NEXT (g : Nat) : Nat := 0x71010 + 0x20 * g
/-- SYNC_FSO_n: FSO output (R161). -/
def Reg.SYNC_FSO (n : Nat) : Nat := 0x71200 + 0x4 * n
/-- SYNC_TUN_p: tunnelled FSYNC line (R161). -/
def Reg.SYNC_TUN (p : Nat) : Nat := 0x71300 + 0x4 * p
/-- SIG_CAN_n_CFG: controller (R387). -/
def Reg.SIG_CAN_CFG (n : Nat) : Nat := 0x80000 + 0x40 * n
/-- SIG_CAN_n_STAT: controller state (R387). -/
def Reg.SIG_CAN_STAT (n : Nat) : Nat := 0x80004 + 0x40 * n
/-- SIG_SPIT_STAT: SPI target (R387). -/
def Reg.SIG_SPIT_STAT : Nat := 0x80100
/-- SIG_I2CT_CFG: I2C target (R387). -/
def Reg.SIG_I2CT_CFG : Nat := 0x80104
/-- SIG_GPIO_LVL: GPIO levels (R387). -/
def Reg.SIG_GPIO_LVL : Nat := 0x80108
/-- SIG_GPIO_n_CFG: GPIO (R387). -/
def Reg.SIG_GPIO_CFG (n : Nat) : Nat := 0x80200 + 0x4 * n
/-- SIG_GM_n_CFG: glue master (R387). -/
def Reg.SIG_GM_CFG (n : Nat) : Nat := 0x80300 + 0x10 * n
/-- SIG_GM_n_XFER: glue mailbox (R387). -/
def Reg.SIG_GM_XFER (n : Nat) : Nat := 0x80304 + 0x10 * n
/-- SIG_GM_n_XDATA: glue data (R387). -/
def Reg.SIG_GM_XDATA (n : Nat) : Nat := 0x80308 + 0x10 * n
/-- SIG_MSG_m_ID: message identifier (R387). -/
def Reg.SIG_MSG_ID (m : Nat) : Nat := 0x81000 + 0x10 * m
/-- SIG_MSG_m_CFG: message handling (R387). -/
def Reg.SIG_MSG_CFG (m : Nat) : Nat := 0x81004 + 0x10 * m
/-- SIG_TX_j_ID: outgoing identifier (R387). -/
def Reg.SIG_TX_ID (j : Nat) : Nat := 0x82000 + 0x40 * j
/-- SIG_TX_j_CFG: outgoing frame (R387). -/
def Reg.SIG_TX_CFG (j : Nat) : Nat := 0x82004 + 0x40 * j
/-- SIG_TX_j_F_i: outgoing field (R387). -/
def Reg.SIG_TX_F (j : Nat) (i : Nat) : Nat := 0x82010 + 0x40 * j + 0x4 * i
/-- SIG_DEF_k_POS: signal position (R387). -/
def Reg.SIG_DEF_POS (k : Nat) : Nat := 0x84000 + 0x20 * k
/-- SIG_DEF_k_FACTOR: factor (R387). -/
def Reg.SIG_DEF_FACTOR (k : Nat) : Nat := 0x84004 + 0x20 * k
/-- SIG_DEF_k_OFFSET: offset, 64-bit (R387). -/
def Reg.SIG_DEF_OFFSET (k : Nat) : Nat := 0x84008 + 0x20 * k
/-- SIG_DEF_k_ROUTE: consumers (R387). -/
def Reg.SIG_DEF_ROUTE (k : Nat) : Nat := 0x84010 + 0x20 * k
/-- SIG_DEF_k_VALUE: latest value, 64-bit (R387). -/
def Reg.SIG_DEF_VALUE (k : Nat) : Nat := 0x84018 + 0x20 * k
/-- ERK_CFG: link configuration (R388). -/
def Reg.ERK_CFG : Nat := 0x90000
/-- ERK_STAT: link status (R388). -/
def Reg.ERK_STAT : Nat := 0x90004
/-- ERK_TIME_OFFSET: peer time offset, 64-bit (R388). -/
def Reg.ERK_TIME_OFFSET : Nat := 0x90008
/-- ERK_PEER_EPOCH: peer epoch (R388). -/
def Reg.ERK_PEER_EPOCH : Nat := 0x90010
/-- ERK_PEER_DIGEST_n: peer digest (R388). -/
def Reg.ERK_PEER_DIGEST (n : Nat) : Nat := 0x90020 + 0x4 * n
/-- ERK_NOTICE: last notice (R388). -/
def Reg.ERK_NOTICE : Nat := 0x90030
/-- ERK_NOTICE_FRAME: frame of the last notice (R388). -/
def Reg.ERK_NOTICE_FRAME : Nat := 0x90034
/-- ERK_PCTL: peer access (R388). -/
def Reg.ERK_PCTL : Nat := 0x90040
/-- ERK_PCTL_DATA: peer data (R388). -/
def Reg.ERK_PCTL_DATA : Nat := 0x90044
/-- ERK_MIR_m_CFG: mirror (R388). -/
def Reg.ERK_MIR_CFG (m : Nat) : Nat := 0x90100 + 0x10 * m
/-- ERK_MIR_m_STAT: mirror counts (R388). -/
def Reg.ERK_MIR_STAT (m : Nat) : Nat := 0x90104 + 0x10 * m
/-- BIST_CTRL: BIST command (R427). -/
def Reg.BIST_CTRL : Nat := 0xA0000
/-- BIST_STAT: BIST status (R427). -/
def Reg.BIST_STAT : Nat := 0xA0004
/-- BIST_FUSE: repair fuses (R427). -/
def Reg.BIST_FUSE : Nat := 0xA0008
/-- BIST_DOM_d: domain record (R427). -/
def Reg.BIST_DOM (d : Nat) : Nat := 0xA1000 + 0x4 * d
/-- FI_CTRL: injection control (R428). -/
def Reg.FI_CTRL : Nat := 0xB0000
/-- FI_SEED: seed (R428). -/
def Reg.FI_SEED : Nat := 0xB0004
/-- FI_k_CFG: injector (R428). -/
def Reg.FI_CFG (k : Nat) : Nat := 0xB0100 + 0x10 * k
/-- FI_k_PARAM: injector limits (R428). -/
def Reg.FI_PARAM (k : Nat) : Nat := 0xB0104 + 0x10 * k
/-- FI_k_STAT: injections (R428). -/
def Reg.FI_STAT (k : Nat) : Nat := 0xB0108 + 0x10 * k
/-- FI_k_STATE: generator (R428). -/
def Reg.FI_STATE (k : Nat) : Nat := 0xB010C + 0x10 * k
/-- PORT_p_CFG: port configuration (R132). -/
def Reg.PORT_CFG (p : Nat) : Nat := 0x100000 + 0x1000 * p
/-- PORT_p_LINK: link control (R132). -/
def Reg.PORT_LINK (p : Nat) : Nat := 0x100004 + 0x1000 * p
/-- PORT_p_LSTAT: link status (R132). -/
def Reg.PORT_LSTAT (p : Nat) : Nat := 0x100008 + 0x1000 * p
/-- PORT_p_EQ: equaliser margin (R132). -/
def Reg.PORT_EQ (p : Nat) : Nat := 0x10000C + 0x1000 * p
/-- PORT_p_TIMEOUT: input-loss timeouts (R132). -/
def Reg.PORT_TIMEOUT (p : Nat) : Nat := 0x100010 + 0x1000 * p
/-- PORT_p_VCMAP_k: map entry (R132). -/
def Reg.PORT_VCMAP (p : Nat) (k : Nat) : Nat := 0x100020 + 0x1000 * p + 0x8 * k
/-- PORT_p_SKETCH_k: sketch source (R132). -/
def Reg.PORT_SKETCH (p : Nat) (k : Nat) : Nat := 0x100024 + 0x1000 * p + 0x8 * k
/-- PORT_p_ERR_ECC: header ECC counts (R132). -/
def Reg.PORT_ERR_ECC (p : Nat) : Nat := 0x100040 + 0x1000 * p
/-- PORT_p_ERR_CRC: payload check counts (R132). -/
def Reg.PORT_ERR_CRC (p : Nat) : Nat := 0x100044 + 0x1000 * p
/-- PORT_p_ERR_LINE: line and frame counts (R132). -/
def Reg.PORT_ERR_LINE (p : Nat) : Nat := 0x100048 + 0x1000 * p
/-- PORT_p_ERR_MISC: other losses (R132). -/
def Reg.PORT_ERR_MISC (p : Nat) : Nat := 0x10004C + 0x1000 * p
/-- PORT_p_RETX: retransmissions (R132). -/
def Reg.PORT_RETX (p : Nat) : Nat := 0x100050 + 0x1000 * p
/-- PORT_p_FSTAT: frame state per map entry (R132). -/
def Reg.PORT_FSTAT (p : Nat) : Nat := 0x100060 + 0x1000 * p
/-- PORT_p_GAPA_k: sensor counters at the last gap (R132). -/
def Reg.PORT_GAPA (p : Nat) (k : Nat) : Nat := 0x100080 + 0x1000 * p + 0x8 * k
/-- PORT_p_GAPB_k: frame number at the last gap (R132). -/
def Reg.PORT_GAPB (p : Nat) (k : Nat) : Nat := 0x100084 + 0x1000 * p + 0x8 * k
/-- SC_p_CFG: channel configuration (R161). -/
def Reg.SC_CFG (p : Nat) : Nat := 0x120000 + 0x100 * p
/-- SC_p_STAT: channel status (R161). -/
def Reg.SC_STAT (p : Nat) : Nat := 0x120004 + 0x100 * p
/-- SC_p_XFER: mailbox transfer, outside write windows (R161). -/
def Reg.SC_XFER (p : Nat) : Nat := 0x120008 + 0x100 * p
/-- SC_p_XDATA: mailbox data (R161). -/
def Reg.SC_XDATA (p : Nat) : Nat := 0x12000C + 0x100 * p
/-- SC_p_TGT_k: target (R161). -/
def Reg.SC_TGT (p : Nat) (k : Nat) : Nat := 0x120010 + 0x100 * p + 0x4 * k
/-- STRM_s_CFG: stream configuration (R195). -/
def Reg.STRM_CFG (s : Nat) : Nat := 0x200000 + 0x2000 * s
/-- STRM_s_GEOM: active geometry (R195). -/
def Reg.STRM_GEOM (s : Nat) : Nat := 0x200004 + 0x2000 * s
/-- STRM_s_BUDGET: latency budget (R195). -/
def Reg.STRM_BUDGET (s : Nat) : Nat := 0x200008 + 0x2000 * s
/-- STRM_s_TIN: frame-in time (R195). -/
def Reg.STRM_TIN (s : Nat) : Nat := 0x20000C + 0x2000 * s
/-- STRM_s_FRAME: frame number (R195). -/
def Reg.STRM_FRAME (s : Nat) : Nat := 0x200010 + 0x2000 * s
/-- STRM_s_STAT: placement state (R195). -/
def Reg.STRM_STAT (s : Nat) : Nat := 0x200014 + 0x2000 * s
/-- STRM_s_PLACE: placement result (R195). -/
def Reg.STRM_PLACE (s : Nat) : Nat := 0x200018 + 0x2000 * s
/-- STRM_s_DROP: degradation counts (R195). -/
def Reg.STRM_DROP (s : Nat) : Nat := 0x20001C + 0x2000 * s
/-- STRM_s_VIEW_v_CFG: view (R195). -/
def Reg.STRM_VIEW_CFG (s : Nat) (v : Nat) : Nat := 0x200100 + 0x2000 * s + 0x20 * v
/-- STRM_s_VIEW_v_FILL: fill value (R195). -/
def Reg.STRM_VIEW_FILL (s : Nat) (v : Nat) : Nat := 0x200104 + 0x2000 * s + 0x20 * v
/-- STRM_s_VIEW_v_CROP: crop origin (R195). -/
def Reg.STRM_VIEW_CROP (s : Nat) (v : Nat) : Nat := 0x200108 + 0x2000 * s + 0x20 * v
/-- STRM_s_VIEW_v_CSIZE: crop size (R195). -/
def Reg.STRM_VIEW_CSIZE (s : Nat) (v : Nat) : Nat := 0x20010C + 0x2000 * s + 0x20 * v
/-- STRM_s_VIEW_v_OSIZE: output size (R195). -/
def Reg.STRM_VIEW_OSIZE (s : Nat) (v : Nat) : Nat := 0x200110 + 0x2000 * s + 0x20 * v
/-- PLC_STAT: placement status (R196). -/
def Reg.PLC_STAT : Nat := 0x300000
/-- PLC_DIGEST: placement digest (R196). -/
def Reg.PLC_DIGEST : Nat := 0x300004
/-- PLC_REF: last refusal (R196). -/
def Reg.PLC_REF : Nat := 0x300008
/-- PLC_REF_NEED: refused demand (R196). -/
def Reg.PLC_REF_NEED : Nat := 0x30000C
/-- PLC_REF_HAVE: limit (R196). -/
def Reg.PLC_REF_HAVE : Nat := 0x300010
/-- PLC_ROT: rest rotation (R196). -/
def Reg.PLC_ROT : Nat := 0x300014
/-- PLC_EASEL_CTRL: easel command (R196). -/
def Reg.PLC_EASEL_CTRL : Nat := 0x300018
/-- PLC_CELLS: palette reservation (R196). -/
def Reg.PLC_CELLS : Nat := 0x30001C
/-- PLC_HL: host link demand (R196). -/
def Reg.PLC_HL : Nat := 0x300020
/-- PLC_EASEL_e_STAT: easel state (R196). -/
def Reg.PLC_EASEL_STAT (e : Nat) : Nat := 0x300100 + 0x10 * e
/-- PLC_EASEL_e_STROKES: stroke streams (R196). -/
def Reg.PLC_EASEL_STROKES (e : Nat) : Nat := 0x300104 + 0x10 * e
/-- EAS_e_STAT: easel contexts (R235). -/
def Reg.EAS_STAT (e : Nat) : Nat := 0x400000 + 0x10000 * e
/-- EAS_e_LINES: in-line lines (R235). -/
def Reg.EAS_LINES (e : Nat) : Nat := 0x400004 + 0x10000 * e
/-- EAS_e_STROKES: strokes (R235). -/
def Reg.EAS_STROKES (e : Nat) : Nat := 0x400008 + 0x10000 * e
/-- EAS_e_CTXLD: context loads (R235). -/
def Reg.EAS_CTXLD (e : Nat) : Nat := 0x40000C + 0x10000 * e
/-- EAS_e_WAIT: in-line waits (R235). -/
def Reg.EAS_WAIT (e : Nat) : Nat := 0x400010 + 0x10000 * e
/-- EAS_e_ECC: easel memory errors (R235). -/
def Reg.EAS_ECC (e : Nat) : Nat := 0x400014 + 0x10000 * e
/-- EAS_e_DPC: dynamic corrections (R235). -/
def Reg.EAS_DPC (e : Nat) : Nat := 0x400018 + 0x10000 * e
/-- EAS_TRL_CTRL: table reload control (R235). -/
def Reg.EAS_TRL_CTRL : Nat := 0x4C0000
/-- EAS_TRL_TARGET: reload target (R235). -/
def Reg.EAS_TRL_TARGET : Nat := 0x4C0004
/-- EAS_TRL_FRAME: target frame number (R235). -/
def Reg.EAS_TRL_FRAME : Nat := 0x4C0008
/-- EAS_TRL_EPOCH: expected epoch (R235). -/
def Reg.EAS_TRL_EPOCH : Nat := 0x4C000C
/-- EAS_TRL_LEN: payload length (R235). -/
def Reg.EAS_TRL_LEN : Nat := 0x4C0010
/-- EAS_TRL_STAT: reload status (R235). -/
def Reg.EAS_TRL_STAT : Nat := 0x4C0014
/-- EAS_n_TRL_BUF: reload payload (R235). -/
def Reg.EAS_TRL_BUF (n : Nat) : Nat := 0x4E0000 + 0x4 * n
/-- STAT_s_CFG: law enables and saturation (R271). -/
def Reg.STAT_CFG (s : Nat) : Nat := 0x500000 + 0x800 * s
/-- STAT_s_AE_CTRL: exposure law (R271). -/
def Reg.STAT_AE_CTRL (s : Nat) : Nat := 0x500004 + 0x800 * s
/-- STAT_s_AE_TMAX: exposure ceiling (R271). -/
def Reg.STAT_AE_TMAX (s : Nat) : Nat := 0x500008 + 0x800 * s
/-- STAT_s_AE_LIM: gain ceiling and exposure floor (R271). -/
def Reg.STAT_AE_LIM (s : Nat) : Nat := 0x50000C + 0x800 * s
/-- STAT_s_AE_CONV: conversion-mode thresholds (R271). -/
def Reg.STAT_AE_CONV (s : Nat) : Nat := 0x500010 + 0x800 * s
/-- STAT_s_AE_RATIO_A: exposure ratios 1 and 2 (R271). -/
def Reg.STAT_AE_RATIO_A (s : Nat) : Nat := 0x500014 + 0x800 * s
/-- STAT_s_AE_RATIO_B: exposure ratio 3 (R271). -/
def Reg.STAT_AE_RATIO_B (s : Nat) : Nat := 0x500018 + 0x800 * s
/-- STAT_s_AWB_CTRL: white-balance law (R271). -/
def Reg.STAT_AWB_CTRL (s : Nat) : Nat := 0x50001C + 0x800 * s
/-- STAT_s_AWB_LUM: zone luminance window (R271). -/
def Reg.STAT_AWB_LUM (s : Nat) : Nat := 0x500020 + 0x800 * s
/-- STAT_s_AWB_BOX: grey box (R271). -/
def Reg.STAT_AWB_BOX (s : Nat) : Nat := 0x500024 + 0x800 * s
/-- STAT_s_AWB_GAIN: gain limits (R271). -/
def Reg.STAT_AWB_GAIN (s : Nat) : Nat := 0x500028 + 0x800 * s
/-- STAT_s_LSC_Q: mesh blend range (R271). -/
def Reg.STAT_LSC_Q (s : Nat) : Nat := 0x50002C + 0x800 * s
/-- STAT_s_TONE: tone parameters (R271). -/
def Reg.STAT_TONE (s : Nat) : Nat := 0x500030 + 0x800 * s
/-- STAT_s_LCE: grid gain limits (R271). -/
def Reg.STAT_LCE (s : Nat) : Nat := 0x500034 + 0x800 * s
/-- STAT_s_FLK: flicker avoidance (R271). -/
def Reg.STAT_FLK (s : Nat) : Nat := 0x500038 + 0x800 * s
/-- STAT_s_LCE_T: grid target (R271). -/
def Reg.STAT_LCE_T (s : Nat) : Nat := 0x50003C + 0x800 * s
/-- STAT_s_AE_STAT: last exposure decision (R271). -/
def Reg.STAT_AE_STAT (s : Nat) : Nat := 0x500040 + 0x800 * s
/-- STAT_s_FLK_STAT: flicker state (R271). -/
def Reg.STAT_FLK_STAT (s : Nat) : Nat := 0x500044 + 0x800 * s
/-- STAT_s_CNT: block counts (R271). -/
def Reg.STAT_CNT (s : Nat) : Nat := 0x500048 + 0x800 * s
/-- STAT_s_AE_W_n: metering weights (R271). -/
def Reg.STAT_AE_W (s : Nat) (n : Nat) : Nat := 0x500080 + 0x800 * s + 0x4 * n
/-- STAT_s_RES_HEAD: result head (R271). -/
def Reg.STAT_RES_HEAD (s : Nat) : Nat := 0x500200 + 0x800 * s
/-- STAT_s_RES_n: result data (R271). -/
def Reg.STAT_RES (s : Nat) (n : Nat) : Nat := 0x500204 + 0x800 * s + 0x4 * n
/-- LDG_s_CNT: ledger counts (R272). -/
def Reg.LDG_CNT (s : Nat) : Nat := 0x510000 + 0x2000 * s
/-- LDG_s_CMD_CTRL: host command (R272). -/
def Reg.LDG_CMD_CTRL (s : Nat) : Nat := 0x510004 + 0x2000 * s
/-- LDG_s_CMD_FRAME: command target (R272). -/
def Reg.LDG_CMD_FRAME (s : Nat) : Nat := 0x510008 + 0x2000 * s
/-- LDG_s_CMD_MASK: command fields (R272). -/
def Reg.LDG_CMD_MASK (s : Nat) : Nat := 0x51000C + 0x2000 * s
/-- LDG_s_CMD_n: command values (R272). -/
def Reg.LDG_CMD (s : Nat) (n : Nat) : Nat := 0x510010 + 0x2000 * s + 0x4 * n
/-- LDG_s_CMD_APPLY: applied frame (R272). -/
def Reg.LDG_CMD_APPLY (s : Nat) : Nat := 0x510040 + 0x2000 * s
/-- LDG_s_E_i_n: ledger ring (R272). -/
def Reg.LDG_E (s : Nat) (i : Nat) (n : Nat) : Nat := 0x511000 + 0x2000 * s + 0x40 * i + 0x4 * n
/-- PAL_CELLS: cell counts (R298). -/
def Reg.PAL_CELLS : Nat := 0x600000
/-- PAL_ECC: error counts (R298). -/
def Reg.PAL_ECC : Nat := 0x600004
/-- PAL_ERR: first uncorrected error (R298). -/
def Reg.PAL_ERR : Nat := 0x600008
/-- PAL_ERR_OWN: owner of the recorded error (R298). -/
def Reg.PAL_ERR_OWN : Nat := 0x60000C
/-- PAL_SCRUB_CTRL: scrubber control (R298). -/
def Reg.PAL_SCRUB_CTRL : Nat := 0x600010
/-- PAL_SCRUB_STAT: scrubber status (R298). -/
def Reg.PAL_SCRUB_STAT : Nat := 0x600014
/-- PAL_QUOTA: line-store denials (R298). -/
def Reg.PAL_QUOTA : Nat := 0x600018
/-- PAL_GROUP_g: bank group state (R298). -/
def Reg.PAL_GROUP (g : Nat) : Nat := 0x600100 + 0x4 * g
/-- QUE_POOL: cell pool (R299). -/
def Reg.QUE_POOL : Nat := 0x610000
/-- QUE_ERR: last forced reset (R299). -/
def Reg.QUE_ERR : Nat := 0x610004
/-- QUE_FC_n_CFG: flow-control pin (R299). -/
def Reg.QUE_FC_CFG (n : Nat) : Nat := 0x610100 + 0x20 * n
/-- QUE_FC_n_MASK_k: pin mask (R299). -/
def Reg.QUE_FC_MASK (n : Nat) (k : Nat) : Nat := 0x610104 + 0x20 * n + 0x4 * k
/-- QUE_FC_n_STAT: pin status (R299). -/
def Reg.QUE_FC_STAT (n : Nat) : Nat := 0x610110 + 0x20 * n
/-- QUE_q_CFG: queue configuration (R299). -/
def Reg.QUE_CFG (q : Nat) : Nat := 0x620000 + 0x40 * q
/-- QUE_q_WMH: high mark (R299). -/
def Reg.QUE_WMH (q : Nat) : Nat := 0x620004 + 0x40 * q
/-- QUE_q_WML: low mark (R299). -/
def Reg.QUE_WML (q : Nat) : Nat := 0x620008 + 0x40 * q
/-- QUE_q_LEVEL: level (R299). -/
def Reg.QUE_LEVEL (q : Nat) : Nat := 0x62000C + 0x40 * q
/-- QUE_q_LOST: lost items (R299). -/
def Reg.QUE_LOST (q : Nat) : Nat := 0x620010 + 0x40 * q
/-- QUE_q_STAT: queue errors (R299). -/
def Reg.QUE_STAT (q : Nat) : Nat := 0x620014 + 0x40 * q
/-- QUE_q_PUSH: push (R299). -/
def Reg.QUE_PUSH (q : Nat) : Nat := 0x620018 + 0x40 * q
/-- QUE_q_CTRL: queue control (R299). -/
def Reg.QUE_CTRL (q : Nat) : Nat := 0x62001C + 0x40 * q
/-- QUE_q_POP: pop, 64-bit (R299). -/
def Reg.QUE_POP (q : Nat) : Nat := 0x620020 + 0x40 * q
/-- QUE_q_POPS: pop count (R299). -/
def Reg.QUE_POPS (q : Nat) : Nat := 0x620028 + 0x40 * q
/-- TXE_c_CFG: channel configuration (R358). -/
def Reg.TXE_CFG (c : Nat) : Nat := 0x700000 + 0x100 * c
/-- TXE_c_RING: descriptor ring, 64-bit (R358). -/
def Reg.TXE_RING (c : Nat) : Nat := 0x700008 + 0x100 * c
/-- TXE_c_DB: doorbell (R358). -/
def Reg.TXE_DB (c : Nat) : Nat := 0x700010 + 0x100 * c
/-- TXE_c_CTRL: channel control (R358). -/
def Reg.TXE_CTRL (c : Nat) : Nat := 0x700014 + 0x100 * c
/-- TXE_c_STAT: channel state (R358). -/
def Reg.TXE_STAT (c : Nat) : Nat := 0x700018 + 0x100 * c
/-- TXE_c_NEXT: descriptors consumed (R358). -/
def Reg.TXE_NEXT (c : Nat) : Nat := 0x70001C + 0x100 * c
/-- TXE_c_CUR_SRC: current source, 64-bit (R358). -/
def Reg.TXE_CUR_SRC (c : Nat) : Nat := 0x700020 + 0x100 * c
/-- TXE_c_CUR_DST: current destination, 64-bit (R358). -/
def Reg.TXE_CUR_DST (c : Nat) : Nat := 0x700028 + 0x100 * c
/-- TXE_c_REMAIN: bytes remaining (R358). -/
def Reg.TXE_REMAIN (c : Nat) : Nat := 0x700030 + 0x100 * c
/-- TXE_c_CRC: saved running value (R358). -/
def Reg.TXE_CRC (c : Nat) : Nat := 0x700034 + 0x100 * c
/-- TXE_c_CNT: channel counts (R358). -/
def Reg.TXE_CNT (c : Nat) : Nat := 0x700038 + 0x100 * c
/-- TXE_ARB: arbitration (R358). -/
def Reg.TXE_ARB : Nat := 0x708000
/-- TXE_BUF: buffer occupancy (R358). -/
def Reg.TXE_BUF : Nat := 0x708004
/-- OUT_r_BASE: descriptor array, 64-bit (R339). -/
def Reg.OUT_BASE (r : Nat) : Nat := 0x800000 + 0x40 * r
/-- OUT_r_CFG: ring configuration (R339). -/
def Reg.OUT_CFG (r : Nat) : Nat := 0x800008 + 0x40 * r
/-- OUT_r_DB: doorbell (R339). -/
def Reg.OUT_DB (r : Nat) : Nat := 0x80000C + 0x40 * r
/-- OUT_r_NEXT: oldest unpublished frame (R339). -/
def Reg.OUT_NEXT (r : Nat) : Nat := 0x800010 + 0x40 * r
/-- OUT_r_STAT: ring state (R339). -/
def Reg.OUT_STAT (r : Nat) : Nat := 0x800014 + 0x40 * r
/-- OUT_r_PUB: last published (R339). -/
def Reg.OUT_PUB (r : Nat) : Nat := 0x800018 + 0x40 * r
/-- OUT_r_CNT: ring outcomes (R339). -/
def Reg.OUT_CNT (r : Nat) : Nat := 0x80001C + 0x40 * r
/-- OUT_r_LOSS: further outcomes (R339). -/
def Reg.OUT_LOSS (r : Nat) : Nat := 0x800020 + 0x40 * r
/-- OUT_FAULT_MBOX: IOMMU fault mailbox, 64-bit (R339). -/
def Reg.OUT_FAULT_MBOX : Nat := 0x808000
/-- OUT_FAULT_STAT: last fault match (R339). -/
def Reg.OUT_FAULT_STAT : Nat := 0x808008
/-- OUT_FAULT_FRAME: frame of the last match (R339). -/
def Reg.OUT_FAULT_FRAME : Nat := 0x80800C
/-- HL_CFG: link configuration (R338). -/
def Reg.HL_CFG : Nat := 0x900000
/-- HL_STAT: link status (R338). -/
def Reg.HL_STAT : Nat := 0x900004
/-- HL_BUDGET: output budgets (R338). -/
def Reg.HL_BUDGET : Nat := 0x900008
/-- HL_DROPSET: streams dropped for budget (R338). -/
def Reg.HL_DROPSET : Nat := 0x90000C
/-- HL_TAGS: outstanding reads (R338). -/
def Reg.HL_TAGS : Nat := 0x900010
/-- HL_ERR: link error counts (R338). -/
def Reg.HL_ERR : Nat := 0x900014
/-- HL_FN: function states (R338). -/
def Reg.HL_FN : Nat := 0x900018
/-- CSO_n_CFG: transmit port (R340). -/
def Reg.CSO_CFG (n : Nat) : Nat := 0xA00000 + 0x100 * n
/-- CSO_n_STAT: transmit status (R340). -/
def Reg.CSO_STAT (n : Nat) : Nat := 0xA00004 + 0x100 * n
/-- CSO_MAP_m: transmit map entry (R340). -/
def Reg.CSO_MAP (m : Nat) : Nat := 0xA10000 + 0x4 * m

/-! Fields of the 32-bit registers, as the register tables give their bits. -/

def Fld.GLB_ID_vendor : Fld := ⟨Reg.GLB_ID, 31, 16⟩
def Fld.GLB_ID_part : Fld := ⟨Reg.GLB_ID, 15, 0⟩
def Fld.GLB_REV_rom : Fld := ⟨Reg.GLB_REV, 23, 16⟩
def Fld.GLB_REV_fmt_major : Fld := ⟨Reg.GLB_REV, 11, 8⟩
def Fld.GLB_REV_step_letter : Fld := ⟨Reg.GLB_REV, 7, 4⟩
def Fld.GLB_REV_step_number : Fld := ⟨Reg.GLB_REV, 3, 0⟩
def Fld.GLB_CAPS_streams : Fld := ⟨Reg.GLB_CAPS, 29, 24⟩
def Fld.GLB_CAPS_ports : Fld := ⟨Reg.GLB_CAPS, 20, 16⟩
def Fld.GLB_CAPS_easels : Fld := ⟨Reg.GLB_CAPS, 11, 8⟩
def Fld.GLB_CAPS_lanes : Fld := ⟨Reg.GLB_CAPS, 3, 0⟩
def Fld.GLB_SELF_requester : Fld := ⟨Reg.GLB_SELF, 20, 16⟩
def Fld.GLB_SELF_domain : Fld := ⟨Reg.GLB_SELF, 11, 8⟩
def Fld.GLB_SELF_holder : Fld := ⟨Reg.GLB_SELF, 0, 0⟩
def Fld.GLB_TAG_tag : Fld := ⟨Reg.GLB_TAG, 31, 0⟩
def Fld.GLB_SCRATCH_data : Fld := ⟨Reg.GLB_SCRATCH, 31, 0⟩
def Fld.GLB_OFFWR_count : Fld := ⟨Reg.GLB_OFFWR, 31, 16⟩
def Fld.GLB_OFFWR_domain : Fld := ⟨Reg.GLB_OFFWR, 7, 0⟩
def Fld.PM_STATE_supw : Fld := ⟨Reg.PM_STATE, 8, 8⟩
def Fld.PM_STATE_state : Fld := ⟨Reg.PM_STATE, 2, 0⟩
def Fld.PM_CTRL_cmd : Fld := ⟨Reg.PM_CTRL, 1, 0⟩
def Fld.PM_REFUSE_valid : Fld := ⟨Reg.PM_REFUSE, 31, 31⟩
def Fld.PM_REFUSE_reason : Fld := ⟨Reg.PM_REFUSE, 23, 16⟩
def Fld.PM_REFUSE_requester : Fld := ⟨Reg.PM_REFUSE, 11, 8⟩
def Fld.PM_REFUSE_domain : Fld := ⟨Reg.PM_REFUSE, 7, 0⟩
def Fld.PM_AVS_CTRL_address : Fld := ⟨Reg.PM_AVS_CTRL, 30, 24⟩
def Fld.PM_AVS_CTRL_vmax : Fld := ⟨Reg.PM_AVS_CTRL, 23, 16⟩
def Fld.PM_AVS_CTRL_vmin : Fld := ⟨Reg.PM_AVS_CTRL, 15, 8⟩
def Fld.PM_AVS_CTRL_enable : Fld := ⟨Reg.PM_AVS_CTRL, 0, 0⟩
def Fld.PM_AVS_STAT_at_vmax : Fld := ⟨Reg.PM_AVS_STAT, 25, 25⟩
def Fld.PM_AVS_STAT_bus_fail : Fld := ⟨Reg.PM_AVS_STAT, 24, 24⟩
def Fld.PM_AVS_STAT_margin : Fld := ⟨Reg.PM_AVS_STAT, 23, 16⟩
def Fld.PM_AVS_STAT_code : Fld := ⟨Reg.PM_AVS_STAT, 7, 0⟩
def Fld.PM_DCTRL_sb_keep (n : Nat) : Fld := ⟨Reg.PM_DCTRL n, 2, 2⟩
def Fld.PM_DCTRL_hold_off (n : Nat) : Fld := ⟨Reg.PM_DCTRL n, 1, 1⟩
def Fld.PM_DCTRL_hold_on (n : Nat) : Fld := ⟨Reg.PM_DCTRL n, 0, 0⟩
def Fld.PM_DSTAT_wakes (n : Nat) : Fld := ⟨Reg.PM_DSTAT n, 31, 16⟩
def Fld.PM_DSTAT_last_reason (n : Nat) : Fld := ⟨Reg.PM_DSTAT n, 15, 8⟩
def Fld.PM_DSTAT_live (n : Nat) : Fld := ⟨Reg.PM_DSTAT n, 4, 4⟩
def Fld.PM_DSTAT_bist (n : Nat) : Fld := ⟨Reg.PM_DSTAT n, 3, 3⟩
def Fld.PM_DSTAT_state (n : Nat) : Fld := ⟨Reg.PM_DSTAT n, 2, 0⟩
def Fld.CK_SRC_warm_on_rc : Fld := ⟨Reg.CK_SRC, 4, 4⟩
def Fld.CK_SRC_xtal32k_ok : Fld := ⟨Reg.CK_SRC, 3, 3⟩
def Fld.CK_SRC_ref_ok : Fld := ⟨Reg.CK_SRC, 2, 2⟩
def Fld.CK_SRC_pcie_sris : Fld := ⟨Reg.CK_SRC, 1, 1⟩
def Fld.CK_SRC_ref_external : Fld := ⟨Reg.CK_SRC, 0, 0⟩
def Fld.CK_PLL_last_lock (n : Nat) : Fld := ⟨Reg.CK_PLL n, 23, 16⟩
def Fld.CK_PLL_unlocks (n : Nat) : Fld := ⟨Reg.CK_PLL n, 15, 8⟩
def Fld.CK_PLL_locked (n : Nat) : Fld := ⟨Reg.CK_PLL n, 1, 1⟩
def Fld.CK_PLL_running (n : Nat) : Fld := ⟨Reg.CK_PLL n, 0, 0⟩
def Fld.BOOT_STATUS_reason : Fld := ⟨Reg.BOOT_STATUS, 31, 24⟩
def Fld.BOOT_STATUS_xspi_mode : Fld := ⟨Reg.BOOT_STATUS, 17, 16⟩
def Fld.BOOT_STATUS_slot : Fld := ⟨Reg.BOOT_STATUS, 9, 8⟩
def Fld.BOOT_STATUS_result : Fld := ⟨Reg.BOOT_STATUS, 5, 4⟩
def Fld.BOOT_STATUS_phase : Fld := ⟨Reg.BOOT_STATUS, 3, 0⟩
def Fld.BOOT_RST_CAUSE_link : Fld := ⟨Reg.BOOT_RST_CAUSE, 4, 4⟩
def Fld.BOOT_RST_CAUSE_sw : Fld := ⟨Reg.BOOT_RST_CAUSE, 3, 3⟩
def Fld.BOOT_RST_CAUSE_island : Fld := ⟨Reg.BOOT_RST_CAUSE, 2, 2⟩
def Fld.BOOT_RST_CAUSE_clk : Fld := ⟨Reg.BOOT_RST_CAUSE, 1, 1⟩
def Fld.BOOT_RST_CAUSE_por : Fld := ⟨Reg.BOOT_RST_CAUSE, 0, 0⟩
def Fld.BOOT_CMD_key : Fld := ⟨Reg.BOOT_CMD, 31, 16⟩
def Fld.BOOT_CMD_op : Fld := ⟨Reg.BOOT_CMD, 3, 0⟩
def Fld.BOOT_IMAGE_image_version : Fld := ⟨Reg.BOOT_IMAGE, 31, 0⟩
def Fld.BOOT_EPOCH_BASE_epoch_base : Fld := ⟨Reg.BOOT_EPOCH_BASE, 31, 0⟩
def Fld.BOOT_SEC_cmd_reason : Fld := ⟨Reg.BOOT_SEC, 31, 24⟩
def Fld.BOOT_SEC_floor : Fld := ⟨Reg.BOOT_SEC, 23, 16⟩
def Fld.BOOT_SEC_sec_version : Fld := ⟨Reg.BOOT_SEC, 15, 8⟩
def Fld.BOOT_SEC_revoked : Fld := ⟨Reg.BOOT_SEC, 5, 2⟩
def Fld.BOOT_SEC_key_id : Fld := ⟨Reg.BOOT_SEC, 1, 0⟩
def Fld.BOOT_DIGEST_digest (n : Nat) : Fld := ⟨Reg.BOOT_DIGEST n, 31, 0⟩
def Fld.BOOT_SLOT_reason (n : Nat) : Fld := ⟨Reg.BOOT_SLOT n, 31, 24⟩
def Fld.BOOT_SLOT_sec_version (n : Nat) : Fld := ⟨Reg.BOOT_SLOT n, 23, 16⟩
def Fld.BOOT_SLOT_loaded (n : Nat) : Fld := ⟨Reg.BOOT_SLOT n, 1, 1⟩
def Fld.BOOT_SLOT_candidate (n : Nat) : Fld := ⟨Reg.BOOT_SLOT n, 0, 0⟩
def Fld.BOOT_CMT_CTRL_owner : Fld := ⟨Reg.BOOT_CMT_CTRL, 11, 8⟩
def Fld.BOOT_CMT_CTRL_cmd : Fld := ⟨Reg.BOOT_CMT_CTRL, 1, 0⟩
def Fld.BOOT_CMT_TARGET_has_target : Fld := ⟨Reg.BOOT_CMT_TARGET, 31, 31⟩
def Fld.BOOT_CMT_TARGET_stream : Fld := ⟨Reg.BOOT_CMT_TARGET, 4, 0⟩
def Fld.BOOT_CMT_FRAME_frame : Fld := ⟨Reg.BOOT_CMT_FRAME, 31, 0⟩
def Fld.BOOT_CMT_EPOCH_epoch : Fld := ⟨Reg.BOOT_CMT_EPOCH, 31, 0⟩
def Fld.BOOT_CMT_STAT_reason : Fld := ⟨Reg.BOOT_CMT_STAT, 31, 24⟩
def Fld.BOOT_CMT_STAT_count : Fld := ⟨Reg.BOOT_CMT_STAT, 11, 2⟩
def Fld.BOOT_CMT_STAT_state : Fld := ⟨Reg.BOOT_CMT_STAT, 1, 0⟩
def Fld.BOOT_NOR_ADDR_addr : Fld := ⟨Reg.BOOT_NOR_ADDR, 31, 0⟩
def Fld.BOOT_NOR_CTRL_reason : Fld := ⟨Reg.BOOT_NOR_CTRL, 31, 24⟩
def Fld.BOOT_NOR_CTRL_busy : Fld := ⟨Reg.BOOT_NOR_CTRL, 2, 2⟩
def Fld.BOOT_NOR_CTRL_op : Fld := ⟨Reg.BOOT_NOR_CTRL, 1, 0⟩
def Fld.BOOT_CMT_DATA_word (n : Nat) : Fld := ⟨Reg.BOOT_CMT_DATA n, 31, 0⟩
def Fld.BOOT_NOR_BUF_data (n : Nat) : Fld := ⟨Reg.BOOT_NOR_BUF n, 31, 0⟩
def Fld.EVT_MSI_DROP_count : Fld := ⟨Reg.EVT_MSI_DROP, 31, 0⟩
def Fld.EVT_CNT_CLR_all : Fld := ⟨Reg.EVT_CNT_CLR, 31, 31⟩
def Fld.EVT_CNT_CLR_source : Fld := ⟨Reg.EVT_CNT_CLR, 10, 0⟩
def Fld.EVT_SUM_words (n : Nat) : Fld := ⟨Reg.EVT_SUM n, 31, 0⟩
def Fld.EVT_MOD_interval (k : Nat) : Fld := ⟨Reg.EVT_MOD k, 15, 0⟩
def Fld.EVT_STAT_status (n : Nat) : Fld := ⟨Reg.EVT_STAT n, 31, 0⟩
def Fld.EVT_EN_enable (n : Nat) : Fld := ⟨Reg.EVT_EN n, 31, 0⟩
def Fld.EVT_ROUTE_kind (i : Nat) : Fld := ⟨Reg.EVT_ROUTE i, 31, 30⟩
def Fld.EVT_ROUTE_mod (i : Nat) : Fld := ⟨Reg.EVT_ROUTE i, 29, 27⟩
def Fld.EVT_ROUTE_fn (i : Nat) : Fld := ⟨Reg.EVT_ROUTE i, 23, 20⟩
def Fld.EVT_ROUTE_pin (i : Nat) : Fld := ⟨Reg.EVT_ROUTE i, 17, 16⟩
def Fld.EVT_ROUTE_vector (i : Nat) : Fld := ⟨Reg.EVT_ROUTE i, 10, 0⟩
def Fld.EVT_CNT_count (i : Nat) : Fld := ⟨Reg.EVT_CNT i, 15, 0⟩
def Fld.GRD_STAT_generation : Fld := ⟨Reg.GRD_STAT, 31, 16⟩
def Fld.GRD_STAT_waiting : Fld := ⟨Reg.GRD_STAT, 15, 15⟩
def Fld.GRD_STAT_dirty : Fld := ⟨Reg.GRD_STAT, 14, 14⟩
def Fld.GRD_STAT_holder : Fld := ⟨Reg.GRD_STAT, 4, 0⟩
def Fld.GRD_CTRL_reason : Fld := ⟨Reg.GRD_CTRL, 31, 16⟩
def Fld.GRD_CTRL_discard : Fld := ⟨Reg.GRD_CTRL, 1, 1⟩
def Fld.GRD_CTRL_apply : Fld := ⟨Reg.GRD_CTRL, 0, 0⟩
def Fld.GRD_LOG_CNT_total : Fld := ⟨Reg.GRD_LOG_CNT, 31, 5⟩
def Fld.GRD_LOG_CNT_next : Fld := ⟨Reg.GRD_LOG_CNT, 4, 0⟩
def Fld.GRD_REQ_enable (r : Nat) : Fld := ⟨Reg.GRD_REQ r, 31, 31⟩
def Fld.GRD_REQ_domain (r : Nat) : Fld := ⟨Reg.GRD_REQ r, 3, 0⟩
def Fld.GRD_WIN_read (w : Nat) : Fld := ⟨Reg.GRD_WIN w, 31, 16⟩
def Fld.GRD_WIN_write (w : Nat) : Fld := ⟨Reg.GRD_WIN w, 15, 0⟩
def Fld.GRD_STRM_read (s : Nat) : Fld := ⟨Reg.GRD_STRM s, 31, 16⟩
def Fld.GRD_STRM_write (s : Nat) : Fld := ⟨Reg.GRD_STRM s, 15, 0⟩
def Fld.GRD_QUE_read (q : Nat) : Fld := ⟨Reg.GRD_QUE q, 31, 16⟩
def Fld.GRD_QUE_write (q : Nat) : Fld := ⟨Reg.GRD_QUE q, 15, 0⟩
def Fld.GRD_TXE_read (c : Nat) : Fld := ⟨Reg.GRD_TXE c, 31, 16⟩
def Fld.GRD_TXE_write (c : Nat) : Fld := ⟨Reg.GRD_TXE c, 15, 0⟩
def Fld.GRD_GRP_read (g : Nat) : Fld := ⟨Reg.GRD_GRP g, 31, 16⟩
def Fld.GRD_GRP_write (g : Nat) : Fld := ⟨Reg.GRD_GRP g, 15, 0⟩
def Fld.GRD_CHK_read (n : Nat) : Fld := ⟨Reg.GRD_CHK n, 31, 16⟩
def Fld.GRD_CHK_write (n : Nat) : Fld := ⟨Reg.GRD_CHK n, 15, 0⟩
def Fld.GRD_VEC_route (b : Nat) : Fld := ⟨Reg.GRD_VEC b, 15, 0⟩
def Fld.GRD_LOG_INFO_valid (n : Nat) : Fld := ⟨Reg.GRD_LOG_INFO n, 31, 31⟩
def Fld.GRD_LOG_INFO_write (n : Nat) : Fld := ⟨Reg.GRD_LOG_INFO n, 30, 30⟩
def Fld.GRD_LOG_INFO_bar (n : Nat) : Fld := ⟨Reg.GRD_LOG_INFO n, 29, 29⟩
def Fld.GRD_LOG_INFO_requester (n : Nat) : Fld := ⟨Reg.GRD_LOG_INFO n, 28, 24⟩
def Fld.GRD_LOG_INFO_domain (n : Nat) : Fld := ⟨Reg.GRD_LOG_INFO n, 23, 20⟩
def Fld.GRD_LOG_INFO_reason (n : Nat) : Fld := ⟨Reg.GRD_LOG_INFO n, 15, 0⟩
def Fld.GRD_LOG_ADDR_offset (n : Nat) : Fld := ⟨Reg.GRD_LOG_ADDR n, 26, 0⟩
def Fld.GRD_LOG_GEN_generation (n : Nat) : Fld := ⟨Reg.GRD_LOG_GEN n, 15, 0⟩
def Fld.CEN_CTRL_repair_dom : Fld := ⟨Reg.CEN_CTRL, 31, 31⟩
def Fld.CEN_CTRL_repair_tab : Fld := ⟨Reg.CEN_CTRL, 30, 30⟩
def Fld.CEN_CTRL_repair_sens : Fld := ⟨Reg.CEN_CTRL, 29, 29⟩
def Fld.CEN_CTRL_peer_check : Fld := ⟨Reg.CEN_CTRL, 28, 28⟩
def Fld.CEN_STAT_passes : Fld := ⟨Reg.CEN_STAT, 31, 16⟩
def Fld.CEN_STAT_pending : Fld := ⟨Reg.CEN_STAT, 15, 15⟩
def Fld.CEN_STAT_peer_diff : Fld := ⟨Reg.CEN_STAT, 14, 14⟩
def Fld.CEN_STAT_set_now : Fld := ⟨Reg.CEN_STAT, 7, 0⟩
def Fld.CEN_EPOCH_epoch : Fld := ⟨Reg.CEN_EPOCH, 31, 0⟩
def Fld.CEN_PUB_epoch : Fld := ⟨Reg.CEN_PUB, 31, 0⟩
def Fld.CEN_DIGEST_digest (n : Nat) : Fld := ⟨Reg.CEN_DIGEST n, 31, 0⟩
def Fld.CEN_MIS_valid : Fld := ⟨Reg.CEN_MIS, 31, 31⟩
def Fld.CEN_MIS_repaired : Fld := ⟨Reg.CEN_MIS, 30, 30⟩
def Fld.CEN_MIS_count : Fld := ⟨Reg.CEN_MIS, 23, 16⟩
def Fld.CEN_MIS_set : Fld := ⟨Reg.CEN_MIS, 7, 0⟩
def Fld.CEN_MIS_REG_offset : Fld := ⟨Reg.CEN_MIS_REG, 31, 0⟩
def Fld.CEN_PEER_EXP_EPOCH_epoch : Fld := ⟨Reg.CEN_PEER_EXP_EPOCH, 31, 0⟩
def Fld.CEN_PEER_EXP_digest (n : Nat) : Fld := ⟨Reg.CEN_PEER_EXP n, 31, 0⟩
def Fld.CEN_SET_GOLD_golden (m : Nat) : Fld := ⟨Reg.CEN_SET_GOLD m, 31, 0⟩
def Fld.CEN_SET_STAT_state (m : Nat) : Fld := ⟨Reg.CEN_SET_STAT m, 31, 30⟩
def Fld.CEN_SET_STAT_skipped (m : Nat) : Fld := ⟨Reg.CEN_SET_STAT m, 29, 29⟩
def Fld.CEN_SET_STAT_mismatches (m : Nat) : Fld := ⟨Reg.CEN_SET_STAT m, 15, 0⟩
def Fld.CHK_CTRL_start (n : Nat) : Fld := ⟨Reg.CHK_CTRL n, 31, 31⟩
def Fld.CHK_CTRL_close (n : Nat) : Fld := ⟨Reg.CHK_CTRL n, 30, 30⟩
def Fld.CHK_CTRL_scan (n : Nat) : Fld := ⟨Reg.CHK_CTRL n, 29, 29⟩
def Fld.CHK_CTRL_abort (n : Nat) : Fld := ⟨Reg.CHK_CTRL n, 28, 28⟩
def Fld.CHK_CTRL_port (n : Nat) : Fld := ⟨Reg.CHK_CTRL n, 23, 19⟩
def Fld.CHK_CTRL_alive_bits (n : Nat) : Fld := ⟨Reg.CHK_CTRL n, 17, 16⟩
def Fld.CHK_CTRL_cmp (n : Nat) : Fld := ⟨Reg.CHK_CTRL n, 12, 12⟩
def Fld.CHK_CTRL_feed_bytes (n : Nat) : Fld := ⟨Reg.CHK_CTRL n, 11, 10⟩
def Fld.CHK_CTRL_mode (n : Nat) : Fld := ⟨Reg.CHK_CTRL n, 9, 8⟩
def Fld.CHK_CTRL_poly (n : Nat) : Fld := ⟨Reg.CHK_CTRL n, 1, 0⟩
def Fld.CHK_RUN_value (n : Nat) : Fld := ⟨Reg.CHK_RUN n, 31, 0⟩
def Fld.CHK_FEED_data (n : Nat) : Fld := ⟨Reg.CHK_FEED n, 31, 0⟩
def Fld.CHK_RESULT_value (n : Nat) : Fld := ⟨Reg.CHK_RESULT n, 31, 0⟩
def Fld.CHK_EXPECT_value (n : Nat) : Fld := ⟨Reg.CHK_EXPECT n, 31, 0⟩
def Fld.CHK_ALIVE_value (n : Nat) : Fld := ⟨Reg.CHK_ALIVE n, 15, 0⟩
def Fld.CHK_ALIVE_STAT_losses (n : Nat) : Fld := ⟨Reg.CHK_ALIVE_STAT n, 31, 16⟩
def Fld.CHK_ALIVE_STAT_repeats (n : Nat) : Fld := ⟨Reg.CHK_ALIVE_STAT n, 15, 0⟩
def Fld.CHK_SCAN_START_start (n : Nat) : Fld := ⟨Reg.CHK_SCAN_START n, 31, 0⟩
def Fld.CHK_SCAN_LEN_space (n : Nat) : Fld := ⟨Reg.CHK_SCAN_LEN n, 31, 30⟩
def Fld.CHK_SCAN_LEN_length (n : Nat) : Fld := ⟨Reg.CHK_SCAN_LEN n, 26, 0⟩
def Fld.CHK_STAT_taken (n : Nat) : Fld := ⟨Reg.CHK_STAT n, 31, 31⟩
def Fld.CHK_STAT_taker (n : Nat) : Fld := ⟨Reg.CHK_STAT n, 30, 28⟩
def Fld.CHK_STAT_mismatch (n : Nat) : Fld := ⟨Reg.CHK_STAT n, 27, 27⟩
def Fld.CHK_STAT_done (n : Nat) : Fld := ⟨Reg.CHK_STAT n, 26, 26⟩
def Fld.CHK_STAT_scan_result (n : Nat) : Fld := ⟨Reg.CHK_STAT n, 23, 16⟩
def Fld.CHK_STAT_ecc (n : Nat) : Fld := ⟨Reg.CHK_STAT n, 15, 8⟩
def Fld.CHK_STAT_dropped (n : Nat) : Fld := ⟨Reg.CHK_STAT n, 7, 0⟩
def Fld.CHK_CTX_value (n : Nat) (k : Nat) : Fld := ⟨Reg.CHK_CTX n k, 31, 0⟩
def Fld.LIFE_CFG_age_warn : Fld := ⟨Reg.LIFE_CFG, 23, 16⟩
def Fld.LIFE_CFG_interval : Fld := ⟨Reg.LIFE_CFG, 15, 8⟩
def Fld.LIFE_STAT_cal_valid : Fld := ⟨Reg.LIFE_STAT, 31, 31⟩
def Fld.LIFE_STAT_restored : Fld := ⟨Reg.LIFE_STAT, 30, 30⟩
def Fld.LIFE_STAT_busy : Fld := ⟨Reg.LIFE_STAT, 29, 29⟩
def Fld.LIFE_STAT_stopped : Fld := ⟨Reg.LIFE_STAT, 28, 28⟩
def Fld.LIFE_STAT_last_kind : Fld := ⟨Reg.LIFE_STAT, 27, 24⟩
def Fld.LIFE_SEQ_seq : Fld := ⟨Reg.LIFE_SEQ, 31, 0⟩
def Fld.LIFE_NOR_failures : Fld := ⟨Reg.LIFE_NOR, 31, 24⟩
def Fld.LIFE_NOR_supw_late : Fld := ⟨Reg.LIFE_NOR, 23, 16⟩
def Fld.LIFE_NOR_bad : Fld := ⟨Reg.LIFE_NOR, 6, 0⟩
def Fld.LIFE_CORE_count (n : Nat) : Fld := ⟨Reg.LIFE_CORE n, 31, 0⟩
def Fld.LIFE_ITEM_value (i : Nat) : Fld := ⟨Reg.LIFE_ITEM i, 31, 0⟩
def Fld.TIME_CFG_gptp_domain : Fld := ⟨Reg.TIME_CFG, 31, 24⟩
def Fld.TIME_CFG_holdover : Fld := ⟨Reg.TIME_CFG, 23, 16⟩
def Fld.TIME_CFG_ptm_log : Fld := ⟨Reg.TIME_CFG, 11, 8⟩
def Fld.TIME_CFG_pps_check : Fld := ⟨Reg.TIME_CFG, 4, 4⟩
def Fld.TIME_CFG_source : Fld := ⟨Reg.TIME_CFG, 1, 0⟩
def Fld.TIME_STAT_steps : Fld := ⟨Reg.TIME_STAT, 31, 16⟩
def Fld.TIME_STAT_pps_ok : Fld := ⟨Reg.TIME_STAT, 3, 3⟩
def Fld.TIME_STAT_state : Fld := ⟨Reg.TIME_STAT, 2, 0⟩
def Fld.TIME_OFFSET_offset : Fld := ⟨Reg.TIME_OFFSET, 31, 0⟩
def Fld.TIME_PHY_rx_dly : Fld := ⟨Reg.TIME_PHY, 31, 16⟩
def Fld.TIME_PHY_tx_dly : Fld := ⟨Reg.TIME_PHY, 15, 0⟩
def Fld.SYNC_PERIOD_period (g : Nat) : Fld := ⟨Reg.SYNC_PERIOD g, 31, 0⟩
def Fld.SYNC_PHASE_phase (g : Nat) : Fld := ⟨Reg.SYNC_PHASE g, 31, 0⟩
def Fld.SYNC_CTRL_replans (g : Nat) : Fld := ⟨Reg.SYNC_CTRL g, 31, 16⟩
def Fld.SYNC_CTRL_run (g : Nat) : Fld := ⟨Reg.SYNC_CTRL g, 0, 0⟩
def Fld.SYNC_FSO_enable (n : Nat) : Fld := ⟨Reg.SYNC_FSO n, 31, 31⟩
def Fld.SYNC_FSO_group (n : Nat) : Fld := ⟨Reg.SYNC_FSO n, 26, 24⟩
def Fld.SYNC_FSO_width (n : Nat) : Fld := ⟨Reg.SYNC_FSO n, 23, 16⟩
def Fld.SYNC_FSO_offset (n : Nat) : Fld := ⟨Reg.SYNC_FSO n, 15, 0⟩
def Fld.SYNC_TUN_enable (p : Nat) : Fld := ⟨Reg.SYNC_TUN p, 31, 31⟩
def Fld.SYNC_TUN_low (p : Nat) : Fld := ⟨Reg.SYNC_TUN p, 30, 30⟩
def Fld.SYNC_TUN_line (p : Nat) : Fld := ⟨Reg.SYNC_TUN p, 29, 27⟩
def Fld.SYNC_TUN_group (p : Nat) : Fld := ⟨Reg.SYNC_TUN p, 26, 24⟩
def Fld.SYNC_TUN_width (p : Nat) : Fld := ⟨Reg.SYNC_TUN p, 23, 16⟩
def Fld.SYNC_TUN_offset (p : Nat) : Fld := ⟨Reg.SYNC_TUN p, 15, 0⟩
def Fld.SIG_CAN_CFG_enable (n : Nat) : Fld := ⟨Reg.SIG_CAN_CFG n, 31, 31⟩
def Fld.SIG_CAN_CFG_mode (n : Nat) : Fld := ⟨Reg.SIG_CAN_CFG n, 27, 26⟩
def Fld.SIG_CAN_CFG_listen (n : Nat) : Fld := ⟨Reg.SIG_CAN_CFG n, 25, 25⟩
def Fld.SIG_CAN_CFG_nrate (n : Nat) : Fld := ⟨Reg.SIG_CAN_CFG n, 23, 20⟩
def Fld.SIG_CAN_CFG_drate (n : Nat) : Fld := ⟨Reg.SIG_CAN_CFG n, 19, 16⟩
def Fld.SIG_CAN_CFG_pwm (n : Nat) : Fld := ⟨Reg.SIG_CAN_CFG n, 0, 0⟩
def Fld.SIG_CAN_STAT_state (n : Nat) : Fld := ⟨Reg.SIG_CAN_STAT n, 31, 30⟩
def Fld.SIG_CAN_STAT_busoffs (n : Nat) : Fld := ⟨Reg.SIG_CAN_STAT n, 23, 16⟩
def Fld.SIG_CAN_STAT_rec (n : Nat) : Fld := ⟨Reg.SIG_CAN_STAT n, 15, 8⟩
def Fld.SIG_CAN_STAT_tec (n : Nat) : Fld := ⟨Reg.SIG_CAN_STAT n, 7, 0⟩
def Fld.SIG_SPIT_STAT_crc_err : Fld := ⟨Reg.SIG_SPIT_STAT, 31, 24⟩
def Fld.SIG_SPIT_STAT_dropped : Fld := ⟨Reg.SIG_SPIT_STAT, 23, 16⟩
def Fld.SIG_SPIT_STAT_alive : Fld := ⟨Reg.SIG_SPIT_STAT, 15, 0⟩
def Fld.SIG_I2CT_CFG_enable : Fld := ⟨Reg.SIG_I2CT_CFG, 31, 31⟩
def Fld.SIG_I2CT_CFG_errors : Fld := ⟨Reg.SIG_I2CT_CFG, 23, 16⟩
def Fld.SIG_I2CT_CFG_fmp : Fld := ⟨Reg.SIG_I2CT_CFG, 8, 8⟩
def Fld.SIG_I2CT_CFG_addr : Fld := ⟨Reg.SIG_I2CT_CFG, 6, 0⟩
def Fld.SIG_GPIO_LVL_level : Fld := ⟨Reg.SIG_GPIO_LVL, 31, 0⟩
def Fld.SIG_GPIO_CFG_func (n : Nat) : Fld := ⟨Reg.SIG_GPIO_CFG n, 31, 30⟩
def Fld.SIG_GPIO_CFG_dir (n : Nat) : Fld := ⟨Reg.SIG_GPIO_CFG n, 29, 29⟩
def Fld.SIG_GPIO_CFG_out (n : Nat) : Fld := ⟨Reg.SIG_GPIO_CFG n, 28, 28⟩
def Fld.SIG_GPIO_CFG_edge (n : Nat) : Fld := ⟨Reg.SIG_GPIO_CFG n, 27, 26⟩
def Fld.SIG_GPIO_CFG_debounce (n : Nat) : Fld := ⟨Reg.SIG_GPIO_CFG n, 7, 0⟩
def Fld.SIG_GM_CFG_enable (n : Nat) : Fld := ⟨Reg.SIG_GM_CFG n, 31, 31⟩
def Fld.SIG_GM_CFG_speed (n : Nat) : Fld := ⟨Reg.SIG_GM_CFG n, 7, 4⟩
def Fld.SIG_GM_XFER_go (n : Nat) : Fld := ⟨Reg.SIG_GM_XFER n, 31, 31⟩
def Fld.SIG_GM_XFER_rd (n : Nat) : Fld := ⟨Reg.SIG_GM_XFER n, 30, 30⟩
def Fld.SIG_GM_XFER_result (n : Nat) : Fld := ⟨Reg.SIG_GM_XFER n, 29, 28⟩
def Fld.SIG_GM_XFER_width (n : Nat) : Fld := ⟨Reg.SIG_GM_XFER n, 27, 26⟩
def Fld.SIG_GM_XFER_reg2 (n : Nat) : Fld := ⟨Reg.SIG_GM_XFER n, 25, 25⟩
def Fld.SIG_GM_XFER_addr (n : Nat) : Fld := ⟨Reg.SIG_GM_XFER n, 23, 17⟩
def Fld.SIG_GM_XFER_reg (n : Nat) : Fld := ⟨Reg.SIG_GM_XFER n, 15, 0⟩
def Fld.SIG_GM_XDATA_data (n : Nat) : Fld := ⟨Reg.SIG_GM_XDATA n, 31, 0⟩
def Fld.SIG_MSG_ID_enable (m : Nat) : Fld := ⟨Reg.SIG_MSG_ID m, 31, 31⟩
def Fld.SIG_MSG_ID_ext (m : Nat) : Fld := ⟨Reg.SIG_MSG_ID m, 30, 30⟩
def Fld.SIG_MSG_ID_id (m : Nat) : Fld := ⟨Reg.SIG_MSG_ID m, 28, 0⟩
def Fld.SIG_MSG_CFG_kind (m : Nat) : Fld := ⟨Reg.SIG_MSG_CFG m, 31, 30⟩
def Fld.SIG_MSG_CFG_wake (m : Nat) : Fld := ⟨Reg.SIG_MSG_CFG m, 29, 29⟩
def Fld.SIG_MSG_CFG_q_en (m : Nat) : Fld := ⟨Reg.SIG_MSG_CFG m, 28, 28⟩
def Fld.SIG_MSG_CFG_ctrl (m : Nat) : Fld := ⟨Reg.SIG_MSG_CFG m, 27, 24⟩
def Fld.SIG_MSG_CFG_queue (m : Nat) : Fld := ⟨Reg.SIG_MSG_CFG m, 22, 16⟩
def Fld.SIG_MSG_CFG_min_len (m : Nat) : Fld := ⟨Reg.SIG_MSG_CFG m, 14, 8⟩
def Fld.SIG_MSG_CFG_timeout (m : Nat) : Fld := ⟨Reg.SIG_MSG_CFG m, 7, 0⟩
def Fld.SIG_TX_ID_enable (j : Nat) : Fld := ⟨Reg.SIG_TX_ID j, 31, 31⟩
def Fld.SIG_TX_ID_ext (j : Nat) : Fld := ⟨Reg.SIG_TX_ID j, 30, 30⟩
def Fld.SIG_TX_ID_id (j : Nat) : Fld := ⟨Reg.SIG_TX_ID j, 28, 0⟩
def Fld.SIG_TX_CFG_kind (j : Nat) : Fld := ⟨Reg.SIG_TX_CFG j, 31, 30⟩
def Fld.SIG_TX_CFG_ctrl (j : Nat) : Fld := ⟨Reg.SIG_TX_CFG j, 29, 28⟩
def Fld.SIG_TX_CFG_length (j : Nat) : Fld := ⟨Reg.SIG_TX_CFG j, 22, 16⟩
def Fld.SIG_TX_CFG_period (j : Nat) : Fld := ⟨Reg.SIG_TX_CFG j, 15, 0⟩
def Fld.SIG_TX_F_src (j : Nat) (i : Nat) : Fld := ⟨Reg.SIG_TX_F j i, 31, 28⟩
def Fld.SIG_TX_F_idx (j : Nat) (i : Nat) : Fld := ⟨Reg.SIG_TX_F j i, 27, 20⟩
def Fld.SIG_TX_F_order (j : Nat) (i : Nat) : Fld := ⟨Reg.SIG_TX_F j i, 19, 19⟩
def Fld.SIG_TX_F_len (j : Nat) (i : Nat) : Fld := ⟨Reg.SIG_TX_F j i, 18, 13⟩
def Fld.SIG_TX_F_start (j : Nat) (i : Nat) : Fld := ⟨Reg.SIG_TX_F j i, 8, 0⟩
def Fld.SIG_DEF_POS_enable (k : Nat) : Fld := ⟨Reg.SIG_DEF_POS k, 31, 31⟩
def Fld.SIG_DEF_POS_signed (k : Nat) : Fld := ⟨Reg.SIG_DEF_POS k, 30, 30⟩
def Fld.SIG_DEF_POS_order (k : Nat) : Fld := ⟨Reg.SIG_DEF_POS k, 29, 29⟩
def Fld.SIG_DEF_POS_msg (k : Nat) : Fld := ⟨Reg.SIG_DEF_POS k, 28, 23⟩
def Fld.SIG_DEF_POS_len (k : Nat) : Fld := ⟨Reg.SIG_DEF_POS k, 22, 16⟩
def Fld.SIG_DEF_POS_start (k : Nat) : Fld := ⟨Reg.SIG_DEF_POS k, 8, 0⟩
def Fld.SIG_DEF_FACTOR_factor (k : Nat) : Fld := ⟨Reg.SIG_DEF_FACTOR k, 31, 0⟩
def Fld.SIG_DEF_ROUTE_meta_en (k : Nat) : Fld := ⟨Reg.SIG_DEF_ROUTE k, 31, 31⟩
def Fld.SIG_DEF_ROUTE_swr_en (k : Nat) : Fld := ⟨Reg.SIG_DEF_ROUTE k, 30, 30⟩
def Fld.SIG_DEF_ROUTE_law (k : Nat) : Fld := ⟨Reg.SIG_DEF_ROUTE k, 29, 28⟩
def Fld.SIG_DEF_ROUTE_stream (k : Nat) : Fld := ⟨Reg.SIG_DEF_ROUTE k, 27, 23⟩
def Fld.SIG_DEF_ROUTE_gpio_en (k : Nat) : Fld := ⟨Reg.SIG_DEF_ROUTE k, 22, 22⟩
def Fld.SIG_DEF_ROUTE_gpio (k : Nat) : Fld := ⟨Reg.SIG_DEF_ROUTE k, 21, 17⟩
def Fld.SIG_DEF_ROUTE_swr_wide (k : Nat) : Fld := ⟨Reg.SIG_DEF_ROUTE k, 16, 16⟩
def Fld.SIG_DEF_ROUTE_swr_reg (k : Nat) : Fld := ⟨Reg.SIG_DEF_ROUTE k, 15, 0⟩
def Fld.ERK_CFG_enable : Fld := ⟨Reg.ERK_CFG, 31, 31⟩
def Fld.ERK_CFG_role : Fld := ⟨Reg.ERK_CFG, 30, 30⟩
def Fld.ERK_STAT_up : Fld := ⟨Reg.ERK_STAT, 31, 31⟩
def Fld.ERK_STAT_role_clash : Fld := ⟨Reg.ERK_STAT, 30, 30⟩
def Fld.ERK_STAT_replays : Fld := ⟨Reg.ERK_STAT, 23, 16⟩
def Fld.ERK_STAT_retrains : Fld := ⟨Reg.ERK_STAT, 15, 0⟩
def Fld.ERK_PEER_EPOCH_epoch : Fld := ⟨Reg.ERK_PEER_EPOCH, 31, 0⟩
def Fld.ERK_PEER_DIGEST_digest (n : Nat) : Fld := ⟨Reg.ERK_PEER_DIGEST n, 31, 0⟩
def Fld.ERK_NOTICE_valid : Fld := ⟨Reg.ERK_NOTICE, 31, 31⟩
def Fld.ERK_NOTICE_unmatched : Fld := ⟨Reg.ERK_NOTICE, 30, 30⟩
def Fld.ERK_NOTICE_cause : Fld := ⟨Reg.ERK_NOTICE, 25, 24⟩
def Fld.ERK_NOTICE_count : Fld := ⟨Reg.ERK_NOTICE, 23, 16⟩
def Fld.ERK_NOTICE_stream : Fld := ⟨Reg.ERK_NOTICE, 12, 8⟩
def Fld.ERK_NOTICE_window : Fld := ⟨Reg.ERK_NOTICE, 2, 0⟩
def Fld.ERK_NOTICE_FRAME_frame : Fld := ⟨Reg.ERK_NOTICE_FRAME, 31, 0⟩
def Fld.ERK_PCTL_go : Fld := ⟨Reg.ERK_PCTL, 31, 31⟩
def Fld.ERK_PCTL_rd : Fld := ⟨Reg.ERK_PCTL, 30, 30⟩
def Fld.ERK_PCTL_result : Fld := ⟨Reg.ERK_PCTL, 29, 28⟩
def Fld.ERK_PCTL_offset : Fld := ⟨Reg.ERK_PCTL, 23, 0⟩
def Fld.ERK_PCTL_DATA_data : Fld := ⟨Reg.ERK_PCTL_DATA, 31, 0⟩
def Fld.ERK_MIR_CFG_enable (m : Nat) : Fld := ⟨Reg.ERK_MIR_CFG m, 31, 31⟩
def Fld.ERK_MIR_CFG_dir (m : Nat) : Fld := ⟨Reg.ERK_MIR_CFG m, 30, 30⟩
def Fld.ERK_MIR_CFG_windows (m : Nat) : Fld := ⟨Reg.ERK_MIR_CFG m, 21, 16⟩
def Fld.ERK_MIR_CFG_local (m : Nat) : Fld := ⟨Reg.ERK_MIR_CFG m, 12, 8⟩
def Fld.ERK_MIR_CFG_stream (m : Nat) : Fld := ⟨Reg.ERK_MIR_CFG m, 4, 0⟩
def Fld.ERK_MIR_STAT_outputs (m : Nat) : Fld := ⟨Reg.ERK_MIR_STAT m, 31, 16⟩
def Fld.ERK_MIR_STAT_dropped (m : Nat) : Fld := ⟨Reg.ERK_MIR_STAT m, 15, 0⟩
def Fld.BIST_CTRL_key : Fld := ⟨Reg.BIST_CTRL, 31, 16⟩
def Fld.BIST_CTRL_op : Fld := ⟨Reg.BIST_CTRL, 9, 8⟩
def Fld.BIST_CTRL_domain : Fld := ⟨Reg.BIST_CTRL, 7, 0⟩
def Fld.BIST_STAT_busy : Fld := ⟨Reg.BIST_STAT, 31, 31⟩
def Fld.BIST_STAT_keyon : Fld := ⟨Reg.BIST_STAT, 30, 30⟩
def Fld.BIST_STAT_wave : Fld := ⟨Reg.BIST_STAT, 29, 27⟩
def Fld.BIST_STAT_reason : Fld := ⟨Reg.BIST_STAT, 23, 16⟩
def Fld.BIST_STAT_domain : Fld := ⟨Reg.BIST_STAT, 15, 8⟩
def Fld.BIST_STAT_result : Fld := ⟨Reg.BIST_STAT, 1, 0⟩
def Fld.BIST_FUSE_used : Fld := ⟨Reg.BIST_FUSE, 31, 16⟩
def Fld.BIST_FUSE_left : Fld := ⟨Reg.BIST_FUSE, 15, 0⟩
def Fld.BIST_DOM_last (d : Nat) : Fld := ⟨Reg.BIST_DOM d, 31, 30⟩
def Fld.BIST_DOM_fenced (d : Nat) : Fld := ⟨Reg.BIST_DOM d, 29, 29⟩
def Fld.BIST_DOM_fused (d : Nat) : Fld := ⟨Reg.BIST_DOM d, 28, 28⟩
def Fld.BIST_DOM_spares (d : Nat) : Fld := ⟨Reg.BIST_DOM d, 23, 16⟩
def Fld.BIST_DOM_runs (d : Nat) : Fld := ⟨Reg.BIST_DOM d, 15, 0⟩
def Fld.FI_CTRL_enable : Fld := ⟨Reg.FI_CTRL, 31, 31⟩
def Fld.FI_CTRL_lab : Fld := ⟨Reg.FI_CTRL, 30, 30⟩
def Fld.FI_SEED_seed : Fld := ⟨Reg.FI_SEED, 31, 0⟩
def Fld.FI_CFG_arm (k : Nat) : Fld := ⟨Reg.FI_CFG k, 31, 31⟩
def Fld.FI_CFG_class (k : Nat) : Fld := ⟨Reg.FI_CFG k, 30, 28⟩
def Fld.FI_CFG_action (k : Nat) : Fld := ⟨Reg.FI_CFG k, 27, 25⟩
def Fld.FI_CFG_index (k : Nat) : Fld := ⟨Reg.FI_CFG k, 24, 16⟩
def Fld.FI_CFG_rate (k : Nat) : Fld := ⟨Reg.FI_CFG k, 15, 0⟩
def Fld.FI_PARAM_limit (k : Nat) : Fld := ⟨Reg.FI_PARAM k, 31, 16⟩
def Fld.FI_PARAM_down_ms (k : Nat) : Fld := ⟨Reg.FI_PARAM k, 15, 0⟩
def Fld.FI_STAT_count (k : Nat) : Fld := ⟨Reg.FI_STAT k, 31, 0⟩
def Fld.FI_STATE_x (k : Nat) : Fld := ⟨Reg.FI_STATE k, 31, 0⟩
def Fld.PORT_CFG_lanes_b (p : Nat) : Fld := ⟨Reg.PORT_CFG p, 23, 20⟩
def Fld.PORT_CFG_lanes_a (p : Nat) : Fld := ⟨Reg.PORT_CFG p, 19, 16⟩
def Fld.PORT_CFG_scr_b (p : Nat) : Fld := ⟨Reg.PORT_CFG p, 13, 13⟩
def Fld.PORT_CFG_scr_a (p : Nat) : Fld := ⟨Reg.PORT_CFG p, 12, 12⟩
def Fld.PORT_CFG_lrte (p : Nat) : Fld := ⟨Reg.PORT_CFG p, 11, 11⟩
def Fld.PORT_CFG_line_num (p : Nat) : Fld := ⟨Reg.PORT_CFG p, 10, 10⟩
def Fld.PORT_CFG_phy_mode (p : Nat) : Fld := ⟨Reg.PORT_CFG p, 7, 6⟩
def Fld.PORT_CFG_combo (p : Nat) : Fld := ⟨Reg.PORT_CFG p, 1, 1⟩
def Fld.PORT_CFG_enable (p : Nat) : Fld := ⟨Reg.PORT_CFG p, 0, 0⟩
def Fld.PORT_LINK_retrain (p : Nat) : Fld := ⟨Reg.PORT_LINK p, 31, 31⟩
def Fld.PORT_LINK_rate (p : Nat) : Fld := ⟨Reg.PORT_LINK p, 23, 16⟩
def Fld.PORT_LINK_profile (p : Nat) : Fld := ⟨Reg.PORT_LINK p, 11, 10⟩
def Fld.PORT_LINK_retx_en (p : Nat) : Fld := ⟨Reg.PORT_LINK p, 3, 3⟩
def Fld.PORT_LINK_gear (p : Nat) : Fld := ⟨Reg.PORT_LINK p, 2, 0⟩
def Fld.PORT_LSTAT_retrains (p : Nat) : Fld := ⟨Reg.PORT_LSTAT p, 31, 16⟩
def Fld.PORT_LSTAT_gear_now (p : Nat) : Fld := ⟨Reg.PORT_LSTAT p, 11, 8⟩
def Fld.PORT_LSTAT_lanes_now (p : Nat) : Fld := ⟨Reg.PORT_LSTAT p, 7, 4⟩
def Fld.PORT_LSTAT_back_ch (p : Nat) : Fld := ⟨Reg.PORT_LSTAT p, 2, 2⟩
def Fld.PORT_LSTAT_link_b_up (p : Nat) : Fld := ⟨Reg.PORT_LSTAT p, 1, 1⟩
def Fld.PORT_LSTAT_link_up (p : Nat) : Fld := ⟨Reg.PORT_LSTAT p, 0, 0⟩
def Fld.PORT_EQ_warn (p : Nat) : Fld := ⟨Reg.PORT_EQ p, 31, 24⟩
def Fld.PORT_EQ_min_margin (p : Nat) : Fld := ⟨Reg.PORT_EQ p, 15, 8⟩
def Fld.PORT_EQ_margin (p : Nat) : Fld := ⟨Reg.PORT_EQ p, 7, 0⟩
def Fld.PORT_TIMEOUT_idle_frames (p : Nat) : Fld := ⟨Reg.PORT_TIMEOUT p, 23, 16⟩
def Fld.PORT_TIMEOUT_line_timeout (p : Nat) : Fld := ⟨Reg.PORT_TIMEOUT p, 7, 0⟩
def Fld.PORT_VCMAP_enable (p : Nat) (k : Nat) : Fld := ⟨Reg.PORT_VCMAP p k, 31, 31⟩
def Fld.PORT_VCMAP_exposure (p : Nat) (k : Nat) : Fld := ⟨Reg.PORT_VCMAP p k, 25, 24⟩
def Fld.PORT_VCMAP_stream (p : Nat) (k : Nat) : Fld := ⟨Reg.PORT_VCMAP p k, 20, 16⟩
def Fld.PORT_VCMAP_link (p : Nat) (k : Nat) : Fld := ⟨Reg.PORT_VCMAP p k, 14, 14⟩
def Fld.PORT_VCMAP_dt (p : Nat) (k : Nat) : Fld := ⟨Reg.PORT_VCMAP p k, 13, 8⟩
def Fld.PORT_VCMAP_vc (p : Nat) (k : Nat) : Fld := ⟨Reg.PORT_VCMAP p k, 4, 0⟩
def Fld.PORT_SKETCH_use (p : Nat) (k : Nat) : Fld := ⟨Reg.PORT_SKETCH p k, 31, 31⟩
def Fld.PORT_SKETCH_black (p : Nat) (k : Nat) : Fld := ⟨Reg.PORT_SKETCH p k, 23, 0⟩
def Fld.PORT_ERR_ECC_uncorr (p : Nat) : Fld := ⟨Reg.PORT_ERR_ECC p, 31, 16⟩
def Fld.PORT_ERR_ECC_corr (p : Nat) : Fld := ⟨Reg.PORT_ERR_ECC p, 15, 0⟩
def Fld.PORT_ERR_CRC_cse (p : Nat) : Fld := ⟨Reg.PORT_ERR_CRC p, 31, 16⟩
def Fld.PORT_ERR_CRC_crc (p : Nat) : Fld := ⟨Reg.PORT_ERR_CRC p, 15, 0⟩
def Fld.PORT_ERR_LINE_seq (p : Nat) : Fld := ⟨Reg.PORT_ERR_LINE p, 31, 16⟩
def Fld.PORT_ERR_LINE_repaired (p : Nat) : Fld := ⟨Reg.PORT_ERR_LINE p, 15, 0⟩
def Fld.PORT_ERR_MISC_unmapped (p : Nat) : Fld := ⟨Reg.PORT_ERR_MISC p, 31, 16⟩
def Fld.PORT_ERR_MISC_retx_fail (p : Nat) : Fld := ⟨Reg.PORT_ERR_MISC p, 15, 8⟩
def Fld.PORT_ERR_MISC_overflow (p : Nat) : Fld := ⟨Reg.PORT_ERR_MISC p, 7, 0⟩
def Fld.PORT_RETX_resent (p : Nat) : Fld := ⟨Reg.PORT_RETX p, 31, 0⟩
def Fld.PORT_FSTAT_reinit (p : Nat) : Fld := ⟨Reg.PORT_FSTAT p, 11, 8⟩
def Fld.PORT_FSTAT_loss (p : Nat) : Fld := ⟨Reg.PORT_FSTAT p, 7, 4⟩
def Fld.PORT_FSTAT_open (p : Nat) : Fld := ⟨Reg.PORT_FSTAT p, 3, 0⟩
def Fld.PORT_GAPA_first (p : Nat) (k : Nat) : Fld := ⟨Reg.PORT_GAPA p k, 31, 16⟩
def Fld.PORT_GAPA_last (p : Nat) (k : Nat) : Fld := ⟨Reg.PORT_GAPA p k, 15, 0⟩
def Fld.PORT_GAPB_frame (p : Nat) (k : Nat) : Fld := ⟨Reg.PORT_GAPB p k, 31, 0⟩
def Fld.SC_CFG_init_retry (p : Nat) : Fld := ⟨Reg.SC_CFG p, 23, 16⟩
def Fld.SC_CFG_retries (p : Nat) : Fld := ⟨Reg.SC_CFG p, 11, 10⟩
def Fld.SC_CFG_speed (p : Nat) : Fld := ⟨Reg.SC_CFG p, 7, 4⟩
def Fld.SC_CFG_enable (p : Nat) : Fld := ⟨Reg.SC_CFG p, 0, 0⟩
def Fld.SC_STAT_ibi_addr (p : Nat) : Fld := ⟨Reg.SC_STAT p, 31, 24⟩
def Fld.SC_STAT_nacks (p : Nat) : Fld := ⟨Reg.SC_STAT p, 23, 16⟩
def Fld.SC_STAT_backoffs (p : Nat) : Fld := ⟨Reg.SC_STAT p, 15, 8⟩
def Fld.SC_STAT_stuck (p : Nat) : Fld := ⟨Reg.SC_STAT p, 4, 4⟩
def Fld.SC_STAT_init_fail (p : Nat) : Fld := ⟨Reg.SC_STAT p, 3, 0⟩
def Fld.SC_XFER_go (p : Nat) : Fld := ⟨Reg.SC_XFER p, 31, 31⟩
def Fld.SC_XFER_rd (p : Nat) : Fld := ⟨Reg.SC_XFER p, 30, 30⟩
def Fld.SC_XFER_result (p : Nat) : Fld := ⟨Reg.SC_XFER p, 29, 28⟩
def Fld.SC_XFER_width (p : Nat) : Fld := ⟨Reg.SC_XFER p, 27, 26⟩
def Fld.SC_XFER_tgt (p : Nat) : Fld := ⟨Reg.SC_XFER p, 25, 24⟩
def Fld.SC_XFER_lsb_first (p : Nat) : Fld := ⟨Reg.SC_XFER p, 23, 23⟩
def Fld.SC_XFER_reg (p : Nat) : Fld := ⟨Reg.SC_XFER p, 15, 0⟩
def Fld.SC_XDATA_data (p : Nat) : Fld := ⟨Reg.SC_XDATA p, 15, 0⟩
def Fld.SC_TGT_enable (p : Nat) (k : Nat) : Fld := ⟨Reg.SC_TGT p k, 31, 31⟩
def Fld.SC_TGT_aux (p : Nat) (k : Nat) : Fld := ⟨Reg.SC_TGT p k, 30, 30⟩
def Fld.SC_TGT_profile (p : Nat) (k : Nat) : Fld := ⟨Reg.SC_TGT p k, 24, 20⟩
def Fld.SC_TGT_stream (p : Nat) (k : Nat) : Fld := ⟨Reg.SC_TGT p k, 12, 8⟩
def Fld.SC_TGT_addr (p : Nat) (k : Nat) : Fld := ⟨Reg.SC_TGT p k, 6, 0⟩
def Fld.STRM_CFG_enable (s : Nat) : Fld := ⟨Reg.STRM_CFG s, 31, 31⟩
def Fld.STRM_CFG_path (s : Nat) : Fld := ⟨Reg.STRM_CFG s, 29, 28⟩
def Fld.STRM_CFG_degrade (s : Nat) : Fld := ⟨Reg.STRM_CFG s, 27, 26⟩
def Fld.STRM_CFG_prio (s : Nat) : Fld := ⟨Reg.STRM_CFG s, 25, 24⟩
def Fld.STRM_CFG_group (s : Nat) : Fld := ⟨Reg.STRM_CFG s, 22, 20⟩
def Fld.STRM_CFG_profile (s : Nat) : Fld := ⟨Reg.STRM_CFG s, 17, 13⟩
def Fld.STRM_CFG_dt (s : Nat) : Fld := ⟨Reg.STRM_CFG s, 10, 5⟩
def Fld.STRM_CFG_port (s : Nat) : Fld := ⟨Reg.STRM_CFG s, 4, 0⟩
def Fld.STRM_GEOM_height (s : Nat) : Fld := ⟨Reg.STRM_GEOM s, 29, 16⟩
def Fld.STRM_GEOM_width (s : Nat) : Fld := ⟨Reg.STRM_GEOM s, 13, 0⟩
def Fld.STRM_BUDGET_budget (s : Nat) : Fld := ⟨Reg.STRM_BUDGET s, 19, 0⟩
def Fld.STRM_TIN_t_in (s : Nat) : Fld := ⟨Reg.STRM_TIN s, 19, 0⟩
def Fld.STRM_FRAME_frame (s : Nat) : Fld := ⟨Reg.STRM_FRAME s, 31, 0⟩
def Fld.STRM_STAT_open (s : Nat) : Fld := ⟨Reg.STRM_STAT s, 31, 31⟩
def Fld.STRM_STAT_path_now (s : Nat) : Fld := ⟨Reg.STRM_STAT s, 30, 28⟩
def Fld.STRM_STAT_easel (s : Nat) : Fld := ⟨Reg.STRM_STAT s, 27, 24⟩
def Fld.STRM_STAT_moves (s : Nat) : Fld := ⟨Reg.STRM_STAT s, 15, 0⟩
def Fld.STRM_PLACE_palette (s : Nat) : Fld := ⟨Reg.STRM_PLACE s, 31, 31⟩
def Fld.STRM_PLACE_slot (s : Nat) : Fld := ⟨Reg.STRM_PLACE s, 30, 27⟩
def Fld.STRM_PLACE_stroke_lines (s : Nat) : Fld := ⟨Reg.STRM_PLACE s, 26, 18⟩
def Fld.STRM_PLACE_cells (s : Nat) : Fld := ⟨Reg.STRM_PLACE s, 17, 0⟩
def Fld.STRM_DROP_deadline (s : Nat) : Fld := ⟨Reg.STRM_DROP s, 31, 16⟩
def Fld.STRM_DROP_degraded (s : Nat) : Fld := ⟨Reg.STRM_DROP s, 15, 0⟩
def Fld.STRM_VIEW_CFG_enable (s : Nat) (v : Nat) : Fld := ⟨Reg.STRM_VIEW_CFG s v, 31, 31⟩
def Fld.STRM_VIEW_CFG_src (s : Nat) (v : Nat) : Fld := ⟨Reg.STRM_VIEW_CFG s v, 30, 30⟩
def Fld.STRM_VIEW_CFG_trunc (s : Nat) (v : Nat) : Fld := ⟨Reg.STRM_VIEW_CFG s v, 29, 29⟩
def Fld.STRM_VIEW_CFG_fmt (s : Nat) (v : Nat) : Fld := ⟨Reg.STRM_VIEW_CFG s v, 27, 24⟩
def Fld.STRM_VIEW_FILL_c2 (s : Nat) (v : Nat) : Fld := ⟨Reg.STRM_VIEW_FILL s v, 29, 20⟩
def Fld.STRM_VIEW_FILL_c1 (s : Nat) (v : Nat) : Fld := ⟨Reg.STRM_VIEW_FILL s v, 19, 10⟩
def Fld.STRM_VIEW_FILL_c0 (s : Nat) (v : Nat) : Fld := ⟨Reg.STRM_VIEW_FILL s v, 9, 0⟩
def Fld.STRM_VIEW_CROP_y0 (s : Nat) (v : Nat) : Fld := ⟨Reg.STRM_VIEW_CROP s v, 29, 16⟩
def Fld.STRM_VIEW_CROP_x0 (s : Nat) (v : Nat) : Fld := ⟨Reg.STRM_VIEW_CROP s v, 13, 0⟩
def Fld.STRM_VIEW_CSIZE_height (s : Nat) (v : Nat) : Fld := ⟨Reg.STRM_VIEW_CSIZE s v, 29, 16⟩
def Fld.STRM_VIEW_CSIZE_width (s : Nat) (v : Nat) : Fld := ⟨Reg.STRM_VIEW_CSIZE s v, 13, 0⟩
def Fld.STRM_VIEW_OSIZE_height (s : Nat) (v : Nat) : Fld := ⟨Reg.STRM_VIEW_OSIZE s v, 29, 16⟩
def Fld.STRM_VIEW_OSIZE_width (s : Nat) (v : Nat) : Fld := ⟨Reg.STRM_VIEW_OSIZE s v, 13, 0⟩
def Fld.PLC_STAT_runs : Fld := ⟨Reg.PLC_STAT, 31, 16⟩
def Fld.PLC_STAT_resting : Fld := ⟨Reg.PLC_STAT, 11, 8⟩
def Fld.PLC_STAT_slots : Fld := ⟨Reg.PLC_STAT, 7, 4⟩
def Fld.PLC_STAT_mode : Fld := ⟨Reg.PLC_STAT, 1, 0⟩
def Fld.PLC_DIGEST_digest : Fld := ⟨Reg.PLC_DIGEST, 31, 0⟩
def Fld.PLC_REF_valid : Fld := ⟨Reg.PLC_REF, 31, 31⟩
def Fld.PLC_REF_reason : Fld := ⟨Reg.PLC_REF, 23, 16⟩
def Fld.PLC_REF_whole : Fld := ⟨Reg.PLC_REF, 13, 13⟩
def Fld.PLC_REF_stream : Fld := ⟨Reg.PLC_REF, 12, 8⟩
def Fld.PLC_REF_slot : Fld := ⟨Reg.PLC_REF, 3, 0⟩
def Fld.PLC_REF_NEED_need : Fld := ⟨Reg.PLC_REF_NEED, 31, 0⟩
def Fld.PLC_REF_HAVE_have : Fld := ⟨Reg.PLC_REF_HAVE, 31, 0⟩
def Fld.PLC_ROT_enable : Fld := ⟨Reg.PLC_ROT, 31, 31⟩
def Fld.PLC_ROT_period : Fld := ⟨Reg.PLC_ROT, 15, 0⟩
def Fld.PLC_EASEL_CTRL_key : Fld := ⟨Reg.PLC_EASEL_CTRL, 31, 16⟩
def Fld.PLC_EASEL_CTRL_op : Fld := ⟨Reg.PLC_EASEL_CTRL, 9, 8⟩
def Fld.PLC_EASEL_CTRL_easel : Fld := ⟨Reg.PLC_EASEL_CTRL, 3, 0⟩
def Fld.PLC_CELLS_free : Fld := ⟨Reg.PLC_CELLS, 31, 16⟩
def Fld.PLC_CELLS_reserved : Fld := ⟨Reg.PLC_CELLS, 15, 0⟩
def Fld.PLC_HL_budget : Fld := ⟨Reg.PLC_HL, 31, 16⟩
def Fld.PLC_HL_demand : Fld := ⟨Reg.PLC_HL, 15, 0⟩
def Fld.PLC_EASEL_STAT_state (e : Nat) : Fld := ⟨Reg.PLC_EASEL_STAT e, 31, 28⟩
def Fld.PLC_EASEL_STAT_slot (e : Nat) : Fld := ⟨Reg.PLC_EASEL_STAT e, 27, 24⟩
def Fld.PLC_EASEL_STAT_inline (e : Nat) : Fld := ⟨Reg.PLC_EASEL_STAT e, 23, 19⟩
def Fld.PLC_EASEL_STAT_has_inline (e : Nat) : Fld := ⟨Reg.PLC_EASEL_STAT e, 18, 18⟩
def Fld.PLC_EASEL_STAT_retire (e : Nat) : Fld := ⟨Reg.PLC_EASEL_STAT e, 17, 14⟩
def Fld.PLC_EASEL_STAT_load (e : Nat) : Fld := ⟨Reg.PLC_EASEL_STAT e, 13, 0⟩
def Fld.PLC_EASEL_STROKES_streams (e : Nat) : Fld := ⟨Reg.PLC_EASEL_STROKES e, 31, 0⟩
def Fld.EAS_STAT_front_on (e : Nat) : Fld := ⟨Reg.EAS_STAT e, 31, 31⟩
def Fld.EAS_STAT_back_on (e : Nat) : Fld := ⟨Reg.EAS_STAT e, 30, 30⟩
def Fld.EAS_STAT_has_inline (e : Nat) : Fld := ⟨Reg.EAS_STAT e, 27, 27⟩
def Fld.EAS_STAT_inline (e : Nat) : Fld := ⟨Reg.EAS_STAT e, 26, 22⟩
def Fld.EAS_STAT_has_stroke (e : Nat) : Fld := ⟨Reg.EAS_STAT e, 21, 21⟩
def Fld.EAS_STAT_stroke (e : Nat) : Fld := ⟨Reg.EAS_STAT e, 20, 16⟩
def Fld.EAS_LINES_lines (e : Nat) : Fld := ⟨Reg.EAS_LINES e, 31, 0⟩
def Fld.EAS_STROKES_strokes (e : Nat) : Fld := ⟨Reg.EAS_STROKES e, 31, 0⟩
def Fld.EAS_CTXLD_loads (e : Nat) : Fld := ⟨Reg.EAS_CTXLD e, 31, 0⟩
def Fld.EAS_WAIT_max_wait (e : Nat) : Fld := ⟨Reg.EAS_WAIT e, 31, 16⟩
def Fld.EAS_WAIT_reruns (e : Nat) : Fld := ⟨Reg.EAS_WAIT e, 15, 0⟩
def Fld.EAS_ECC_uncorr (e : Nat) : Fld := ⟨Reg.EAS_ECC e, 31, 16⟩
def Fld.EAS_ECC_corr (e : Nat) : Fld := ⟨Reg.EAS_ECC e, 15, 0⟩
def Fld.EAS_DPC_dpc (e : Nat) : Fld := ⟨Reg.EAS_DPC e, 31, 0⟩
def Fld.EAS_TRL_CTRL_owner : Fld := ⟨Reg.EAS_TRL_CTRL, 11, 8⟩
def Fld.EAS_TRL_CTRL_cmd : Fld := ⟨Reg.EAS_TRL_CTRL, 1, 0⟩
def Fld.EAS_TRL_TARGET_has_target : Fld := ⟨Reg.EAS_TRL_TARGET, 31, 31⟩
def Fld.EAS_TRL_TARGET_kind : Fld := ⟨Reg.EAS_TRL_TARGET, 29, 28⟩
def Fld.EAS_TRL_TARGET_stream : Fld := ⟨Reg.EAS_TRL_TARGET, 4, 0⟩
def Fld.EAS_TRL_FRAME_frame : Fld := ⟨Reg.EAS_TRL_FRAME, 31, 0⟩
def Fld.EAS_TRL_EPOCH_epoch : Fld := ⟨Reg.EAS_TRL_EPOCH, 31, 0⟩
def Fld.EAS_TRL_LEN_length : Fld := ⟨Reg.EAS_TRL_LEN, 16, 0⟩
def Fld.EAS_TRL_STAT_reason : Fld := ⟨Reg.EAS_TRL_STAT, 31, 24⟩
def Fld.EAS_TRL_STAT_cells : Fld := ⟨Reg.EAS_TRL_STAT, 17, 2⟩
def Fld.EAS_TRL_STAT_state : Fld := ⟨Reg.EAS_TRL_STAT, 1, 0⟩
def Fld.EAS_TRL_BUF_data (n : Nat) : Fld := ⟨Reg.EAS_TRL_BUF n, 31, 0⟩
def Fld.STAT_CFG_ae_en (s : Nat) : Fld := ⟨Reg.STAT_CFG s, 31, 31⟩
def Fld.STAT_CFG_awb_en (s : Nat) : Fld := ⟨Reg.STAT_CFG s, 30, 30⟩
def Fld.STAT_CFG_lce_en (s : Nat) : Fld := ⟨Reg.STAT_CFG s, 29, 29⟩
def Fld.STAT_CFG_sat_code (s : Nat) : Fld := ⟨Reg.STAT_CFG s, 23, 0⟩
def Fld.STAT_AE_CTRL_damp (s : Nat) : Fld := ⟨Reg.STAT_AE_CTRL s, 31, 24⟩
def Fld.STAT_AE_CTRL_tol (s : Nat) : Fld := ⟨Reg.STAT_AE_CTRL s, 23, 16⟩
def Fld.STAT_AE_CTRL_target (s : Nat) : Fld := ⟨Reg.STAT_AE_CTRL s, 15, 0⟩
def Fld.STAT_AE_TMAX_t_max (s : Nat) : Fld := ⟨Reg.STAT_AE_TMAX s, 31, 0⟩
def Fld.STAT_AE_LIM_g_max (s : Nat) : Fld := ⟨Reg.STAT_AE_LIM s, 31, 16⟩
def Fld.STAT_AE_LIM_t_min (s : Nat) : Fld := ⟨Reg.STAT_AE_LIM s, 15, 0⟩
def Fld.STAT_AE_CONV_conv_on (s : Nat) : Fld := ⟨Reg.STAT_AE_CONV s, 31, 16⟩
def Fld.STAT_AE_CONV_conv_off (s : Nat) : Fld := ⟨Reg.STAT_AE_CONV s, 15, 0⟩
def Fld.STAT_AE_RATIO_A_ratio2 (s : Nat) : Fld := ⟨Reg.STAT_AE_RATIO_A s, 31, 16⟩
def Fld.STAT_AE_RATIO_A_ratio1 (s : Nat) : Fld := ⟨Reg.STAT_AE_RATIO_A s, 15, 0⟩
def Fld.STAT_AE_RATIO_B_ratio3 (s : Nat) : Fld := ⟨Reg.STAT_AE_RATIO_B s, 15, 0⟩
def Fld.STAT_AWB_CTRL_damp (s : Nat) : Fld := ⟨Reg.STAT_AWB_CTRL s, 31, 24⟩
def Fld.STAT_AWB_CTRL_min_zones (s : Nat) : Fld := ⟨Reg.STAT_AWB_CTRL s, 11, 0⟩
def Fld.STAT_AWB_LUM_high (s : Nat) : Fld := ⟨Reg.STAT_AWB_LUM s, 31, 16⟩
def Fld.STAT_AWB_LUM_low (s : Nat) : Fld := ⟨Reg.STAT_AWB_LUM s, 15, 0⟩
def Fld.STAT_AWB_BOX_box_max (s : Nat) : Fld := ⟨Reg.STAT_AWB_BOX s, 31, 16⟩
def Fld.STAT_AWB_BOX_box_min (s : Nat) : Fld := ⟨Reg.STAT_AWB_BOX s, 15, 0⟩
def Fld.STAT_AWB_GAIN_gmax (s : Nat) : Fld := ⟨Reg.STAT_AWB_GAIN s, 31, 16⟩
def Fld.STAT_AWB_GAIN_gmin (s : Nat) : Fld := ⟨Reg.STAT_AWB_GAIN s, 15, 0⟩
def Fld.STAT_LSC_Q_qb (s : Nat) : Fld := ⟨Reg.STAT_LSC_Q s, 31, 16⟩
def Fld.STAT_LSC_Q_qa (s : Nat) : Fld := ⟨Reg.STAT_LSC_Q s, 15, 0⟩
def Fld.STAT_TONE_tone_gain (s : Nat) : Fld := ⟨Reg.STAT_TONE s, 31, 16⟩
def Fld.STAT_TONE_lce_alpha (s : Nat) : Fld := ⟨Reg.STAT_TONE s, 8, 0⟩
def Fld.STAT_LCE_gmax (s : Nat) : Fld := ⟨Reg.STAT_LCE s, 31, 16⟩
def Fld.STAT_LCE_gmin (s : Nat) : Fld := ⟨Reg.STAT_LCE s, 15, 0⟩
def Fld.STAT_FLK_led (s : Nat) : Fld := ⟨Reg.STAT_FLK s, 31, 31⟩
def Fld.STAT_FLK_mode (s : Nat) : Fld := ⟨Reg.STAT_FLK s, 29, 28⟩
def Fld.STAT_FLK_frames (s : Nat) : Fld := ⟨Reg.STAT_FLK s, 27, 24⟩
def Fld.STAT_FLK_thresh (s : Nat) : Fld := ⟨Reg.STAT_FLK s, 23, 16⟩
def Fld.STAT_FLK_led_min (s : Nat) : Fld := ⟨Reg.STAT_FLK s, 15, 0⟩
def Fld.STAT_LCE_T_target (s : Nat) : Fld := ⟨Reg.STAT_LCE_T s, 15, 0⟩
def Fld.STAT_AE_STAT_at_tmax (s : Nat) : Fld := ⟨Reg.STAT_AE_STAT s, 31, 31⟩
def Fld.STAT_AE_STAT_at_gmax (s : Nat) : Fld := ⟨Reg.STAT_AE_STAT s, 30, 30⟩
def Fld.STAT_AE_STAT_at_tmin (s : Nat) : Fld := ⟨Reg.STAT_AE_STAT s, 29, 29⟩
def Fld.STAT_AE_STAT_sketch (s : Nat) : Fld := ⟨Reg.STAT_AE_STAT s, 28, 28⟩
def Fld.STAT_AE_STAT_held (s : Nat) : Fld := ⟨Reg.STAT_AE_STAT s, 27, 27⟩
def Fld.STAT_AE_STAT_mw (s : Nat) : Fld := ⟨Reg.STAT_AE_STAT s, 23, 0⟩
def Fld.STAT_FLK_STAT_active (s : Nat) : Fld := ⟨Reg.STAT_FLK_STAT s, 31, 30⟩
def Fld.STAT_FLK_STAT_run (s : Nat) : Fld := ⟨Reg.STAT_FLK_STAT s, 27, 24⟩
def Fld.STAT_FLK_STAT_score50 (s : Nat) : Fld := ⟨Reg.STAT_FLK_STAT s, 15, 8⟩
def Fld.STAT_FLK_STAT_score60 (s : Nat) : Fld := ⟨Reg.STAT_FLK_STAT s, 7, 0⟩
def Fld.STAT_CNT_no_full (s : Nat) : Fld := ⟨Reg.STAT_CNT s, 31, 16⟩
def Fld.STAT_CNT_incomplete (s : Nat) : Fld := ⟨Reg.STAT_CNT s, 15, 0⟩
def Fld.STAT_AE_W_weights (s : Nat) (n : Nat) : Fld := ⟨Reg.STAT_AE_W s n, 31, 0⟩
def Fld.STAT_RES_HEAD_valid (s : Nat) : Fld := ⟨Reg.STAT_RES_HEAD s, 31, 31⟩
def Fld.STAT_RES_HEAD_repeat (s : Nat) : Fld := ⟨Reg.STAT_RES_HEAD s, 30, 30⟩
def Fld.STAT_RES_HEAD_frame (s : Nat) : Fld := ⟨Reg.STAT_RES_HEAD s, 29, 0⟩
def Fld.STAT_RES_word (s : Nat) (n : Nat) : Fld := ⟨Reg.STAT_RES s n, 31, 0⟩
def Fld.LDG_CNT_unconf (s : Nat) : Fld := ⟨Reg.LDG_CNT s, 31, 16⟩
def Fld.LDG_CNT_slipped (s : Nat) : Fld := ⟨Reg.LDG_CNT s, 15, 8⟩
def Fld.LDG_CNT_late (s : Nat) : Fld := ⟨Reg.LDG_CNT s, 7, 0⟩
def Fld.LDG_CMD_CTRL_reason (s : Nat) : Fld := ⟨Reg.LDG_CMD_CTRL s, 31, 24⟩
def Fld.LDG_CMD_CTRL_pending (s : Nat) : Fld := ⟨Reg.LDG_CMD_CTRL s, 18, 16⟩
def Fld.LDG_CMD_CTRL_seq (s : Nat) : Fld := ⟨Reg.LDG_CMD_CTRL s, 15, 8⟩
def Fld.LDG_CMD_CTRL_slipped (s : Nat) : Fld := ⟨Reg.LDG_CMD_CTRL s, 2, 2⟩
def Fld.LDG_CMD_CTRL_op (s : Nat) : Fld := ⟨Reg.LDG_CMD_CTRL s, 1, 0⟩
def Fld.LDG_CMD_FRAME_frame (s : Nat) : Fld := ⟨Reg.LDG_CMD_FRAME s, 31, 0⟩
def Fld.LDG_CMD_MASK_lce_alpha (s : Nat) : Fld := ⟨Reg.LDG_CMD_MASK s, 16, 16⟩
def Fld.LDG_CMD_MASK_tone_gain (s : Nat) : Fld := ⟨Reg.LDG_CMD_MASK s, 15, 15⟩
def Fld.LDG_CMD_MASK_wb (s : Nat) : Fld := ⟨Reg.LDG_CMD_MASK s, 14, 14⟩
def Fld.LDG_CMD_MASK_lsc_w (s : Nat) : Fld := ⟨Reg.LDG_CMD_MASK s, 13, 13⟩
def Fld.LDG_CMD_MASK_temp (s : Nat) : Fld := ⟨Reg.LDG_CMD_MASK s, 12, 12⟩
def Fld.LDG_CMD_MASK_conv (s : Nat) : Fld := ⟨Reg.LDG_CMD_MASK s, 11, 8⟩
def Fld.LDG_CMD_MASK_gain (s : Nat) : Fld := ⟨Reg.LDG_CMD_MASK s, 7, 4⟩
def Fld.LDG_CMD_MASK_exp (s : Nat) : Fld := ⟨Reg.LDG_CMD_MASK s, 3, 0⟩
def Fld.LDG_CMD_word (s : Nat) (n : Nat) : Fld := ⟨Reg.LDG_CMD s n, 31, 0⟩
def Fld.LDG_CMD_APPLY_frame (s : Nat) : Fld := ⟨Reg.LDG_CMD_APPLY s, 31, 0⟩
def Fld.LDG_E_word (s : Nat) (i : Nat) (n : Nat) : Fld := ⟨Reg.LDG_E s i n, 31, 0⟩
def Fld.PAL_CELLS_live : Fld := ⟨Reg.PAL_CELLS, 31, 16⟩
def Fld.PAL_CELLS_free : Fld := ⟨Reg.PAL_CELLS, 15, 0⟩
def Fld.PAL_ECC_uncorr : Fld := ⟨Reg.PAL_ECC, 31, 16⟩
def Fld.PAL_ECC_corr : Fld := ⟨Reg.PAL_ECC, 15, 0⟩
def Fld.PAL_ERR_valid : Fld := ⟨Reg.PAL_ERR, 31, 31⟩
def Fld.PAL_ERR_cell : Fld := ⟨Reg.PAL_ERR, 24, 9⟩
def Fld.PAL_ERR_word : Fld := ⟨Reg.PAL_ERR, 8, 0⟩
def Fld.PAL_ERR_OWN_link : Fld := ⟨Reg.PAL_ERR_OWN, 31, 31⟩
def Fld.PAL_ERR_OWN_scrub : Fld := ⟨Reg.PAL_ERR_OWN, 30, 30⟩
def Fld.PAL_ERR_OWN_kind : Fld := ⟨Reg.PAL_ERR_OWN, 19, 16⟩
def Fld.PAL_ERR_OWN_stream : Fld := ⟨Reg.PAL_ERR_OWN, 4, 0⟩
def Fld.PAL_SCRUB_CTRL_enable : Fld := ⟨Reg.PAL_SCRUB_CTRL, 31, 31⟩
def Fld.PAL_SCRUB_CTRL_interval : Fld := ⟨Reg.PAL_SCRUB_CTRL, 15, 0⟩
def Fld.PAL_SCRUB_STAT_passes : Fld := ⟨Reg.PAL_SCRUB_STAT, 31, 16⟩
def Fld.PAL_SCRUB_STAT_cell : Fld := ⟨Reg.PAL_SCRUB_STAT, 15, 0⟩
def Fld.PAL_QUOTA_count : Fld := ⟨Reg.PAL_QUOTA, 31, 16⟩
def Fld.PAL_QUOTA_stream : Fld := ⟨Reg.PAL_QUOTA, 4, 0⟩
def Fld.PAL_GROUP_powered (g : Nat) : Fld := ⟨Reg.PAL_GROUP g, 31, 31⟩
def Fld.PAL_GROUP_live (g : Nat) : Fld := ⟨Reg.PAL_GROUP g, 10, 0⟩
def Fld.QUE_POOL_free : Fld := ⟨Reg.QUE_POOL, 31, 16⟩
def Fld.QUE_POOL_borrowed : Fld := ⟨Reg.QUE_POOL, 15, 0⟩
def Fld.QUE_ERR_valid : Fld := ⟨Reg.QUE_ERR, 31, 31⟩
def Fld.QUE_ERR_cause : Fld := ⟨Reg.QUE_ERR, 25, 24⟩
def Fld.QUE_ERR_queue : Fld := ⟨Reg.QUE_ERR, 6, 0⟩
def Fld.QUE_FC_CFG_enable (n : Nat) : Fld := ⟨Reg.QUE_FC_CFG n, 31, 31⟩
def Fld.QUE_FC_CFG_min_width (n : Nat) : Fld := ⟨Reg.QUE_FC_CFG n, 7, 0⟩
def Fld.QUE_FC_MASK_queues (n : Nat) (k : Nat) : Fld := ⟨Reg.QUE_FC_MASK n k, 31, 0⟩
def Fld.QUE_FC_STAT_asserted (n : Nat) : Fld := ⟨Reg.QUE_FC_STAT n, 31, 31⟩
def Fld.QUE_FC_STAT_asserts (n : Nat) : Fld := ⟨Reg.QUE_FC_STAT n, 15, 0⟩
def Fld.QUE_CFG_enable (q : Nat) : Fld := ⟨Reg.QUE_CFG q, 31, 31⟩
def Fld.QUE_CFG_packet (q : Nat) : Fld := ⟨Reg.QUE_CFG q, 30, 30⟩
def Fld.QUE_CFG_producer (q : Nat) : Fld := ⟨Reg.QUE_CFG q, 27, 24⟩
def Fld.QUE_CFG_cap_cells (q : Nat) : Fld := ⟨Reg.QUE_CFG q, 15, 0⟩
def Fld.QUE_WMH_high (q : Nat) : Fld := ⟨Reg.QUE_WMH q, 20, 0⟩
def Fld.QUE_WML_low (q : Nat) : Fld := ⟨Reg.QUE_WML q, 20, 0⟩
def Fld.QUE_LEVEL_above (q : Nat) : Fld := ⟨Reg.QUE_LEVEL q, 31, 31⟩
def Fld.QUE_LEVEL_tail_open (q : Nat) : Fld := ⟨Reg.QUE_LEVEL q, 30, 30⟩
def Fld.QUE_LEVEL_head_open (q : Nat) : Fld := ⟨Reg.QUE_LEVEL q, 29, 29⟩
def Fld.QUE_LEVEL_level (q : Nat) : Fld := ⟨Reg.QUE_LEVEL q, 20, 0⟩
def Fld.QUE_LOST_lost (q : Nat) : Fld := ⟨Reg.QUE_LOST q, 31, 0⟩
def Fld.QUE_STAT_resets (q : Nat) : Fld := ⟨Reg.QUE_STAT q, 31, 24⟩
def Fld.QUE_STAT_proto (q : Nat) : Fld := ⟨Reg.QUE_STAT q, 23, 16⟩
def Fld.QUE_STAT_parity (q : Nat) : Fld := ⟨Reg.QUE_STAT q, 15, 0⟩
def Fld.QUE_PUSH_no_item (q : Nat) : Fld := ⟨Reg.QUE_PUSH q, 18, 18⟩
def Fld.QUE_PUSH_eop (q : Nat) : Fld := ⟨Reg.QUE_PUSH q, 17, 17⟩
def Fld.QUE_PUSH_sop (q : Nat) : Fld := ⟨Reg.QUE_PUSH q, 16, 16⟩
def Fld.QUE_PUSH_item (q : Nat) : Fld := ⟨Reg.QUE_PUSH q, 15, 0⟩
def Fld.QUE_CTRL_reset (q : Nat) : Fld := ⟨Reg.QUE_CTRL q, 0, 0⟩
def Fld.QUE_POPS_pops (q : Nat) : Fld := ⟨Reg.QUE_POPS q, 31, 0⟩
def Fld.TXE_CFG_enable (c : Nat) : Fld := ⟨Reg.TXE_CFG c, 31, 31⟩
def Fld.TXE_CFG_pour (c : Nat) : Fld := ⟨Reg.TXE_CFG c, 30, 30⟩
def Fld.TXE_CFG_row (c : Nat) : Fld := ⟨Reg.TXE_CFG c, 29, 29⟩
def Fld.TXE_CFG_fn (c : Nat) : Fld := ⟨Reg.TXE_CFG c, 19, 16⟩
def Fld.TXE_CFG_depth (c : Nat) : Fld := ⟨Reg.TXE_CFG c, 11, 8⟩
def Fld.TXE_DB_ring (c : Nat) : Fld := ⟨Reg.TXE_DB c, 31, 0⟩
def Fld.TXE_CTRL_abort (c : Nat) : Fld := ⟨Reg.TXE_CTRL c, 2, 2⟩
def Fld.TXE_CTRL_resume (c : Nat) : Fld := ⟨Reg.TXE_CTRL c, 1, 1⟩
def Fld.TXE_CTRL_pause (c : Nat) : Fld := ⟨Reg.TXE_CTRL c, 0, 0⟩
def Fld.TXE_STAT_state (c : Nat) : Fld := ⟨Reg.TXE_STAT c, 31, 28⟩
def Fld.TXE_STAT_retries (c : Nat) : Fld := ⟨Reg.TXE_STAT c, 27, 23⟩
def Fld.TXE_STAT_last (c : Nat) : Fld := ⟨Reg.TXE_STAT c, 7, 0⟩
def Fld.TXE_NEXT_n (c : Nat) : Fld := ⟨Reg.TXE_NEXT c, 31, 0⟩
def Fld.TXE_REMAIN_bytes (c : Nat) : Fld := ⟨Reg.TXE_REMAIN c, 28, 0⟩
def Fld.TXE_CRC_value (c : Nat) : Fld := ⟨Reg.TXE_CRC c, 31, 0⟩
def Fld.TXE_CNT_refused (c : Nat) : Fld := ⟨Reg.TXE_CNT c, 31, 24⟩
def Fld.TXE_CNT_errors (c : Nat) : Fld := ⟨Reg.TXE_CNT c, 23, 16⟩
def Fld.TXE_CNT_done (c : Nat) : Fld := ⟨Reg.TXE_CNT c, 15, 0⟩
def Fld.TXE_ARB_sw_share : Fld := ⟨Reg.TXE_ARB, 7, 0⟩
def Fld.TXE_BUF_peak : Fld := ⟨Reg.TXE_BUF, 31, 16⟩
def Fld.TXE_BUF_live : Fld := ⟨Reg.TXE_BUF, 11, 0⟩
def Fld.OUT_CFG_enable (r : Nat) : Fld := ⟨Reg.OUT_CFG r, 31, 31⟩
def Fld.OUT_CFG_ro (r : Nat) : Fld := ⟨Reg.OUT_CFG r, 30, 30⟩
def Fld.OUT_CFG_fn (r : Nat) : Fld := ⟨Reg.OUT_CFG r, 19, 16⟩
def Fld.OUT_CFG_depth (r : Nat) : Fld := ⟨Reg.OUT_CFG r, 11, 8⟩
def Fld.OUT_DB_ring (r : Nat) : Fld := ⟨Reg.OUT_DB r, 31, 0⟩
def Fld.OUT_NEXT_frame (r : Nat) : Fld := ⟨Reg.OUT_NEXT r, 31, 0⟩
def Fld.OUT_STAT_bound (r : Nat) : Fld := ⟨Reg.OUT_STAT r, 31, 31⟩
def Fld.OUT_STAT_stale (r : Nat) : Fld := ⟨Reg.OUT_STAT r, 30, 30⟩
def Fld.OUT_STAT_busy (r : Nat) : Fld := ⟨Reg.OUT_STAT r, 29, 29⟩
def Fld.OUT_STAT_retries (r : Nat) : Fld := ⟨Reg.OUT_STAT r, 28, 24⟩
def Fld.OUT_PUB_frame (r : Nat) : Fld := ⟨Reg.OUT_PUB r, 31, 0⟩
def Fld.OUT_CNT_failed (r : Nat) : Fld := ⟨Reg.OUT_CNT r, 31, 24⟩
def Fld.OUT_CNT_refused (r : Nat) : Fld := ⟨Reg.OUT_CNT r, 23, 16⟩
def Fld.OUT_CNT_held (r : Nat) : Fld := ⟨Reg.OUT_CNT r, 15, 8⟩
def Fld.OUT_CNT_not_owned (r : Nat) : Fld := ⟨Reg.OUT_CNT r, 7, 0⟩
def Fld.OUT_LOSS_budget (r : Nat) : Fld := ⟨Reg.OUT_LOSS r, 31, 16⟩
def Fld.OUT_LOSS_published (r : Nat) : Fld := ⟨Reg.OUT_LOSS r, 15, 0⟩
def Fld.OUT_FAULT_STAT_valid : Fld := ⟨Reg.OUT_FAULT_STAT, 31, 31⟩
def Fld.OUT_FAULT_STAT_late : Fld := ⟨Reg.OUT_FAULT_STAT, 30, 30⟩
def Fld.OUT_FAULT_STAT_any_late : Fld := ⟨Reg.OUT_FAULT_STAT, 29, 29⟩
def Fld.OUT_FAULT_STAT_matches : Fld := ⟨Reg.OUT_FAULT_STAT, 15, 8⟩
def Fld.OUT_FAULT_STAT_ring : Fld := ⟨Reg.OUT_FAULT_STAT, 7, 0⟩
def Fld.OUT_FAULT_FRAME_frame : Fld := ⟨Reg.OUT_FAULT_FRAME, 31, 0⟩
def Fld.HL_CFG_sris : Fld := ⟨Reg.HL_CFG, 24, 24⟩
def Fld.HL_CFG_max_rate : Fld := ⟨Reg.HL_CFG, 19, 16⟩
def Fld.HL_CFG_max_width : Fld := ⟨Reg.HL_CFG, 11, 8⟩
def Fld.HL_CFG_cxl_offer : Fld := ⟨Reg.HL_CFG, 4, 4⟩
def Fld.HL_STAT_up : Fld := ⟨Reg.HL_STAT, 31, 31⟩
def Fld.HL_STAT_cxl : Fld := ⟨Reg.HL_STAT, 30, 30⟩
def Fld.HL_STAT_cache_on : Fld := ⟨Reg.HL_STAT, 29, 29⟩
def Fld.HL_STAT_ide_on : Fld := ⟨Reg.HL_STAT, 28, 28⟩
def Fld.HL_STAT_rate_now : Fld := ⟨Reg.HL_STAT, 19, 16⟩
def Fld.HL_STAT_width_now : Fld := ⟨Reg.HL_STAT, 11, 8⟩
def Fld.HL_STAT_lstate : Fld := ⟨Reg.HL_STAT, 7, 4⟩
def Fld.HL_BUDGET_trained : Fld := ⟨Reg.HL_BUDGET, 31, 16⟩
def Fld.HL_BUDGET_declared : Fld := ⟨Reg.HL_BUDGET, 15, 0⟩
def Fld.HL_DROPSET_streams : Fld := ⟨Reg.HL_DROPSET, 31, 0⟩
def Fld.HL_TAGS_peak : Fld := ⟨Reg.HL_TAGS, 31, 16⟩
def Fld.HL_TAGS_now : Fld := ⟨Reg.HL_TAGS, 14, 0⟩
def Fld.HL_ERR_cto : Fld := ⟨Reg.HL_ERR, 31, 24⟩
def Fld.HL_ERR_ur_ca : Fld := ⟨Reg.HL_ERR, 23, 16⟩
def Fld.HL_ERR_aer_uncorr : Fld := ⟨Reg.HL_ERR, 15, 8⟩
def Fld.HL_ERR_aer_corr : Fld := ⟨Reg.HL_ERR, 7, 0⟩
def Fld.HL_FN_held : Fld := ⟨Reg.HL_FN, 31, 16⟩
def Fld.HL_FN_ready : Fld := ⟨Reg.HL_FN, 15, 0⟩
def Fld.CSO_CFG_enable (n : Nat) : Fld := ⟨Reg.CSO_CFG n, 31, 31⟩
def Fld.CSO_CFG_rate (n : Nat) : Fld := ⟨Reg.CSO_CFG n, 23, 16⟩
def Fld.CSO_CFG_lsle (n : Nat) : Fld := ⟨Reg.CSO_CFG n, 13, 13⟩
def Fld.CSO_CFG_scr (n : Nat) : Fld := ⟨Reg.CSO_CFG n, 12, 12⟩
def Fld.CSO_CFG_lanes (n : Nat) : Fld := ⟨Reg.CSO_CFG n, 9, 8⟩
def Fld.CSO_CFG_phy_mode (n : Nat) : Fld := ⟨Reg.CSO_CFG n, 7, 6⟩
def Fld.CSO_CFG_cont_clk (n : Nat) : Fld := ⟨Reg.CSO_CFG n, 0, 0⟩
def Fld.CSO_STAT_busy (n : Nat) : Fld := ⟨Reg.CSO_STAT n, 31, 31⟩
def Fld.CSO_STAT_frames (n : Nat) : Fld := ⟨Reg.CSO_STAT n, 15, 0⟩
def Fld.CSO_MAP_enable (m : Nat) : Fld := ⟨Reg.CSO_MAP m, 31, 31⟩
def Fld.CSO_MAP_port (m : Nat) : Fld := ⟨Reg.CSO_MAP m, 25, 24⟩
def Fld.CSO_MAP_vc (m : Nat) : Fld := ⟨Reg.CSO_MAP m, 20, 16⟩
def Fld.CSO_MAP_stream (m : Nat) : Fld := ⟨Reg.CSO_MAP m, 12, 8⟩
def Fld.CSO_MAP_window (m : Nat) : Fld := ⟨Reg.CSO_MAP m, 2, 0⟩

/-! Register rows by block: name, offset, (stride, first index, count) per index, masks of the RW, WO, W1C, W1S and
RS bits, mask of the image bits, reset value, width. -/

/-- Rows of the GLB_ registers. -/
def rowsGLB : List RegRow :=
  [⟨"GLB_ID", 0x0, [], 0x0, 0x0, 0x0, 0x0, 0x0, 0x0, 0x4E4D2432, .word⟩,
   ⟨"GLB_REV", 0x4, [], 0x0, 0x0, 0x0, 0x0, 0x0, 0x0, 0x111, .word⟩,
   ⟨"GLB_CAPS", 0x8, [], 0x0, 0x0, 0x0, 0x0, 0x0, 0x0, 0x20180C08, .word⟩,
   ⟨"GLB_SELF", 0xC, [], 0x0, 0x0, 0x0, 0x0, 0x0, 0x0, 0x0, .word⟩,
   ⟨"GLB_UID.lo", 0x10, [], 0x0, 0x0, 0x0, 0x0, 0x0, 0x0, 0x0, .low⟩,
   ⟨"GLB_UID.hi", 0x14, [], 0x0, 0x0, 0x0, 0x0, 0x0, 0x0, 0x0, .high⟩,
   ⟨"GLB_TAG", 0x18, [], 0xFFFFFFFF, 0x0, 0x0, 0x0, 0x0, 0xFFFFFFFF, 0x0, .word⟩,
   ⟨"GLB_SCRATCH", 0x1C, [], 0xFFFFFFFF, 0x0, 0x0, 0x0, 0x0, 0x0, 0x0, .word⟩,
   ⟨"GLB_OFFWR", 0x20, [], 0x0, 0x0, 0x0, 0x0, 0x0, 0x0, 0x0, .word⟩]

/-- Rows of the PM_ registers. -/
def rowsPM : List RegRow :=
  [⟨"PM_STATE", 0x10000, [], 0x0, 0x0, 0x0, 0x0, 0x0, 0x0, 0x1, .word⟩,
   ⟨"PM_CTRL", 0x10004, [], 0x0, 0x3, 0x0, 0x0, 0x0, 0x0, 0x0, .word⟩,
   ⟨"PM_REFUSE", 0x10008, [], 0x0, 0x0, 0x0, 0x0, 0x80000000, 0x0, 0x0, .word⟩,
   ⟨"PM_AVS_CTRL", 0x10010, [], 0xFFFF01, 0x0, 0x0, 0x0, 0x0, 0x7F000001, 0x321400, .word⟩,
   ⟨"PM_AVS_STAT", 0x10014, [], 0x0, 0x0, 0x0, 0x0, 0x0, 0x0, 0x28, .word⟩,
   ⟨"PM_n_DCTRL", 0x11000, [(0x10, 0, 152)], 0x7, 0x0, 0x0, 0x0, 0x0, 0x4, 0x0, .word⟩,
   ⟨"PM_n_DSTAT", 0x11004, [(0x10, 0, 152)], 0x0, 0x0, 0x0, 0x0, 0x0, 0x0, 0x0, .word⟩]

/-- Rows of the CK_ registers. -/
def rowsCK : List RegRow :=
  [⟨"CK_SRC", 0x18000, [], 0x0, 0x0, 0x0, 0x0, 0x0, 0x0, 0x4, .word⟩,
   ⟨"CK_n_PLL", 0x18100, [(0x10, 0, 8)], 0x0, 0x0, 0x0, 0x0, 0x0, 0x0, 0x0, .word⟩]

/-- Rows of the BOOT_ registers. -/
def rowsBOOT : List RegRow :=
  [⟨"BOOT_STATUS", 0x20000, [], 0x0, 0x0, 0x0, 0x0, 0x0, 0x0, 0x1, .word⟩,
   ⟨"BOOT_RST_CAUSE", 0x20004, [], 0x0, 0x0, 0x1F, 0x0, 0x0, 0x0, 0x0, .word⟩,
   ⟨"BOOT_CMD", 0x20008, [], 0x0, 0xFFFF000F, 0x0, 0x0, 0x0, 0x0, 0x0, .word⟩,
   ⟨"BOOT_IMAGE", 0x2000C, [], 0x0, 0x0, 0x0, 0x0, 0x0, 0x0, 0x0, .word⟩,
   ⟨"BOOT_EPOCH_BASE", 0x20010, [], 0x0, 0x0, 0x0, 0x0, 0x0, 0x0, 0x0, .word⟩,
   ⟨"BOOT_SEC", 0x20014, [], 0x0, 0x0, 0x0, 0x0, 0x0, 0x0, 0x0, .word⟩,
   ⟨"BOOT_n_DIGEST", 0x20020, [(0x4, 0, 12)], 0x0, 0x0, 0x0, 0x0, 0x0, 0x0, 0x0, .word⟩,
   ⟨"BOOT_n_SLOT", 0x20060, [(0x4, 0, 2)], 0x0, 0x0, 0x0, 0x0, 0x0, 0x0, 0x0, .word⟩,
   ⟨"BOOT_CMT_CTRL", 0x20080, [], 0x0, 0x3, 0x0, 0x0, 0x0, 0x0, 0x0, .word⟩,
   ⟨"BOOT_CMT_TARGET", 0x20084, [], 0x8000001F, 0x0, 0x0, 0x0, 0x0, 0x0, 0x0, .word⟩,
   ⟨"BOOT_CMT_FRAME", 0x20088, [], 0xFFFFFFFF, 0x0, 0x0, 0x0, 0x0, 0x0, 0x0, .word⟩,
   ⟨"BOOT_CMT_EPOCH", 0x2008C, [], 0xFFFFFFFF, 0x0, 0x0, 0x0, 0x0, 0x0, 0x0, .word⟩,
   ⟨"BOOT_CMT_STAT", 0x20090, [], 0xFFC, 0x0, 0x0, 0x0, 0x0, 0x0, 0x0, .word⟩,
   ⟨"BOOT_NOR_ADDR", 0x200A0, [], 0xFFFFFFFF, 0x0, 0x0, 0x0, 0x0, 0x0, 0x0, .word⟩,
   ⟨"BOOT_NOR_CTRL", 0x200A4, [], 0x3, 0x0, 0x0, 0x0, 0x0, 0x0, 0x0, .word⟩,
   ⟨"BOOT_n_CMT_DATA", 0x21000, [(0x4, 0, 1024)], 0xFFFFFFFF, 0x0, 0x0, 0x0, 0x0, 0x0, 0x0, .word⟩,
   ⟨"BOOT_n_NOR_BUF", 0x22000, [(0x4, 0, 64)], 0xFFFFFFFF, 0x0, 0x0, 0x0, 0x0, 0x0, 0x0, .word⟩]

/-- Rows of the EVT_ registers. -/
def rowsEVT : List RegRow :=
  [⟨"EVT_MSI_DROP", 0x30000, [], 0x0, 0x0, 0x0, 0x0, 0x0, 0x0, 0x0, .word⟩,
   ⟨"EVT_CNT_CLR", 0x30004, [], 0x0, 0x800007FF, 0x0, 0x0, 0x0, 0x0, 0x0, .word⟩,
   ⟨"EVT_SUM_n", 0x30010, [(0x4, 0, 2)], 0x0, 0x0, 0x0, 0x0, 0x0, 0x0, 0x0, .word⟩,
   ⟨"EVT_MOD_k", 0x30020, [(0x4, 1, 7)], 0xFFFF, 0x0, 0x0, 0x0, 0x0, 0xFFFF, 0x0, .word⟩,
   ⟨"EVT_STAT_n", 0x30100, [(0x4, 0, 48)], 0x0, 0x0, 0xFFFFFFFF, 0x0, 0x0, 0x0, 0x0, .word⟩,
   ⟨"EVT_EN_n", 0x30200, [(0x4, 0, 48)], 0xFFFFFFFF, 0x0, 0x0, 0x0, 0x0, 0xFFFFFFFF, 0x0, .word⟩,
   ⟨"EVT_i_ROUTE", 0x31000, [(0x8, 0, 1536)], 0xF8F307FF, 0x0, 0x0, 0x0, 0x0, 0xF8F307FF, 0x0, .word⟩,
   ⟨"EVT_i_CNT", 0x31004, [(0x8, 0, 1536)], 0x0, 0x0, 0x0, 0x0, 0x0, 0x0, 0x0, .word⟩]

/-- Rows of the GRD_ registers. -/
def rowsGRD : List RegRow :=
  [⟨"GRD_STAT", 0x40000, [], 0x0, 0x0, 0x0, 0x0, 0x0, 0x0, 0x0, .word⟩,
   ⟨"GRD_CTRL", 0x40004, [], 0x0, 0x0, 0x0, 0x3, 0x0, 0x0, 0x0, .word⟩,
   ⟨"GRD_LOG_CNT", 0x40008, [], 0x0, 0x0, 0x0, 0x0, 0x0, 0x0, 0x0, .word⟩,
   ⟨"GRD_REQ_r", 0x40100, [(0x4, 0, 20)], 0x8000000F, 0x0, 0x0, 0x0, 0x0, 0x8000000F, 0x0, .word⟩,
   ⟨"GRD_WIN_w", 0x40200, [(0x4, 0, 45)], 0xFFFFFFFF, 0x0, 0x0, 0x0, 0x0, 0xFFFFFFFF, 0x0, .word⟩,
   ⟨"GRD_STRM_s", 0x40400, [(0x4, 0, 32)], 0xFFFFFFFF, 0x0, 0x0, 0x0, 0x0, 0xFFFFFFFF, 0x0, .word⟩,
   ⟨"GRD_QUE_q", 0x40500, [(0x4, 0, 96)], 0xFFFFFFFF, 0x0, 0x0, 0x0, 0x0, 0xFFFFFFFF, 0x0, .word⟩,
   ⟨"GRD_TXE_c", 0x40800, [(0x4, 0, 128)], 0xFFFFFFFF, 0x0, 0x0, 0x0, 0x0, 0xFFFFFFFF, 0x0, .word⟩,
   ⟨"GRD_GRP_g", 0x40A00, [(0x4, 0, 8)], 0xFFFFFFFF, 0x0, 0x0, 0x0, 0x0, 0xFFFFFFFF, 0x0, .word⟩,
   ⟨"GRD_CHK_n", 0x40A40, [(0x4, 0, 16)], 0xFFFFFFFF, 0x0, 0x0, 0x0, 0x0, 0xFFFFFFFF, 0x0, .word⟩,
   ⟨"GRD_VEC_b", 0x40B00, [(0x4, 0, 47)], 0xFFFF, 0x0, 0x0, 0x0, 0x0, 0xFFFF, 0x0, .word⟩,
   ⟨"GRD_LOG_n_INFO", 0x41000, [(0x10, 0, 32)], 0x0, 0x0, 0x80000000, 0x0, 0x0, 0x0, 0x0, .word⟩,
   ⟨"GRD_LOG_n_ADDR", 0x41004, [(0x10, 0, 32)], 0x0, 0x0, 0x0, 0x0, 0x0, 0x0, 0x0, .word⟩,
   ⟨"GRD_LOG_n_GEN", 0x41008, [(0x10, 0, 32)], 0x0, 0x0, 0x0, 0x0, 0x0, 0x0, 0x0, .word⟩]

/-- Rows of the CEN_ registers. -/
def rowsCEN : List RegRow :=
  [⟨"CEN_CTRL", 0x50000, [], 0xF0000000, 0x0, 0x0, 0x0, 0x0, 0xE0000000, 0x0, .word⟩,
   ⟨"CEN_STAT", 0x50004, [], 0x0, 0x0, 0x0, 0x0, 0x0, 0x0, 0x0, .word⟩,
   ⟨"CEN_EPOCH", 0x50008, [], 0x0, 0x0, 0x0, 0x0, 0x0, 0x0, 0x0, .word⟩,
   ⟨"CEN_PUB", 0x5000C, [], 0x0, 0x0, 0x0, 0x0, 0xFFFFFFFF, 0x0, 0x0, .word⟩,
   ⟨"CEN_n_DIGEST", 0x50010, [(0x4, 0, 4)], 0x0, 0x0, 0x0, 0x0, 0x0, 0x0, 0x0, .word⟩,
   ⟨"CEN_MIS", 0x50020, [], 0x0, 0x0, 0x80000000, 0x0, 0x0, 0x0, 0x0, .word⟩,
   ⟨"CEN_MIS_REG", 0x50024, [], 0x0, 0x0, 0x0, 0x0, 0x0, 0x0, 0x0, .word⟩,
   ⟨"CEN_PEER_EXP_EPOCH", 0x50030, [], 0xFFFFFFFF, 0x0, 0x0, 0x0, 0x0, 0x0, 0x0, .word⟩,
   ⟨"CEN_PEER_EXP_n", 0x50040, [(0x4, 0, 4)], 0xFFFFFFFF, 0x0, 0x0, 0x0, 0x0, 0x0, 0x0, .word⟩,
   ⟨"CEN_SET_m_GOLD", 0x51000, [(0x8, 0, 256)], 0x0, 0x0, 0x0, 0x0, 0x0, 0x0, 0x0, .word⟩,
   ⟨"CEN_SET_m_STAT", 0x51004, [(0x8, 0, 256)], 0x0, 0x0, 0x0, 0x0, 0x0, 0x0, 0x0, .word⟩]

/-- Rows of the CHK_ registers. -/
def rowsCHK : List RegRow :=
  [⟨"CHK_n_CTRL", 0x58000, [(0x40, 0, 16)], 0xFB1F03, 0x0, 0x0, 0xF0000000, 0x0, 0xF80300, 0x0, .word⟩,
   ⟨"CHK_n_RUN", 0x58004, [(0x40, 0, 16)], 0xFFFFFFFF, 0x0, 0x0, 0x0, 0x0, 0x0, 0x0, .word⟩,
   ⟨"CHK_n_FEED", 0x58008, [(0x40, 0, 16)], 0x0, 0xFFFFFFFF, 0x0, 0x0, 0x0, 0x0, 0x0, .word⟩,
   ⟨"CHK_n_RESULT", 0x5800C, [(0x40, 0, 16)], 0x0, 0x0, 0x0, 0x0, 0x0, 0x0, 0x0, .word⟩,
   ⟨"CHK_n_EXPECT", 0x58010, [(0x40, 0, 16)], 0xFFFFFFFF, 0x0, 0x0, 0x0, 0x0, 0x0, 0x0, .word⟩,
   ⟨"CHK_n_ALIVE", 0x58014, [(0x40, 0, 16)], 0xFFFF, 0x0, 0x0, 0x0, 0x0, 0x0, 0x0, .word⟩,
   ⟨"CHK_n_ALIVE_STAT", 0x58018, [(0x40, 0, 16)], 0x0, 0x0, 0x0, 0x0, 0x0, 0x0, 0x0, .word⟩,
   ⟨"CHK_n_SCAN_START", 0x58020, [(0x40, 0, 16)], 0xFFFFFFFF, 0x0, 0x0, 0x0, 0x0, 0x0, 0x0, .word⟩,
   ⟨"CHK_n_SCAN_LEN", 0x58024, [(0x40, 0, 16)], 0xC7FFFFFF, 0x0, 0x0, 0x0, 0x0, 0x0, 0x0, .word⟩,
   ⟨"CHK_n_STAT", 0x58028, [(0x40, 0, 16)], 0x0, 0x0, 0xC000000, 0x0, 0x0, 0x0, 0x0, .word⟩,
   ⟨"CHK_n_CTX_k", 0x58030, [(0x40, 0, 16), (0x4, 0, 4)], 0x0, 0x0, 0x0, 0x0, 0x0, 0x0, 0x0, .word⟩]

/-- Rows of the LIFE_ registers. -/
def rowsLIFE : List RegRow :=
  [⟨"LIFE_CFG", 0x60000, [], 0xFFFF00, 0x0, 0x0, 0x0, 0x0, 0xFFFF00, 0x0, .word⟩,
   ⟨"LIFE_STAT", 0x60004, [], 0x0, 0x0, 0x0, 0x0, 0x0, 0x0, 0x0, .word⟩,
   ⟨"LIFE_CAL.lo", 0x60008, [], 0x0, 0x0, 0x0, 0x0, 0x0, 0x0, 0x0, .low⟩,
   ⟨"LIFE_CAL.hi", 0x6000C, [], 0x0, 0x0, 0x0, 0x0, 0x0, 0x0, 0x0, .high⟩,
   ⟨"LIFE_CAL_SET.lo", 0x60010, [], 0x0, 0xFFFFFFFF, 0x0, 0x0, 0x0, 0x0, 0x0, .low⟩,
   ⟨"LIFE_CAL_SET.hi", 0x60014, [], 0x0, 0xFFFF, 0x0, 0x0, 0x0, 0x0, 0x0, .high⟩,
   ⟨"LIFE_SEQ", 0x60018, [], 0x0, 0x0, 0x0, 0x0, 0x0, 0x0, 0x0, .word⟩,
   ⟨"LIFE_NOR", 0x6001C, [], 0x0, 0x0, 0x0, 0x0, 0x0, 0x0, 0x0, .word⟩,
   ⟨"LIFE_BAD.lo", 0x60020, [], 0x0, 0x0, 0x0, 0x0, 0x0, 0x0, 0x0, .low⟩,
   ⟨"LIFE_BAD.hi", 0x60024, [], 0x0, 0x0, 0x0, 0x0, 0x0, 0x0, 0x0, .high⟩,
   ⟨"LIFE_CORE_n", 0x60040, [(0x4, 0, 4)], 0x0, 0x0, 0x0, 0x0, 0x0, 0x0, 0x0, .word⟩,
   ⟨"LIFE_ITEM_i", 0x61000, [(0x4, 0, 231)], 0x0, 0x0, 0x0, 0x0, 0x0, 0x0, 0x0, .word⟩]

/-- Rows of the TIME_ registers. -/
def rowsTIME : List RegRow :=
  [⟨"TIME_CFG", 0x70000, [], 0xFFFF0F13, 0x0, 0x0, 0x0, 0x0, 0xFFFF0F13, 0x0, .word⟩,
   ⟨"TIME_STAT", 0x70004, [], 0x0, 0x0, 0x0, 0x0, 0x0, 0x0, 0x0, .word⟩,
   ⟨"TIME_NOW.lo", 0x70008, [], 0x0, 0x0, 0x0, 0x0, 0x0, 0x0, 0x0, .low⟩,
   ⟨"TIME_NOW.hi", 0x7000C, [], 0x0, 0x0, 0x0, 0x0, 0x0, 0x0, 0x0, .high⟩,
   ⟨"TIME_OFFSET", 0x70010, [], 0x0, 0x0, 0x0, 0x0, 0x0, 0x0, 0x0, .word⟩,
   ⟨"TIME_PPS.lo", 0x70018, [], 0x0, 0x0, 0x0, 0x0, 0x0, 0x0, 0x0, .low⟩,
   ⟨"TIME_PPS.hi", 0x7001C, [], 0x0, 0x0, 0x0, 0x0, 0x0, 0x0, 0x0, .high⟩,
   ⟨"TIME_PTM.lo", 0x70020, [], 0x0, 0x0, 0x0, 0x0, 0x0, 0x0, 0x0, .low⟩,
   ⟨"TIME_PTM.hi", 0x70024, [], 0x0, 0x0, 0x0, 0x0, 0x0, 0x0, 0x0, .high⟩,
   ⟨"TIME_TOD.lo", 0x70028, [], 0x0, 0xFFFFFFFF, 0x0, 0x0, 0x0, 0x0, 0x0, .low⟩,
   ⟨"TIME_TOD.hi", 0x7002C, [], 0x0, 0xFFFFFFFF, 0x0, 0x0, 0x0, 0x0, 0x0, .high⟩,
   ⟨"TIME_PHY", 0x70030, [], 0xFFFFFFFF, 0x0, 0x0, 0x0, 0x0, 0xFFFFFFFF, 0x0, .word⟩]

/-- Rows of the SYNC_ registers. -/
def rowsSYNC : List RegRow :=
  [⟨"SYNC_g_PERIOD", 0x71000, [(0x20, 0, 8)], 0xFFFFFFFF, 0x0, 0x0, 0x0, 0x0, 0xFFFFFFFF, 0x0, .word⟩,
   ⟨"SYNC_g_PHASE", 0x71004, [(0x20, 0, 8)], 0xFFFFFFFF, 0x0, 0x0, 0x0, 0x0, 0xFFFFFFFF, 0x0, .word⟩,
   ⟨"SYNC_g_CTRL", 0x71008, [(0x20, 0, 8)], 0x0, 0x0, 0x0, 0x0, 0x0, 0x0, 0x0, .word⟩,
   ⟨"SYNC_g_NEXT.lo", 0x71010, [(0x20, 0, 8)], 0x0, 0x0, 0x0, 0x0, 0x0, 0x0, 0x0, .low⟩,
   ⟨"SYNC_g_NEXT.hi", 0x71014, [(0x20, 0, 8)], 0x0, 0x0, 0x0, 0x0, 0x0, 0x0, 0x0, .high⟩,
   ⟨"SYNC_FSO_n", 0x71200, [(0x4, 0, 16)], 0x87FFFFFF, 0x0, 0x0, 0x0, 0x0, 0x87FFFFFF, 0x0, .word⟩,
   ⟨"SYNC_TUN_p", 0x71300, [(0x4, 0, 16)], 0xFFFFFFFF, 0x0, 0x0, 0x0, 0x0, 0xFFFFFFFF, 0x0, .word⟩]

/-- Rows of the SIG_ registers. -/
def rowsSIG : List RegRow :=
  [⟨"SIG_CAN_n_CFG", 0x80000, [(0x40, 0, 4)], 0x8EFF0001, 0x0, 0x0, 0x0, 0x0, 0x8EFF0001, 0x0, .word⟩,
   ⟨"SIG_CAN_n_STAT", 0x80004, [(0x40, 0, 4)], 0x0, 0x0, 0x0, 0x0, 0x0, 0x0, 0xC0000000, .word⟩,
   ⟨"SIG_SPIT_STAT", 0x80100, [], 0x0, 0x0, 0x0, 0x0, 0x0, 0x0, 0x0, .word⟩,
   ⟨"SIG_I2CT_CFG", 0x80104, [], 0x8000017F, 0x0, 0x0, 0x0, 0x0, 0x8000017F, 0x0, .word⟩,
   ⟨"SIG_GPIO_LVL", 0x80108, [], 0x0, 0x0, 0x0, 0x0, 0x0, 0x0, 0x0, .word⟩,
   ⟨"SIG_GPIO_n_CFG", 0x80200, [(0x4, 0, 32)], 0xFC0000FF, 0x0, 0x0, 0x0, 0x0, 0xFC0000FF, 0x0, .word⟩,
   ⟨"SIG_GM_n_CFG", 0x80300, [(0x10, 0, 2)], 0x800000F0, 0x0, 0x0, 0x0, 0x0, 0x800000F0, 0x0, .word⟩,
   ⟨"SIG_GM_n_XFER", 0x80304, [(0x10, 0, 2)], 0x4EFEFFFF, 0x0, 0x0, 0x80000000, 0x0, 0x0, 0x0, .word⟩,
   ⟨"SIG_GM_n_XDATA", 0x80308, [(0x10, 0, 2)], 0xFFFFFFFF, 0x0, 0x0, 0x0, 0x0, 0x0, 0x0, .word⟩,
   ⟨"SIG_MSG_m_ID", 0x81000, [(0x10, 0, 64)], 0xDFFFFFFF, 0x0, 0x0, 0x0, 0x0, 0xDFFFFFFF, 0x0, .word⟩,
   ⟨"SIG_MSG_m_CFG", 0x81004, [(0x10, 0, 64)], 0xFF7F7FFF, 0x0, 0x0, 0x0, 0x0, 0xFF7F7FFF, 0x0, .word⟩,
   ⟨"SIG_TX_j_ID", 0x82000, [(0x40, 0, 16)], 0xDFFFFFFF, 0x0, 0x0, 0x0, 0x0, 0xDFFFFFFF, 0x0, .word⟩,
   ⟨"SIG_TX_j_CFG", 0x82004, [(0x40, 0, 16)], 0xF07FFFFF, 0x0, 0x0, 0x0, 0x0, 0xF07FFFFF, 0x0, .word⟩,
   ⟨"SIG_TX_j_F_i", 0x82010, [(0x40, 0, 16), (0x4, 0, 4)], 0xFFFFE1FF, 0x0, 0x0, 0x0, 0x0, 0xFFFFE1FF, 0x0, .word⟩,
   ⟨"SIG_DEF_k_POS", 0x84000, [(0x20, 0, 256)], 0xFFFF01FF, 0x0, 0x0, 0x0, 0x0, 0xFFFF01FF, 0x0, .word⟩,
   ⟨"SIG_DEF_k_FACTOR", 0x84004, [(0x20, 0, 256)], 0xFFFFFFFF, 0x0, 0x0, 0x0, 0x0, 0xFFFFFFFF, 0x0, .word⟩,
   ⟨"SIG_DEF_k_OFFSET.lo", 0x84008, [(0x20, 0, 256)], 0xFFFFFFFF, 0x0, 0x0, 0x0, 0x0, 0xFFFFFFFF, 0x0, .low⟩,
   ⟨"SIG_DEF_k_OFFSET.hi", 0x8400C, [(0x20, 0, 256)], 0xFFFF, 0x0, 0x0, 0x0, 0x0, 0xFFFF, 0x0, .high⟩,
   ⟨"SIG_DEF_k_ROUTE", 0x84010, [(0x20, 0, 256)], 0xFFFFFFFF, 0x0, 0x0, 0x0, 0x0, 0xFFFFFFFF, 0x0, .word⟩,
   ⟨"SIG_DEF_k_VALUE.lo", 0x84018, [(0x20, 0, 256)], 0x0, 0x0, 0x0, 0x0, 0x0, 0x0, 0x0, .low⟩] ++
  [⟨"SIG_DEF_k_VALUE.hi", 0x8401C, [(0x20, 0, 256)], 0x0, 0x0, 0x0, 0x0, 0x0, 0x0, 0x0, .high⟩]

/-- Rows of the ERK_ registers. -/
def rowsERK : List RegRow :=
  [⟨"ERK_CFG", 0x90000, [], 0xC0000000, 0x0, 0x0, 0x0, 0x0, 0xC0000000, 0x0, .word⟩,
   ⟨"ERK_STAT", 0x90004, [], 0x0, 0x0, 0x0, 0x0, 0x0, 0x0, 0x0, .word⟩,
   ⟨"ERK_TIME_OFFSET.lo", 0x90008, [], 0x0, 0x0, 0x0, 0x0, 0x0, 0x0, 0x0, .low⟩,
   ⟨"ERK_TIME_OFFSET.hi", 0x9000C, [], 0x0, 0x0, 0x0, 0x0, 0x0, 0x0, 0x0, .high⟩,
   ⟨"ERK_PEER_EPOCH", 0x90010, [], 0x0, 0x0, 0x0, 0x0, 0x0, 0x0, 0x0, .word⟩,
   ⟨"ERK_PEER_DIGEST_n", 0x90020, [(0x4, 0, 4)], 0x0, 0x0, 0x0, 0x0, 0x0, 0x0, 0x0, .word⟩,
   ⟨"ERK_NOTICE", 0x90030, [], 0x0, 0x0, 0x80000000, 0x0, 0x0, 0x0, 0x0, .word⟩,
   ⟨"ERK_NOTICE_FRAME", 0x90034, [], 0x0, 0x0, 0x0, 0x0, 0x0, 0x0, 0x0, .word⟩,
   ⟨"ERK_PCTL", 0x90040, [], 0x40FFFFFF, 0x0, 0x0, 0x80000000, 0x0, 0x0, 0x0, .word⟩,
   ⟨"ERK_PCTL_DATA", 0x90044, [], 0xFFFFFFFF, 0x0, 0x0, 0x0, 0x0, 0x0, 0x0, .word⟩,
   ⟨"ERK_MIR_m_CFG", 0x90100, [(0x10, 0, 8)], 0xC03F1F1F, 0x0, 0x0, 0x0, 0x0, 0xC03F1F1F, 0x0, .word⟩,
   ⟨"ERK_MIR_m_STAT", 0x90104, [(0x10, 0, 8)], 0x0, 0x0, 0x0, 0x0, 0x0, 0x0, 0x0, .word⟩]

/-- Rows of the BIST_ registers. -/
def rowsBIST : List RegRow :=
  [⟨"BIST_CTRL", 0xA0000, [], 0x0, 0xFFFF03FF, 0x0, 0x0, 0x0, 0x0, 0x0, .word⟩,
   ⟨"BIST_STAT", 0xA0004, [], 0x0, 0x0, 0x0, 0x0, 0x0, 0x0, 0x40000000, .word⟩,
   ⟨"BIST_FUSE", 0xA0008, [], 0x0, 0x0, 0x0, 0x0, 0x0, 0x0, 0x0, .word⟩,
   ⟨"BIST_DOM_d", 0xA1000, [(0x4, 0, 152)], 0x0, 0x0, 0x0, 0x0, 0x0, 0x0, 0x0, .word⟩]

/-- Rows of the FI_ registers. -/
def rowsFI : List RegRow :=
  [⟨"FI_CTRL", 0xB0000, [], 0x80000000, 0x0, 0x0, 0x0, 0x0, 0x0, 0x0, .word⟩,
   ⟨"FI_SEED", 0xB0004, [], 0xFFFFFFFF, 0x0, 0x0, 0x0, 0x0, 0xFFFFFFFF, 0x0, .word⟩,
   ⟨"FI_k_CFG", 0xB0100, [(0x10, 0, 8)], 0xFFFFFFFF, 0x0, 0x0, 0x0, 0x0, 0xFFFFFFFF, 0x0, .word⟩,
   ⟨"FI_k_PARAM", 0xB0104, [(0x10, 0, 8)], 0xFFFFFFFF, 0x0, 0x0, 0x0, 0x0, 0xFFFFFFFF, 0x0, .word⟩,
   ⟨"FI_k_STAT", 0xB0108, [(0x10, 0, 8)], 0x0, 0x0, 0x0, 0x0, 0x0, 0x0, 0x0, .word⟩,
   ⟨"FI_k_STATE", 0xB010C, [(0x10, 0, 8)], 0x0, 0x0, 0x0, 0x0, 0x0, 0x0, 0x0, .word⟩]

/-- Rows of the PORT_ registers. -/
def rowsPORT : List RegRow :=
  [⟨"PORT_p_CFG", 0x100000, [(0x1000, 0, 24)], 0xFF3CC1, 0x0, 0x0, 0x0, 0x0, 0xFF3CC1, 0x0, .word⟩,
   ⟨"PORT_p_LINK", 0x100004, [(0x1000, 0, 24)], 0xFF0C0F, 0x0, 0x0, 0x80000000, 0x0, 0xFF0C0F, 0x0, .word⟩,
   ⟨"PORT_p_LSTAT", 0x100008, [(0x1000, 0, 24)], 0x0, 0x0, 0x0, 0x0, 0x0, 0x0, 0x0, .word⟩,
   ⟨"PORT_p_EQ", 0x10000C, [(0x1000, 0, 24)], 0xFF000000, 0x0, 0x0, 0x0, 0xFF00, 0xFF000000, 0x0, .word⟩,
   ⟨"PORT_p_TIMEOUT", 0x100010, [(0x1000, 0, 24)], 0xFF00FF, 0x0, 0x0, 0x0, 0x0, 0xFF00FF, 0x0, .word⟩,
   ⟨"PORT_p_VCMAP_k", 0x100020, [(0x1000, 0, 24), (0x8, 0, 4)], 0x831F7F1F, 0x0, 0x0, 0x0, 0x0, 0x831F7F1F, 0x0, .word⟩,
   ⟨"PORT_p_SKETCH_k", 0x100024, [(0x1000, 0, 24), (0x8, 0, 4)], 0x80FFFFFF, 0x0, 0x0, 0x0, 0x0, 0x80FFFFFF, 0x0, .word⟩,
   ⟨"PORT_p_ERR_ECC", 0x100040, [(0x1000, 0, 24)], 0x0, 0x0, 0x0, 0x0, 0x0, 0x0, 0x0, .word⟩,
   ⟨"PORT_p_ERR_CRC", 0x100044, [(0x1000, 0, 24)], 0x0, 0x0, 0x0, 0x0, 0x0, 0x0, 0x0, .word⟩,
   ⟨"PORT_p_ERR_LINE", 0x100048, [(0x1000, 0, 24)], 0x0, 0x0, 0x0, 0x0, 0x0, 0x0, 0x0, .word⟩,
   ⟨"PORT_p_ERR_MISC", 0x10004C, [(0x1000, 0, 24)], 0x0, 0x0, 0x0, 0x0, 0x0, 0x0, 0x0, .word⟩,
   ⟨"PORT_p_RETX", 0x100050, [(0x1000, 0, 24)], 0x0, 0x0, 0x0, 0x0, 0x0, 0x0, 0x0, .word⟩,
   ⟨"PORT_p_FSTAT", 0x100060, [(0x1000, 0, 24)], 0x0, 0x0, 0x0, 0x0, 0x0, 0x0, 0x0, .word⟩,
   ⟨"PORT_p_GAPA_k", 0x100080, [(0x1000, 0, 24), (0x8, 0, 4)], 0x0, 0x0, 0x0, 0x0, 0x0, 0x0, 0x0, .word⟩,
   ⟨"PORT_p_GAPB_k", 0x100084, [(0x1000, 0, 24), (0x8, 0, 4)], 0x0, 0x0, 0x0, 0x0, 0x0, 0x0, 0x0, .word⟩]

/-- Rows of the SC_ registers. -/
def rowsSC : List RegRow :=
  [⟨"SC_p_CFG", 0x120000, [(0x100, 0, 24)], 0xFF0CF1, 0x0, 0x0, 0x0, 0x0, 0xFF0CF1, 0x0, .word⟩,
   ⟨"SC_p_STAT", 0x120004, [(0x100, 0, 24)], 0x0, 0x0, 0x0, 0x0, 0x0, 0x0, 0x0, .word⟩,
   ⟨"SC_p_XFER", 0x120008, [(0x100, 0, 24)], 0x4F80FFFF, 0x0, 0x0, 0x80000000, 0x0, 0x0, 0x0, .word⟩,
   ⟨"SC_p_XDATA", 0x12000C, [(0x100, 0, 24)], 0xFFFF, 0x0, 0x0, 0x0, 0x0, 0x0, 0x0, .word⟩,
   ⟨"SC_p_TGT_k", 0x120010, [(0x100, 0, 24), (0x4, 0, 4)], 0xC1F01F7F, 0x0, 0x0, 0x0, 0x0, 0xC1F01F7F, 0x0, .word⟩]

/-- Rows of the STRM_ registers. -/
def rowsSTRM : List RegRow :=
  [⟨"STRM_s_CFG", 0x200000, [(0x2000, 0, 32)], 0xBF73E7FF, 0x0, 0x0, 0x0, 0x0, 0xBF73E7FF, 0x0, .word⟩,
   ⟨"STRM_s_GEOM", 0x200004, [(0x2000, 0, 32)], 0x3FFF3FFF, 0x0, 0x0, 0x0, 0x0, 0x3FFF3FFF, 0x0, .word⟩,
   ⟨"STRM_s_BUDGET", 0x200008, [(0x2000, 0, 32)], 0xFFFFF, 0x0, 0x0, 0x0, 0x0, 0xFFFFF, 0x0, .word⟩,
   ⟨"STRM_s_TIN", 0x20000C, [(0x2000, 0, 32)], 0xFFFFF, 0x0, 0x0, 0x0, 0x0, 0xFFFFF, 0x0, .word⟩,
   ⟨"STRM_s_FRAME", 0x200010, [(0x2000, 0, 32)], 0x0, 0x0, 0x0, 0x0, 0x0, 0x0, 0x0, .word⟩,
   ⟨"STRM_s_STAT", 0x200014, [(0x2000, 0, 32)], 0x0, 0x0, 0x0, 0x0, 0x0, 0x0, 0x7F000000, .word⟩,
   ⟨"STRM_s_PLACE", 0x200018, [(0x2000, 0, 32)], 0x0, 0x0, 0x0, 0x0, 0x0, 0x0, 0x78000000, .word⟩,
   ⟨"STRM_s_DROP", 0x20001C, [(0x2000, 0, 32)], 0x0, 0x0, 0x0, 0x0, 0x0, 0x0, 0x0, .word⟩,
   ⟨"STRM_s_VIEW_v_CFG", 0x200100, [(0x2000, 0, 32), (0x20, 0, 4)], 0xEF000000, 0x0, 0x0, 0x0, 0x0, 0xEF000000, 0x0, .word⟩,
   ⟨"STRM_s_VIEW_v_FILL", 0x200104, [(0x2000, 0, 32), (0x20, 0, 4)], 0x3FFFFFFF, 0x0, 0x0, 0x0, 0x0, 0x3FFFFFFF, 0x0, .word⟩,
   ⟨"STRM_s_VIEW_v_CROP", 0x200108, [(0x2000, 0, 32), (0x20, 0, 4)], 0x3FFF3FFF, 0x0, 0x0, 0x0, 0x0, 0x3FFF3FFF, 0x0, .word⟩,
   ⟨"STRM_s_VIEW_v_CSIZE", 0x20010C, [(0x2000, 0, 32), (0x20, 0, 4)], 0x3FFF3FFF, 0x0, 0x0, 0x0, 0x0, 0x3FFF3FFF, 0x0, .word⟩,
   ⟨"STRM_s_VIEW_v_OSIZE", 0x200110, [(0x2000, 0, 32), (0x20, 0, 4)], 0x3FFF3FFF, 0x0, 0x0, 0x0, 0x0, 0x3FFF3FFF, 0x0, .word⟩]

/-- Rows of the PLC_ registers. -/
def rowsPLC : List RegRow :=
  [⟨"PLC_STAT", 0x300000, [], 0x0, 0x0, 0x0, 0x0, 0x0, 0x0, 0xBB0, .word⟩,
   ⟨"PLC_DIGEST", 0x300004, [], 0x0, 0x0, 0x0, 0x0, 0x0, 0x0, 0x0, .word⟩,
   ⟨"PLC_REF", 0x300008, [], 0x0, 0x0, 0x0, 0x0, 0x80000000, 0x0, 0x0, .word⟩,
   ⟨"PLC_REF_NEED", 0x30000C, [], 0x0, 0x0, 0x0, 0x0, 0x0, 0x0, 0x0, .word⟩,
   ⟨"PLC_REF_HAVE", 0x300010, [], 0x0, 0x0, 0x0, 0x0, 0x0, 0x0, 0x0, .word⟩,
   ⟨"PLC_ROT", 0x300014, [], 0x8000FFFF, 0x0, 0x0, 0x0, 0x0, 0x8000FFFF, 0x0, .word⟩,
   ⟨"PLC_EASEL_CTRL", 0x300018, [], 0x0, 0xFFFF030F, 0x0, 0x0, 0x0, 0x0, 0x0, .word⟩,
   ⟨"PLC_CELLS", 0x30001C, [], 0x0, 0x0, 0x0, 0x0, 0x0, 0x0, 0x0, .word⟩,
   ⟨"PLC_HL", 0x300020, [], 0x0, 0x0, 0x0, 0x0, 0x0, 0x0, 0x0, .word⟩,
   ⟨"PLC_EASEL_e_STAT", 0x300100, [(0x10, 0, 12)], 0x0, 0x0, 0x0, 0x0, 0x0, 0x0, 0xF000000, .word⟩,
   ⟨"PLC_EASEL_e_STROKES", 0x300104, [(0x10, 0, 12)], 0x0, 0x0, 0x0, 0x0, 0x0, 0x0, 0x0, .word⟩]

/-- Rows of the EAS_ registers. -/
def rowsEAS : List RegRow :=
  [⟨"EAS_e_STAT", 0x400000, [(0x10000, 0, 12)], 0x0, 0x0, 0x0, 0x0, 0x0, 0x0, 0x0, .word⟩,
   ⟨"EAS_e_LINES", 0x400004, [(0x10000, 0, 12)], 0x0, 0x0, 0x0, 0x0, 0x0, 0x0, 0x0, .word⟩,
   ⟨"EAS_e_STROKES", 0x400008, [(0x10000, 0, 12)], 0x0, 0x0, 0x0, 0x0, 0x0, 0x0, 0x0, .word⟩,
   ⟨"EAS_e_CTXLD", 0x40000C, [(0x10000, 0, 12)], 0x0, 0x0, 0x0, 0x0, 0x0, 0x0, 0x0, .word⟩,
   ⟨"EAS_e_WAIT", 0x400010, [(0x10000, 0, 12)], 0x0, 0x0, 0x0, 0x0, 0xFFFF0000, 0x0, 0x0, .word⟩,
   ⟨"EAS_e_ECC", 0x400014, [(0x10000, 0, 12)], 0x0, 0x0, 0x0, 0x0, 0x0, 0x0, 0x0, .word⟩,
   ⟨"EAS_e_DPC", 0x400018, [(0x10000, 0, 12)], 0x0, 0x0, 0x0, 0x0, 0x0, 0x0, 0x0, .word⟩,
   ⟨"EAS_TRL_CTRL", 0x4C0000, [], 0x0, 0x3, 0x0, 0x0, 0x0, 0x0, 0x0, .word⟩,
   ⟨"EAS_TRL_TARGET", 0x4C0004, [], 0xB000001F, 0x0, 0x0, 0x0, 0x0, 0x0, 0x0, .word⟩,
   ⟨"EAS_TRL_FRAME", 0x4C0008, [], 0xFFFFFFFF, 0x0, 0x0, 0x0, 0x0, 0x0, 0x0, .word⟩,
   ⟨"EAS_TRL_EPOCH", 0x4C000C, [], 0xFFFFFFFF, 0x0, 0x0, 0x0, 0x0, 0x0, 0x0, .word⟩,
   ⟨"EAS_TRL_LEN", 0x4C0010, [], 0x1FFFF, 0x0, 0x0, 0x0, 0x0, 0x0, 0x0, .word⟩,
   ⟨"EAS_TRL_STAT", 0x4C0014, [], 0x0, 0x0, 0x0, 0x0, 0x0, 0x0, 0x0, .word⟩,
   ⟨"EAS_n_TRL_BUF", 0x4E0000, [(0x4, 0, 16384)], 0xFFFFFFFF, 0x0, 0x0, 0x0, 0x0, 0x0, 0x0, .word⟩]

/-- Rows of the STAT_ registers. -/
def rowsSTAT : List RegRow :=
  [⟨"STAT_s_CFG", 0x500000, [(0x800, 0, 32)], 0xE0FFFFFF, 0x0, 0x0, 0x0, 0x0, 0xE0FFFFFF, 0x0, .word⟩,
   ⟨"STAT_s_AE_CTRL", 0x500004, [(0x800, 0, 32)], 0xFFFFFFFF, 0x0, 0x0, 0x0, 0x0, 0xFFFFFFFF, 0x0, .word⟩,
   ⟨"STAT_s_AE_TMAX", 0x500008, [(0x800, 0, 32)], 0xFFFFFFFF, 0x0, 0x0, 0x0, 0x0, 0xFFFFFFFF, 0x0, .word⟩,
   ⟨"STAT_s_AE_LIM", 0x50000C, [(0x800, 0, 32)], 0xFFFFFFFF, 0x0, 0x0, 0x0, 0x0, 0xFFFFFFFF, 0x0, .word⟩,
   ⟨"STAT_s_AE_CONV", 0x500010, [(0x800, 0, 32)], 0xFFFFFFFF, 0x0, 0x0, 0x0, 0x0, 0xFFFFFFFF, 0x0, .word⟩,
   ⟨"STAT_s_AE_RATIO_A", 0x500014, [(0x800, 0, 32)], 0xFFFFFFFF, 0x0, 0x0, 0x0, 0x0, 0xFFFFFFFF, 0x0, .word⟩,
   ⟨"STAT_s_AE_RATIO_B", 0x500018, [(0x800, 0, 32)], 0xFFFF, 0x0, 0x0, 0x0, 0x0, 0xFFFF, 0x0, .word⟩,
   ⟨"STAT_s_AWB_CTRL", 0x50001C, [(0x800, 0, 32)], 0xFF000FFF, 0x0, 0x0, 0x0, 0x0, 0xFF000FFF, 0x0, .word⟩,
   ⟨"STAT_s_AWB_LUM", 0x500020, [(0x800, 0, 32)], 0xFFFFFFFF, 0x0, 0x0, 0x0, 0x0, 0xFFFFFFFF, 0x0, .word⟩,
   ⟨"STAT_s_AWB_BOX", 0x500024, [(0x800, 0, 32)], 0xFFFFFFFF, 0x0, 0x0, 0x0, 0x0, 0xFFFFFFFF, 0x0, .word⟩,
   ⟨"STAT_s_AWB_GAIN", 0x500028, [(0x800, 0, 32)], 0xFFFFFFFF, 0x0, 0x0, 0x0, 0x0, 0xFFFFFFFF, 0x0, .word⟩,
   ⟨"STAT_s_LSC_Q", 0x50002C, [(0x800, 0, 32)], 0xFFFFFFFF, 0x0, 0x0, 0x0, 0x0, 0xFFFFFFFF, 0x0, .word⟩,
   ⟨"STAT_s_TONE", 0x500030, [(0x800, 0, 32)], 0xFFFF01FF, 0x0, 0x0, 0x0, 0x0, 0xFFFF01FF, 0x0, .word⟩,
   ⟨"STAT_s_LCE", 0x500034, [(0x800, 0, 32)], 0xFFFFFFFF, 0x0, 0x0, 0x0, 0x0, 0xFFFFFFFF, 0x0, .word⟩,
   ⟨"STAT_s_FLK", 0x500038, [(0x800, 0, 32)], 0xBFFFFFFF, 0x0, 0x0, 0x0, 0x0, 0xBFFFFFFF, 0x0, .word⟩,
   ⟨"STAT_s_LCE_T", 0x50003C, [(0x800, 0, 32)], 0xFFFF, 0x0, 0x0, 0x0, 0x0, 0xFFFF, 0x0, .word⟩,
   ⟨"STAT_s_AE_STAT", 0x500040, [(0x800, 0, 32)], 0x0, 0x0, 0x0, 0x0, 0x0, 0x0, 0x0, .word⟩,
   ⟨"STAT_s_FLK_STAT", 0x500044, [(0x800, 0, 32)], 0x0, 0x0, 0x0, 0x0, 0x0, 0x0, 0x40000000, .word⟩,
   ⟨"STAT_s_CNT", 0x500048, [(0x800, 0, 32)], 0x0, 0x0, 0x0, 0x0, 0x0, 0x0, 0x0, .word⟩,
   ⟨"STAT_s_AE_W_n", 0x500080, [(0x800, 0, 32), (0x4, 0, 48)], 0xFFFFFFFF, 0x0, 0x0, 0x0, 0x0, 0xFFFFFFFF, 0x0, .word⟩] ++
  [⟨"STAT_s_RES_HEAD", 0x500200, [(0x800, 0, 32)], 0x0, 0x0, 0x0, 0x0, 0xFFFFFFFF, 0x0, 0x0, .word⟩,
   ⟨"STAT_s_RES_n", 0x500204, [(0x800, 0, 32), (0x4, 0, 8)], 0x0, 0x0, 0x0, 0x0, 0x0, 0x0, 0x0, .word⟩]

/-- Rows of the LDG_ registers. -/
def rowsLDG : List RegRow :=
  [⟨"LDG_s_CNT", 0x510000, [(0x2000, 0, 32)], 0x0, 0x0, 0x0, 0x0, 0x0, 0x0, 0x0, .word⟩,
   ⟨"LDG_s_CMD_CTRL", 0x510004, [(0x2000, 0, 32)], 0x0, 0x3, 0x0, 0x0, 0x0, 0x0, 0x0, .word⟩,
   ⟨"LDG_s_CMD_FRAME", 0x510008, [(0x2000, 0, 32)], 0xFFFFFFFF, 0x0, 0x0, 0x0, 0x0, 0x0, 0x0, .word⟩,
   ⟨"LDG_s_CMD_MASK", 0x51000C, [(0x2000, 0, 32)], 0x1FFFF, 0x0, 0x0, 0x0, 0x0, 0x0, 0x0, .word⟩,
   ⟨"LDG_s_CMD_n", 0x510010, [(0x2000, 0, 32), (0x4, 0, 11)], 0xFFFFFFFF, 0x0, 0x0, 0x0, 0x0, 0xFFFFFFFF, 0x0, .word⟩,
   ⟨"LDG_s_CMD_APPLY", 0x510040, [(0x2000, 0, 32)], 0x0, 0x0, 0x0, 0x0, 0x0, 0x0, 0x0, .word⟩,
   ⟨"LDG_s_E_i_n", 0x511000, [(0x2000, 0, 32), (0x40, 0, 64), (0x4, 0, 16)], 0x0, 0x0, 0x0, 0x0, 0x0, 0x0, 0x0, .word⟩]

/-- Rows of the PAL_ registers. -/
def rowsPAL : List RegRow :=
  [⟨"PAL_CELLS", 0x600000, [], 0x0, 0x0, 0x0, 0x0, 0x0, 0x0, 0x0, .word⟩,
   ⟨"PAL_ECC", 0x600004, [], 0x0, 0x0, 0x0, 0x0, 0x0, 0x0, 0x0, .word⟩,
   ⟨"PAL_ERR", 0x600008, [], 0x0, 0x0, 0x80000000, 0x0, 0x0, 0x0, 0x0, .word⟩,
   ⟨"PAL_ERR_OWN", 0x60000C, [], 0x0, 0x0, 0x0, 0x0, 0x0, 0x0, 0x0, .word⟩,
   ⟨"PAL_SCRUB_CTRL", 0x600010, [], 0x8000FFFF, 0x0, 0x0, 0x0, 0x0, 0x8000FFFF, 0x0, .word⟩,
   ⟨"PAL_SCRUB_STAT", 0x600014, [], 0x0, 0x0, 0x0, 0x0, 0x0, 0x0, 0x0, .word⟩,
   ⟨"PAL_QUOTA", 0x600018, [], 0x0, 0x0, 0x0, 0x0, 0x0, 0x0, 0x0, .word⟩,
   ⟨"PAL_GROUP_g", 0x600100, [(0x4, 0, 48)], 0x0, 0x0, 0x0, 0x0, 0x0, 0x0, 0x0, .word⟩]

/-- Rows of the QUE_ registers. -/
def rowsQUE : List RegRow :=
  [⟨"QUE_POOL", 0x610000, [], 0x0, 0x0, 0x0, 0x0, 0x0, 0x0, 0x0, .word⟩,
   ⟨"QUE_ERR", 0x610004, [], 0x0, 0x0, 0x80000000, 0x0, 0x0, 0x0, 0x0, .word⟩,
   ⟨"QUE_FC_n_CFG", 0x610100, [(0x20, 0, 8)], 0x800000FF, 0x0, 0x0, 0x0, 0x0, 0x800000FF, 0x0, .word⟩,
   ⟨"QUE_FC_n_MASK_k", 0x610104, [(0x20, 0, 8), (0x4, 0, 3)], 0xFFFFFFFF, 0x0, 0x0, 0x0, 0x0, 0xFFFFFFFF, 0x0, .word⟩,
   ⟨"QUE_FC_n_STAT", 0x610110, [(0x20, 0, 8)], 0x0, 0x0, 0x0, 0x0, 0x0, 0x0, 0x0, .word⟩,
   ⟨"QUE_q_CFG", 0x620000, [(0x40, 0, 96)], 0xCF00FFFF, 0x0, 0x0, 0x0, 0x0, 0xCF00FFFF, 0x0, .word⟩,
   ⟨"QUE_q_WMH", 0x620004, [(0x40, 0, 96)], 0x1FFFFF, 0x0, 0x0, 0x0, 0x0, 0x1FFFFF, 0x0, .word⟩,
   ⟨"QUE_q_WML", 0x620008, [(0x40, 0, 96)], 0x1FFFFF, 0x0, 0x0, 0x0, 0x0, 0x1FFFFF, 0x0, .word⟩,
   ⟨"QUE_q_LEVEL", 0x62000C, [(0x40, 0, 96)], 0x0, 0x0, 0x0, 0x0, 0x0, 0x0, 0x0, .word⟩,
   ⟨"QUE_q_LOST", 0x620010, [(0x40, 0, 96)], 0x0, 0x0, 0x0, 0x0, 0x0, 0x0, 0x0, .word⟩,
   ⟨"QUE_q_STAT", 0x620014, [(0x40, 0, 96)], 0x0, 0x0, 0x0, 0x0, 0x0, 0x0, 0x0, .word⟩,
   ⟨"QUE_q_PUSH", 0x620018, [(0x40, 0, 96)], 0x0, 0x7FFFF, 0x0, 0x0, 0x0, 0x0, 0x0, .word⟩,
   ⟨"QUE_q_CTRL", 0x62001C, [(0x40, 0, 96)], 0x0, 0x0, 0x0, 0x1, 0x0, 0x0, 0x0, .word⟩,
   ⟨"QUE_q_POP.lo", 0x620020, [(0x40, 0, 96)], 0x0, 0x0, 0x0, 0x0, 0xFFFFFFFF, 0x0, 0x0, .low⟩,
   ⟨"QUE_q_POP.hi", 0x620024, [(0x40, 0, 96)], 0x0, 0x0, 0x0, 0x0, 0xFFFFFFFF, 0x0, 0x0, .high⟩,
   ⟨"QUE_q_POPS", 0x620028, [(0x40, 0, 96)], 0x0, 0x0, 0x0, 0x0, 0x0, 0x0, 0x0, .word⟩]

/-- Rows of the TXE_ registers. -/
def rowsTXE : List RegRow :=
  [⟨"TXE_c_CFG", 0x700000, [(0x100, 0, 128)], 0xA00F0F00, 0x0, 0x0, 0x0, 0x0, 0xA00F0F00, 0x0, .word⟩,
   ⟨"TXE_c_RING.lo", 0x700008, [(0x100, 0, 128)], 0xFFFFFFE0, 0x0, 0x0, 0x0, 0x0, 0xFFFFFFE0, 0x0, .low⟩,
   ⟨"TXE_c_RING.hi", 0x70000C, [(0x100, 0, 128)], 0xFFFFFFFF, 0x0, 0x0, 0x0, 0x0, 0xFFFFFFFF, 0x0, .high⟩,
   ⟨"TXE_c_DB", 0x700010, [(0x100, 0, 128)], 0x0, 0xFFFFFFFF, 0x0, 0x0, 0x0, 0x0, 0x0, .word⟩,
   ⟨"TXE_c_CTRL", 0x700014, [(0x100, 0, 128)], 0x1, 0x0, 0x0, 0x6, 0x0, 0x0, 0x0, .word⟩,
   ⟨"TXE_c_STAT", 0x700018, [(0x100, 0, 128)], 0x0, 0x0, 0x0, 0x0, 0x0, 0x0, 0x0, .word⟩,
   ⟨"TXE_c_NEXT", 0x70001C, [(0x100, 0, 128)], 0x0, 0x0, 0x0, 0x0, 0x0, 0x0, 0x0, .word⟩,
   ⟨"TXE_c_CUR_SRC.lo", 0x700020, [(0x100, 0, 128)], 0x0, 0x0, 0x0, 0x0, 0x0, 0x0, 0x0, .low⟩,
   ⟨"TXE_c_CUR_SRC.hi", 0x700024, [(0x100, 0, 128)], 0x0, 0x0, 0x0, 0x0, 0x0, 0x0, 0x0, .high⟩,
   ⟨"TXE_c_CUR_DST.lo", 0x700028, [(0x100, 0, 128)], 0x0, 0x0, 0x0, 0x0, 0x0, 0x0, 0x0, .low⟩,
   ⟨"TXE_c_CUR_DST.hi", 0x70002C, [(0x100, 0, 128)], 0x0, 0x0, 0x0, 0x0, 0x0, 0x0, 0x0, .high⟩,
   ⟨"TXE_c_REMAIN", 0x700030, [(0x100, 0, 128)], 0x0, 0x0, 0x0, 0x0, 0x0, 0x0, 0x0, .word⟩,
   ⟨"TXE_c_CRC", 0x700034, [(0x100, 0, 128)], 0x0, 0x0, 0x0, 0x0, 0x0, 0x0, 0x0, .word⟩,
   ⟨"TXE_c_CNT", 0x700038, [(0x100, 0, 128)], 0x0, 0x0, 0x0, 0x0, 0x0, 0x0, 0x0, .word⟩,
   ⟨"TXE_ARB", 0x708000, [], 0xFF, 0x0, 0x0, 0x0, 0x0, 0xFF, 0x0, .word⟩,
   ⟨"TXE_BUF", 0x708004, [], 0x0, 0x0, 0x0, 0x0, 0xFFFF0000, 0x0, 0x0, .word⟩]

/-- Rows of the OUT_ registers. -/
def rowsOUT : List RegRow :=
  [⟨"OUT_r_BASE.lo", 0x800000, [(0x200, 0, 32), (0x40, 0, 6)], 0xFFFFFFC0, 0x0, 0x0, 0x0, 0x0, 0xFFFFFFC0, 0x0, .low⟩,
   ⟨"OUT_r_BASE.hi", 0x800004, [(0x200, 0, 32), (0x40, 0, 6)], 0xFFFFFFFF, 0x0, 0x0, 0x0, 0x0, 0xFFFFFFFF, 0x0, .high⟩,
   ⟨"OUT_r_CFG", 0x800008, [(0x200, 0, 32), (0x40, 0, 6)], 0xC00F0F00, 0x0, 0x0, 0x0, 0x0, 0xC00F0F00, 0x0, .word⟩,
   ⟨"OUT_r_DB", 0x80000C, [(0x200, 0, 32), (0x40, 0, 6)], 0x0, 0xFFFFFFFF, 0x0, 0x0, 0x0, 0x0, 0x0, .word⟩,
   ⟨"OUT_r_NEXT", 0x800010, [(0x200, 0, 32), (0x40, 0, 6)], 0x0, 0x0, 0x0, 0x0, 0x0, 0x0, 0x0, .word⟩,
   ⟨"OUT_r_STAT", 0x800014, [(0x200, 0, 32), (0x40, 0, 6)], 0x0, 0x0, 0x0, 0x0, 0x0, 0x0, 0x0, .word⟩,
   ⟨"OUT_r_PUB", 0x800018, [(0x200, 0, 32), (0x40, 0, 6)], 0x0, 0x0, 0x0, 0x0, 0x0, 0x0, 0x0, .word⟩,
   ⟨"OUT_r_CNT", 0x80001C, [(0x200, 0, 32), (0x40, 0, 6)], 0x0, 0x0, 0x0, 0x0, 0x0, 0x0, 0x0, .word⟩,
   ⟨"OUT_r_LOSS", 0x800020, [(0x200, 0, 32), (0x40, 0, 6)], 0x0, 0x0, 0x0, 0x0, 0x0, 0x0, 0x0, .word⟩,
   ⟨"OUT_r_BASE.lo", 0x800000, [(0x40, 256, 8)], 0xFFFFFFC0, 0x0, 0x0, 0x0, 0x0, 0xFFFFFFC0, 0x0, .low⟩,
   ⟨"OUT_r_BASE.hi", 0x800004, [(0x40, 256, 8)], 0xFFFFFFFF, 0x0, 0x0, 0x0, 0x0, 0xFFFFFFFF, 0x0, .high⟩,
   ⟨"OUT_r_CFG", 0x800008, [(0x40, 256, 8)], 0xC00F0F00, 0x0, 0x0, 0x0, 0x0, 0xC00F0F00, 0x0, .word⟩,
   ⟨"OUT_r_DB", 0x80000C, [(0x40, 256, 8)], 0x0, 0xFFFFFFFF, 0x0, 0x0, 0x0, 0x0, 0x0, .word⟩,
   ⟨"OUT_r_NEXT", 0x800010, [(0x40, 256, 8)], 0x0, 0x0, 0x0, 0x0, 0x0, 0x0, 0x0, .word⟩,
   ⟨"OUT_r_STAT", 0x800014, [(0x40, 256, 8)], 0x0, 0x0, 0x0, 0x0, 0x0, 0x0, 0x0, .word⟩,
   ⟨"OUT_r_PUB", 0x800018, [(0x40, 256, 8)], 0x0, 0x0, 0x0, 0x0, 0x0, 0x0, 0x0, .word⟩,
   ⟨"OUT_r_CNT", 0x80001C, [(0x40, 256, 8)], 0x0, 0x0, 0x0, 0x0, 0x0, 0x0, 0x0, .word⟩,
   ⟨"OUT_r_LOSS", 0x800020, [(0x40, 256, 8)], 0x0, 0x0, 0x0, 0x0, 0x0, 0x0, 0x0, .word⟩,
   ⟨"OUT_FAULT_MBOX.lo", 0x808000, [], 0x0, 0xFFFFF00F, 0x0, 0x0, 0x0, 0x0, 0x0, .low⟩,
   ⟨"OUT_FAULT_MBOX.hi", 0x808004, [], 0x0, 0xFFFFFFFF, 0x0, 0x0, 0x0, 0x0, 0x0, .high⟩,
   ⟨"OUT_FAULT_STAT", 0x808008, [], 0x0, 0x0, 0x80000000, 0x0, 0x0, 0x0, 0x0, .word⟩,
   ⟨"OUT_FAULT_FRAME", 0x80800C, [], 0x0, 0x0, 0x0, 0x0, 0x0, 0x0, 0x0, .word⟩]

/-- Rows of the HL_ registers. -/
def rowsHL : List RegRow :=
  [⟨"HL_CFG", 0x900000, [], 0x10F0F10, 0x0, 0x0, 0x0, 0x0, 0x10F0F10, 0x0, .word⟩,
   ⟨"HL_STAT", 0x900004, [], 0x0, 0x0, 0x0, 0x0, 0x0, 0x0, 0x60, .word⟩,
   ⟨"HL_BUDGET", 0x900008, [], 0x0, 0x0, 0x0, 0x0, 0x0, 0x0, 0x0, .word⟩,
   ⟨"HL_DROPSET", 0x90000C, [], 0x0, 0x0, 0x0, 0x0, 0x0, 0x0, 0x0, .word⟩,
   ⟨"HL_TAGS", 0x900010, [], 0x0, 0x0, 0x0, 0x0, 0xFFFF0000, 0x0, 0x0, .word⟩,
   ⟨"HL_ERR", 0x900014, [], 0x0, 0x0, 0x0, 0x0, 0x0, 0x0, 0x0, .word⟩,
   ⟨"HL_FN", 0x900018, [], 0x0, 0x0, 0x0, 0x0, 0x0, 0x0, 0x0, .word⟩]

/-- Rows of the CSO_ registers. -/
def rowsCSO : List RegRow :=
  [⟨"CSO_n_CFG", 0xA00000, [(0x100, 0, 4)], 0x80FF33C1, 0x0, 0x0, 0x0, 0x0, 0x80FF33C1, 0x0, .word⟩,
   ⟨"CSO_n_STAT", 0xA00004, [(0x100, 0, 4)], 0x0, 0x0, 0x0, 0x0, 0x0, 0x0, 0x0, .word⟩,
   ⟨"CSO_MAP_m", 0xA10000, [(0x4, 0, 64)], 0x831F1F07, 0x0, 0x0, 0x0, 0x0, 0x831F1F07, 0x0, .word⟩]

/-- The rows that an offset can fall in, by the address map of R468. -/
def rowsAt (off : Nat) : List RegRow :=
  if off < 0x010000 then rowsGLB
  else if off < 0x020000 then (if off < 0x018000 then rowsPM else rowsCK)
  else if off < 0x030000 then rowsBOOT
  else if off < 0x040000 then rowsEVT
  else if off < 0x050000 then rowsGRD
  else if off < 0x060000 then (if off < 0x058000 then rowsCEN else rowsCHK)
  else if off < 0x070000 then rowsLIFE
  else if off < 0x080000 then rowsTIME ++ rowsSYNC
  else if off < 0x090000 then rowsSIG
  else if off < 0x0A0000 then rowsERK
  else if off < 0x0B0000 then rowsBIST
  else if off < 0x0C0000 then rowsFI
  else if off < 0x120000 then rowsPORT
  else if off < 0x200000 then rowsSC
  else if off < 0x300000 then rowsSTRM
  else if off < 0x400000 then rowsPLC
  else if off < 0x500000 then rowsEAS
  else if off < 0x510000 then rowsSTAT
  else if off < 0x600000 then rowsLDG
  else if off < 0x610000 then rowsPAL
  else if off < 0x700000 then rowsQUE
  else if off < 0x800000 then rowsTXE
  else if off < 0x900000 then rowsOUT
  else if off < 0xA00000 then rowsHL
  else rowsCSO

/-- Whether `d` is a sum of one multiple of each stride with its index in range. -/
def rowHit : List (Nat × Nat × Nat) → Nat → Bool
  | [], d => d == 0
  | (st, first, n) :: rest, d =>
    let i := d / st
    if rest.isEmpty then d % st == 0 && Nat.ble first i && Nat.blt i (first + n)
    else
      let j := if Nat.blt i (first + n) then i else first + n - 1
      Nat.ble first j && rowHit rest (d - j * st)

/-- Whether the register of this row stands at the offset. -/
def rowCovers (r : RegRow) (off : Nat) : Bool :=
  Nat.ble r.off off && rowHit r.idx (off - r.off)

/-- The register row at an offset; none where the offset holds no register. -/
def rowOf (off : Nat) : Option RegRow :=
  (rowsAt off).find? (fun r => rowCovers r off)

/-- The mask of the image bits of the register at an offset (R83). -/
def imgMask (off : Nat) : Nat :=
  match rowOf off with
  | some r => r.img
  | none => 0

/-- The Reset column of the register at an offset, with 0 in image, strap, OTP, derived and live fields (R472). -/
def rstOf (off : Nat) : Nat :=
  match rowOf off with
  | some r => r.rst
  | none => 0

/-- `n` registers of one value at a stride, in ascending offset. -/
def regRun (base stride n : Nat) (v : Word) : List (Nat × Word) :=
  (List.range n).map (fun i => (base + stride * i, v))

/-- Two registers of one instance, repeated at a stride, in ascending offset. -/
def regRun2 (base stride n d : Nat) (v w : Word) : List (Nat × Word) :=
  (List.range n).flatMap (fun i => [(base + stride * i, v), (base + stride * i + d, w)])

/-- Every register whose Reset column gives a value other than 0, in ascending offset (R477). -/
def resetRegs : List (Nat × Word) :=
  [(0x0, 0x4E4D2432)] ++
  [(0x4, 0x111)] ++
  [(0x8, 0x20180C08)] ++
  [(0x10000, 0x1)] ++
  [(0x10010, 0x321400)] ++
  [(0x10014, 0x28)] ++
  [(0x18000, 0x4)] ++
  [(0x20000, 0x1)] ++
  regRun 0x80004 0x40 4 0xC0000000 ++
  [(0xA0004, 0x40000000)] ++
  regRun2 0x200014 0x2000 32 4 0x7F000000 0x78000000 ++
  [(0x300000, 0xBB0)] ++
  regRun 0x300100 0x10 12 0xF000000 ++
  regRun 0x500044 0x800 32 0x40000000 ++
  [(0x900004, 0x60)]

end Sys2Proof.Machine
end

