-- ==== Sys2Proof/Machine/State.lean ====
section
/-! DEFINITION. Machine/State.lean: the whole state of the block, its stops, and the state after reset. -/

namespace Sys2Proof.Machine

/-- The machine's faults: none of the spec's commands stops the block, so no command answers with one.
`stuck` is kept for a state that no rule of the spec lets go on; nobody raises it (safe). -/
inductive Fault where
  | stuck
  deriving DecidableEq, Repr

/-- Commands without a meaning. `notModelled` is answered by an arm of `exec` whose command has no meaning yet (safe). -/
inductive Refusal where
  | notModelled (mnemonic : String)
  deriving DecidableEq, Repr

/-- An item that an injector holds (R423): its injector, how many items still pass before it, and the item. -/
structure Reord where
  k    : Nat
  left : Nat
  item : Packet ⊕ Out
  deriving DecidableEq, Repr

/-- The state of the block. -/
structure State where
  /-- commands waiting, first in first out -/
  pending : List Instr
  /-- what Falith has sent out, newest first (the model's own record) -/
  out     : List Out
  /-- counter that free values are drawn with (the model's own field) -/
  free    : Nat
  phase   : Phase
  pw      : Power
  otp     : Otp
  warm    : Warm
  life    : Life
  /-- the NOR flash: bytes that differ from 0xFF, by address (R78) -/
  nor     : List Host.Cell
  norOp   : Option NorOp
  img     : Image
  /-- registers by BAR offset; an offset not listed reads 0 -/
  regs    : List (Nat × Word)
  /-- the shadow copy of the image registers (R41, R96) -/
  shadow  : List (Nat × Word)
  /-- the live guard table, by offset of GRD_ (R448) -/
  grdLive : List (Nat × Word)
  /-- the pending copy as an apply that waits for its boundary took it -/
  grdWait : List (List (Nat × Word))
  /-- high halves latched by low-half reads, by offset of the register (R4) -/
  latch   : Tbl Nat
  /-- low halves held until the high half is written (R4) -/
  held    : Tbl Nat
  /-- event routes are in effect (R440) -/
  routes  : Bool
  faultPin : List PinHold
  intLow  : List Bool
  fcPin   : List PinHold
  msix    : List (Nat × Word)
  msixPend : List Nat
  modSt   : Tbl ModSt
  fns     : Tbl FnSt
  cmt     : CommitSt
  doms    : Tbl DomSt
  /-- ramp slots assigned to sleeping domains: start times in vehicle time (R42) -/
  ramps   : Tbl Nat
  /-- local times at which the ramps of waking domains began (R41, R42) -/
  rampAt  : Tbl Nat
  /-- what is held for CSI-2 transmit ports 0 to 3 whose domain is not on, and (4) for a host link that leaves a low-power state
  (R40, R41, R46, R309), oldest first -/
  outHeld : Tbl (List Out)
  /-- packets that ports hold for domains that are not ready, oldest first (R44) -/
  ingress : List Ingr
  /-- what CSI-2 transmit ports have on their lines (R340) -/
  csoTx : Tbl CsoLine
  /-- consecutive AVS checks above the lower threshold (R63) -/
  avsGood : Nat
  tm      : TimeSt
  grps    : Tbl Group
  /-- the sync generator has started the groups' edges since the image load (R139) -/
  syncOn  : Bool
  fsoHigh : Nat
  chans   : Tbl Chan
  ents    : Tbl Entry
  /-- AP ports whose link is held down for its gear, as a mask (R101) -/
  heldDown : Nat
  /-- ports whose receiver has reported an eye margin since the image load, as a mask (R102, R132) -/
  eqSeen  : Nat
  plc     : PlcSt
  strms   : Tbl Strm
  /-- frames in progress, in the order of their opening -/
  frames  : List Frame
  strokes : List Stroke
  eas     : Tbl EasSt
  /-- closed statistics blocks whose laws have not ended, in the order of their close: local time, stream, frame (R260) -/
  lawQ    : List (Nat × Nat × Nat)
  rings   : Tbl Ring
  /-- the pour channels and the write engine (R341 to R348) -/
  pour    : PourSt
  /-- host reads that wait for a free tag, oldest first (R310) -/
  reads   : List HostRd
  /-- the address translation cache: function and 4 KiB page, newest first, 512 at most (R301) -/
  atc     : List (Nat × Nat)
  /-- the last 256 publications of each function, newest first -/
  pubs    : Tbl (List Pub)
  trl     : TrlSt
  /-- live palette cells -/
  cells   : Tbl Cell
  /-- palette words by word number; a word not listed holds 0 -/
  pal     : List (Nat × Word)
  /-- flipped code bits of palette words by word number -/
  palFlip : Tbl Nat
  /-- draws that give the contents of cells that hold data of a layout the spec does not give (R276) -/
  palOpen : Tbl Nat
  ques    : Tbl Queue
  cen     : CenSt
  chk     : Tbl ChkSt
  sig     : SigSt
  txe     : Tbl TxeCh
  /-- channel that the engines serve next, and the software channel served last (R348) -/
  txePick : Option Nat
  txeLast : Nat
  spdm    : Spdm
  erk     : Erk
  /-- the field BIST that runs: domain and op (R417) -/
  bist    : Option (Nat × Nat)
  /-- debug access is authorised (R431) -/
  debug   : Bool
  /-- items that injectors hold back, oldest first (R423) -/
  reord   : List Reord
  /-- local time until which an injector forces a port's A-PHY link down (R423) -/
  forced  : Tbl Nat
  /-- event sources that have occurred in the command in hand, which counts as one clock cycle (R432) -/
  hot     : List Nat
  /-- the standby sequences of R50 step 5 have been started -/
  sbSent  : Bool
  /-- the host link is held in its reset (R67, R69) -/
  hlReset : Bool
  deriving DecidableEq, Repr

/-- Power and pins right after power-up: every supply in range, PORST_N low, SUPW_N and PERST_N as R27 and R24 leave
them before the host releases PERST_N. -/
def Power.init : Power := ⟨true, [], [], false, true, false, false, true, 0, 0, false, 0⟩

/-- OTP of the modelled part: keys that no proof can see, no revocation, floor 0, nothing repaired (a log entry names these
values). -/
def Otp.init : Otp :=
  ⟨0, 0, (List.range 4).map Config.otpKey, 0, (List.range 32).map (fun i => (Config.otpAes i).toNat), 0, []⟩

/-- The warmer after its power-up (R456, R478). -/
def Warm.init : Warm := ⟨0, false, none, false, true, 0, 1, [0, 0, 0, 0], [], 0, 0, 0, 0, 0, true, 0, none, []⟩

/-- Life accounting with nothing counted. -/
def Life.init : Life := ⟨[0, 0, 0, 0], [], [], none, none, false, none, 0, none, none⟩

/-- Life accounting as a power-on reset leaves it: one power cycle counted (R70). -/
def Life.cycled : Life := { Life.init with core := [0, 1, 0, 0] }

/-- No image. -/
def Image.init : Image := ⟨0, 0, 0, 0, 0, false, [], []⟩

/-- Time at reset release (R150). -/
def TimeSt.init : TimeSt := ⟨0, 0, 0, 0, none, none, false, 0, 0, none, none⟩

/-- A group that has issued no edge. -/
def Group.init : Group := ⟨none, none, 0, [], []⟩

/-- A channel that has done nothing. -/
def Chan.init : Chan :=
  ⟨none, .transfer, 0, 0, [], 0, 0, 0, false, false, none, [], 0, 0, [], [], 0, 0, 0⟩

/-- A map entry before any packet. -/
def Entry.init : Entry :=
  ⟨[], 0, 0, false, false, none, none, false, [], false, none, false, (0, false), [], false, false⟩

/-- Device Control after reset, which the base specification gives and the spec does not: 128 bytes, 512 bytes, relaxed ordering
enabled, tags of 8 bits (log 117). -/
def DevCtl.init : DevCtl := ⟨0, 2, true, 0⟩

/-- A function: present and in D0 or absent (R303). -/
def FnSt.init (present : Bool) : FnSt := ⟨present, present, false, false, false, DevCtl.init⟩

/-- Placement before any image (R182: the resting easel is E11, slots 0 to 10 are E0 to E10). -/
def PlcSt.init : PlcSt := ⟨[], List.range 11, some 11, false, none, [], [], [], [], [], none, false, []⟩

/-- A stream that has not opened. -/
def Strm.init : Strm :=
  ⟨false, false, false, none, [], [], [], 0, none, none, [], [], none, [], [0, 0, 0, 0, 0, 0], [], false, [], [], [], [], none, 0, none, []⟩

/-- A ring with nothing fetched. -/
def Ring.init : Ring := ⟨[], [], 0⟩

/-- A queue with nothing stored. -/
def Queue.init : Queue := ⟨[], false, 0, []⟩

/-- The bridge and the glue interfaces before any traffic. -/
def SigSt.init : SigSt := ⟨[], [], [], [], [], 0, 0, 0, 0, [], ⟨0, 0, 0, false, false⟩⟩

/-- A software channel that has done nothing. -/
def TxeCh.init : TxeCh := ⟨.idle, false, 0, none, 0, 0, false, 0, 0, false, false, false, false, false, [], false⟩

/-- The SPDM responder without a connection, its key store not yet derived. -/
def Spdm.init : Spdm := ⟨0, [], none, 0, 0, 0, false⟩

/-- The Erkuhar link before its first training. -/
def Erk.init : Erk := ⟨0, 0, 0, [], [], [], [], [], none, false, none, 0⟩

/-- The machine right after reset: Falith in Reset with every supply in range and PORST_N low (R20, R38), registers at
their Reset column (R477), no image, nothing in flash. -/
def State.reset : State where
  pending := []
  out := []
  free := 0
  phase := .reset
  pw := Power.init
  otp := Otp.init
  warm := Warm.init
  life := Life.cycled
  nor := []
  norOp := none
  img := Image.init
  regs := resetRegs
  shadow := []
  grdLive := []
  grdWait := []
  latch := []
  held := []
  routes := false
  faultPin := [⟨false, false⟩, ⟨false, false⟩]
  intLow := [false, false, false, false]
  fcPin := List.replicate 8 ⟨false, false⟩
  msix := []
  msixPend := []
  modSt := []
  fns := [(0, FnSt.init true)]
  cmt := ⟨none, [], [], []⟩
  doms := []
  ramps := []
  rampAt := []
  outHeld := []
  ingress := []
  csoTx := []
  avsGood := 0
  tm := TimeSt.init
  grps := []
  syncOn := false
  fsoHigh := 0
  chans := []
  ents := []
  heldDown := 0
  eqSeen := 0
  plc := PlcSt.init
  strms := []
  frames := []
  strokes := []
  eas := []
  lawQ := []
  rings := []
  pour := ⟨[], [], none, 127, 0⟩
  reads := []
  atc := []
  pubs := []
  trl := ⟨none, none, none⟩
  cells := []
  pal := []
  palFlip := []
  palOpen := []
  ques := []
  cen := ⟨none, (0, []), [], [], [], [], [], [], [], [], []⟩
  chk := []
  sig := SigSt.init
  txe := []
  txePick := none
  txeLast := 127
  spdm := Spdm.init
  erk := Erk.init
  bist := none
  debug := false
  reord := []
  forced := []
  hot := []
  sbSent := false
  hlReset := true

end Sys2Proof.Machine
end

