-- ==== Sys2Proof/Machine/Ops.lean ====
section
/-! DEFINITION. Machine/Ops.lean: named operations over State: registers and fields, counters that saturate, outputs,
free values, the passing of time, tables of parts. -/

namespace Sys2Proof.Machine

open Host (Outcome)

/-! ## Registers -/

/-- The word stored for a register. -/
def State.reg (s : State) (off : Nat) : Word := cellGet 0#32 s.regs off

/-- Store a register's word. -/
def State.setReg (s : State) (off : Nat) (w : Word) : State := { s with regs := cellPut 0#32 s.regs off w }

/-- A field of a register. -/
def State.get (s : State) (f : Fld) : Nat := fldGet f (s.reg f.off)

/-- A one-bit field as a truth value. -/
def State.flag (s : State) (f : Fld) : Bool := !(s.get f == 0)

/-- Set a field of a register. -/
def State.put (s : State) (f : Fld) (v : Nat) : State := s.setReg f.off (fldPut f v (s.reg f.off))

/-- Add to a counter field, saturating at the field's width. -/
def State.bumpBy (s : State) (f : Fld) (n : Nat) : State := s.put f (satAdd (fldMax f) (s.get f) n)

/-- Increment a counter field, saturating. -/
def State.bump (s : State) (f : Fld) : State := s.bumpBy f 1

/-- Increment a field that wraps. -/
def State.wrapInc (s : State) (f : Fld) : State := s.put f (s.get f + 1)

/-- Raise a field to a value if it is below it. -/
def State.peak (s : State) (f : Fld) (v : Nat) : State := if Nat.blt (s.get f) v then s.put f (Nat.min v (fldMax f)) else s

/-- A 64-bit register (R4). -/
def State.reg64 (s : State) (off : Nat) : Nat := (s.reg off).toNat + 2 ^ 32 * (s.reg (off + 4)).toNat

/-- Store a 64-bit register. -/
def State.setReg64 (s : State) (off v : Nat) : State :=
  (s.setReg off (BitVec.ofNat 32 v)).setReg (off + 4) (BitVec.ofNat 32 (v / 2 ^ 32))

/-- The word of a register of the live guard table (R448). -/
def State.live (s : State) (off : Nat) : Nat := (cellGet 0#32 s.grdLive off).toNat

/-! ## Outputs, free values, time -/

/-- Send something out. -/
def State.emit (s : State) (o : Out) : State := { s with out := o :: s.out }

/-- Use up one draw of the free-value counter. -/
def State.draw (s : State) : State := { s with free := s.free + 1 }

/-- Whether Falith runs: the control island works in Boot, Active, Standby and the transitions between them. -/
def State.runs (s : State) : Bool :=
  match s.phase with
  | .off | .warm | .reset => false
  | _ => true

/-- Whether an image is loaded and the device is in Active, Standby or a transition (R37). -/
def State.loaded (s : State) : Bool :=
  match s.phase with
  | .active | .entering | .standby | .waking => true
  | _ => false

/-- Whether the device takes pixel work: Active, or Standby entry that lets open periods end (R50). -/
def State.working (s : State) : Bool :=
  match s.phase with
  | .active | .entering => true
  | _ => false

/-- The time base after ns of local time: vehicle time counts ticks of 2 ns at the corrected rate, and keeps the fraction of a
tick that is left (R150). -/
def TimeSt.after (t : TimeSt) (ns : Nat) : TimeSt :=
  let passed := t.frac + ns * (1000000000 + t.corr).toNat
  { t with loc := t.loc + ns, veh := (t.veh + passed / 2000000000 * 2) % 2 ^ 64, frac := passed % 2000000000 }

/-- The local ns until vehicle time has reached a value: at the corrected rate, in ticks of 2 ns (R150). -/
def TimeSt.until (t : TimeSt) (v : Nat) : Nat :=
  let rate := (1000000000 + t.corr).toNat
  if Nat.ble v t.veh then 0 else ((v - t.veh + 1) / 2 * 2000000000 - t.frac + rate - 1) / rate

/-- Time passes: the local reference and vehicle time advance (R150) while Falith runs. -/
def State.advance (ns : Nat) (s : State) : State := if s.runs then { s with tm := s.tm.after ns } else s

/-- Vehicle time now. -/
def State.now (s : State) : Nat := s.tm.veh

/-- The synced flag of a capture (R153): the time state is synced or holdover. -/
def State.synced (s : State) : Bool :=
  let t := s.get Fld.TIME_STAT_state
  t == 2 || t == 3

/-! ## Parts by index -/

/-- A sync group. -/
def State.grp (s : State) (g : Nat) : Group := tget s.grps g Group.init

/-- Replace a sync group. -/
def State.setGrp (s : State) (g : Nat) (x : Group) : State := { s with grps := tset s.grps g x }

/-- A control channel. -/
def State.chan (s : State) (p : Nat) : Chan := tget s.chans p Chan.init

/-- Replace a control channel. -/
def State.setChan (s : State) (p : Nat) (x : Chan) : State := { s with chans := tset s.chans p x }

/-- Map entry k of port p. -/
def State.ent (s : State) (p k : Nat) : Entry := tget s.ents (4 * p + k) Entry.init

/-- Replace a map entry. -/
def State.setEnt (s : State) (p k : Nat) (x : Entry) : State := { s with ents := tset s.ents (4 * p + k) x }

/-- A stream. -/
def State.strm (s : State) (st : Nat) : Strm := tget s.strms st Strm.init

/-- Replace a stream. -/
def State.setStrm (s : State) (st : Nat) (x : Strm) : State := { s with strms := tset s.strms st x }

/-- An output ring. -/
def State.ring (s : State) (r : Nat) : Ring := tget s.rings r Ring.init

/-- Replace an output ring. -/
def State.setRing (s : State) (r : Nat) (x : Ring) : State := { s with rings := tset s.rings r x }

/-- The open or unfinished frame of a stream with a number. -/
def State.frame (s : State) (st num : Nat) : Option Frame := s.frames.find? (fun f => f.st == st && f.num == num)

/-- Replace a frame by itself changed. -/
def State.modFrame (st num : Nat) (g : Frame → Frame) (s : State) : State :=
  { s with frames := s.frames.map (fun f => if f.st == st && f.num == num then g f else f) }

/-- A switched domain. -/
def State.dom (s : State) (d : Nat) : DomSt := tget s.doms d .off

/-- The code of a domain state in PM_n_DSTAT (R66). -/
def DomSt.code : DomSt → Nat
  | .off => 0
  | .waking => 1
  | .on => 2
  | .draining => 3
  | .powerdown => 4

/-- Set a domain's state, in the table and in PM_n_DSTAT. -/
def State.setDom (s : State) (d : Nat) (x : DomSt) : State :=
  { s with doms := tset s.doms d x }.put (Fld.PM_DSTAT_state d) x.code

/-- A function (R303). -/
def State.fn (s : State) (f : Nat) : FnSt := tget s.fns f (FnSt.init false)

/-- Replace a function. -/
def State.setFn (s : State) (f : Nat) (x : FnSt) : State := { s with fns := tset s.fns f x }

/-! ## Domains -/

/-- The easel that a domain belongs to. -/
def easelOf (d : Nat) : Option Nat :=
  if d < 48 then none else if d < 72 then some ((d - 48) / 2) else if d < 84 then some (d - 72) else none

/-- The three domains of an easel: its halves and its statistics engine (R36). -/
def easelDoms (e : Nat) : List Nat := [48 + 2 * e, 49 + 2 * e, 72 + e]

/-! ## Blocks under BIST (R414 to R418) -/

/-- The domains of the testable block whose first domain is d; empty where none is (R414). -/
def bistBlock (d : Nat) : List Nat :=
  if d < 48 then (if d % 2 == 0 then [d, d + 1] else [])
  else if d < 72 then (if d % 2 == 0 then easelDoms ((d - 48) / 2) else [])
  else if d < 84 then []
  else if d < 134 then [d]
  else if d == 134 then [134, 135, 136, 137]
  else if d < 138 then []
  else if d < 142 then [d]
  else if d == 142 then [142, 143]
  else if d == 144 then [144, 145]
  else if d == 146 || d == 147 || d == 150 then [d]
  else []

/-- The first domains of the blocks that a key-on wave tests (R415), waves 1 to 6. -/
def waveBlocks (w : Nat) : List Nat :=
  if w == 0 then []
  else if w == 1 then (List.range 40).map (fun i => 92 + i)
  else if w < 5 then (List.range 4).map (fun i => 48 + 8 * (w - 2) + 2 * i)
  else if w == 5 then (List.range 12).map (fun i => 2 * i) ++ [132, 133, 144]
  else (List.range 12).map (fun i => 24 + 2 * i)

/-- Whether the resting easel is under its BIST (R183). -/
def State.restTested (s : State) (e : Nat) : Bool :=
  s.plc.resting == some e && !s.plc.restOk && s.plc.retired.isEmpty && !s.flag Fld.BIST_STAT_keyon

/-- Whether BIST holds a domain, which every other block then sees as powered down: the run on command, the key-on wave in hand, or the
run of the resting easel (R47, R66, R418). -/
def State.domBist (s : State) (d : Nat) : Bool :=
  (match s.bist with
   | none => false
   | some (b, _) => (bistBlock b).contains d) ||
  (s.flag Fld.BIST_STAT_keyon && (waveBlocks (s.get Fld.BIST_STAT_wave)).any (fun b => (bistBlock b).contains d)) ||
  (match easelOf d with
   | some e => s.restTested e
   | none => false)

/-- Whether a domain is fenced (R416). -/
def State.domFenced (s : State) (d : Nat) : Bool := s.flag (Fld.BIST_DOM_fenced d)

/-- Whether a domain takes no part: it is fenced, or under BIST (R416, R418). -/
def State.domHurt (s : State) (d : Nat) : Bool := s.domFenced d || s.domBist d

/-- Whether a domain is on, and not under BIST (R418). -/
def State.domOn (s : State) (d : Nat) : Bool := s.dom d == .on && !s.domBist d

/-- Whether a domain has power, be it draining, and is not under BIST (R46, R418). -/
def State.domPower (s : State) (d : Nat) : Bool := (s.dom d == .on || s.dom d == .draining) && !s.domBist d

/-! ## Registers of switched domains -/

/-- The switched domain that holds the registers at an offset, if any (R36, R471). -/
def domainOf (off : Nat) : Option Nat :=
  if off < 0x070000 then (if 0x050000 ≤ off && off < 0x060000 then some 151 else none)
  else if off < 0x080000 then some 147
  else if off < 0x090000 then some 146
  else if off < 0x0A0000 then some 143
  else if off < 0x0B0000 then some 149
  else if off < 0x100000 then none
  else if off < 0x118000 then some (2 * ((off - 0x100000) / 0x1000) + 1)
  else if off < 0x120000 then none
  else if off < 0x121800 then some (2 * ((off - 0x120000) / 0x100) + 1)
  else if off < 0x400000 then none
  else if off < 0x4C0000 then some (48 + 2 * ((off - 0x400000) / 0x10000))
  else if off < 0x610100 then none
  else if off < 0x610200 then some 132
  else if off < 0x620000 then none
  else if off < 0x621800 then some (132 + (off - 0x620000) / 0x40 / 48)
  else if off < 0x700000 then none
  else if off < 0x708008 then some 144
  else if off < 0x900000 then none
  else if off < 0x910000 then some 136
  else if off < 0xA00000 then none
  else if off < 0xA00400 then some (138 + (off - 0xA00000) / 0x100)
  else none

/-- Whether the switched domain of a register is off or waking (R471), or under BIST and so seen as powered down (R418). -/
def State.domOff (s : State) (off : Nat) : Bool :=
  match domainOf off with
  | none => false
  | some d =>
    s.domBist d ||
    match s.dom d with
    | .off | .waking | .powerdown => true
    | _ => false

/-- A word of the shadow copy (R41). -/
def State.shad (s : State) (off : Nat) : Word := cellGet 0#32 s.shadow off

/-- Put the image fields of the registers in a range back to their shadow values (R41, R407). -/
def State.restore (s : State) (lo hi : Nat) : State :=
  let offs := (s.regs.map (fun e => e.1) ++ s.shadow.map (fun e => e.1)).filter
    (fun o => Nat.ble lo o && Nat.blt o hi)
  forEach offs (fun o s =>
    let m := imgMask o
    if m == 0 then s
    else s.setReg o (BitVec.ofNat 32 (((s.reg o).toNat &&& (0xFFFFFFFF - m)) ||| ((s.shad o).toNat &&& m)))) s

/-- The values of a range of registers as a list of (offset, word). -/
def regsIn (l : List (Nat × Word)) (lo hi : Nat) : List (Nat × Word) :=
  l.filter (fun e => Nat.ble lo e.1 && Nat.blt e.1 hi)

/-- Set every stored register of a range to its Reset column (R477). -/
def State.resetRange (s : State) (lo hi : Nat) : State :=
  { s with regs := (s.regs.filter (fun e => Nat.blt e.1 lo)) ++ regsIn resetRegs lo hi ++
      (s.regs.filter (fun e => Nat.ble hi e.1)) }

end Sys2Proof.Machine
end

