-- ==== Sys2Proof/Machine/Flags.lean ====
section
/-! DEFINITION. Machine/Flags.lean: event sources: status, counters, enables and routes, MSI-X messages with moderation,
INT_N and FAULT_N pins (R429 to R440). -/

namespace Sys2Proof.Machine

/-! ## Source numbers (R429 to R431) -/

/-- Event source i of port p. -/
def evPort (p i : Nat) : Nat := 16 * p + i
/-- Event source i of stream s. -/
def evStrm (s i : Nat) : Nat := 384 + 8 * s + i
/-- Event source i of easel e. -/
def evEas (e i : Nat) : Nat := 640 + 16 * e + i
/-- Event source i of transfer channel c. -/
def evTxe (c i : Nat) : Nat := 832 + 2 * c + i
/-- Event source i of queue q. -/
def evQue (q i : Nat) : Nat := 1088 + 2 * q + i
/-- Memory source i. -/
def evMem (i : Nat) : Nat := 1280 + i
/-- Host link source i. -/
def evHl (i : Nat) : Nat := 1328 + i
/-- Power and clock source i (R430). -/
def evPm (i : Nat) : Nat := 1376 + i
/-- Safety, BIST and census source i. -/
def evSafe (i : Nat) : Nat := 1408 + i
/-- Time, sync and Erkuhar source i. -/
def evTime (i : Nat) : Nat := 1456 + i
/-- Signal bridge source i. -/
def evSig (i : Nat) : Nat := 1488 + i
/-- Life ledger source i. -/
def evLife (i : Nat) : Nat := 1512 + i
/-- Security source i (R431). -/
def evSec (i : Nat) : Nat := 1528 + i

/-- Status bit of a source (R451). -/
def fStat (n : Nat) : Fld := ⟨Reg.EVT_STAT (n / 32), n % 32, n % 32⟩

/-- Enable bit of a source (R451). -/
def fEn (n : Nat) : Fld := ⟨Reg.EVT_EN (n / 32), n % 32, n % 32⟩

/-- A source is active while its status and enable bits are both 1. -/
def State.srcActive (s : State) (n : Nat) : Bool := s.flag (fStat n) && s.flag (fEn n)

/-- The active sources, in ascending number. -/
def State.activeSrcs (s : State) : List Nat :=
  (List.range 48).flatMap (fun w =>
    let a := (s.reg (Reg.EVT_STAT w) &&& s.reg (Reg.EVT_EN w)).toNat
    if a == 0 then [] else (onesOf 32 a).map (fun b => 32 * w + b))

/-! ## MSI-X (R306, R435 to R438) -/

/-- Key of a vector of a function. -/
def vecKey (fn vec : Nat) : Nat := 2048 * fn + vec

/-- A word of a function's MSI-X table; the mask bit of an entry is 1 until it is written (R306). -/
def State.msixWord (s : State) (fn o : Nat) : Nat :=
  let w := (cellGet 0#32 s.msix (65536 * fn + o)).toNat
  if o % 16 == 12 then w ^^^ 1 else w

/-- Write a word of a function's MSI-X table. -/
def State.setMsixWord (s : State) (fn o : Nat) (w : Word) : State :=
  { s with msix := cellPut 0#32 s.msix (65536 * fn + o) (if o % 16 == 12 then w ^^^ 1#32 else w) }

/-- Whether a function's messages are sent at all (R437). -/
def State.msiMay (s : State) (fn : Nat) : Bool :=
  s.flag Fld.HL_STAT_up && (s.fn fn).present && (s.fn fn).d0 && !(s.fn fn).inReset && (s.fn fn).msixEn

/-- Whether a vector is masked, by its own mask or its function's (R306). -/
def State.msiMasked (s : State) (fn vec : Nat) : Bool := (s.fn fn).fmask || bit (s.msixWord fn (16 * vec + 12)) 0

/-- Whether a message on a vector goes out now. -/
def State.msiGoes (s : State) (fn vec : Nat) : Bool := s.msiMay fn && !s.msiMasked fn vec

/-- Whether the link is in L1, L1.1 or L1.2 (R309). -/
def State.linkLow (s : State) : Bool :=
  s.flag Fld.HL_STAT_up && Nat.ble 2 (s.get Fld.HL_STAT_lstate) && Nat.ble (s.get Fld.HL_STAT_lstate) 4

/-- Falith starts the exit from a low-power state, once: CLKREQ_N from L1.2 (R309). -/
def State.exitCall (s : State) : State :=
  if s.linkLow && (tget s.outHeld 4 []).isEmpty then
    (if s.get Fld.HL_STAT_lstate == 4 then s.emit (.pull .clkreqN true) else s).emit .linkExit
  else s

/-- A write, a message or a read request for the host: it goes out, or waits for a link that leaves a low-power state, or for
domain 134 to be on (R41, R309). -/
def State.hlPost (o : Out) (s : State) : State :=
  if !s.linkLow && s.dom 134 == .on && (tget s.outHeld 4 []).isEmpty then s.emit o
  else { s.exitCall with outHeld := tmod s.outHeld 4 [] (fun l => l ++ [o]) }

/-- Send a message on a vector, or count it as not sent, or leave it pending (R437). -/
def State.msiSend (fn vec : Nat) (s : State) : State :=
  if !s.msiMay fn then s.bump Fld.EVT_MSI_DROP_count
  else if s.msiMasked fn vec then
    { s with msixPend := if s.msixPend.contains (vecKey fn vec) then s.msixPend else s.msixPend ++ [vecKey fn vec] }
  else s.hlPost (.msix fn (s.msixWord fn (16 * vec) + 2 ^ 32 * s.msixWord fn (16 * vec + 4)) (s.msixWord fn (16 * vec + 8)))

/-- The moderation interval of a code in µs (R438); 0 is none. -/
def State.modInterval (s : State) (m : Nat) : Nat := if m == 0 then 0 else s.get (Fld.EVT_MOD_interval m)

/-- The mod that the routes to a vector name, all alike (R438). -/
def State.vecMod (s : State) (fn vec : Nat) : Nat :=
  match (List.range 1536).find? (fun n => s.get (Fld.EVT_ROUTE_kind n) == 1 && s.get (Fld.EVT_ROUTE_fn n) == fn &&
    s.get (Fld.EVT_ROUTE_vector n) == vec) with
  | some n => s.get (Fld.EVT_ROUTE_mod n)
  | none => 0

/-- A message falls due on a vector; one that goes out starts the vector's interval (R438). -/
def State.msiDue (fn vec mod : Nat) (s : State) : State :=
  if s.modInterval mod == 0 then s.msiSend fn vec
  else
    let m := tget s.modSt (vecKey fn vec) ⟨false, false⟩
    if m.running then { s with modSt := tset s.modSt (vecKey fn vec) ⟨true, true⟩ }
    else { s.msiSend fn vec with modSt := if s.msiGoes fn vec then tset s.modSt (vecKey fn vec) ⟨true, false⟩ else s.modSt }

/-- A source becomes active (R435): a vector route sends one message. -/
def State.srcRise (n : Nat) (s : State) : State :=
  if s.routes && s.get (Fld.EVT_ROUTE_kind n) == 1 then
    s.msiDue (s.get (Fld.EVT_ROUTE_fn n)) (s.get (Fld.EVT_ROUTE_vector n)) (s.get (Fld.EVT_ROUTE_mod n))
  else s

/-- A source's condition occurs (R432): status set, counter incremented, and a rise where the source was not active. A
command counts as one clock cycle, in which a source occurs at most once. -/
def State.raise (s : State) (n : Nat) : State :=
  if s.hot.contains n then s.put (fStat n) 1
  else
    let was := s.srcActive n
    let s1 := ({ s with hot := n :: s.hot }.put (fStat n) 1).bump (Fld.EVT_CNT_count n)
    if !was && s1.srcActive n then s1.srcRise n else s1

/-- Raise a source when a condition holds. -/
def State.raiseIf (s : State) (c : Bool) (n : Nat) : State := if c then s.raise n else s

/-- The sources that no chapter defines: never raised (R429). -/
def srcReserved (n : Nat) : Bool :=
  if n < 640 then false
  else if n < 832 then Nat.ble 8 ((n - 640) % 16)
  else if n < 1280 then false
  else if n < 1328 then (Nat.ble 4 (n - 1280) && Nat.ble (n - 1280) 7) || Nat.ble 13 (n - 1280)
  else if n < 1376 then Nat.ble 20 (n - 1328)
  else if n < 1408 then Nat.ble 18 (n - 1376)
  else if n < 1456 then n - 1408 == 7 || n - 1408 == 47
  else if n < 1488 then n - 1456 == 15 || Nat.ble 26 (n - 1456)
  else if n < 1512 then Nat.ble 20 (n - 1488)
  else if n < 1528 then Nat.ble 8 (n - 1512)
  else Nat.ble 6 (n - 1528)

/-- The bits of an enable word that reserved sources leave 0 (R429). -/
def enReserved (w : Nat) : Nat := maskOf ((List.range 32).filter (fun b => srcReserved (32 * w + b)))

/-! ## Pins (R20, R435, R439) -/

/-- Whether INT_N[k] is to be driven low. -/
def State.intWant (s : State) (act : List Nat) (k : Nat) : Bool :=
  s.routes && act.any (fun n => s.get (Fld.EVT_ROUTE_kind n) == 2 && s.get (Fld.EVT_ROUTE_pin n) == k)

/-- Whether FAULT_N[k] is to be driven low, by device state (R20, R22, R440). -/
def State.faultWant (s : State) (act : List Nat) (k : Nat) : Bool :=
  match s.phase with
  | .off | .warm => false
  | .reset => s.pw.latch
  | .boot | .failed => true
  | _ =>
    if s.routes then act.any (fun n => s.get (Fld.EVT_ROUTE_kind n) == 3 && bit (s.get (Fld.EVT_ROUTE_pin n)) k)
    else true

/-- An open-drain pin with a minimum width follows its wish (R439, R295). -/
def PinHold.follow (p : PinHold) (want : Bool) : PinHold :=
  if want then (if p.low then p else ⟨true, true⟩)
  else if p.hold then p
  else ⟨false, false⟩

/-- FAULT_N[k] after it has followed its wish (R439); without VDD_CORE nothing drives it. -/
def State.faultNext (s : State) (act : List Nat) (k : Nat) : PinHold :=
  if s.phase == .off || s.phase == .warm then ⟨false, false⟩
  else (nth s.faultPin k ⟨false, false⟩).follow (s.faultWant act k)

/-- The moves of pins whose level changes, in ascending pin. -/
def pinMoves (pin : Nat → OutPin) (n : Nat) (before after : Nat → Bool) : List Out :=
  (List.range n).filterMap (fun k => if after k == before k then none else some (.pull (pin k) (after k)))

/-- Bring INT_N and FAULT_N to the levels that the sources and the device state ask for. -/
def State.drivePins (s : State) : State :=
  let act := if s.routes then s.activeSrcs else []
  let ints := (List.range 4).map (fun k => s.loaded && s.intWant act k)
  let faults := (List.range 2).map (s.faultNext act)
  let moves := pinMoves OutPin.intN 4 (fun k => nth s.intLow k false) (fun k => nth ints k false) ++
    pinMoves OutPin.faultN 2 (fun k => (nth s.faultPin k ⟨false, false⟩).low) (fun k => (nth faults k ⟨false, false⟩).low)
  { s with intLow := ints, faultPin := faults, out := moves.reverse ++ s.out }

/-- The routes take effect (R440): every source already active signals as if it had just become active. -/
def State.routesOn (s : State) : State :=
  let s1 := { s with routes := true, pw := { s.pw with latch := false } }
  forEach s1.activeSrcs State.srcRise s1

/-! ## Clearing and enabling (R433 to R435) -/

/-- The status bits of a mask are cleared in one word. -/
def State.clearStatus (w mask : Nat) (s : State) : State :=
  s.setReg (Reg.EVT_STAT w) (BitVec.ofNat 32 ((s.reg (Reg.EVT_STAT w)).toNat &&& (0xFFFFFFFF - mask % 2 ^ 32)))

/-- Sources that occur in the cycle of a write, after what the write clears: a cleared bit is set again and rises, a cleared counter
reads 1 (R433, R434). -/
def State.occurAll (now : List Nat) (s : State) : State :=
  if s.runs then forEach (now.filter (fun n => !srcReserved n)) (fun n s => s.raise n) s else s

/-- Enables of one word take a new value in the bits of a mask; a source whose enable rises with status 1 becomes active. -/
def State.writeEnable (w mask v : Nat) (s : State) : State :=
  let old := (s.reg (Reg.EVT_EN w)).toNat
  let new := ((old &&& (0xFFFFFFFF - mask % 2 ^ 32)) ||| (v &&& mask)) &&& (0xFFFFFFFF - enReserved w)
  let s1 := s.setReg (Reg.EVT_EN w) (BitVec.ofNat 32 new)
  forEach ((onesOf 32 new).filter (fun b => !(bit old b) && s.flag (fStat (32 * w + b))))
    (fun b s => s.srcRise (32 * w + b)) s1

/-- A vector's moderation interval expires: the waiting merged message is sent, and starts the interval again (R438). -/
def State.modExpire (fn vec : Nat) (s : State) : State :=
  let m := tget s.modSt (vecKey fn vec) ⟨false, false⟩
  if !m.running then s
  else if m.waiting then
    let next := if s.msiGoes fn vec then tset s.modSt (vecKey fn vec) ⟨true, false⟩ else tdel s.modSt (vecKey fn vec)
    { s.msiSend fn vec with modSt := next }
  else { s with modSt := tdel s.modSt (vecKey fn vec) }

/-- The pending message of a vector whose masks are gone is sent (R437), at its moderation's time (R438). -/
def State.msiUnmasked (fn vec : Nat) (s : State) : State :=
  if s.msixPend.contains (vecKey fn vec) && !s.msiMasked fn vec then
    { s with msixPend := s.msixPend.filter (fun k => !(k == vecKey fn vec)) }.msiDue fn vec (s.vecMod fn vec)
  else s

end Sys2Proof.Machine
end

