-- ==== Sys2Proof/Machine/Guard.lean ====
section
/-! DEFINITION. Machine/Guard.lean: the guard table: objects, masks, checks, denials and changes of the table (R441 to R450). -/

namespace Sys2Proof.Machine

/-- The mask register of the object that checks an offset of the register space (R443, R468); none = in no window. -/
def objOf (off : Nat) : Option Nat :=
  if off < 0x010000 then some (Reg.GRD_WIN 0)
  else if off < 0x020000 then some (Reg.GRD_WIN 1)
  else if off < 0x030000 then some (Reg.GRD_WIN 2)
  else if off < 0x031000 then some (Reg.GRD_WIN 3)
  else if off < 0x034000 then some (Reg.GRD_WIN 3)
  else if off < 0x040000 then none
  else if off < 0x050000 then some (Reg.GRD_WIN 4)
  else if off < 0x058000 then some (Reg.GRD_WIN 5)
  else if off < 0x058400 then some (Reg.GRD_CHK ((off - 0x058000) / 0x40))
  else if off < 0x060000 then none
  else if off < 0x0C0000 then some (Reg.GRD_WIN (6 + (off - 0x060000) / 0x10000))
  else if off < 0x100000 then none
  else if off < 0x118000 then some (Reg.GRD_WIN (12 + (off - 0x100000) / 0x1000))
  else if off < 0x120000 then none
  else if off < 0x121800 then some (Reg.GRD_WIN (12 + (off - 0x120000) / 0x100))
  else if off < 0x200000 then none
  else if off < 0x240000 then some (Reg.GRD_STRM ((off - 0x200000) / 0x2000))
  else if off < 0x300000 then none
  else if off < 0x310000 then some (Reg.GRD_WIN 36)
  else if off < 0x400000 then none
  else if off < 0x500000 then some (Reg.GRD_WIN 37)
  else if off < 0x510000 then some (Reg.GRD_STRM ((off - 0x500000) / 0x800))
  else if off < 0x550000 then some (Reg.GRD_STRM ((off - 0x510000) / 0x2000))
  else if off < 0x600000 then none
  else if off < 0x610000 then some (Reg.GRD_WIN 38)
  else if off < 0x620000 then some (Reg.GRD_WIN 39)
  else if off < 0x621800 then some (Reg.GRD_QUE ((off - 0x620000) / 0x40))
  else if off < 0x700000 then none
  else if off < 0x708000 then some (Reg.GRD_TXE ((off - 0x700000) / 0x100))
  else if off < 0x710000 then some (Reg.GRD_WIN 40)
  else if off < 0x800000 then none
  else if off < 0x804200 then
    (let r := (off - 0x800000) / 0x40
     if r < 256 then some (Reg.GRD_STRM (r / 8)) else some (Reg.GRD_GRP (r - 256)))
  else if off < 0x808000 then none
  else if off < 0x810000 then some (Reg.GRD_WIN 41)
  else if off < 0x900000 then none
  else if off < 0x910000 then some (Reg.GRD_WIN 42)
  else if off < 0xA00000 then none
  else if off < 0xA20000 then some (Reg.GRD_WIN 43)
  else none

/-- The mask register of the object an event source belongs to (R444). -/
def srcObj (n : Nat) : Nat :=
  if n < 384 then Reg.GRD_WIN (12 + n / 16)
  else if n < 640 then Reg.GRD_STRM ((n - 384) / 8)
  else if n < 832 then Reg.GRD_WIN 37
  else if n < 1088 then Reg.GRD_TXE ((n - 832) / 2)
  else if n < 1280 then Reg.GRD_QUE ((n - 1088) / 2)
  else if n < 1328 then Reg.GRD_WIN 38
  else if n < 1376 then Reg.GRD_WIN 41
  else if n < 1408 then Reg.GRD_WIN 1
  else if n < 1416 then Reg.GRD_WIN 5
  else if n < 1432 then Reg.GRD_CHK (n - 1416)
  else if n < 1448 then Reg.GRD_CHK (n - 1432)
  else if n < 1456 then Reg.GRD_WIN 5
  else if n < 1472 then Reg.GRD_WIN 7
  else if n < 1488 then Reg.GRD_WIN 9
  else if n < 1512 then Reg.GRD_WIN 8
  else if n < 1528 then Reg.GRD_WIN 6
  else Reg.GRD_WIN 4

/-- The object that checks an access, with EVT_i_ROUTE and EVT_i_CNT checked as registers of their source (R444). -/
def accessObj (off : Nat) : Option Nat :=
  if 0x031000 ≤ off && off < 0x034000 then some (srcObj ((off - 0x031000) / 8)) else objOf off

/-- Registers that only the holder of guard domain 0 may write (R50, R99, R196, R445, R455 and the chapters' own words). -/
def holderOnly (off : Nat) : Bool :=
  (0x040000 ≤ off && off < 0x050000) || off == Reg.PM_CTRL || off == Reg.BOOT_CMD ||
  off == Reg.BOOT_NOR_ADDR || off == Reg.BOOT_NOR_CTRL || (Reg.BOOT_NOR_BUF 0 ≤ off && off < Reg.BOOT_NOR_BUF 64) ||
  off == Reg.PLC_EASEL_CTRL || off == Reg.LIFE_CAL_SET || off == Reg.LIFE_CAL_SET + 4 ||
  off == Reg.ERK_CFG || off == Reg.CEN_PEER_EXP_EPOCH || (Reg.CEN_PEER_EXP 0 ≤ off && off < Reg.CEN_PEER_EXP 4) ||
  off == Reg.BIST_CTRL || off == Reg.FI_CTRL

/-- Offsets at which a function reaches its own MSI-X table and pending bits (R442). -/
def inMsix (off : Nat) : Bool := 0x910000 ≤ off && off < 0x920000

/-- Whether requester r is enabled (R441; in a failed Boot by R91). -/
def State.reqEnabled (s : State) (r : Nat) : Bool :=
  if s.phase == .failed then r == 0
  else if s.phase == .boot then true
  else bit (s.live (Reg.GRD_REQ r)) 31

/-- The guard domain of requester r (R441; in a failed Boot by R91). -/
def State.reqDomain (s : State) (r : Nat) : Nat :=
  if s.phase == .failed || s.phase == .boot then 0 else s.live (Reg.GRD_REQ r) % 16

/-- The requester that the live mapping gives domain 0 (R441, R502). -/
def State.mapHolder (s : State) : Nat :=
  let w := s.live (Reg.GRD_REQ 0)
  if bit w 31 && w % 16 == 0 then 0 else 16

/-- The holder of guard domain 0 (R441). -/
def State.holder (s : State) : Nat := if s.phase == .failed || s.phase == .boot then 0 else s.mapHolder

/-- Read bit of an object for a domain, under the live table. -/
def State.mayRead (s : State) (obj d : Nat) : Bool :=
  if s.phase == .failed then d == 0 && (obj == Reg.GRD_WIN 0 || obj == Reg.GRD_WIN 2)
  else bit (s.live obj) (16 + d)

/-- Write bit of an object for a domain, under the live table. -/
def State.mayWrite (s : State) (obj d : Nat) : Bool :=
  if s.phase == .failed then d == 0 && (obj == Reg.GRD_WIN 0 || obj == Reg.GRD_WIN 2)
  else bit (s.live obj) d

/-- Whether requester r may read an event source's object (R444). The control island is never checked (R442). -/
def State.srcRead (s : State) (r n : Nat) : Bool := r == 19 || s.mayRead (srcObj n) (s.reqDomain r)

/-- Whether requester r may write an event source's object (R444). -/
def State.srcWrite (s : State) (r n : Nat) : Bool := r == 19 || s.mayWrite (srcObj n) (s.reqDomain r)

/-- Bits of EVT word w whose sources requester r may read. -/
def State.srcReadMask (s : State) (r w : Nat) : Nat :=
  maskOf ((List.range 32).filter (fun b => s.srcRead r (32 * w + b)))

/-- Bits of EVT word w whose sources requester r may write. -/
def State.srcWriteMask (s : State) (r w : Nat) : Nat :=
  maskOf ((List.range 32).filter (fun b => s.srcWrite r (32 * w + b)))

/-- The vector block of a route value (R443). -/
def routeBlock (v : Nat) : Nat := if bits v 23 20 == 0 then bits v 10 0 / 64 else 31 + bits v 23 20

/-- Whether a domain holds the route bit that a route value needs (R444). -/
def State.mayRoute (s : State) (d v : Nat) : Bool :=
  if bits v 31 30 == 1 then bit (s.live (Reg.GRD_VEC (routeBlock v))) d else true

/-- The reason for which an access is denied, the first that applies in the order of R446; none = it passes.
`wv` = the value of a write. A function's own MSI-X table is outside the guard, once there is one (R442). -/
def State.denyReason (s : State) (r off : Nat) (wv : Option Nat) : Option Nat :=
  if r == 19 || (s.loaded && inMsix off && Nat.ble r 15) then none
  else if !s.reqEnabled r then some 7
  else if Nat.ble 16 r && !(off % 4 == 0) then some 9
  else if s.phase == .boot then some 5
  else if s.phase == .failed && !(off < 0x010000 || (0x020000 ≤ off && off < 0x030000)) then some 5
  else
    match accessObj off with
    | none => some 4
    | some obj =>
      let d := s.reqDomain r
      match wv with
      | none => if s.mayRead obj d then none else some 1
      | some v =>
        if !s.mayWrite obj d then some 2
        else if holderOnly off && !(r == s.holder) then some 3
        else if 0x031000 ≤ off && off < 0x034000 && off % 8 == 0 && !s.mayRoute d v then some 8
        else none

/-- Log a denial (R447). -/
def State.logDeny (r off : Nat) (write palBar : Bool) (reason : Nat) (s : State) : State :=
  let n := s.get Fld.GRD_LOG_CNT_next
  let info := 2 ^ 31 + b2n write * 2 ^ 30 + b2n palBar * 2 ^ 29 + r * 2 ^ 24 + s.reqDomain r * 2 ^ 20 + reason
  let s1 := s.setReg (Reg.GRD_LOG_INFO n) (BitVec.ofNat 32 info)
  let s2 := s1.setReg (Reg.GRD_LOG_ADDR n) (BitVec.ofNat 32 (off % 2 ^ 27))
  let s3 := s2.setReg (Reg.GRD_LOG_GEN n) (BitVec.ofNat 32 (s.get Fld.GRD_STAT_generation))
  ((s3.wrapInc Fld.GRD_LOG_CNT_next).bump Fld.GRD_LOG_CNT_total).raise (evSec 0)

/-- The value that a denied read returns (R446). -/
def denyWord (reason : Nat) : Nat := 0xDEAD0000 + reason

/-! ## Changing the table (R448, R449) -/

/-- Offsets of the mask and mapping registers, which hold the pending copy. -/
def grdLo : Nat := 0x040100
/-- End of the mask and mapping registers. -/
def grdHi : Nat := 0x040C00

/-- Whether the pending copy differs from the live table (R452). -/
def State.grdDirty (s : State) : Bool := !(regsIn s.regs grdLo grdHi == s.grdLive)

/-- Why an apply is refused (R449). -/
def State.applyRefusal (s : State) : Option Nat :=
  let maps (r : Nat) : Bool := let w := (s.reg (Reg.GRD_REQ r)).toNat; bit w 31 && w % 16 == 0
  if !(maps s.holder) || (List.range 20).any (fun r => !(r == s.holder) && maps r) then some 0x70
  else
    let w := (s.reg (Reg.GRD_WIN 4)).toNat
    if !(bit w 0 && bit w 16) then some 0x71 else none

/-- GRD_CTRL.apply (R448, R449). Writes made while an apply waits are part of the next change: a further apply waits for a boundary of
its own (DESIGN CHOICE, log 122). -/
def State.grdApply (s : State) : State :=
  match s.applyRefusal with
  | some c => (s.put Fld.GRD_CTRL_reason c).raise (evSec 2)
  | none => { (s.put Fld.GRD_CTRL_reason 0).put Fld.GRD_STAT_waiting 1 with grdWait := s.grdWait ++ [regsIn s.regs grdLo grdHi] }

/-- GRD_CTRL.discard (R448). -/
def State.grdDiscard (s : State) : State :=
  { s with regs := regsIn s.regs 0 grdLo ++ s.grdLive ++ regsIn s.regs grdHi 0x1000000 }

/-- The pending copy becomes the live table (R448), without the epoch and the census, which the boundary adds. -/
def State.grdGoLive (s : State) : State :=
  let s1 := { s with grdLive := s.grdWait.headD [], grdWait := s.grdWait.drop 1 }
  let s2 := { s1 with shadow := regsIn s1.shadow 0 grdLo ++ s1.grdLive ++ regsIn s1.shadow grdHi 0x1000000 }
  let s3 := (s2.wrapInc Fld.GRD_STAT_generation).put Fld.GRD_STAT_waiting (b2n (!s1.grdWait.isEmpty))
  (s3.put Fld.GRD_STAT_holder s3.holder).raise (evSec 1)

end Sys2Proof.Machine
end

