-- ==== Sys2Proof/Machine/Life.lean ====
section
/-! DEFINITION. Machine/Life.lean: the calendar, the life counters and the NOR journal (R453 to R467). -/

namespace Sys2Proof.Machine

/-- Ceiling of the 32-bit life counters. -/
def lifeMax : Nat := 2 ^ 32 - 1

/-- Count n on core counter i, in the control island (R457). -/
def State.lifeCore (i n : Nat) (s : State) : State :=
  { s with life := { s.life with core := setAt s.life.core i (nth s.life.core i 0 + n) } }

/-- Count n on item i, in the control island (R457). -/
def State.lifeItem (i n : Nat) (s : State) : State :=
  { s with life := { s.life with items := tset s.life.items i (tget s.life.items i 0 + n) } }

/-- Set item i in the warmer. -/
def State.setItem (i v : Nat) (s : State) : State := { s with warm := { s.warm with items := tset s.warm.items i v } }

/-- Live value of core counter i (R467). -/
def State.coreNow (s : State) (i : Nat) : Nat := satAdd lifeMax (nth s.warm.core i 0) (nth s.life.core i 0)

/-- Live value of item i (R457, R467). -/
def State.itemNow (s : State) (i : Nat) : Nat :=
  if i == 228 then
    let w := tget s.warm.items 228 0
    Nat.max (w / 256 % 256) s.life.maxCode * 256 + s.life.lastCode.getD (w % 256)
  else satAdd lifeMax (tget s.warm.items i 0) (tget s.life.items i 0)

/-- Fold the counts of the control island into the warmer (R457). -/
def State.lifeFold (s : State) : State :=
  let items := s.life.items.foldl (fun t e => tset t e.1 (satAdd lifeMax (tget t e.1 0) e.2)) s.warm.items
  { s with
    warm := { s.warm with core := (List.range 4).map s.coreNow, items := tset items 228 (s.itemNow 228) }
    life := { s.life with core := [0, 0, 0, 0], items := [], maxCode := 0, lastCode := none } }

/-! ## Flash cells (R76, R78) -/

/-- A byte of the flash; an erased byte reads 0xFF. -/
def State.norGet (s : State) (a : Nat) : Nat := (cellGet 0xFF#8 s.nor a).toNat

/-- n bytes of the flash from an address, where no cell listed lies below it. -/
def norBytes : Nat → Nat → List (Nat × BitVec 8) → List Nat
  | 0, _, _ => []
  | n + 1, _, [] => List.replicate (n + 1) 0xFF
  | n + 1, a, (k, v) :: rest =>
    if k == a then v.toNat :: norBytes n (a + 1) rest else 0xFF :: norBytes n (a + 1) ((k, v) :: rest)

/-- n bytes of the flash. -/
def State.norRead (s : State) (a n : Nat) : List Nat := norBytes n a (s.nor.dropWhile (fun c => Nat.blt c.1 a))

/-- Program bytes: a program only clears bits. -/
def State.norProg (a : Nat) (bs : List Nat) (s : State) : State :=
  forEach (List.zip (List.range bs.length) bs)
    (fun e s => { s with nor := cellPut 0xFF#8 s.nor (a + e.1) (cellGet 0xFF#8 s.nor (a + e.1) &&& BitVec.ofNat 8 e.2) }) s

/-- Erase the 64 KiB sector at an address. -/
def State.norErase (a : Nat) (s : State) : State :=
  { s with nor := s.nor.filter (fun c => !(c.1 / 65536 == a / 65536)) }

/-- The bytes of a page that a program cut short or failed leaves open (R30, R98). -/
def State.norOpen (a n : Nat) (s : State) : State :=
  { forEach (List.range n) (fun i s => { s with nor := cellPut 0xFF#8 s.nor (a + i) (Config.norByte s.free (a + i)) }) s with
    free := s.free + 1 }

/-! ## Journal (R460 to R464) -/

/-- Start of the journal area (R78). -/
def jrBase : Nat := 0x03000000

/-- Address of the record with sequence number n (R460). -/
def jrAddr (n : Nat) : Nat := jrBase + n / 1024 % 64 * 0x10000 + n % 1024 * 64

/-- The bytes of a record before its CRC (R461). -/
def State.jrBody (s : State) (kind n : Nat) : List Nat :=
  let k := n % 33
  [0x4C, 0x4A, 1, kind] ++ leBytes 4 n ++ leBytes 6 s.warm.cal ++
  [b2n s.warm.calValid + 2 * b2n s.warm.onRc, k] ++
  (s.warm.core.flatMap (leBytes 4)) ++
  ((List.range 7).flatMap (fun i => leBytes 4 (tget s.warm.items (7 * k + i) 0)))

/-- A record with its CRC-32C (R461). -/
def State.jrRecord (s : State) (kind n : Nat) : List Nat :=
  let b := s.jrBody kind n
  b ++ leBytes 4 (crc32c b)

/-- Whether 64 bytes are a valid record (R461). -/
def jrValid (b : List Nat) : Bool :=
  b.take 2 == [0x4C, 0x4A] && leAt b 60 4 == crc32c (b.take 60)

/-- How many journal sectors are marked bad. -/
def State.badCount (s : State) : Nat := popCount 64 s.warm.bad

/-- Whether Falith has stopped writing the journal (R463). -/
def State.jrStopped (s : State) : Bool := Nat.ble 16 s.badCount

/-- The sequence number at or after n that lies in a sector not marked, slot 0 when a sector is skipped. -/
def skipBad (bad : Nat) : Nat → Nat → Nat
  | 0, n => n
  | k + 1, n => if bit bad (n / 1024 % 64) then skipBad bad k ((n / 1024 + 1) * 1024) else n

/-- Order in which records fall due together: boot, supply warning, calendar set, periodic (R462); an erase ahead first. -/
def JKind.rank : JKind → Nat
  | .erase _ => 0
  | .record 3 => 1
  | .record 2 => 2
  | .record 4 => 3
  | .record _ => 4

/-- A journal operation falls due. -/
def State.jrDue (k : JKind) (s : State) : State :=
  { s with life := { s.life with due := insBy JKind.rank k s.life.due } }

/-- The sector that the next record goes to. -/
def State.jrSector (s : State) : Nat := skipBad s.warm.bad 64 s.warm.nextSeq / 1024 % 64

/-- Whether a due journal operation is a record. -/
def JKind.isRecord : JKind → Bool
  | .record _ => true
  | .erase _ => false

/-- The journal operation that goes next, with those that stay due: while a supply-warning record is due, records go before an erase
ahead of them (R465), unless their own sector awaits its erase. -/
def State.jrPick (s : State) : Option (JKind × List JKind) :=
  if s.life.due.contains (.record 2) && !s.life.due.contains (.erase s.jrSector) then
    (s.life.due.find? JKind.isRecord).map (fun k => (k, s.life.due.erase k))
  else
    match s.life.due with
    | [] => none
    | k :: rest => some (k, rest)

/-- Whether a sector of the journal is erased. -/
def State.jrBlank (s : State) (sec : Nat) : Bool := s.nor.all (fun c => !(c.1 / 0x10000 == jrBase / 0x10000 + sec))

/-- Begin the erase of a sector. -/
def State.jrErase (sec : Nat) (rest : List JKind) (s : State) : State :=
  { s.lifeItem 227 1 with
    life := { (s.lifeItem 227 1).life with due := rest, op := some ⟨.erase sec, jrBase + sec * 0x10000, [], false⟩ } }

/-- Begin a journal operation: a record is formed here, counters folded (R462). A sector whose erase ahead has not come about is erased
before its slot 0 is programmed (DEDUCED, log 154). -/
def State.jrBegin (k : JKind) (rest : List JKind) (s : State) : State :=
  match k with
  | .erase sec => s.jrErase sec rest
  | .record kind =>
    let n := skipBad s.warm.bad 64 s.warm.nextSeq % 2 ^ 32
    if n % 1024 == 0 && !s.jrBlank (n / 1024 % 64) then s.jrErase (n / 1024 % 64) (insBy JKind.rank (.record kind) rest)
    else
    let s1 := s.lifeFold
    { s1 with
      warm := { s1.warm with nextSeq := n }
      life := { s1.life with due := rest, op := some ⟨.record kind, jrAddr n, s1.jrRecord kind n, false⟩ } }

/-- Whether an erase of BOOT_NOR_CTRL occupies the flash, which cannot suspend it (R98, R465). -/
def State.norBusy (s : State) : Bool := !s.life.suspend && s.norOp.any (fun o => o.op == 1 && o.on)

/-- An erase of the journal in flight that a due supply-warning record suspends (R465). -/
def State.jrParks (s : State) : Option JOp :=
  s.life.op.filter (fun o => !o.kind.isRecord && s.life.suspend && s.life.due.contains (.record 2) &&
    !(o.kind == .erase s.jrSector))

/-- Go on with the journal where none of its operations is in flight (R462): the next due one, or an erase that was suspended, begins;
with none, a flash command that waited begins (R98). Once the journal has stopped, counts are folded where a record would be formed,
and none is written (R463). -/
def State.jrStart (s : State) : State :=
  if s.jrStopped && s.life.op.isNone then
    let s1 := if s.life.due.any JKind.isRecord then s.lifeFold else s
    { s1 with life := { s1.life with due := [], parked := none }, norOp := s1.norOp.map (fun o => { o with on := true }) }
  else if s.norBusy then s
  else
    match s.jrParks with
    | some o =>
      let s1 := { s with life := { s.life with op := none, parked := some o } }
      (match s1.jrPick with
       | some (k, rest) => s1.jrBegin k rest
       | none => s1)
    | none =>
      match s.life.op, s.life.parked with
      | some _, _ => s
      | none, some o =>
        (match s.life.due.contains (.record 2), s.jrPick with
         | true, some (k, rest) => s.jrBegin k rest
         | _, _ => { s with life := { s.life with op := some o, parked := none } })
      | none, none =>
        match s.jrPick with
        | some (k, rest) => s.jrBegin k rest
        | none => { s with norOp := s.norOp.map (fun o => { o with on := true }) }

/-- The sector in the rotation that follows the sector of n, not marked. -/
def State.jrNextSector (s : State) (n : Nat) : Nat := skipBad s.warm.bad 64 ((n / 1024 + 1) * 1024) / 1024 % 64

/-- Whether a supply-warning record is due or in flight (R465). -/
def State.warnDue (s : State) : Bool :=
  s.life.due.contains (.record 2) || (s.life.op.map (fun o => o.kind == .record 2)).getD false

/-- A journal operation ends without a failure. -/
def State.jrGood (op : JOp) (s : State) : State :=
  let s0 := { s with life := { s.life with op := none } }
  match op.kind with
  | .erase _ => (s0.norErase op.addr).jrStart
  | .record kind =>
    let n := s0.warm.nextSeq
    let s1 := (s0.norProg op.addr op.data).put Fld.LIFE_STAT_last_kind kind
    let s2 := { s1 with warm := { s1.warm with seq := n, nextSeq := (n + 1) % 2 ^ 32 } }
    let s3 := s2.raise (evLife 0)
    let s4 := if n % 1024 == 896 then s3.jrDue (.erase (s3.jrNextSector n)) else s3
    s4.jrStart

/-- A journal operation has failed: retried once, then the sector is marked and n moves to slot 0 of the sector that follows it, also
where the sector was being erased ahead (R463). -/
def State.jrBad (op : JOp) (s : State) : State :=
  if !op.again then
    let s1 := match op.kind with
      | .erase _ => s.lifeItem 227 1
      | .record _ => s
    { s1 with life := { s1.life with op := some { op with again := true } } }
  else
    let sec := (op.addr - jrBase) / 0x10000 % 64
    let n := match op.kind with
      | .erase _ => 65536
      | .record _ => 64
    let s1 := (s.norOpen op.addr n).raise (evLife 1)
    let s2 := { s1 with warm := { s1.warm with failures := satAdd 255 s1.warm.failures 1, bad := s1.warm.bad ||| (1 <<< sec) } }
    let s3 := s2.raise (evLife 2)
    let lap := s3.warm.nextSeq / 1024
    let s4 := { s3 with
      warm := { s3.warm with nextSeq := skipBad s3.warm.bad 64 ((lap + (sec + 64 - lap % 64) % 64 + 1) * 1024) % 2 ^ 32 }
      life := { s3.life with op := none } }
    let s5 := match op.kind with
      | .erase _ => s4.jrDue (.erase s4.jrSector)
      | .record k => s4.jrDue (.record k)
    s5.jrStart

/-- The valid records of the journal: (sequence number, bytes). -/
def State.jrAll (s : State) : List (Nat × List Nat) :=
  let heads := (s.nor.filter (fun c => Nat.ble jrBase c.1 && Nat.blt c.1 (jrBase + 0x400000) && c.1 % 64 == 0 &&
    c.2 == 0x4C#8)).map (fun c => c.1)
  ((heads.map (fun a => s.norRead a 64)).filter jrValid).map (fun b => (leAt b 4 4, b))

/-- The newest valid record (R464). -/
def State.jrNewest (s : State) : Option (Nat × List Nat) :=
  s.jrAll.foldl (fun m r => match m with
    | none => some r
    | some x => if Nat.blt x.1 r.1 then some r else some x) none

/-- How many slots of a sector lie before its last one in use, that one included (R464). -/
def State.jrUsed (s : State) (sec : Nat) : Nat :=
  let base := jrBase + sec * 0x10000
  s.nor.foldl (fun m c => if Nat.ble base c.1 && Nat.blt c.1 (base + 0x10000) then Nat.max m ((c.1 - base) / 64 + 1) else m) 0

/-- The sequence number that follows the newest record n: the slot after the last one in use at or after its own, in its sector and,
where that is full or marked, in the next one, unless that still holds records of an earlier lap (R464). -/
def State.jrAfter (s : State) (n : Nat) : Nat :=
  let sec := n / 1024 % 64
  let own := n - n % 1024 + Nat.max (n % 1024 + 1) (s.jrUsed sec)
  if !(own % 1024 == 0) && !bit s.warm.bad sec then own
  else
    let m := skipBad s.warm.bad 64 ((n / 1024 + 1) * 1024)
    let sec2 := m / 1024 % 64
    if s.jrAll.any (fun r => r.1 / 1024 % 64 == sec2) then m else m + s.jrUsed sec2

/-- Take the calendar from the newest valid record and mark it not valid (R456). -/
def State.calRestart (s : State) : State :=
  let cal := match s.jrNewest with
    | some (_, b) => leAt b 8 6
    | none => 0
  ({ s with warm := { s.warm with cal := cal, calValid := false } }).raise (evLife 4)

/-- The scan of the journal at Boot, and the rebuilding of the ledger after a loss of the warmer (R464). An erase ahead that a reset
has dropped falls due again (R462). -/
def State.jrScan (s : State) : State :=
  match s.jrNewest with
  | none =>
    (({ s with warm := { s.warm with nextSeq := 0, seq := 0, lost := false } }).jrDue (.erase 0)).jrDue (.erase 1)
  | some (n, b) =>
    let next := skipBad s.warm.bad 64 (s.jrAfter n) % 2 ^ 32
    let s0 := { s with warm := { s.warm with seq := n, nextSeq := next } }
    let ahead := s0.jrNextSector next
    let s1 := if Nat.ble 897 (next % 1024) && !s0.jrBlank ahead then s0.jrDue (.erase ahead) else s0
    if !s.warm.lost then s1
    else
      let recs := sortBy (fun r => r.1) s.jrAll
      let items := recs.foldl (fun t r =>
        let k := nth r.2 15 0
        (List.range 7).foldl (fun t i => tset t (7 * k + i) (leAt r.2 (32 + 4 * i) 4)) t) s.warm.items
      let s2 := { s1 with warm := { s1.warm with
        core := (List.range 4).map (fun i => leAt b (16 + 4 * i) 4), items := items, lost := false } }
      (s2.put Fld.LIFE_STAT_restored 1).raise (evLife 3)

/-- What Boot does for the life ledger: the calendar's event again (status is cleared at reset release), the scan, and
the late supply-warning records counted, the records owed due (R37, R456, R464, R465). -/
def State.lifeBoot (s : State) : State :=
  let s1 := s.raiseIf s.warm.lost (evLife 4)
  let s2 := forEach s1.jrScan.warm.owed (fun k s => s.jrDue k) s1.jrScan
  ({ s2 with warm := { s2.warm with owed := [], late := 0, supwLate := satAdd 255 s2.warm.supwLate s2.warm.late } }).raiseIf
    (!(s2.warm.late == 0)) (evLife 6)

/-! ## Temperature and ageing (R458, R459) -/

/-- Temperature bin of a reading in degrees Celsius (R458). -/
def tempBin (t : Int) : Nat := if t < -30 then 0 else if t ≥ 110 then 15 else ((t + 40) / 10).toNat

/-- One region's normalised reading (R459). -/
def State.ageRead (s : State) (region v : Nat) : State :=
  let old := tget s.warm.items (192 + region) 0
  let base := if old / 65536 == 0 then v % 65536 else old / 65536
  let s1 := s.setItem (192 + region) (base * 65536 + v % 65536)
  let deg := if base == 0 then 0 else (base - v % 65536) * 1000 / base
  s1.raiseIf (!(s.get Fld.LIFE_CFG_age_warn == 0) && Nat.blt (s.get Fld.LIFE_CFG_age_warn) deg) (evLife 7)

end Sys2Proof.Machine
end

