-- ==== Sys2Proof/Machine/Calendar.lean ====
section
/-! DEFINITION. Machine/Calendar.lean: what the warmer's clock, the minutes, the temperature sensors, the supply warning
and the journal's ends do to the life ledger (chapter 16). -/

namespace Sys2Proof.Machine

/-- The readings of the ageing regions that a journal write takes: region number and normalised count (R459). -/
def State.agesRead (ages : List (Nat × Nat)) (s : State) : State := forEach ages (fun a s => s.ageRead (a.1 % 32) a.2) s

/-- A journal record of a kind falls due with its readings, and starts where the flash is free (R459, R462). -/
def State.jrWrite (kind : Nat) (ages : List (Nat × Nat)) (s : State) : State :=
  ((s.agesRead ages).jrDue (.record kind)).jrStart

/-- CALENDAR_TICK (R453, R455): the calendar advances by 1/1024 s, or takes the value that waits for the tick. In Off
there is no calendar. While Falith does not run, the record is owed to the next Boot (R37). -/
def State.calTick (ages : List (Nat × Nat)) (s : State) : State :=
  if s.phase == .off then s
  else
    match s.warm.calSet with
    | none => { s with warm := { s.warm with cal := (s.warm.cal + 1) % 2 ^ 48 } }
    | some v =>
      let s1 := ({ s with warm := { s.warm with cal := v % 2 ^ 48, calValid := true, calSet := none } }).raise (evLife 5)
      if s1.runs then s1.jrWrite 4 ages
      else { s1 with warm := { s1.warm with owed := (s1.warm.owed.filter (fun k => !(k == .record 4))) ++ [.record 4] } }

/-- TEMPERATURE_SAMPLE (R458): the highest of the sensors, in degrees Celsius. -/
def State.tempSample (t : Int) (s : State) : State :=
  if s.runs then
    { s with life := { s.life with maxTemp := some (match s.life.maxTemp with
        | none => t
        | some m => max m t) } }
  else s

/-- POWERED_MINUTE (R457, R458): core counter 0, the bin of the highest reading, the on-minutes of the domains. -/
def State.poweredMinute (s : State) : State :=
  if s.runs then
    let s1 := s.lifeCore 0 1
    let s2 := match s1.life.maxTemp with
      | none => s1
      | some t => s1.lifeItem (tempBin t) 1
    let on := (List.range 152).filter (fun d => s2.dom d == .on || s2.dom d == .draining)
    let s3 := forEach on (fun d s => s.lifeItem (16 + d) 1) s2
    { s3 with life := { s3.life with maxTemp := none } }
  else s

/-- WARM_MINUTE (R457): the warmer counts Warm time itself. -/
def State.warmMinute (s : State) : State :=
  if s.phase == .warm then s.setItem 224 (satAdd lifeMax (tget s.warm.items 224 0) 1) else s

/-- JOURNAL_PERIODIC (R462). -/
def State.jrPeriodic (ages : List (Nat × Nat)) (s : State) : State := if s.runs then s.jrWrite 1 ages else s

/-- JOURNAL_BOOT_RECORD (R462). -/
def State.jrBootRecord (ages : List (Nat × Nat)) (s : State) : State := if s.runs then s.jrWrite 3 ages else s

/-- The supply warning's deadline in ns, t_SUPW = 2 ms (R35, R485). -/
def tSupw : Nat := 2000000

/-- JOURNAL_OP_DONE (R463): the program or erase in flight has ended. A supply-warning record that comes after t_SUPW is
late, which the next Boot counts (R465). -/
def State.jrOpDone (failed : Bool) (s : State) : State :=
  match s.life.op with
  | none => s
  | some op =>
    if failed then s.jrBad op
    else
      let late := match op.kind, s.life.supwAt with
        | .record 2, some t => Nat.blt (t + tSupw) s.tm.loc
        | _, _ => false
      let s1 := s.jrGood op
      if late then { s1 with warm := { s1.warm with late := s1.warm.late + 1 } } else s1

/-- Whether a second has passed since the last supply-warning record, by local time, and by the calendar where a reset lies between
(R465; log 154). -/
def State.warnMay (s : State) : Bool :=
  match s.life.supwAt, s.warm.supwCal with
  | some t, _ => Nat.ble (t + 1000000000) s.tm.loc
  | none, some c => Nat.ble 1024 ((s.warm.cal + 2 ^ 48 - c) % 2 ^ 48)
  | none, none => true

/-- SUPPLY_WARNING (R465): SUPW_N falls. While Falith runs, the counts are folded and a record is written, at most one in
a second; in Reset and below, the level alone changes (R486). -/
def State.supplyWarning (ages : List (Nat × Nat)) (s : State) : State :=
  if s.pw.supw then s
  else
    let s1 := { s with pw := { s.pw with supw := true } }
    if s1.runs then
      let s2 := (s1.raise (evPm 3)).lifeFold
      if s2.warnMay then
        ({ s2 with life := { s2.life with supwAt := some s2.tm.loc }, warm := { s2.warm with supwCal := some s2.warm.cal } }).jrWrite 2 ages
      else s2
    else s1

/-- SUPPLY_WARNING_RELEASE (R465): Falith continues as before. -/
def State.supplyRelease (s : State) : State := { s with pw := { s.pw with supw := false } }

end Sys2Proof.Machine
end

