-- ==== Sys2Proof/Machine/Profile.lean ====
section
/-! DEFINITION. Machine/Profile.lean: the records of the loaded image, sensor profiles, initialisation sequences (R86,
R140 to R142, R146) and the colour filter array of a stream's data type. -/

namespace Sys2Proof.Machine

/-- A setting-map entry or embedded-data field (R141). -/
structure MapField where
  setting : Nat
  exp     : Nat
  msb     : Bool
  width   : Nat
  shift   : Nat
  addr    : Nat
  deriving DecidableEq, Repr

/-- A sensor profile (R140). -/
structure Profile where
  ks       : Nat
  exps     : Nat
  flags    : Nat
  bus      : Nat
  regBytes : Nat
  lineStep : Nat
  lineTime : Nat
  period   : Nat
  tRo      : Nat
  fsDelay  : Nat
  winLen   : Nat
  holdReg  : Nat
  holdOn   : Nat
  holdOff  : Nat
  sets     : List MapField
  eds      : List MapField
  standby  : List (List Nat)
  wake     : List (List Nat)
  census   : List (Nat × Nat)
  deriving DecidableEq, Repr

/-- An 8-byte map entry. -/
def mapField (b : List Nat) : MapField :=
  ⟨nth b 0 0, nth b 1 0 % 4, bit (nth b 1 0) 2, nth b 2 0, nth b 3 0, leAt b 4 2⟩

/-- n consecutive pieces of a byte list. -/
def pieces (b : List Nat) (o w n : Nat) : List (List Nat) := (List.range n).map (fun i => slice b (o + w * i) w)

/-- Read a profile payload (R140, R141). -/
def parseProfile (b : List Nat) : Profile :=
  let nSet := leAt b 0x20 2
  let nEd := leAt b 0x22 2
  let nSb := leAt b 0x24 2
  let nWk := leAt b 0x26 2
  let nCen := leAt b 0x28 2
  let o1 := 48 + 8 * nSet
  let o2 := o1 + 8 * nEd
  let o3 := o2 + 8 * nSb
  let o4 := o3 + 8 * nWk
  { ks := nth b 2 0, exps := nth b 3 0, flags := nth b 4 0, bus := nth b 5 0, regBytes := nth b 6 0
    lineStep := nth b 7 0, lineTime := leAt b 8 4, period := leAt b 0x0C 4, tRo := leAt b 0x10 4
    fsDelay := leAt b 0x14 4, winLen := leAt b 0x18 4, holdReg := leAt b 0x1C 2, holdOn := nth b 0x1E 0
    holdOff := nth b 0x1F 0
    sets := (pieces b 48 8 nSet).map mapField
    eds := (pieces b o1 8 nEd).map mapField
    standby := pieces b o2 8 nSb
    wake := pieces b o3 8 nWk
    census := (pieces b o4 4 nCen).map (fun e => (leAt e 0 2, nth e 2 0)) }

/-- Triggered by FSYNC. -/
def Profile.triggered (p : Profile) : Bool := bit p.flags 0
/-- trig_mode: readout starts fs_delay_ns after the edge. -/
def Profile.trigMode (p : Profile) : Bool := bit p.flags 1
/-- Group hold. -/
def Profile.groupHold (p : Profile) : Bool := bit p.flags 2
/-- Settings are confirmed by embedded data. -/
def Profile.edConfirm (p : Profile) : Bool := bit p.flags 3
/-- Counter source: 0 none, 1 CSI-2 frame number, 2 embedded-data field. -/
def Profile.ctrSrc (p : Profile) : Nat := bits p.flags 5 4

/-- Whether one SENSOR_INIT operation is well formed (R86). -/
def opOk (o : List Nat) : Bool :=
  let b1 := nth o 1 0
  let v := leAt o 4 4
  match nth o 0 0 with
  | 1 => (b1 % 8 == 1 || b1 % 8 == 2 || b1 % 8 == 4) && bits b1 6 3 == 0
  | 2 => (b1 % 8 == 1 || b1 % 8 == 2) && bits b1 6 3 == 0
  | 3 => b1 == 0 && leAt o 2 2 == 0 && Nat.ble 1 v && Nat.ble v 1000000
  | 4 => Nat.blt b1 8 && leAt o 2 2 == 0 && Nat.ble v 1
  | _ => false

/-- Whether an operation drives a tunnelled GPIO line. -/
def opGpio (o : List Nat) : Bool := nth o 0 0 == 4

/-- Whether a map entry's bytes are within R141; `ed` = an embedded-data field. -/
def mapOk (exps : Nat) (ed : Bool) (b : List Nat) : Bool :=
  let f := mapField b
  let setOk := f.setting == 1 || f.setting == 2 || f.setting == 3
  ((setOk && Nat.blt f.exp exps) || (ed && f.setting == 0x10)) && bits (nth b 1 0) 7 3 == 0 &&
    Nat.ble 1 f.width && Nat.ble f.width 4 && Nat.ble f.shift 31 && leAt b 6 2 == 0

/-- Whether a profile payload keeps R140 and R141. An exposure needs one exposure-time entry, taken as exactly one: a profile
with two for an exposure is refused (DESIGN CHOICE, log 167). -/
def profileOk (b : List Nat) : Bool :=
  let p := parseProfile b
  let nSet := leAt b 0x20 2
  let nEd := leAt b 0x22 2
  let nSb := leAt b 0x24 2
  let nWk := leAt b 0x26 2
  let nCen := leAt b 0x28 2
  Nat.ble 48 b.length && b.length == 48 + 8 * (nSet + nEd + nSb + nWk) + 4 * nCen &&
  leAt b 0 2 == 1 && Nat.ble p.ks 3 && Nat.ble 1 p.exps && Nat.ble p.exps 4 && bits p.flags 7 6 == 0 &&
  !(p.ctrSrc == 3) && Nat.ble p.bus 1 && (p.regBytes == 1 || p.regBytes == 2) && Nat.ble 1 p.lineStep &&
  Nat.ble p.lineStep 15 && Nat.ble 100 p.lineTime && Nat.ble p.lineTime 1000000 && Nat.ble 1000000 p.period &&
  Nat.ble p.period 1000000000 && Nat.ble p.tRo 1000000 && (p.trigMode || p.fsDelay == 0) &&
  Nat.ble 1 nSet && Nat.ble nSet 16 && Nat.ble nEd 16 && Nat.ble nSb 64 && Nat.ble nWk 64 && Nat.ble nCen 256 &&
  (slice b 0x2A 6).all (fun x => x == 0) &&
  (pieces b 48 8 nSet).all (mapOk p.exps false) && (pieces b (48 + 8 * nSet) 8 nEd).all (mapOk p.exps true) &&
  (List.range p.exps).all (fun e => (p.sets.filter (fun f => f.setting == 1 && f.exp == e)).length == 1) &&
  (!p.edConfirm || p.eds.any (fun f => f.setting == 1 || f.setting == 2 || f.setting == 3)) &&
  (if p.ctrSrc == 2 then (p.eds.filter (fun f => f.setting == 0x10)).map (fun f => f.exp) == [0] else true) &&
  (p.standby ++ p.wake).all opOk &&
  (pieces b (48 + 8 * (nSet + nEd + nSb + nWk)) 4 nCen).all (fun e => (nth e 2 0 == 1 || nth e 2 0 == 2) && nth e 3 0 == 0)

/-- Bit times of one write of n data bytes (R146). -/
def writeBits (regBytes n : Nat) : Nat := 9 * (1 + regBytes + n) + 2

/-- t_SET of a profile in bit times (R146). -/
def Profile.tSet (p : Profile) : Nat :=
  sumL (p.sets.map (fun f => writeBits p.regBytes f.width)) + (if p.groupHold then 2 * writeBits p.regBytes 1 else 0)

/-- The period of one bit in ps at a channel's speed code (R161). -/
def bitPs (speed : Nat) : Nat := if speed == 1 then 10000000 else if speed == 2 then 2500000 else if speed == 3 then 1000000 else 80000

/-- Whether a write window is long enough at a channel's speed (R146). -/
def Profile.winOk (p : Profile) (speed : Nat) : Bool :=
  Nat.ble ((2 * p.tSet + 64) * bitPs speed + 288000000) (p.winLen * 1000)

/-! ## Records of the image -/

/-- The payload of a record of the loaded image, empty where there is none. -/
def Image.find (i : Image) (typ inst : Nat) : Option Rec := i.recs.find? (fun r => r.typ == typ && r.inst == inst)

/-- The profile with a number. -/
def State.profile (s : State) (n : Nat) : Profile :=
  match s.img.find 3 n with
  | some r => parseProfile r.payload
  | none => parseProfile []

/-- The profile of a stream (R162). -/
def State.prof (s : State) (st : Nat) : Profile := s.profile (s.get (Fld.STRM_CFG_profile st))

/-- The SENSOR_INIT operations of a profile number (R86). -/
def State.initOps (s : State) (n : Nat) : List (List Nat) :=
  match s.img.find 4 n with
  | some r => pieces r.payload 0 8 (r.payload.length / 8)
  | none => []

/-! ## Data types (R109, R116) -/

/-- Whether a data type carries pixels. -/
def pixelDt (dt : Nat) : Bool := (Nat.ble 0x27 dt && Nat.ble dt 0x2F) || dt == 0x1E || dt == 0x1F || dt == 0x24

/-- Whether a pixel data type passes through to crop and scale. -/
def passDt (dt : Nat) : Bool := dt == 0x1E || dt == 0x1F || dt == 0x24

/-- Bits of one sample of a pixel data type. -/
def dtBits (dt : Nat) : Nat :=
  match dt with
  | 0x28 => 6
  | 0x29 => 7
  | 0x2A => 8
  | 0x2B => 10
  | 0x2C => 12
  | 0x2D => 14
  | 0x2E => 16
  | 0x2F => 20
  | 0x27 => 24
  | 0x1E => 8
  | 0x1F => 10
  | 0x24 => 8
  | _ => 8

/-- Samples that a line of W pixels carries: one for RAW, two for YUV422 (Y and a chroma sample), three for RGB888. -/
def dtSamples (dt W : Nat) : Nat := if dt == 0x24 then 3 * W else if dt == 0x1E || dt == 0x1F then 2 * W else W

/-- The raw fill code at a sample position of a line (R116). -/
def fillCode (dt i : Nat) : Nat :=
  if dt == 0x1E || dt == 0x1F then (if i % 2 == 0 then 2 ^ (dtBits dt - 1) else 0) else 0

/-- Declared width and height of a stream (R162). -/
def State.strmW (s : State) (st : Nat) : Nat := s.get (Fld.STRM_GEOM_width st)

/-- Declared height of a stream. -/
def State.strmH (s : State) (st : Nat) : Nat := s.get (Fld.STRM_GEOM_height st)

/-- Declared data type of a stream. -/
def State.strmDt (s : State) (st : Nat) : Nat := s.get (Fld.STRM_CFG_dt st)

end Sys2Proof.Machine
end

