-- ==== Sys2Proof/Machine/Chain.lean ====
section
/-! DEFINITION. Machine/Chain.lean: the correction and rendering chain of an easel, stage by stage, as functions of a
frame's lines, its table set and its parameter set (R197 to R228). A plane of samples is a list of rows. -/

namespace Sys2Proof.Machine

/-! ## Operators (R198) -/

/-- rnd_shift on integers: halves towards +∞. -/
def rndShift (a : Int) (n : Nat) : Int := if n == 0 then a else (a + (2 ^ (n - 1) : Nat)) / ((2 ^ n : Nat) : Int)

/-- rnd_div for a positive divisor. -/
def rndDiv (a : Int) (b : Nat) : Int := if b == 0 then 0 else (2 * a + (b : Int)) / ((2 * b : Nat) : Int)

/-- clip to n bits. -/
def clip (a : Int) (n : Nat) : Nat := if a < 0 then 0 else Nat.min a.toNat (2 ^ n - 1)

/-- Bilinear interpolation of four nodes with 8-bit fractions (R211). -/
def bilin (a b c d fx fy : Nat) : Nat :=
  (rndShift (((256 - fx) * (256 - fy) * a + fx * (256 - fy) * b + (256 - fx) * fy * c + fx * fy * d : Nat) : Int) 16).toNat

/-! ## The table set (R201) -/

/-- The fields of an EASEL_TABLES payload. -/
structure TabSet where
  cfa     : Nat
  px      : Nat
  py      : Nat
  X       : Nat
  n       : Nat
  bypass  : Nat
  bmode   : Nat
  obCount : Nat
  obX     : Nat
  obW     : Nat
  black   : List Nat
  dpcAbs  : Nat
  dpcRel  : Nat
  nrA     : Nat
  nrB     : Nat
  nrAlpha : Nat
  nrW     : List Nat
  knee    : List Nat
  sat     : List Nat
  mshift  : Nat
  ccm     : List Int
  csc     : List Int
  cscOff  : List Nat
  alarm   : Nat
  curves  : List (List (Nat × Nat))
  temps   : List (Int × List Nat)
  tone    : List Nat
  deriving DecidableEq, Repr

/-- n numbers of w bytes from an offset. -/
def nums (b : List Nat) (o w n : Nat) : List Nat := (pieces b o w n).map leVal

/-- Read a table set. -/
def parseTabs (b : List Nat) : TabSet :=
  { cfa := nth b 2 0, px := bits (nth b 3 0) 1 0, py := bits (nth b 3 0) 3 2, X := nth b 4 0, n := nth b 5 0
    bypass := leAt b 6 2, bmode := nth b 8 0, obCount := nth b 9 0, obX := leAt b 0xA 2, obW := leAt b 0xC 2
    black := nums b 0x10 4 4, dpcAbs := leAt b 0x20 4, dpcRel := nth b 0x24 0
    nrA := leAt b 0x28 4, nrB := leAt b 0x2C 2, nrAlpha := leAt b 0x2E 2, nrW := slice b 0x30 16
    knee := nums b 0x40 4 3, sat := nums b 0x4C 4 3, mshift := nth b 0x58 0
    ccm := (nums b 0x60 2 12).map (sgn 16), csc := (nums b 0x78 2 9).map (sgn 16), cscOff := nums b 0x8A 2 3
    alarm := leAt b 0x98 4
    curves := (List.range 4).map (fun k =>
      (pieces b (0x100 + 128 * k) 8 (Nat.min 16 (nth b (0x90 + k) 0))).map (fun e => (leAt e 0 4, leAt e 4 4)))
    temps := (pieces b 0x300 20 (Nat.min 16 (nth b 0x94 0))).map (fun e => (sgn 16 (leAt e 0 2), nums e 4 4 4))
    tone := nums b 0x500 2 1024 }

/-- Tap t of phase φ of window w's horizontal filter. -/
def hTap (b : List Nat) (w ph t : Nat) : Int := sgn 16 (leAt b (0xD00 + 0x580 * w + 16 * ph + 2 * t) 2)

/-- Tap t of phase φ of window w's vertical filter. -/
def vTap (b : List Nat) (w ph t : Nat) : Int := sgn 16 (leAt b (0x1100 + 0x580 * w + 6 * ph + 2 * t) 2)

/-- Vertical and horizontal period of a CFA type (R199). -/
def cfaPer (cfa : Nat) : Nat := if cfa == 3 then 4 else if cfa == 0xFF then 1 else 2

/-- Channel index of a site (R199). -/
def TabSet.chan (t : TabSet) (x y : Nat) : Nat :=
  if t.cfa == 3 then
    let i := (x + t.px) % 4
    let j := (y + t.py) % 4
    if j % 2 == 1 then (if i % 2 == 0 then 2 else 3)
    else if i % 2 == 1 then 2
    else if (i == 0) == (j == 0) then 0 else 1
  else 2 * ((y + t.py) % 2) + (x + t.px) % 2

/-- Colour of a site: the sites of one colour share it (R199). -/
def TabSet.colour (t : TabSet) (x y : Nat) : Nat :=
  let c := t.chan x y
  if t.cfa == 3 then c else if c == 2 then 1 else c

/-- Colour of any position, inside the frame or not (R200). -/
def TabSet.colourI (t : TabSet) (x y : Int) : Nat :=
  t.colour ((x + 16384) % 4 : Int).toNat ((y + 16384) % 4 : Int).toNat

/-! ## Edges (R200) -/

/-- Reflect an index into 0 .. M - 1. -/
def reflect (M : Nat) : Nat → Int → Nat
  | 0, _ => 0
  | k + 1, i =>
    if M ≤ 1 then 0
    else if i < 0 then reflect M k (-i)
    else if (M : Int) ≤ i then reflect M k (2 * ((M : Int) - 1) - i)
    else i.toNat

/-- The nearest index to i, within 0 .. M - 1, that meets a test; the lower of two equally near. -/
def nearest (M i : Nat) (ok : Nat → Bool) : Nat :=
  match (List.range (M + 1)).findSome? (fun d =>
    if Nat.ble d i && ok (i - d) then some (i - d)
    else if Nat.blt (i + d) M && ok (i + d) then some (i + d) else none) with
  | some j => j
  | none => i

/-- The substitute of a position with the colour test: columns first, then rows. -/
def TabSet.edge (t : TabSet) (W N : Nat) (x y : Int) : Nat × Nat :=
  let c := t.colourI x y
  let x1 := reflect W 64 x
  let x2 := if 0 ≤ x && x < (W : Int) then x.toNat
    else if t.colourI x1 y == c then x1 else nearest W x1 (fun j => t.colourI j y == c)
  let y1 := reflect N 64 y
  let y2 := if 0 ≤ y && y < (N : Int) then y.toNat
    else if t.colour x2 y1 == c then y1 else nearest N y1 (fun j => t.colour x2 j == c)
  (x2, y2)

/-- A plane of samples. -/
abbrev Plane := List (List Nat)

/-- A sample of a plane. -/
def pix (p : Plane) (x y : Nat) : Nat := nth (nth p y []) x 0

/-- A sample after the edge rule with the colour test. -/
def TabSet.at_ (t : TabSet) (W N : Nat) (p : Plane) (x y : Int) : Nat :=
  let e := t.edge W N x y
  pix p e.1 e.2

/-- Change every site of a plane. -/
def siteMap (f : Nat → Nat → Nat → Nat) (p : Plane) : Plane :=
  (List.zip (List.range p.length) p).map (fun r => (List.zip (List.range r.2.length) r.2).map (fun c => f c.1 r.1 c.2))

/-! ## Stages 1 to 8 -/

/-- The parameter set of a frame (R203): exposure times and gains, temperature, mesh blend, gains, tone, local contrast. -/
structure Params where
  exps  : List (Nat × Nat)
  temp  : Int
  lscW  : Nat
  wb    : List Nat
  tone  : Nat
  alpha : Nat
  grid  : List Nat
  deriving DecidableEq, Repr

/-- Stage 1 (R205). -/
def decompand (cv : List (Nat × Nat)) (d : Nat) : Nat :=
  let m := cv.length
  let j := ((List.range (m - 1)).filter (fun j => Nat.ble (nth cv j (0, 0)).1 d)).length - 1
  let a := nth cv j (0, 0)
  let b := nth cv (j + 1) (0, 0)
  a.2 + (rndDiv (((d - a.1) * (b.2 - a.2) : Nat) : Int) (b.1 - a.1)).toNat

/-- Black level of a channel in mode 2 (R206). -/
def TabSet.tempBlack (t : TabSet) (T : Int) (c : Nat) : Nat :=
  match t.temps with
  | [] => 0
  | e0 :: _ =>
    let last := nth t.temps (t.temps.length - 1) e0
    if T ≤ e0.1 then nth e0.2 c 0
    else if last.1 ≤ T then nth last.2 c 0
    else
      let j := (t.temps.filter (fun e => e.1 ≤ T)).length - 1
      let a := nth t.temps j e0
      let b := nth t.temps (j + 1) e0
      clip ((nth a.2 c 0 : Int) + rndDiv ((T - a.1) * ((nth b.2 c 0 : Int) - (nth a.2 c 0 : Int))) (b.1 - a.1).toNat) 24

/-- Black level of a channel for one exposure's plane (R206, R207); `trunc` = the frame was cut before its black rows. -/
def TabSet.blackOf (t : TabSet) (T : Int) (p : Plane) (trunc : Bool) (c : Nat) : Nat :=
  if t.bmode == 2 then t.tempBlack T c
  else if t.bmode == 1 && !trunc then
    let sites := (List.range t.obCount).flatMap (fun y =>
      (List.range t.obW).filterMap (fun i => if t.chan (t.obX + i) y == c then some (pix p (t.obX + i) y) else none))
    (rndDiv (sumL sites : Int) sites.length).toNat
  else nth t.black c 0

/-- Stage 2 (R206). -/
def TabSet.stage2 (t : TabSet) (T : Int) (trunc : Bool) (p : Plane) : Plane :=
  if bit t.bypass 0 then p
  else
    let bs := (List.range 4).map (t.blackOf T p trunc)
    siteMap (fun x y v => v - nth bs (t.chan x y) 0) p

/-- Positions of a DPC_MAP payload (R208). -/
def dpcSites (b : List Nat) : List (Nat × Nat) :=
  (nums b 8 4 (leAt b 4 4)).map (fun e => (bits e 13 0, bits e 27 14))

/-- Stage 3 on one plane: the corrected plane and how many sites dynamic detection replaced (R208, R209). -/
def TabSet.stage3 (t : TabSet) (W N : Nat) (map : List (Nat × Nat)) (p : Plane) : Plane × Nat :=
  let nb (x y : Nat) : Nat × Nat :=
    let h : Int := if t.cfa == 3 && Nat.ble (t.chan x y) 1 then 4 else 2
    (t.at_ W N p ((x : Int) - h) y, t.at_ W N p ((x : Int) + h) y)
  let mid (q : Nat × Nat) : Nat := (rndShift ((q.1 + q.2 : Nat) : Int) 1).toNat
  let inMap (x y : Nat) : Bool := !bit t.bypass 1 && map.contains (x, y)
  let bad (x y v : Nat) : Bool :=
    let q := nb x y
    let hi := Nat.max q.1 q.2
    let lo := Nat.min q.1 q.2
    let thr := Nat.max t.dpcAbs (rndShift ((hi * t.dpcRel : Nat) : Int) 8).toNat
    !inMap x y && !bit t.bypass 2 && (Nat.blt (hi + thr) v || Nat.blt (v + thr) lo)
  (siteMap (fun x y v => if inMap x y || bad x y v then mid (nb x y) else v) p,
   sumL (List.flatten (siteMap (fun x y v => b2n (bad x y v)) p)))

/-- Node (i, j) of mesh m (0 = A, 1 = B) of channel c (R210). -/
def meshNode (b : List Nat) (m c i j : Nat) : Nat := leAt b (16 + ((m * 4 + c) * 49 * 65 + j * 65 + i) * 2) 2

/-- Stage 4 (R211). -/
def TabSet.stage4 (t : TabSet) (W H lscW : Nat) (mesh : List Nat) (p : Plane) : Plane :=
  if bit t.bypass 3 || mesh.isEmpty then p
  else siteMap (fun x y v =>
    let c := t.chan x y
    let i := 64 * x / W
    let fx := 64 * x % W * 256 / W
    let j := 48 * y / H
    let fy := 48 * y % H * 256 / H
    let g (m : Nat) := bilin (meshNode mesh m c i j) (meshNode mesh m c (i + 1) j) (meshNode mesh m c i (j + 1))
      (meshNode mesh m c (i + 1) (j + 1)) fx fy
    let gg := rndShift (((256 - lscW) * g 0 + lscW * g 1 : Nat) : Int) 8
    clip (rndShift ((v : Int) * gg) 12) 24) p

/-- The ratio of exposure k to exposure 0 (R212). -/
def mergeRatio (exps : List (Nat × Nat)) (k : Nat) : Nat :=
  let e := fun k => (nth exps k (0, 0)).1 * (nth exps k (0, 0)).2
  clampN 65536 (2 ^ 24) (rndDiv ((e 0 * 65536 : Nat) : Int) (e k)).toNat

/-- The merge's choice of exposure, from k on (R212). -/
def mergeFrom (ps sat : List Nat) : Nat → Nat → Nat
  | 0, k => k
  | n + 1, k => if Nat.ble (nth sat k 0) (nth ps k 0) then mergeFrom ps sat n (k + 1) else k

/-- Stage 5 at one site (R212). -/
def TabSet.merge (t : TabSet) (exps : List (Nat × Nat)) (ps : List Nat) : Nat :=
  if ps.length ≤ 1 then nth ps 0 0
  else
    let X := ps.length
    let m (k : Nat) := clip (rndShift ((nth ps k 0 * mergeRatio exps k : Nat) : Int) (16 + t.mshift)) 24
    let k := mergeFrom ps t.sat (X - 1) 0
    if Nat.blt k (X - 1) && Nat.ble (nth t.knee k 0) (nth ps k 0) then
      let w := rndDiv (((nth ps k 0 - nth t.knee k 0) * 256 : Nat) : Int) (nth t.sat k 0 - nth t.knee k 0)
      (rndShift ((256 - w) * (m k : Int) + w * (m (k + 1) : Int)) 8).toNat
    else m k

/-- Stage 5 (R212). -/
def TabSet.stage5 (t : TabSet) (exps : List (Nat × Nat)) (planes : List Plane) : Plane :=
  match planes with
  | [p] => p
  | p :: _ => siteMap (fun x y _ => t.merge exps (planes.map (fun q => pix q x y))) p
  | [] => []

/-- Offsets of the 5 × 5 window without its centre. -/
def win5 : List (Int × Int) :=
  ([-2, -1, 0, 1, 2].flatMap (fun dy : Int => [-2, -1, 0, 1, 2].map (fun dx : Int => (dx, dy)))).filter
    (fun d => !(d.1 == 0 && d.2 == 0))

/-- Stage 7 (R214). -/
def TabSet.stage7 (t : TabSet) (W N : Nat) (p : Plane) : Plane :=
  if bit t.bypass 4 then p
  else siteMap (fun x y v =>
    let c := t.colour x y
    let qs := (win5.filter (fun d => t.colourI ((x : Int) + d.1) ((y : Int) + d.2) == c)).map
      (fun d => t.at_ W N p ((x : Int) + d.1) ((y : Int) + d.2))
    let th := t.nrA + (rndShift ((v * t.nrB : Nat) : Int) 16).toNat
    let ws := qs.map (fun q => (nth t.nrW (Nat.min 15 (8 * (Nat.max q v - Nat.min q v) / (th + 1))) 0, q))
    let s1 := rndDiv ((16 * v + sumL (ws.map (fun e => e.1 * e.2)) : Nat) : Int) (16 + sumL (ws.map (fun e => e.1)))
    (rndShift ((256 - (t.nrAlpha : Int)) * (v : Int) + (t.nrAlpha : Int) * s1) 8).toNat) p

/-- Bits of a number: position of its highest 1 bit plus one. -/
def bitLen : Nat → Nat → Nat
  | 0, _ => 0
  | k + 1, v => if bit v k then k + 1 else bitLen k v

/-- Round a quotient to nearest, ties to even. -/
def rne (a b : Nat) : Nat :=
  let q := a / b
  let r := a % b
  if Nat.blt b (2 * r) || (2 * r == b && q % 2 == 1) then q + 1 else q

/-- The binary16 value nearest to v / 256 (R215). -/
def half (v : Nat) : Nat :=
  if v == 0 then 0
  else
    let e := bitLen 24 v - 1
    -- v / 256 has exponent e - 8; ten fraction bits
    let m := if Nat.ble e 10 then v * 2 ^ (10 - e) else rne v (2 ^ (e - 10))
    let (m2, e2) := if m == 2048 then (1024, e + 1) else (m, e)
    if Nat.blt 23 e2 then 0x7BFF else (e2 + 7) * 1024 + (m2 - 1024)

/-- One sample of the raw-linear tap in a format (R215). -/
def rawSample (fmt v : Nat) : List Nat := if fmt == 8 then leBytes 2 (half v) else leBytes 4 (clip (rndShift (v : Int) 4) 20)

/-! ## Stages 9 to 13 -/

/-- Stage 9 (R216). -/
def TabSet.stage9 (t : TabSet) (wb : List Nat) (p : Plane) : Plane :=
  siteMap (fun x y v => clip (rndShift ((v * (if bit t.bypass 5 then 4096 else nth wb (t.chan x y) 0) : Nat) : Int) 12) 24) p

/-- Primary channels of a CFA type: the colour class of p0, p1, p2, IR (R217). -/
def TabSet.primaries (t : TabSet) : List Nat := if t.cfa == 3 then [0, 2, 1, 3] else [0, 1, 3]

/-- Stage 10 at one site for one colour (R217). -/
def TabSet.demosaic (t : TabSet) (W N : Nat) (p : Plane) (x y c : Nat) : Nat :=
  if t.colour x y == c then pix p x y
  else
    let X : Int := x
    let Y : Int := y
    let holds (d : Int × Int) : Bool := t.colourI (X + d.1) (Y + d.2) == c
    let v (d : Int × Int) : Nat := t.at_ W N p (X + d.1) (Y + d.2)
    let all (ds : List (Int × Int)) : Bool := ds.all holds
    let avg (ds : List (Int × Int)) : Nat := (rndDiv (sumL (ds.map v) : Int) ds.length).toNat
    let l : Int × Int := (-1, 0)
    let r : Int × Int := (1, 0)
    let u : Int × Int := (0, -1)
    let d : Int × Int := (0, 1)
    if all [l, r, u, d] then
      let dh := Nat.max (v l) (v r) - Nat.min (v l) (v r)
      let dv := Nat.max (v u) (v d) - Nat.min (v u) (v d)
      if Nat.blt dh dv then avg [l, r] else if Nat.blt dv dh then avg [u, d] else avg [l, r, u, d]
    else if all [l, r] then avg [l, r]
    else if all [u, d] then avg [u, d]
    else if all [(-1, -1), (1, -1), (-1, 1), (1, 1)] then avg [(-1, -1), (1, -1), (-1, 1), (1, 1)]
    else if all [(-2, 0), (2, 0)] then avg [(-2, 0), (2, 0)]
    else if all [(-1, -1), (1, 1)] then avg [(-1, -1), (1, 1)]
    else if all [(1, -1), (-1, 1)] then avg [(1, -1), (-1, 1)]
    else
      match [l, r, u, d].find? holds with
      | some q => v q
      | none => 0

/-- Node value of the tone curve (R219). -/
def TabSet.node (t : TabSet) (i : Nat) : Nat := nth t.tone (Nat.min i 1023) 0

/-- The tone curve (R219). -/
def TabSet.toneMap (t : TabSet) (v : Nat) : Nat :=
  if bit t.bypass 7 then v >>> 8
  else if v < 256 then (rndShift ((t.node 0 * v : Nat) : Int) 8).toNat
  else
    let k := bitLen 24 v - 1
    let i := 64 * (k - 8) + (v - 2 ^ k) / 2 ^ (k - 6)
    let xi := 2 ^ k + (i - 64 * (k - 8)) * 2 ^ (k - 6)
    let f := if Nat.ble 14 k then (v - xi) / 2 ^ (k - 14) else (v - xi) * 2 ^ (14 - k)
    (rndShift (((256 - f) * t.node i + f * t.node (i + 1) : Nat) : Int) 8).toNat

/-- The local-contrast factor at a pixel (R220). -/
def lceFactor (grid : List Nat) (alpha W H x y : Nat) : Int :=
  let i := 31 * x / W
  let fx := 31 * x % W * 256 / W
  let j := 23 * y / H
  let fy := 23 * y % H * 256 / H
  let g (i j : Nat) := nth grid (32 * Nat.min j 23 + Nat.min i 31) 0
  let G := bilin (g i j) (g (i + 1) j) (g i (j + 1)) (g (i + 1) (j + 1)) fx fy
  4096 + rndShift (((G : Int) - 4096) * (alpha : Int)) 8

/-- Stages 10 to 13 at one pixel: the three 16-bit components (R217 to R221). -/
def TabSet.render (t : TabSet) (q : Params) (W H N : Nat) (p : Plane) (x y : Nat) : List Nat :=
  let ps := t.primaries.map (t.demosaic W N p x y)
  let cc := if bit t.bypass 6 then ps.take 3
    else (List.range 3).map (fun o =>
      clip (rndShift ((List.range 4).foldl (fun a i => a + nth t.ccm (4 * o + i) 0 * ((nth ps i 0 : Nat) : Int)) 0) 12) 24)
  let tn := cc.map (fun u => t.toneMap (clip (rndShift ((u * q.tone : Nat) : Int) 12) 24))
  let lc := if bit t.bypass 8 || q.alpha == 0 then tn
    else tn.map (fun v => clip (rndShift ((v : Int) * lceFactor q.grid q.alpha W H x y) 12) 16)
  if bit t.bypass 9 then lc
  else (List.range 3).map (fun j =>
    clip (rndShift ((List.range 3).foldl (fun a i => a + nth t.csc (3 * j + i) 0 * ((nth lc i 0 : Nat) : Int)) 0) 14 +
      (nth t.cscOff j 0 : Int)) 16)

/-- Pass-through data as three 16-bit components (R222): line codes in the order of CSI-2. -/
def passPixel (dt : Nat) (line : List Nat) (x : Nat) : List Nat :=
  if dt == 0x24 then (List.range 3).map (fun c => nth line (3 * x + (2 - c)) 0 * 256)
  else
    let sh := 2 ^ (16 - dtBits dt)
    let b := x / 2 * 4
    [nth line (2 * x + 1) 0 * sh, nth line b 0 * sh, nth line (b + 2) 0 * sh]

/-! ## Stages 14 and 15 -/

/-- A view as its registers give it (R165, R195). -/
structure ViewCfg where
  src  : Nat
  pad  : Bool
  fmt  : Nat
  fill : Nat
  x0   : Nat
  y0   : Nat
  cw   : Nat
  ch   : Nat
  ow   : Nat
  oh   : Nat
  deriving DecidableEq, Repr

/-- Step of a window (R223). -/
def winStep (c o : Nat) : Nat := if o == 0 then 0 else c * 65536 / o

/-- Position p_i of an output index (R223). -/
def winPos (org c o i : Nat) : Int :=
  ((org * 65536 + i * winStep c o + winStep c o / 2 : Nat) : Int) - 32768

/-- n of a position. -/
def posN (p : Int) : Int := (p + 32768) / 65536
/-- Phase of a position. -/
def posPh (p : Int) : Nat := ((p + 32768) / 1024 % 64).toNat

/-- The window's value of one component at a position (R224). -/
def winAt (tabs : List Nat) (w W N : Nat) (img : Plane) (pxx pyy : Int) : Nat :=
  let n := posN pxx
  let ph := posPh pxx
  let row (y : Int) : Nat :=
    let r := nth img (reflect N 64 y) []
    clip (rndShift ((List.range 8).foldl (fun a t =>
      a + hTap tabs w ph t * (nth r (reflect W 64 (n - 4 + (t : Int))) 0 : Int)) 0) 8) 16
  let m := posN pyy
  let pv := posPh pyy
  clip (rndShift ((List.range 3).foldl (fun a t => a + vTap tabs w pv t * (row (m - 1 + (t : Int)) : Int)) 0) 8) 16

/-- Component quantisation of a format (R226). -/
def quant (fmt c : Nat) : Nat := if fmt == 1 || fmt == 3 then clip (rndShift (c : Int) 6) 10 else clip (rndShift (c : Int) 8) 8

/-- Bytes of one component sample of a format. -/
def compBytes (fmt : Nat) : Nat := if fmt == 1 || fmt == 3 then 2 else 1

/-- The fill value of component j of a format (R228). -/
def fillComp (fmt fill j : Nat) : Nat :=
  let v := bits fill (10 * j + 9) (10 * j)
  if fmt == 1 || fmt == 3 then v else v / 4

/-- Payload bytes of a view with r rows (R227). -/
def viewBytes (v : ViewCfg) (r : Nat) : Nat :=
  match v.fmt with
  | 0 => v.ow * r + v.ow * ((r + 1) / 2)
  | 1 => 2 * (v.ow * r + v.ow * ((r + 1) / 2))
  | 2 => 2 * v.ow * r
  | 3 => 4 * v.ow * r
  | 4 => 3 * v.ow * r
  | 8 => 2 * v.ow * r
  | 9 => 4 * v.ow * r
  | _ => 0

/-- Whether output row j of a rendered or raw view is valid at valid-line count V (R228). -/
def rowValid (v : ViewCfg) (V j : Nat) : Bool :=
  if v.src == 1 then Nat.blt (v.y0 + j) V
  else posN (winPos v.y0 v.ch v.oh j) ≤ (V : Int) - 1

/-- Rows that a view delivers, and of them the valid ones (R228). -/
def viewRows (v : ViewCfg) (V H : Nat) : Nat × Nat :=
  let valid := if Nat.ble H V then v.oh else ((List.range v.oh).filter (rowValid v V)).length
  (if v.pad then v.oh else valid, valid)

/-- The payload of a rendered view from the three component planes of the frame (R223 to R228). -/
def renderView (tabs : List Nat) (w : Nat) (v : ViewCfg) (W N rows valid : Nat) (comps : List Plane) : List Nat :=
  let nb := compBytes v.fmt
  let py (j : Nat) : Int := winPos v.y0 v.ch v.oh j
  let pxx (i : Nat) : Int := winPos v.x0 v.cw v.ow i
  let val (c : Nat) (x y : Int) : Nat := quant v.fmt (winAt tabs w W N (nth comps c []) x y)
  let plane (c : Nat) : List Nat := (List.range rows).flatMap (fun j =>
    (List.range v.ow).flatMap (fun i =>
      leBytes nb (if Nat.blt j valid then val c (pxx i) (py j) else fillComp v.fmt v.fill c)))
  if v.fmt == 4 then plane 0 ++ plane 1 ++ plane 2
  else
    let sub := v.fmt == 0 || v.fmt == 1
    let crows := if sub then (rows + 1) / 2 else rows
    let q (i : Nat) : Int := (pxx (2 * i) + pxx (2 * i + 1)) / 2
    let chroma := (List.range crows).flatMap (fun j =>
      let yy := if sub then (py (2 * j) + py (2 * j + 1)) / 2 else py j
      let last := if sub then Nat.min (2 * j + 1) (rows - 1) else j
      (List.range (v.ow / 2)).flatMap (fun i =>
        [1, 2].flatMap (fun c => leBytes nb (if Nat.blt last valid then val c (q i) yy else fillComp v.fmt v.fill c))))
    plane 0 ++ chroma

/-- The payload of a raw-linear view from stage 7's plane (R215, R228). -/
def rawView (v : ViewCfg) (rows valid : Nat) (p : Plane) : List Nat :=
  (List.range rows).flatMap (fun j => (List.range v.ow).flatMap (fun i =>
    if Nat.blt j valid then rawSample v.fmt (pix p (v.x0 + i) (v.y0 + j))
    else if v.fmt == 8 then leBytes 2 (half ((v.fill % 2 ^ 20) * 16)) else leBytes 4 (v.fill % 2 ^ 20)))

/-! ## A frame through the chain -/

/-- Stage 5's output and the number of dynamic corrections (R205 to R212): planes of codes by exposure. -/
def TabSet.front (t : TabSet) (q : Params) (W H N : Nat) (trunc : Bool) (dpc : List (Nat × Nat)) (mesh : List Nat)
    (codes : List Plane) : Plane × Nat :=
  let lin := (List.zip (List.range codes.length) codes).map (fun e => siteMap (fun _ _ d => decompand (nth t.curves e.1 []) d) e.2)
  let blk := lin.map (t.stage2 q.temp trunc)
  let dp := blk.map (t.stage3 W N dpc)
  let ls := (dp.map (fun e => e.1)).map (t.stage4 W H q.lscW mesh)
  (t.stage5 q.exps ls, sumL (dp.map (fun e => e.2)))

/-- The three component planes that the windows read (R216 to R222). -/
def TabSet.back (t : TabSet) (q : Params) (W H N : Nat) (p7 : Plane) : List Plane :=
  let p9 := t.stage9 q.wb p7
  let img := (List.range N).map (fun y => (List.range W).map (fun x => t.render q W H N p9 x y))
  (List.range 3).map (fun c => img.map (fun r => r.map (fun v => nth v c 0)))

/-- The component planes of pass-through data (R222). -/
def passPlanes (dt W : Nat) (lines : Plane) : List Plane :=
  (List.range 3).map (fun c => lines.map (fun l => (List.range W).map (fun x => nth (passPixel dt l x) c 0)))

end Sys2Proof.Machine
end

