-- ==== Sys2Proof/Machine/Palette.lean ====
section
/-! DEFINITION. Machine/Palette.lean: palette cells, their owners, words, errors and the scrubber (R273 to R282), and the
palette view (R305). -/

namespace Sys2Proof.Machine

/-! ## Cells (R273 to R278) -/

/-- Cells of the palette. -/
def palCells : Nat := 49152

/-- Whether a bank group is powered (R273, R36), and not under BIST (R418). -/
def State.groupOn (s : State) (g : Nat) : Bool := s.domPower (84 + g)

/-- Live cells of a bank group. -/
def State.groupLive (s : State) (g : Nat) : Nat := (s.cells.filter (fun e => e.1 / 1024 == g)).length

/-- The n lowest-numbered cells from c on that are not listed as live. -/
def freeFrom : Nat → Nat → Nat → List Nat → List Nat
  | 0, _, _, _ => []
  | _, 0, _, _ => []
  | fuel + 1, n + 1, c, live =>
    match live with
    | [] => c :: freeFrom fuel n (c + 1) []
    | l :: ls =>
      if Nat.blt l c then freeFrom fuel (n + 1) c ls
      else if l == c then freeFrom fuel (n + 1) (c + 1) ls
      else c :: freeFrom fuel n (c + 1) (l :: ls)

/-- The free cells that an allocation of n cells takes: lowest group first among the powered groups, lowest cell first
(R276). Cells 0 to 2,559 belong to the fixed owners (R274). -/
def State.freeCells (s : State) (n : Nat) : List Nat :=
  let live := tkeys s.cells
  ((List.range 48).foldl (fun acc g =>
    if Nat.ble n acc.length || !s.groupOn g then acc
    else
      let lo := Nat.max 2560 (1024 * g)
      acc ++ ((freeFrom 4096 (n - acc.length) lo (live.filter (fun c => Nat.ble lo c && Nat.blt c (1024 * (g + 1))))).filter
        (fun c => Nat.blt c (1024 * (g + 1))))) [])

/-- The 32-bit link entry of a live cell (R275). -/
def Cell.link (x : Cell) : Nat := x.next % 2 ^ 16 + x.kind % 16 * 2 ^ 16 + x.st % 32 * 2 ^ 20

/-- Whether the layout of what an owner kind stores is given by the spec: tables and reloads alone (R274). -/
def kindKnown (kind : Nat) : Bool := kind == 5 || kind == 7

/-- Chain cells into a list in their order: each names the next, the last one the end (R275). -/
def chainCells (t : Tbl Cell) : List Nat → Tbl Cell
  | [] => t
  | c :: cs => chainCells (match tget? t c with
    | some x => tset t c { x with next := cs.headD 0xFFFF }
    | none => t) cs

/-- The cells of an owner, in ascending number. -/
def State.palOf (s : State) (kind st : Nat) : List Nat :=
  (s.cells.filter (fun e => e.2.kind == kind && e.2.st == st)).map (fun e => e.1)

/-- Cells become live for an owner, at the tail of its list; what was flipped in them no longer counts, since every owner writes
a word before it reads it (R276). A line store writes its cells as it takes them. -/
def State.palTake (kind st : Nat) (cs : List Nat) (s : State) : State :=
  let tail := (s.cells.find? (fun e => e.2.kind == kind && e.2.st == st && e.2.next == 0xFFFF)).map (fun e => e.1)
  let live := cs.foldl (fun t c => tset t c ⟨kind, st, 0xFFFF⟩) s.cells
  { s with
    cells := chainCells live (tail.toList ++ cs)
    palFlip := s.palFlip.filter (fun e => !cs.contains (e.1 / 512))
    palOpen := if kind == 3 then cs.foldl (fun t c => tset t c s.free) s.palOpen else s.palOpen }.draw

/-- Allocate cells to an owner; the answer is the cells taken, in order. -/
def State.palAlloc (kind st n : Nat) (s : State) : State × List Nat :=
  let cs := s.freeCells n
  (s.palTake kind st cs, cs)

/-- Allocate cells to an owner where so many are free, else none. -/
def State.palAllocAll (kind st n : Nat) (s : State) : State × List Nat :=
  if Nat.blt (s.freeCells n).length n then (s, []) else s.palAlloc kind st n

/-- The first cell of a list from c on that is not among some cells. -/
def skipCells (t : Tbl Cell) (gone : List Nat) : Nat → Nat → Nat
  | 0, _ => 0xFFFF
  | n + 1, c => if gone.contains c then skipCells t gone n ((tget? t c).elim 0xFFFF (fun x => x.next)) else c

/-- Free some cells: the lists that they leave close up (R275), and they keep their contents (R276). -/
def State.palFree (cs : List Nat) (s : State) : State :=
  let open_ := (s.cells.filter (fun e => cs.contains e.1 && !kindKnown e.2.kind && !(e.2.kind == 3))).map (fun e => e.1)
  { s with
    cells := (s.cells.filter (fun (e : Nat × Cell) => !cs.contains e.1)).map (fun (e : Nat × Cell) =>
      (e.1, { e.2 with next := skipCells s.cells cs (cs.length + 1) e.2.next }))
    palOpen := open_.foldl (fun t c => tset t c s.free) s.palOpen }.draw

/-- Free every cell of an owner (R274). -/
def State.palFreeOwner (kind st : Nat) (s : State) : State := s.palFree (s.palOf kind st)

/-- Follow the link entries of an owner's cells from a cell on. -/
def walkCells (t : Tbl Cell) (kind st : Nat) : Nat → Nat → List Nat
  | 0, _ => []
  | n + 1, c => match tget? t c with
    | some x => if x.kind == kind && x.st == st then c :: walkCells t kind st n x.next else []
    | none => []

/-- The list of an owner as its link entries give it (R275). -/
def State.palList (s : State) (kind st : Nat) : List Nat :=
  let own := s.cells.filter (fun e => e.2.kind == kind && e.2.st == st)
  match (own.filter (fun e => !own.any (fun x => x.2.next == e.1))).head? with
  | some h => walkCells s.cells kind st own.length h.1
  | none => []

/-- Cells of a fixed owner hold data in flight, or no more (R274). -/
def State.palFixed (kind : Nat) (cs : List Nat) (live : Bool) (s : State) : State :=
  if live then s.palTake kind 0 (cs.filter (fun c => !thas s.cells c)) else s.palFree cs

/-- G of R278. -/
def State.palG (s : State) : Nat := (s.get Fld.PLC_CELLS_reserved + 1023) / 1024

/-- A group powers up: every word becomes zero with valid check bits (R278). -/
def State.groupClear (g : Nat) (s : State) : State :=
  let inG (w : Nat) : Bool := w / 512 / 1024 == g
  { s with
    pal := s.pal.filter (fun e => !inG e.1), palFlip := s.palFlip.filter (fun e => !inG e.1)
    palOpen := s.palOpen.filter (fun e => !(e.1 / 1024 == g)) }

/-- Write bytes into cells in order, padded with zero to whole cells. -/
def State.palWrite (cs : List Nat) (bytes : List Nat) (s : State) : State :=
  let ws := padTo (512 * cs.length) (wordsOf bytes)
  let nums := cs.flatMap (fun c => (List.range 512).map (fun w => 512 * c + w))
  { s with
    pal := (List.zip nums ws).foldl (fun m e => cellPut 0#32 m e.1 (BitVec.ofNat 32 e.2)) s.pal
    palFlip := s.palFlip.filter (fun e => !nums.contains e.1)
    palOpen := s.palOpen.filter (fun e => !cs.contains e.1) }

/-! ## Words and their errors (R279 to R281) -/

/-- How many code bits of a word are flipped: 0 sound, 1 corrected at a read, 2 and more uncorrected. -/
def State.flips (s : State) (w : Nat) : Nat := popCount 39 (tget s.palFlip w 0)

/-- The data bits that a word holds. The layout of line stores, histories, statistics and buffers is not given by the
spec, so what their words hold is a free value; a freed cell keeps its contents (R276). -/
def State.palWord (s : State) (w : Nat) : Nat :=
  let busy := (tget? s.cells (w / 512)).any (fun c => !kindKnown c.kind && !(c.kind == 3))
  match (if busy then some s.free else tget? s.palOpen (w / 512)) with
  | some draw => (Config.palWord draw w).toNat
  | none => (cellGet 0#32 s.pal w).toNat

/-- A corrected error is counted and signalled (R279). -/
def State.palCorr (s : State) : State := ((s.bump Fld.PAL_ECC_corr).lifeCore 3 1).raise (evMem 0)

/-- An uncorrected error is counted, recorded and signalled (R280). -/
def State.palUncorr (w : Nat) (scrub : Bool) (s : State) : State :=
  let s1 := (s.bump Fld.PAL_ECC_uncorr).raise (evMem 1)
  if s1.flag Fld.PAL_ERR_valid then s1
  else
    let c := tget s1.cells (w / 512) ⟨0, 0, 0⟩
    (s1.setReg Reg.PAL_ERR (BitVec.ofNat 32 (2 ^ 31 + w / 512 * 512 + w % 512))).setReg Reg.PAL_ERR_OWN
      (BitVec.ofNat 32 (b2n scrub * 2 ^ 30 + c.kind * 2 ^ 16 + c.st))

/-- Read or scrub one word: a single-bit error is corrected and written back. -/
def State.palTouch (scrub : Bool) (w : Nat) (s : State) : State :=
  let n := s.flips w
  if n == 0 then s
  else if n == 1 then { s with palFlip := tdel s.palFlip w }.palCorr
  else s.palUncorr w scrub

/-- The value that a read of a word delivers: corrected, or its stored bits where the error is uncorrected. -/
def State.palValue (s : State) (w : Nat) : Nat :=
  if Nat.ble 2 (s.flips w) then s.palWord w ^^^ (tget s.palFlip w 0 % 2 ^ 32) else s.palWord w

/-- Bytes that cells hold, as reads of their words deliver them. -/
def State.palBytes (s : State) (cs : List Nat) (n : Nat) : List Nat :=
  (cs.flatMap (fun c => (List.range 512).flatMap (fun w => leBytes 4 (s.palValue (512 * c + w))))).take n

/-- Words of some cells that hold flipped bits. -/
def State.flipsIn (s : State) (cs : List Nat) : List Nat := (tkeys s.palFlip).filter (fun w => cs.contains (w / 512))

/-! ## Scrubbing (R282) -/

/-- One scrub drip: the next 8 live cells of powered groups. -/
def State.scrubDrip (s : State) : State :=
  if !(s.loaded && s.flag Fld.PAL_SCRUB_CTRL_enable) then s
  else
    let at_ := s.get Fld.PAL_SCRUB_STAT_cell
    let live := (tkeys s.cells).filter (fun c => s.groupOn (c / 1024))
    let up := live.filter (fun c => Nat.ble at_ c)
    let down := live.filter (fun c => Nat.blt c at_)
    let cs := (up ++ down).take 8
    let wraps := !cs.isEmpty && (Nat.blt up.length cs.length || (up.length == cs.length && down.isEmpty && Nat.ble live.length 8))
    let last := (cs.getLast?).getD at_
    let words := (tkeys s.palFlip).filter (fun w => cs.contains (w / 512))
    let s1 := forEach words (State.palTouch true) s
    let passed := wraps || (Nat.blt 0 cs.length && Nat.ble cs.length up.length && last == palCells - 1)
    let s2 := if passed then (s1.bump Fld.PAL_SCRUB_STAT_passes).raise (evMem 3) else s1
    if cs.isEmpty then s2 else s2.put Fld.PAL_SCRUB_STAT_cell (if last + 1 == palCells then 0 else last + 1)

/-! ## The palette view (R305) -/

/-- A read of the palette view: bytes from an offset. -/
def State.palView (r off n : Nat) (s : State) : State :=
  let word (o : Nat) : Nat := if o < 96 * 2 ^ 20 then s.palValue (o / 4) else 0
  let offs := (List.range ((n + 3) / 4)).map (fun i => off / 4 * 4 + 4 * i)
  let bytes := (offs.flatMap (fun o => leBytes 4 (word o))).drop (off % 4) |>.take n
  let s1 := forEach (offs.filter (fun o => o < 96 * 2 ^ 20)) (fun o s => s.palTouch false (o / 4)) s
  (s1.draw).emit (.palRead r off bytes)

end Sys2Proof.Machine
end

