-- ==== Sys2Proof/Machine/Tables.lean ====
section
/-! DEFINITION. Machine/Tables.lean: views and table records of a stream, their validity (R201, R202, R208, R210), the
records that a frame uses (R204, R231), sizes of outputs and tables (R176, R307). -/

namespace Sys2Proof.Machine

/-! ## Views (R165, R195) -/

/-- A word of a register list, 0 where not listed. -/
def regOf (l : List (Nat × Word)) (off : Nat) : Nat := (cellGet 0#32 l off).toNat

/-- Whether view v of stream st is enabled, in a register list. -/
def viewOn (l : List (Nat × Word)) (st v : Nat) : Bool := bit (regOf l (Reg.STRM_VIEW_CFG st v)) 31

/-- View v of stream st, in a register list. -/
def viewCfg (l : List (Nat × Word)) (st v : Nat) : ViewCfg :=
  let c := regOf l (Reg.STRM_VIEW_CFG st v)
  let o := regOf l (Reg.STRM_VIEW_CROP st v)
  let k := regOf l (Reg.STRM_VIEW_CSIZE st v)
  let z := regOf l (Reg.STRM_VIEW_OSIZE st v)
  { src := bits c 30 30, pad := bit c 29, fmt := bits c 27 24, fill := regOf l (Reg.STRM_VIEW_FILL st v)
    x0 := bits o 13 0, y0 := bits o 29 16, cw := bits k 13 0, ch := bits k 29 16, ow := bits z 13 0, oh := bits z 29 16 }

/-- Enabled views of a stream in a register list, lowest first. -/
def viewsOf (l : List (Nat × Word)) (st : Nat) : List Nat := (List.range 4).filter (viewOn l st)

/-- The registers of a stream and of its laws that a frame takes at its command deadline (R96, R245, R260). -/
def State.cfgRegs (s : State) (st : Nat) : List (Nat × Word) :=
  regsIn s.regs (Reg.STRM_CFG st) (Reg.STRM_CFG st + 0x2000) ++ regsIn s.regs (Reg.STAT_CFG st) (Reg.STAT_CFG st + 0x200)

/-- The configuration in force now (R2, R96). -/
def State.cfgNow (s : State) (st : Nat) : FrameCfg := ⟨s.get Fld.CEN_EPOCH_epoch, s.cfgRegs st⟩

/-! ## What a frame is bound to (R200, R204) -/

/-- A field of a register list. -/
def fldOf (l : List (Nat × Word)) (f : Fld) : Nat := fldGet f (cellGet 0#32 l f.off)

/-- Active width of a stream in a register list. -/
def widthOf (l : List (Nat × Word)) (st : Nat) : Nat := fldOf l (Fld.STRM_GEOM_width st)
/-- Active height of a stream in a register list. -/
def heightOf (l : List (Nat × Word)) (st : Nat) : Nat := fldOf l (Fld.STRM_GEOM_height st)
/-- Declared data type of a stream in a register list. -/
def dtOf (l : List (Nat × Word)) (st : Nat) : Nat := fldOf l (Fld.STRM_CFG_dt st)

/-- Width of a frame. -/
def Frame.W (f : Frame) : Nat := widthOf f.cfg.regs f.st
/-- Declared height of a frame. -/
def Frame.H (f : Frame) : Nat := heightOf f.cfg.regs f.st
/-- Data type of a frame. -/
def Frame.dt (f : Frame) : Nat := dtOf f.cfg.regs f.st
/-- Payload of the table record of a type that a frame uses. -/
def Frame.tab (f : Frame) (typ : Nat) : List Nat := tget f.tabs typ []
/-- Table set of a frame. -/
def Frame.tset (f : Frame) : TabSet := parseTabs (f.tab 7)
/-- CFA vertical period of a frame (R116, R199). -/
def Frame.cfaV (f : Frame) : Nat := cfaPer (nth (f.tab 7) 2 0)
/-- Profile of a frame. -/
def State.frameProf (s : State) (f : Frame) : Profile := s.profile (fldOf f.cfg.regs (Fld.STRM_CFG_profile f.st))

/-! ## Sizes of the outputs (R176, R227, R236, R327) -/

/-- Bytes of the statistics block. -/
def statBytes : Nat := 93184
/-- Bytes of the metadata block. -/
def metaBytes : Nat := 8192
/-- Bytes of the output trailer. -/
def trailerBytes : Nat := 32

/-- Output bytes per frame with every trailer (R176, R328). -/
def State.frameBytes (s : State) (st : Nat) : Nat :=
  sumL ((viewsOf s.regs st).map (fun v => let c := viewCfg s.regs st v; viewBytes c c.oh + trailerBytes)) +
    statBytes + trailerBytes + metaBytes + trailerBytes

/-- Output budget of a rate code and width in units of 10 MB/s (R307). -/
def hlBudget (rate width : Nat) : Nat :=
  let x8 := match rate with
    | 6 => 5200
    | 5 => 2600
    | 4 => 1300
    | 3 => 650
    | _ => 0
  if width == 8 || width == 4 || width == 2 || width == 1 then x8 * width / 8 else 0

/-- Budget of the declared link (R177, R307). -/
def State.declaredBudget (s : State) : Nat := hlBudget (s.get Fld.HL_CFG_max_rate) (s.get Fld.HL_CFG_max_width)

/-! ## Table records (R84, R204, R231) -/

/-- The payload of a table record as loaded. -/
def State.tabPayload (s : State) (typ st : Nat) : List Nat :=
  match s.img.find typ st with
  | some r => r.payload
  | none => []

/-- The payload of a table record that frame F of a stream uses: the old one before a reload's first frame. -/
def State.tabFor (s : State) (typ st F : Nat) : List Nat :=
  match s.trl.held with
  | some h => if h.typ == typ && h.st == st && !serGE F h.first then h.old else s.tabPayload typ st
  | none => s.tabPayload typ st

/-- Palette cells of a payload (R176). -/
def cellsFor (n : Nat) : Nat := (n + 2047) / 2048

/-- Table cells of a stream (R176). -/
def State.tableCells (s : State) (st : Nat) : Nat :=
  cellsFor (s.tabPayload 7 st).length + cellsFor (s.tabPayload 8 st).length + cellsFor (s.tabPayload 9 st).length

/-- Cells that a table reload holds beyond the loaded record (R231). -/
def State.reloadExtra (s : State) : Nat :=
  match s.trl.waiting, s.trl.held with
  | some w, _ => w.cells.length
  | none, some h => h.cells.length
  | none, none => 0

/-- Show the cells that placement and a table reload reserve (R196, R231). -/
def State.cellsShow (s : State) : State :=
  let cells := sumL (s.plc.result.map (fun e => e.2.cells)) + 2560 + s.reloadExtra
  (s.put Fld.PLC_CELLS_reserved cells).put Fld.PLC_CELLS_free (49152 - cells)

/-- The table records of a stream for frame F (R204). -/
def State.tabsFor (s : State) (st F : Nat) : Tbl (List Nat) := [7, 8, 9].map (fun typ => (typ, s.tabFor typ st F))

/-- The cells that hold the record of a type that frame F of a stream uses (R231). -/
def State.tabCellsFor (s : State) (typ st F : Nat) : List Nat :=
  match s.trl.held with
  | some h => if h.typ == typ && h.st == st && !serGE F h.first then h.cells else tget (s.strm st).tabCells typ []
  | none => tget (s.strm st).tabCells typ []

/-! ## Validity of the payloads (R201, R202, R208, R210) -/

/-- Whether bytes [o, o+n) are zero. -/
def zeros (b : List Nat) (o n : Nat) : Bool := (slice b o n).all (fun x => x == 0)

/-- Strictly ascending numbers. -/
def ascending : List Nat → Bool
  | a :: b :: rest => Nat.blt a b && ascending (b :: rest)
  | _ => true

/-- Numbers that do not descend. -/
def rising : List Nat → Bool
  | a :: b :: rest => Nat.ble a b && rising (b :: rest)
  | _ => true

/-- Strictly ascending signed numbers. -/
def ascendingI : List Int → Bool
  | a :: b :: rest => decide (a < b) && ascendingI (b :: rest)
  | _ => true

/-- Whether every phase of every window's filters sums to 256 (R202). -/
def tapsOk (b : List Nat) : Bool :=
  (List.range 4).all (fun w => (List.range 64).all (fun ph =>
    (List.range 8).foldl (fun a t => a + hTap b w ph t) 0 == (256 : Int) &&
    (List.range 3).foldl (fun a t => a + vTap b w ph t) 0 == (256 : Int)))

/-- Bytes of R201's layout that carry no named field. -/
def tabsUnnamed (b : List Nat) : Bool :=
  zeros b 0x0E 2 && zeros b 0x13 1 && zeros b 0x17 1 && zeros b 0x1B 1 && zeros b 0x1F 1 && zeros b 0x23 1 &&
  zeros b 0x25 3 && zeros b 0x2B 1 && zeros b 0x43 1 && zeros b 0x47 1 && zeros b 0x4B 1 && zeros b 0x4F 1 &&
  zeros b 0x53 1 && zeros b 0x57 1 && zeros b 0x59 7 && zeros b 0x95 3 && zeros b 0x9C 0x64 && zeros b 0x440 0xC0

/-- Whether an EASEL_TABLES payload keeps R201 and R202, for a stream of width W whose profile has X exposures and whose
data type has n bits. -/
def tabsOk (b : List Nat) (W X n : Nat) : Bool :=
  let t := parseTabs b
  b.length == 8960 && leAt b 0 2 == 1 && tapsOk b &&
  (if t.cfa == 0xFF then zeros b 3 (0xD00 - 3)
   else
    let p := cfaPer t.cfa
    Nat.ble t.cfa 3 && Nat.blt t.px p && Nat.blt t.py p && Nat.blt (nth b 3 0) 16 &&
    t.X == X && t.n == n && Nat.blt t.bypass 1024 && Nat.ble t.bmode 2 &&
    (if t.bmode == 1 then
      Nat.ble 1 t.obCount && Nat.ble t.obCount 4 && t.obX % 2 == 0 && Nat.ble 16 t.obW && Nat.ble (t.obX + t.obW) W &&
      (List.range (if t.cfa == 3 then 4 else 4)).all (fun c => (List.range t.obCount).any (fun y =>
        (List.range t.obW).any (fun i => t.chan (t.obX + i) y == c)))
     else t.obCount == 0) &&
    tabsUnnamed b && Nat.ble t.nrAlpha 256 && t.nrW.all (fun w => Nat.ble w 16) &&
    (List.range (X - 1)).all (fun k => Nat.blt (nth t.knee k 0) (nth t.sat k 0)) && Nat.ble t.mshift 8 &&
    (List.range 4).all (fun k => let c := nth b (0x90 + k) 0; if Nat.blt k X then Nat.ble 2 c && Nat.ble c 16 else c == 0) &&
    (let c := nth b 0x94 0; if t.bmode == 2 then Nat.ble 2 c && Nat.ble c 16 else c == 0) &&
    (List.range X).all (fun k =>
      let cv := nth t.curves k []
      let xs := cv.map (fun e => e.1)
      let ys := cv.map (fun e => e.2)
      xs.head? == some 0 && ascending xs && xs.getLast? == some (2 ^ n - 1) && rising ys && ys.all (fun y => Nat.blt y (2 ^ 24))) &&
    ascendingI (t.temps.map (fun e => e.1)) &&
    (List.range 16).all (fun j => zeros b (0x302 + 20 * j) 2 &&
      (nums b (0x304 + 20 * j) 4 4).all (fun v => Nat.blt v (2 ^ 24))) &&
    (List.range 64).all (fun k => nth b (0x107 + 8 * k) 0 == 0))

/-- Whether a DPC_MAP payload keeps R208. -/
def dpcOk (b : List Nat) (W H : Nat) : Bool :=
  let es := nums b 8 4 (leAt b 4 4)
  Nat.ble 8 b.length && leAt b 0 2 == 1 && zeros b 2 2 && Nat.ble (leAt b 4 4) 16382 && b.length == 8 + 4 * leAt b 4 4 &&
  ascending es && es.all (fun e => Nat.blt e (2 ^ 28) && Nat.blt (bits e 13 0) W && Nat.blt (bits e 27 14) H)

/-- Whether an LSC_MESH payload keeps R210. -/
def meshOk (b : List Nat) : Bool :=
  b.length == 50976 && leAt b 0 2 == 1 && nth b 2 0 == 65 && nth b 3 0 == 49 && zeros b 4 12

/-- Whether a table payload of a type keeps its format for a stream. -/
def State.payloadOk (s : State) (typ st : Nat) (b : List Nat) : Bool :=
  match typ with
  | 7 => tabsOk b (s.strmW st) (s.prof st).exps (dtBits (s.strmDt st))
  | 8 => meshOk b
  | 9 => dpcOk b (s.strmW st) (s.strmH st)
  | _ => false

/-- Rules between a stream's table records, its data type and its views, broken = reason 0x0F (R202, R207, R210, R215,
R222, R226). -/
def State.tabsFit (s : State) (st : Nat) : Bool :=
  let b := s.tabPayload 7 st
  let t := parseTabs b
  let dt := s.strmDt st
  let vs := (viewsOf s.regs st).map (viewCfg s.regs st)
  (passDt dt == (t.cfa == 0xFF)) &&
  (t.cfa == 0xFF || bit t.bypass 3 || (s.img.find 8 st).isSome) &&
  (!(t.bmode == 1) || vs.all (fun v => Nat.ble t.obCount v.y0)) &&
  vs.all (fun v =>
    if v.src == 1 then !passDt dt && (v.fmt == 8 || v.fmt == 9)
    else if dt == 0x24 then v.fmt == 4
    else if dt == 0x1E || dt == 0x1F then Nat.ble v.fmt 3
    else Nat.ble v.fmt 4)

end Sys2Proof.Machine
end

