-- ==== Sys2Proof/Machine/Census.lean ====
section
/-! DEFINITION. Machine/Census.lean: the configuration census and the configuration pair (R397 to R411). -/

namespace Sys2Proof.Machine

/-! ## Sets and members (R397 to R399) -/

/-- Every row of the register map. -/
def allRows : List RegRow :=
  rowsGLB ++ rowsPM ++ rowsCK ++ rowsBOOT ++ rowsEVT ++ rowsGRD ++ rowsCEN ++ rowsCHK ++ rowsLIFE ++ rowsTIME ++ rowsSYNC ++
  rowsSIG ++ rowsERK ++ rowsBIST ++ rowsFI ++ rowsPORT ++ rowsSC ++ rowsSTRM ++ rowsPLC ++ rowsEAS ++ rowsSTAT ++ rowsLDG ++
  rowsPAL ++ rowsQUE ++ rowsTXE ++ rowsOUT ++ rowsHL ++ rowsCSO

/-- The offsets of a row's instances from a base. -/
def idxOffs (base : Nat) : List (Nat × Nat × Nat) → List Nat
  | [] => [base]
  | (stride, first, n) :: rest => (List.range n).flatMap (fun i => idxOffs (base + stride * (first + i)) rest)

/-- The offsets of a row's instances. -/
def rowOffs (r : RegRow) : List Nat := idxOffs r.off r.idx

/-- The census set of an image register's offset (R398). -/
def setOf (off : Nat) : Nat :=
  if 0x100000 ≤ off && off < 0x118000 then 2 * ((off - 0x100000) / 0x1000) + 1
  else if 0x120000 ≤ off && off < 0x121800 then 2 * ((off - 0x120000) / 0x100) + 1
  else if 0x610000 ≤ off && off < 0x620000 then 132
  else if 0x620000 ≤ off && off < 0x621800 then 132 + (off - 0x620000) / 0x40 / 48
  else if 0x900000 ≤ off && off < 0xA00000 then 136
  else if 0xA00000 ≤ off && off < 0xA00400 then 138 + (off - 0xA00000) / 0x100
  else if 0x090000 ≤ off && off < 0x0A0000 then 143
  else if 0x700000 ≤ off && off < 0x710000 then 144
  else if 0x080000 ≤ off && off < 0x090000 then 146
  else if 0x070000 ≤ off && off < 0x080000 then 147
  else if 0x0A0000 ≤ off && off < 0x0B0000 then 149
  else if 0x050000 ≤ off && off < 0x060000 then 151
  else 152

/-- Every image register: offset and image mask, in ascending offset. -/
def imgRegs : List (Nat × Nat) :=
  (allRows.filter (fun r => !(r.img == 0))).flatMap (fun r => (rowOffs r).map (fun o => (o, r.img)))
    |>.mergeSort (fun a b => Nat.ble a.1 b.1)

/-- The members of a domain set or of set 152. -/
def setMembers (m : Nat) : List (Nat × Nat) := imgRegs.filter (fun e => setOf e.1 == m)

/-- The live word of an image register: of the guard table, the live copy (R448). -/
def State.liveWord (s : State) (off : Nat) : Nat :=
  if grdLo ≤ off && off < grdHi then s.live off else (s.reg off).toNat

/-- The serialisation of one register member. -/
def memberBytes (w : Nat) (e : Nat × Nat) : List Nat := leBytes 4 e.1 ++ leBytes 4 (w &&& e.2)

/-- The table payloads: stream and record type, in census order. -/
def State.tabMembers (s : State) : List (Nat × Nat) :=
  (List.range 32).flatMap (fun st => [7, 8, 9].filterMap (fun typ => if (s.img.find typ st).isSome then some (st, typ) else none))

/-- The serialisation of one table member with its payload. -/
def tabBytes (st typ : Nat) (payload : List Nat) : List Nat :=
  [st, typ, 0, 0] ++ leBytes 4 payload.length ++ leBytes 4 (crc32c payload)

/-- The WRITE operation that last sets a register in an initialisation sequence. -/
def lastWrite (ops : List (List Nat)) (addr : Nat) : Option (List Nat) :=
  (ops.filter (fun o => nth o 0 0 == 1 && leAt o 2 2 == addr)).getLast?

/-- Expected value of a census register of a profile: value, and whether its bytes move lowest first (R400). -/
def State.cenExpect (s : State) (prof addr width : Nat) : Nat × Bool :=
  match lastWrite (s.initOps prof) addr with
  | some o => (leAt o 4 4 % 2 ^ (8 * width), bit (nth o 1 0) 7)
  | none => (0, false)

/-- The serialisation of a sensor's census list. -/
def State.sensorSer (s : State) (prof : Nat) : List Nat :=
  (s.profile prof).census.flatMap (fun c => leBytes 2 c.1 ++ [c.2, 0] ++ leBytes 4 (s.cenExpect prof c.1 c.2).1)

/-- A field as the shadow copy has it. -/
def State.shadGet (s : State) (f : Fld) : Nat := fldOf s.shadow f

/-- The profile of target k of channel p, by the shadow copy: a write outside a commit changes no golden value (R407). -/
def State.cenProf (s : State) (p k : Nat) : Nat :=
  if s.shadGet (Fld.SC_TGT_aux p k) == 1 then s.shadGet (Fld.SC_TGT_profile p k)
  else s.shadGet (Fld.STRM_CFG_profile (s.shadGet (Fld.SC_TGT_stream p k)))

/-- Set number of target k of channel p (R397). -/
def sensorSet (p k : Nat) : Nat := 160 + 4 * p + k

/-- The serialisation that a set's golden value is made of: from the shadow copy, the loaded tables, the profiles. -/
def State.setSer (s : State) (m : Nat) : List Nat :=
  if m ≤ 152 then (setMembers m).flatMap (fun e => memberBytes (s.shad e.1).toNat e)
  else if m == 153 then s.tabMembers.flatMap (fun e => tabBytes e.1 e.2 (s.tabPayload e.2 e.1))
  else if 160 ≤ m && m < 256 then
    let p := (m - 160) / 4
    let k := m % 4
    if s.shadGet (Fld.SC_TGT_enable p k) == 1 then s.sensorSer (s.cenProf p k) else []
  else []

/-- The configuration digest (R401). -/
def State.cenDigest (s : State) : List Nat :=
  (sha384 ((List.range 256).flatMap (fun m =>
    let b := s.setSer m
    if b.isEmpty then [] else leBytes 2 m ++ leBytes 4 b.length ++ b))).take 16

/-- Write every golden value; a set that gains its first check state is good, an empty one empty (R401). -/
def State.cenGolden (s : State) : State :=
  forEach (List.range 256) (fun m s =>
    let b := s.setSer m
    let s1 := s.setReg (Reg.CEN_SET_GOLD m) (BitVec.ofNat 32 (if b.isEmpty then 0 else crc32c b))
    s1.put (Fld.CEN_SET_STAT_state m) (if b.isEmpty then 0 else Nat.max 1 (s.get (Fld.CEN_SET_STAT_state m)))) s

/-- The sets that a commit of a register touches (R397): its own, and those of the sensors whose targets it describes. -/
def setsTouched (off : Nat) : List Nat :=
  if 0x120000 ≤ off && off < 0x121800 then
    setOf off :: (List.range 4).map (fun k => sensorSet ((off - 0x120000) / 0x100) k)
  else [setOf off]

/-- A set that repair has stopped for is repaired again from now on; its mismatch stands (R405). -/
def State.cenRelease (m : Nat) (s : State) : State :=
  let s1 := { s with cen := { s.cen with stop := s.cen.stop.filter (fun x => !(x == m)) } }
  if s.get (Fld.CEN_SET_STAT_state m) == 3 then s1.put (Fld.CEN_SET_STAT_state m) 2 else s1

/-- A commit, reload or guard boundary: the epoch increments, golden values follow, the pair is recomputed, and repair of the
sets that it touches may go on (R96, R404, R405, R408). -/
def State.epochStep (touched : List Nat) (s : State) : State :=
  let s1 := (s.wrapInc Fld.CEN_EPOCH_epoch).put Fld.CEN_STAT_pending 1
  let s2 := forEach touched State.cenRelease s1.cenGolden
  { s2 with cen := { s2.cen with
      cur := s2.cen.cur.map (fun c => (c.1, 0, 0))
      re := s2.cen.re.map (fun c => (c.1, 0, 0))
      begun := (s2.cen.cur.map (fun c => tset s2.cen.begun c.1 s2.tm.loc)).getD s2.cen.begun } }

/-- DIGEST_PUBLISH (R408). -/
def State.cenPublish (s : State) : State :=
  if !(s.loaded && s.flag Fld.CEN_STAT_pending) then s
  else
    let s1 := { s with cen := { s.cen with pub := (s.get Fld.CEN_EPOCH_epoch, s.cenDigest) } }
    ((s1.setReg Reg.CEN_PUB (BitVec.ofNat 32 s1.cen.pub.1)).put Fld.CEN_STAT_pending 0).raise (evSafe 6)

/-- A read of CEN_PUB by guard domain d (R409). -/
def State.cenPubRead (d : Nat) (s : State) : Nat × State :=
  (s.cen.pub.1, { s with cen := { s.cen with snaps := tset s.cen.snaps d s.cen.pub.2 } })

/-- CEN_n_DIGEST as guard domain d reads it. -/
def State.cenDigestWord (s : State) (d n : Nat) : Nat := leAt (tget s.cen.snaps d []) (4 * n) 4

/-! ## Checks (R402 to R407) -/

/-- The cells of a table. -/
def State.tabAt (s : State) (st typ : Nat) : List Nat := tget (s.strm st).tabCells typ []

/-- The payload of a table as a read of its cells delivers it, as R305 reads them (R402); of a stream that has not taken its cells, the
loaded one. -/
def State.tabRead (s : State) (st typ : Nat) : List Nat :=
  let b := s.tabPayload typ st
  if (s.tabAt st typ).isEmpty then b else s.palBytes (s.tabAt st typ) b.length

/-- Whether the words of a stream's table cells are as written. -/
def State.tabCellsOk (s : State) (st : Nat) : Bool := [7, 8, 9].all (fun typ => s.tabRead st typ == s.tabPayload typ st)

/-- Whether an easel has worked on a stream since the start of a set's last passing check (R406). -/
def State.cenWorked (s : State) (m e st : Nat) : Bool :=
  (tget? s.cen.work (32 * e + st)).any (fun t => Nat.ble (tget s.cen.since m 0) t)

/-- Whether a mismatch of a set affects the frames of a stream, on an easel or worked on one since the set's last passing check; `sts` = the
streams that set 153 names (R406). -/
def State.cenHits (s : State) (m : Nat) (sts : List Nat) (st e : Nat) : Bool :=
  if m < 48 then s.get (Fld.STRM_CFG_port st) == m / 2
  else if m < 72 then e == (m - 48) / 2 || s.cenWorked m ((m - 48) / 2) st
  else if m < 84 then e == m - 72 || s.cenWorked m (m - 72) st
  else if m == 153 then sts.contains st
  else if m < 160 then true
  else
    let p := (m - 160) / 4
    s.get (Fld.STRM_CFG_port st) == p && (s.flag (Fld.SC_TGT_aux p (m % 4)) || s.get (Fld.SC_TGT_stream p (m % 4)) == st)

/-- Whether a frame that opens now counts as having an uncorrected error: a set that affects it has mismatched and has not passed a
check since (R406). -/
def State.cenBad (s : State) (st e : Nat) : Bool := s.cen.bad.any (fun b => s.cenHits b.1 b.2 st e)

/-- A mismatch is an uncorrected error, while its statistics block has not closed, of every frame that has opened since the start of the set's last passing check, and of
those that open before the end of the next one (R191, R406). -/
def State.cenMark (m : Nat) (s : State) : State :=
  let sts := if m == 153 then (List.range 32).filter (fun st => !s.tabCellsOk st) else []
  { s with
    cen := { s.cen with bad := tset s.cen.bad m sts }
    frames := s.frames.map (fun f =>
      if f.stats.isNone && Nat.ble (tget s.cen.since m 0) f.at_ && s.cenHits m sts f.st f.easel then { f with withdrawn := true } else f) }

/-- An easel works on a stream: where a set of that easel's domains stands mismatched, the stream's frames since the set's last passing check
count as having an uncorrected error (R406). -/
def State.cenWork (st e : Nat) (s : State) : State :=
  if Nat.ble 12 e then s
  else
    let sets := [48 + 2 * e, 49 + 2 * e, 72 + e].filter (fun m => thas s.cen.bad m)
    { s with
      cen := { s.cen with work := tset s.cen.work (32 * e + st) s.tm.loc }
      frames := s.frames.map (fun f =>
        if f.st == st && f.stats.isNone && sets.any (fun m => Nat.ble (tget s.cen.since m 0) f.at_) then { f with withdrawn := true } else f) }

/-- A check of a set begins. -/
def State.cenBegin (m : Nat) (s : State) : State := { s with cen := { s.cen with begun := tset s.cen.begun m s.tm.loc } }

/-- A check of a set that began at a local time has passed (R406). -/
def State.cenPassed (m at_ : Nat) (s : State) : State :=
  { s with cen := { s.cen with since := tset s.cen.since m at_, bad := tdel s.cen.bad m } }

/-- A set mismatched (R405): event, counts, the first mismatch, with the first differing offset where known. -/
def State.cenMismatch (m : Nat) (where_ : Option Nat) (s0 : State) : State :=
  let s := s0.cenMark m
  let s1 := ((s.put (Fld.CEN_SET_STAT_state m) 2).bump (Fld.CEN_SET_STAT_mismatches m)).raise (evSafe 0)
  let s2 := s1.bump Fld.CEN_MIS_count
  if s2.flag Fld.CEN_MIS_valid then s2
  else
    let s3 := ((s2.put Fld.CEN_MIS_valid 1).put Fld.CEN_MIS_set m).put Fld.CEN_MIS_repaired 0
    match where_ with
    | some o => s3.setReg Reg.CEN_MIS_REG (BitVec.ofNat 32 o)
    | none => s3

/-- Whether repair of a set may run: its class is enabled, it has not been stopped, and no repair of it was made within
the last second (R405). -/
def State.mayRepair (s : State) (m : Nat) : Bool :=
  let on := if m == 153 then s.flag Fld.CEN_CTRL_repair_tab else if m < 153 then s.flag Fld.CEN_CTRL_repair_dom else s.flag Fld.CEN_CTRL_repair_sens
  on && !s.cen.stop.contains m

/-- A set mismatched again within 1 s of a repair. -/
def State.freshRepair (s : State) (m : Nat) : Bool :=
  match tget? s.cen.fixed m with
  | some t => Nat.blt (s.tm.loc - t) 1000000000
  | none => false

/-- A repair failed: it stops until a boundary or a full reset (R405). -/
def State.repairFail (m : Nat) (s : State) : State :=
  ({ s with cen := { s.cen with stop := if s.cen.stop.contains m then s.cen.stop else s.cen.stop ++ [m] } }.put
    (Fld.CEN_SET_STAT_state m) 3).raise (evSafe 2)

/-- A repaired set passed its re-check (R405). -/
def State.repairOk (m : Nat) (s : State) : State :=
  let s1 := ({ s with cen := { s.cen with fixed := tset s.cen.fixed m s.tm.loc } }.put (Fld.CEN_SET_STAT_state m) 1).raise (evSafe 1)
  (if s1.get Fld.CEN_MIS_set == m && s1.flag Fld.CEN_MIS_valid then s1.put Fld.CEN_MIS_repaired 1 else s1).cenPassed m (tget s.cen.begun m 0)

/-- A set that has been repaired is to be checked again. -/
def State.cenAgain (m : Nat) (s : State) : State := { s with cen := { s.cen with re := s.cen.re ++ [(m, 0, 0)] } }

/-- The repair drip of a set of registers: what differs from the shadow copy is rewritten, the first differing offset recorded where the
mismatch is the one that CEN_MIS records, and the set is to be checked again (R405). -/
def State.repairDom (m : Nat) (first : Bool) (s : State) : State :=
  let bad := (setMembers m).filter (fun e => !(s.liveWord e.1 &&& e.2 == (s.shad e.1).toNat &&& e.2))
  let s1 := forEach bad (fun e s =>
    let w := (s.liveWord e.1 &&& (0xFFFFFFFF - e.2)) ||| ((s.shad e.1).toNat &&& e.2)
    if grdLo ≤ e.1 && e.1 < grdHi then { s with grdLive := cellPut 0#32 s.grdLive e.1 (BitVec.ofNat 32 w) }
    else s.setReg e.1 (BitVec.ofNat 32 w)) s
  let s2 := match bad with
    | e :: _ => if first then s1.setReg Reg.CEN_MIS_REG (BitVec.ofNat 32 e.1) else s1
    | [] => s1
  s2.cenAgain m

/-- The control island rewrites a stream's table cells from its copy, those of a replaced record too (R233, R405). -/
def State.tabRewrite (st : Nat) (s : State) : State :=
  let s1 := forEach [7, 8, 9] (fun typ s => s.palWrite (tget (s.strm st).tabCells typ []) (s.tabPayload typ st)) s
  match s.trl.held with
  | some h => if h.st == st then s1.palWrite h.cells h.old else s1
  | none => s1

/-- Repair the table set: it is to be checked again. -/
def State.repairTab (s : State) : State :=
  (forEach ((List.range 32).filter (fun st => !s.tabCellsOk st)) State.tabRewrite s).cenAgain 153

/-- The end of a set's check, which began at a local time, with its verdict: a set of registers is repaired at the next drip boundary, in a
drip of its own (R405). -/
def State.cenVerdict (m : Nat) (ok : Bool) (at_ : Nat) (s : State) : State :=
  if ok then (if s.get (Fld.CEN_SET_STAT_state m) == 3 then s else s.put (Fld.CEN_SET_STAT_state m) 1).cenPassed m at_
  else
    let s1 := s.cenMismatch m none
    if !s1.mayRepair m then (if s1.cen.stop.contains m then s1.put (Fld.CEN_SET_STAT_state m) 3 else s1)
    else if s1.freshRepair m then s1.repairFail m
    else if m == 153 then s1.repairTab
    else if s1.cen.fix.any (fun x => x.1 == m) then s1
    else { s1 with cen := { s1.cen with fix := s1.cen.fix ++ [(m, !s.flag Fld.CEN_MIS_valid)] } }

/-- Check one domain set whole, as step 3 of R41 and R418 do. -/
def State.cenCheckSet (m : Nat) (s : State) : State :=
  let ms := setMembers m
  if ms.isEmpty || !s.loaded then s
  else s.cenVerdict m (crc32c (ms.flatMap (fun e => memberBytes (s.liveWord e.1) e)) == s.get (Fld.CEN_SET_GOLD_golden m)) s.tm.loc

/-- Whether a set is skipped in a pass: its domain is off, waking, draining or under BIST (R402). -/
def State.cenSkip (s : State) (m : Nat) : Bool := m < 152 && !s.domOn m

/-- The next set after m that a pass checks, marking the skipped ones. -/
def State.cenNext : Nat → Nat → State → Option Nat × State
  | 0, _, s => (none, s)
  | n + 1, m, s =>
    if 153 < m then (none, s)
    else if (s.setSer m).isEmpty then State.cenNext n (m + 1) s
    else if s.cenSkip m then State.cenNext n (m + 1) (s.put (Fld.CEN_SET_STAT_skipped m) 1)
    else (some m, s.put (Fld.CEN_SET_STAT_skipped m) 0)

/-- Go to a set, or end the pass. -/
def State.cenGo (m : Nat) (s : State) : State :=
  match State.cenNext 160 m s with
  | (some k, s1) => ({ s1 with cen := { s1.cen with cur := some (k, 0, 0) } }.cenBegin k).put Fld.CEN_STAT_set_now k
  | (none, s1) => ({ s1 with cen := { s1.cen with cur := none } }.bump Fld.CEN_STAT_passes).raise (evSafe 3)

/-- CENSUS_PASS: the known-answer test of the check units, then the first set (R402, R414). -/
def State.cenPass (katOk : Bool) (s : State) : State :=
  if !s.loaded then s
  else
    let s1 := if katOk then s else (s.put Fld.BIST_STAT_domain 151).raise (evSafe 42)
    if s1.cen.cur.isSome then s1 else s1.cenGo 0

/-- How many members a set has in the census. -/
def State.cenCount (s : State) (m : Nat) : Nat := if m == 153 then s.tabMembers.length else (setMembers m).length

/-- Up to 256 members of a set, from the i-th on, as a drip serialises them (R399, R402). -/
def State.cenBytes (s : State) (m i : Nat) : List Nat :=
  if m == 153 then ((s.tabMembers.drop i).take 256).flatMap (fun e => tabBytes e.1 e.2 (s.tabRead e.1 e.2))
  else ((setMembers m).drop i |>.take 256).flatMap (fun e => memberBytes (s.liveWord e.1) e)

/-- What reading them does: the words of table cells are read as R305 reads them. -/
def State.cenTouch (m i : Nat) (s : State) : State :=
  if m == 153 then
    forEach (s.flipsIn (((s.tabMembers.drop i).take 256).flatMap (fun e => s.tabAt e.1 e.2))) (State.palTouch false) s
  else s

/-- A drip of the check after a repair: a set that passes is repaired, one that fails is repaired no more (R405). -/
def State.cenRe (m i run : Nat) (rest : List (Nat × Nat × Nat)) (s : State) : State :=
  if s.cenSkip m then { s with cen := { s.cen with re := rest } }
  else
    let run' := crc32cFrom run (s.cenBytes m i)
    let s1 := (if i == 0 then s.cenBegin m else s).cenTouch m i
    if Nat.ble (s.cenCount m) (i + 256) then
      let s2 := { s1 with cen := { s1.cen with re := rest } }
      if run' == s2.get (Fld.CEN_SET_GOLD_golden m) then s2.repairOk m else s2.repairFail m
    else { s1 with cen := { s1.cen with re := (m, i + 256, run') :: rest } }

/-- A drip of the pass: up to 256 members of the set in check (R402). -/
def State.cenOn (s : State) : State :=
  match s.cen.cur with
  | none => s
  | some (m, i, run) =>
    if s.cenSkip m then s.cenGo (m + 1)
    else
      let run' := crc32cFrom run (s.cenBytes m i)
      let s1 := s.cenTouch m i
      if Nat.ble (s.cenCount m) (i + 256) then
        (s1.cenVerdict m (run' == s.get (Fld.CEN_SET_GOLD_golden m)) (tget s.cen.begun m 0)).cenGo (m + 1)
      else { s1 with cen := { s1.cen with cur := some (m, i + 256, run') } }

/-- CENSUS_DRIP (R402, R405): a set repaired is checked again first, then a set that waits for its repair is repaired, and else the pass goes
on. DESIGN CHOICE (log 179): the order. -/
def State.cenDrip (s : State) : State :=
  if !s.loaded then s
  else match s.cen.re, s.cen.fix with
    | (m, i, run) :: rest, _ => s.cenRe m i run rest
    | [], (m, first) :: rest =>
      let s1 := { s with cen := { s.cen with fix := rest } }
      if s1.cenSkip m then s1 else s1.repairDom m first
    | [], [] => s.cenOn

/-! ## Sensor sets (R400, R403, R405) -/

/-- The values of a read-back in census order: register, width, expected value, value read. -/
def State.readValues (s : State) (prof : Nat) : List (Nat × Nat) → List Nat → List (Nat × Nat × Nat × Nat)
  | [], _ => []
  | c :: cs, bytes =>
    let x := s.cenExpect prof c.1 c.2
    let b := bytes.take c.2
    (c.1, c.2, x.1, if x.2 then leVal b else beVal b) :: s.readValues prof cs (bytes.drop c.2)

/-- A read-back of target k of channel p has ended: whether the set is as expected, the registers that differ, and the
mismatch's consequences up to the repair itself. -/
def State.sensorCheck (s : State) (p k prof : Nat) (bytes : List Nat) (recheck : Bool) : Bool × List (Nat × List Nat) × State :=
  let m := sensorSet p k
  let vs := s.readValues prof (s.profile prof).census bytes
  let bad := vs.filter (fun v => !(v.2.2.1 == v.2.2.2))
  if bad.isEmpty then
    (true, [], if recheck then s.repairOk m
      else (if s.get (Fld.CEN_SET_STAT_state m) == 3 then s else s.put (Fld.CEN_SET_STAT_state m) 1).cenPassed m (tget s.cen.begun m 0))
  else if recheck then (false, [], s.repairFail m)
  else
    let s1 := s.cenMismatch m (bad.head?.map (fun v => v.1))
    let wr := bad.map (fun v => (v.1, if (s.cenExpect prof v.1 v.2.1).2 then leBytes v.2.1 v.2.2.1 else beBytes v.2.1 v.2.2.1))
    if !s1.mayRepair m then (false, [], s1)
    else if s1.freshRepair m then (false, [], s1.repairFail m)
    else (false, wr, s1)

/-! ## The peer's pair (R411) -/

/-- A census frame's pair is compared with the expected one. -/
def State.cenPeer (epoch : Nat) (digest : List Nat) (s : State) : State :=
  if !s.flag Fld.CEN_CTRL_peer_check then s
  else
    let want := (List.range 4).flatMap (fun n => leBytes 4 (s.reg (Reg.CEN_PEER_EXP n)).toNat)
    if epoch == (s.reg Reg.CEN_PEER_EXP_EPOCH).toNat && digest == want then s.put Fld.CEN_STAT_peer_diff 0
    else (s.put Fld.CEN_STAT_peer_diff 1).raise (evSafe 5)

end Sys2Proof.Machine
end

