-- ==== Sys2Proof/Machine/Inject.lean ====
section
/-! DEFINITION. Machine/Inject.lean: the fault-injection unit (R421 to R423). -/

namespace Sys2Proof.Machine

/-- One advance of an injector's generator (R423). -/
def fiNext (x : Nat) : Nat :=
  let a := x ^^^ ((x <<< 13) % 2 ^ 32)
  let b := a ^^^ (a >>> 17)
  b ^^^ ((b <<< 5) % 2 ^ 32)

/-- Whether the unit acts (R421). -/
def State.fiOn (s : State) : Bool := s.flag Fld.FI_CTRL_lab && s.flag Fld.FI_CTRL_enable

/-- The state with which injector k starts (R423). -/
def State.fiSeed (s : State) (k : Nat) : Nat :=
  let v := s.get Fld.FI_SEED_seed ^^^ ((k + 1) * 0x9E3779B9 % 2 ^ 32)
  if v == 0 then 1 else v

/-- Seed injector k. -/
def State.fiArm (k : Nat) (s : State) : State := s.put (Fld.FI_STATE_x k) (s.fiSeed k)

/-- FI_CTRL.enable takes a value: a rise arms the unit (R421, R423); without the laboratory flag it is ignored. -/
def State.fiEnable (v : Bool) (s : State) : State :=
  if !s.flag Fld.FI_CTRL_lab then s
  else
    let was := s.flag Fld.FI_CTRL_enable
    let s1 := s.put Fld.FI_CTRL_enable (b2n v)
    if v && !was then (forEach (List.range 8) State.fiArm s1).raise (evSafe 45) else s1

/-- What injectors do to one item: dropped, held by injector k for n items, flipped positions as drawn, milliseconds for
which the link is forced down, a corrupted payload CRC, a withheld ownership write. -/
structure FiEffect where
  drop : Bool
  hold : Option (Nat × Nat)
  flips : List Nat
  down : Option Nat
  crc : Bool
  withhold : Bool

/-- Nothing is injected. -/
def FiEffect.none_ : FiEffect := ⟨false, none, [], none, false, false⟩

/-- An item passes injector k: items that it holds come one item closer to their release. -/
def State.fiPass (k : Nat) (s : State) : State :=
  { s with reord := s.reord.map (fun r => if r.k == k then { r with left := r.left - 1 } else r) }

/-- An item of a class and index reaches injector k (R423). A dropped or held item reaches no later injector. -/
def State.fiStep (cls idx k : Nat) (a : FiEffect × State) : FiEffect × State :=
  let e := a.1
  let s := a.2
  if e.drop || e.hold.isSome then a
  else if !(s.flag (Fld.FI_CFG_arm k) && s.get (Fld.FI_CFG_class k) == cls && s.get (Fld.FI_CFG_index k) == idx) then a
  else
    let x := fiNext (s.get (Fld.FI_STATE_x k))
    let s1 := (s.put (Fld.FI_STATE_x k) x).fiPass k
    let lim := s.get (Fld.FI_PARAM_limit k)
    if Nat.blt (x >>> 16) (s.get (Fld.FI_CFG_rate k)) && (lim == 0 || Nat.blt (s.get (Fld.FI_STAT_count k)) lim) then
      let s2 := s1.bump (Fld.FI_STAT_count k)
      match s.get (Fld.FI_CFG_action k) with
      | 1 => ({ e with drop := true }, s2)
      | 2 => ({ e with flips := e.flips ++ [x % 2 ^ 16] }, s2)
      | 3 => ({ e with hold := some (k, x % 7 + 1) }, s2)
      | 4 => ({ e with down := some (s.get (Fld.FI_PARAM_down_ms k)) }, s2)
      | 5 => ({ e with crc := true }, s2)
      | 6 => ({ e with withhold := true }, s2)
      | _ => (e, s2)
    else (e, s1)

/-- An item of a class and index meets the unit. -/
def State.inject (cls idx : Nat) (s : State) : FiEffect × State :=
  if s.fiOn then (List.range 8).foldl (fun a k => State.fiStep cls idx k a) (FiEffect.none_, s) else (FiEffect.none_, s)

/-- Items whose hold has ended leave the unit, oldest first. -/
def State.fiDue (s : State) : List (Packet ⊕ Out) × State :=
  ((s.reord.filter (fun r => r.left == 0)).map (fun r => r.item),
   { s with reord := s.reord.filter (fun r => !(r.left == 0)) })

/-! ## Transmitted items (classes 2 and 3) -/

/-- Flip bit n of a byte list. -/
def flipBit (bs : List Nat) (n : Nat) : List Nat := bs.modify (n / 8) (fun b => b ^^^ (1 <<< (n % 8)))

/-- Bits of a CSI-2 transmit packet: header, and for a long packet its payload and checksum. -/
def csoBits (dt : Nat) (bytes : List Nat) : Nat := if dt < 0x10 then 32 else 32 + 8 * bytes.length + 16

/-- A transmitted item with the flips of an injector. -/
def flipOut (o : Out) (flips : List Nat) : Out :=
  match o with
  | .cso n vc dt bytes _ how => .cso n vc dt bytes (flips.map (fun f => f % csoBits dt bytes)) how
  | .erk frame => .erk (flips.foldl (fun f n => if f.isEmpty then f else flipBit f (n % (8 * f.length))) frame)
  | o => o

/-- Released items that go out. -/
def State.fiEmit (items : List (Packet ⊕ Out)) (s : State) : State :=
  forEach items (fun i s => match i with
    | .inr o => s.emit o
    | .inl _ => s) s

/-- Send an item through the unit: class 2 with a transmit port, class 3 with index 0. -/
def State.emitFi (cls idx : Nat) (o : Out) (s : State) : State :=
  let (e, s1) := s.inject cls idx
  let o' := flipOut o e.flips
  let s2 := if e.drop then s1 else match e.hold with
    | some (k, n) => { s1 with reord := s1.reord ++ [⟨k, n, .inr o'⟩] }
    | none => s1.emit o'
  let (due, s3) := s2.fiDue
  s3.fiEmit due

/-- The ns that a number of bits take on the lines of transmit port n at its raw rate (R335), rounded up. What the lines need beside
the packets' bits is left out as timing (DESIGN CHOICE, log 151). -/
def State.csoNs (s : State) (n b : Nat) : Nat :=
  let rate := s.get (Fld.CSO_CFG_rate n)
  let l := s.get (Fld.CSO_CFG_lanes n)
  let d := if s.get (Fld.CSO_CFG_phy_mode n) == 2 then 16 * (l + 1) * rate else 7 * (2 ^ l * rate)
  if d == 0 then 0 else (70 * b + d - 1) / d

/-- The lines of a transmit port. -/
def State.csoLine (s : State) (n : Nat) : CsoLine := tget s.csoTx n CsoLine.init

/-- Whether a number of bits from the start of what is on a port's lines have gone. -/
def State.csoGone (s : State) (n b : Nat) : Bool := Nat.ble ((s.csoLine n).start + s.csoNs n b) s.tm.loc

/-- Whether a frame is being sent on transmit port n (R340). -/
def State.csoBusy (s : State) (n : Nat) : Bool := !(s.csoLine n).ends.all (fun b => s.csoGone n b)

/-- Frames whose end has gone out and that the stored count does not hold yet (R336). -/
def State.csoEnded (s : State) (n : Nat) : Nat := ((s.csoLine n).ends.filter (fun b => s.csoGone n b)).length

/-- Count the frames whose end has gone out. -/
def State.csoFold (n : Nat) (s : State) : State :=
  let x := s.csoLine n
  { s.bumpBy (Fld.CSO_STAT_frames n) (s.csoEnded n) with
    csoTx := tset s.csoTx n { x with ends := x.ends.filter (fun b => !s.csoGone n b) } }

/-- A packet of a transmit port goes out: it takes the lines after what is on them; with its end a frame has been sent (R336). -/
def State.csoOut (n : Nat) (o : Out) (s : State) : State :=
  match o with
  | .cso _ _ dt bytes _ _ =>
    let s1 := (s.emitFi 2 n o).csoFold n
    let x := s1.csoLine n
    let b := csoBits dt bytes
    let x1 : CsoLine := if s1.csoGone n x.bits then ⟨s1.tm.loc, b, []⟩ else { x with bits := x.bits + b }
    { s1 with csoTx := tset s1.csoTx n (if dt == 1 then { x1 with ends := x1.ends ++ [x1.bits] } else x1) }
  | _ => s.emitFi 2 n o

/-! ## Packets at a sensor port (class 1) -/

/-- Bits of a received packet, the header of 32 bits first, then the payload and its checksum of 16 bits. -/
def Packet.bits (p : Packet) : Nat :=
  match p.body with
  | .start _ | .stop => 32
  | .other _ len => 48 + 8 * len
  | .line dt _ codes _ _ _ => 48 + dtBits dt * codes.length
  | .embedded bytes _ _ | .user _ bytes _ _ => 48 + 8 * bytes.length

/-- A flipped bit: in the header the error-correcting code meets one more wrong bit, after it the payload check fails. -/
def Packet.flip (p : Packet) (n : Nat) : Packet :=
  if n % p.bits < 32 then
    { p with arr := { p.arr with hdr := match p.arr.hdr with
      | .ok => .corrected
      | _ => .uncorrectable } }
  else
    { p with body := match p.body with
      | .line dt num codes _ cse room => .line dt num codes false cse room
      | .embedded bytes _ cse => .embedded bytes false cse
      | .user kind bytes _ cse => .user kind bytes false cse
      | b => b }

end Sys2Proof.Machine
end

