-- ==== Sys2Proof/Machine/Queues.lean ====
section
/-! DEFINITION. Machine/Queues.lean: the queue store: items in and out, overwrite, resets, watermarks and flow-control pins
(R283 to R295). -/

namespace Sys2Proof.Machine

/-! ## Shape of a queue -/

/-- A queue's contents. -/
def State.que (s : State) (q : Nat) : Queue := tget s.ques q Queue.init

/-- Whether a queue is a packet queue. -/
def State.quePacket (s : State) (q : Nat) : Bool := s.flag (Fld.QUE_CFG_packet q)

/-- Cells that a queue reserves; 0 spells 32,768 (R299). -/
def State.queCells (s : State) (q : Nat) : Nat := let c := s.get (Fld.QUE_CFG_cap_cells q); if c == 0 then 32768 else c

/-- Capacity in items (R284). -/
def State.queCap (s : State) (q : Nat) : Nat := 32 * s.queCells q - 31

/-- Items that a packet stores, its length slot included while it has not been popped. -/
def QPkt.size (p : QPkt) : Nat := p.items.length + (if p.head then 1 else 0)

/-- Level: the number of items stored, length slots included (R284). -/
def Queue.level (x : Queue) : Nat := sumL (x.pkts.map QPkt.size)

/-- Whether a packet is open at the tail. -/
def Queue.tailOpen (x : Queue) : Bool := match x.pkts.getLast? with
  | some p => p.head && !p.closed
  | none => false

/-- Whether the packet at the head is open. -/
def Queue.headOpen (x : Queue) : Bool := match x.pkts with
  | p :: _ => p.head && !p.closed
  | [] => false

/-- Whether a queue-store half is powered: 0 = domain 132, 1 = domain 133. -/
def State.halfOn (s : State) (h : Nat) : Bool := s.domPower (132 + h)

/-- Cells that queues hold in a half. -/
def State.halfUsed (s : State) (h : Nat) : Nat :=
  sumL (s.ques.map (fun e => (e.2.cells.filter (fun o => (e.1 / 48 == h) != o)).length))

/-- The cell that a queue would take next: some false = its own half, some true = the other half (R285). -/
def State.queTake (s : State) (q : Nat) : Option Bool :=
  let h := q / 48
  if s.halfOn h && Nat.blt (s.halfUsed h) 16384 then some false
  else if s.halfOn (1 - h) && Nat.blt (s.halfUsed (1 - h)) 16384 then some true
  else none

/-! ## Pins (R295) -/

/-- Whether a flow-control pin is asked for. -/
def State.fcWant (s : State) (n : Nat) : Bool :=
  s.flag (Fld.QUE_FC_CFG_enable n) && (List.range 3).any (fun k =>
    (onesOf 32 (s.get (Fld.QUE_FC_MASK_queues n k))).any (fun j => s.flag (Fld.QUE_LEVEL_above (32 * k + j))))

/-- A flow-control pin after it has followed its mask; a disabled pin is released. -/
def State.fcNext (s : State) (n : Nat) : PinHold :=
  if s.loaded && s.flag (Fld.QUE_FC_CFG_enable n) then (nth s.fcPin n ⟨false, false⟩).follow (s.fcWant n)
  else ⟨false, false⟩

/-- A flow-control pin moves to a level: its status shows it, and an assertion is counted. -/
def State.fcMark (n : Nat) (low : Bool) (s : State) : State :=
  let s1 := (s.put (Fld.QUE_FC_STAT_asserted n) (b2n low)).emit (.pin (.fc n) (!low))
  if low then s1.bump (Fld.QUE_FC_STAT_asserts n) else s1

/-- Every flow-control pin follows its mask. -/
def State.fcAll (s : State) : State :=
  let low (l : List PinHold) (n : Nat) : Bool := (nth l n ⟨false, false⟩).low
  let pins := (List.range 8).map s.fcNext
  forEach ((List.range 8).filter (fun n => !(low pins n == low s.fcPin n))) (fun n s => s.fcMark n (low pins n))
    { s with fcPin := pins }

/-- FC_MIN_WIDTH_EXPIRY: the pin follows its mask again. -/
def State.fcExpire (n : Nat) (s : State) : State :=
  { s with fcPin := setAt s.fcPin n { nth s.fcPin n ⟨false, false⟩ with hold := false } }

/-! ## The end of a cycle: cells, level, watermarks (R285, R293, R294) -/

/-- The live bit follows the level (R294). -/
def State.queMarks (q : Nat) (s : State) : State :=
  let lvl := (s.que q).level
  let up := s.flag (Fld.QUE_LEVEL_above q)
  if !up && Nat.ble (s.get (Fld.QUE_WMH_high q)) lvl then (s.put (Fld.QUE_LEVEL_above q) 1).raise (evQue q 0)
  else if up && Nat.ble lvl (s.get (Fld.QUE_WML_low q)) then (s.put (Fld.QUE_LEVEL_above q) 0).raise (evQue q 1)
  else s

/-- Show the level and the open packets in QUE_q_LEVEL, without the live bit. -/
def State.queShow (q : Nat) (s : State) : State :=
  let x := s.que q
  ((s.put (Fld.QUE_LEVEL_level q) x.level).put (Fld.QUE_LEVEL_tail_open q) (b2n (s.quePacket q && x.tailOpen))).put
    (Fld.QUE_LEVEL_head_open q) (b2n (s.quePacket q && x.headOpen))

/-- The end of a cycle for a queue. -/
def State.queEnd (q : Nat) (s : State) : State := ((s.queShow q).queMarks q).fcAll

/-- Replace a queue. -/
def State.setQue (q : Nat) (x : Queue) (s : State) : State := { s with ques := tset s.ques q x }

/-- Items leave at the head: the head moves on, and cells that it has left are released. An empty queue holds no cell. -/
def Queue.left (x : Queue) (n : Nat) : Queue :=
  if x.level == 0 then { x with off := 0, cells := [] }
  else { x with off := (x.off + n) % 32, cells := x.cells.drop ((x.off + n) / 32) }

/-! ## Discarding (R290) -/

/-- The queue without its oldest item or oldest packet, and how many items that discards. Discarding the open packet also
discards the producer's items until the next sop. -/
def Queue.drop1 (packet : Bool) (x : Queue) : Queue × Nat :=
  match x.pkts with
  | [] => (x, 0)
  | p :: rest =>
    if packet then ({ x with pkts := rest, skip := x.skip || (p.head && !p.closed) }.left p.size, p.size)
    else ({ x with pkts := [{ p with items := p.items.drop 1 }] }.left 1, if p.items.isEmpty then 0 else 1)

/-- Discard until n more items fit into the capacity; the answer counts the items discarded. -/
def Queue.makeRoom (packet : Bool) (cap n : Nat) : Nat → Queue → Nat → Queue × Nat
  | 0, x, lost => (x, lost)
  | fuel + 1, x, lost =>
    if Nat.ble (x.level + n) cap || x.level == 0 then (x, lost)
    else
      let (x1, k) := x.drop1 packet
      Queue.makeRoom packet cap n fuel x1 (lost + k)

/-- Discard until the head cell is released. -/
def Queue.freeHead (packet : Bool) (have_ : Nat) : Nat → Queue → Nat → Queue × Nat
  | 0, x, lost => (x, lost)
  | fuel + 1, x, lost =>
    if Nat.blt x.cells.length have_ || x.level == 0 then (x, lost)
    else
      let (x1, k) := x.drop1 packet
      Queue.freeHead packet have_ fuel x1 (lost + k)

/-- Count discarded items. -/
def State.queLost (q n : Nat) (s : State) : State :=
  if n == 0 then s else (s.bumpBy (Fld.QUE_LOST_lost q) n).raise (evMem 10)

/-- A protocol error (R287). -/
def State.queProto (q : Nat) (s : State) : State := (s.bump (Fld.QUE_STAT_proto q)).raise (evMem 11)

/-! ## Storing (R287, R290) -/

/-- Append one item to the last packet, or open a packet with its length slot. -/
def Queue.append (x : Queue) (new : Option QItem) : Queue :=
  match new with
  | none => { x with pkts := x.pkts ++ [⟨[], true, false, false⟩] }
  | some i =>
    match x.pkts.reverse with
    | [] => { x with pkts := [⟨[i], false, true, false⟩] }
    | p :: rest => { x with pkts := rest.reverse ++ [{ p with items := p.items ++ [i] }] }

/-- Store one item (or a length slot): the overwrite of R290 first, then a cell where the tail needs one. The answer says
whether it was stored. -/
def State.queStore (q : Nat) (new : Option QItem) (s : State) : State × Bool :=
  let packet := s.quePacket q
  let (x1, n1) := Queue.makeRoom packet (s.queCap q) 1 1048576 (s.que q) 0
  let s1 := (s.setQue q x1).queLost q n1
  if packet && new.isSome && x1.skip then (s1.queLost q 1, false)
  else if !(Nat.ble (32 * x1.cells.length) (x1.off + x1.level)) then (s1.setQue q (x1.append new), true)
  else
    match s1.queTake q with
    | some o => (s1.setQue q ({ x1 with cells := x1.cells ++ [o] }.append new), true)
    | none =>
      if x1.level == 0 then ((s1.queLost q 1).raise (evMem 12), false)
      else
        let (x2, n2) := Queue.freeHead packet x1.cells.length 1048576 x1 0
        let s2 := (s1.setQue q x2).queLost q n2
        if packet && new.isSome && x2.skip then (s2.queLost q 1, false)
        else if !(Nat.ble (32 * x2.cells.length) (x2.off + x2.level)) then (s2.setQue q (x2.append new), true)
        else
          match s2.queTake q with
          | some o => (s2.setQue q ({ x2 with cells := x2.cells ++ [o] }.append new), true)
          | none => ((s2.queLost q 1).raise (evMem 12), false)

/-- Close the packet at the tail. -/
def Queue.closeTail (x : Queue) : Queue :=
  match x.pkts.reverse with
  | [] => x
  | p :: rest => { x with pkts := rest.reverse ++ [{ p with closed := true }] }

/-- A packet opens with its length slot; where no cell is found for the slot, the push and the packet's other items are discarded
(R287, R290). -/
def State.queOpen (q : Nat) (s : State) : State :=
  let (s1, ok) := State.queStore q none (s.setQue q { s.que q with skip := false })
  if ok then s1 else s1.setQue q { s1.que q with skip := true }

/-- A push into a packet queue (R287). -/
def State.quePushPacket (q : Nat) (item : QItem) (sop eop none_ : Bool) (s : State) : State :=
  let s1 := if sop && (s.que q).tailOpen then (s.setQue q (s.que q).closeTail).queProto q else s
  let s2 := if sop then s1.queOpen q else s1
  let isOpen := (s2.que q).tailOpen
  let s3 :=
    if none_ then s2
    else if isOpen then
      let (s', ok) := s2.queStore q (some item)
      let full := ok && (match (s'.que q).pkts.getLast? with
        | some p => p.items.length == 65535
        | none => false)
      if full && !eop then (s'.setQue q { (s'.que q).closeTail with skip := true }).queProto q else s'
    else if (s2.que q).skip then s2.queLost q 1
    else (s2.queProto q).queLost q 1
  if eop && (s3.que q).tailOpen then s3.setQue q (s3.que q).closeTail else s3

/-- A push (R287) by a queue's producer, with the end of its cycle. An item for a queue whose half is fenced is dropped and counted
(R416). -/
def State.quePush (q w : Nat) (s : State) : State :=
  let item : QItem := ⟨w % 65536, false⟩
  if !s.flag (Fld.QUE_CFG_enable q) then s
  else if s.domFenced (132 + q / 48) then (if bit w 18 then s else s.bumpBy (Fld.QUE_LOST_lost q) 1)
  else if !s.halfOn (q / 48) then s
  else if s.quePacket q then (s.quePushPacket q item (bit w 16) (bit w 17) (bit w 18)).queEnd q
  else if bit w 18 then s
  else (s.queStore q (some item)).1.queEnd q

/-- Whether a requester's write of QUE_q_PUSH is a push (R286, R377). -/
def State.queMayPush (s : State) (r q : Nat) : Bool :=
  match s.get (Fld.QUE_CFG_producer q) with
  | 0 => true
  | 3 => r == 16
  | 4 => r == 17
  | 5 => r == 18
  | _ => false

/-- A write of QUE_q_PUSH from a requester that owns the queue (R286). -/
def State.quePushBy (r q w : Nat) (s : State) : State :=
  if s.queMayPush r q then s.quePush q w else s.bump (Fld.QUE_STAT_proto q)

/-! ## Popping (R288, R289) -/

/-- The pop word of R288: items with their length slot, flags, poison, tag. -/
def popWord (items : List QItem) (first last : Bool) (pops : Nat) : Nat :=
  let v (i : Nat) : Nat := (nth (items.map QItem.v) i 0) % 65536
  v 0 + 2 ^ 16 * v 1 + 2 ^ 32 * v 2 + 2 ^ 48 * (2 * items.length) + 2 ^ 51 * b2n (items.any QItem.bad) +
    2 ^ 52 * b2n first + 2 ^ 53 * b2n last + 2 ^ 56 * (pops % 256)

/-- Storage words with a parity error among the items popped, with the position of the first of them in its cell. -/
def badWords (off : Nat) (items : List QItem) : Nat :=
  ((List.range items.length).filter (fun i =>
    (nth items i ⟨0, false⟩).bad && !(i ≥ 1 && (off + i) % 2 == 1 && (nth items (i - 1) ⟨0, false⟩).bad))).length

/-- What a read pops: the items, first, last, and the queue after it. -/
def Queue.pop (packet : Bool) (x : Queue) : List QItem × Bool × Bool × Queue :=
  match x.pkts with
  | [] => ([], false, false, x)
  | p :: rest =>
    if !packet then
      let out := p.items.take 3
      (out, false, false, { x with pkts := [{ p with items := p.items.drop 3 }] }.left out.length)
    else if p.head && !p.closed then ([], false, false, x)
    else
      let data := p.items.take (if p.head then 2 else 3)
      let out := (if p.head then [⟨p.items.length, false⟩] else []) ++ data
      let left := p.items.drop data.length
      let pk := if left.isEmpty then rest else { p with items := left, head := false } :: rest
      (out, p.head, left.isEmpty, { x with pkts := pk }.left out.length)

/-! ## Resets (R291, R292) -/

/-- A queue is reset: every item is discarded and counted lost, the cells are released, the pop count is 0. -/
def State.queReset (q : Nat) (s : State) : State :=
  let n := (s.que q).level
  let s1 := (s.bumpBy (Fld.QUE_LOST_lost q) n).setQue q { Queue.init with pkts := [] }
  let s2 := (s1.put (Fld.QUE_POPS_pops q) 0).queShow q
  (if s2.flag (Fld.QUE_LEVEL_above q) then (s2.put (Fld.QUE_LEVEL_above q) 0).raise (evQue q 1) else s2).fcAll

/-- A reset forced by an error (R291): 1 pointer mismatch, 2 link pointer parity, 3 length slot parity. -/
def State.queForced (q cause : Nat) (s : State) : State :=
  let s1 := (s.queReset q).bump (Fld.QUE_STAT_resets q)
  (s1.setReg Reg.QUE_ERR (BitVec.ofNat 32 (2 ^ 31 + cause % 4 * 2 ^ 24 + q % 128))).raise (evMem 9)

/-! ## A pop (R288, R289) -/

/-- QUEUE_POP: the pop word, and the state after the read and the end of its cycle. A length slot whose word fails its parity check
forces a reset, and the pop is not valid (R291, R293). -/
def State.quePop (q : Nat) (s : State) : Nat × State :=
  let x := s.que q
  let (items, first, last, x') := x.pop (s.quePacket q)
  if first && x.pkts.head?.any QPkt.slotBad then (popWord [] false false (s.get (Fld.QUE_POPS_pops q)), s.queForced q 3)
  else if items.isEmpty then (popWord [] false false (s.get (Fld.QUE_POPS_pops q)), s)
  else
    let s1 := (s.setQue q x').wrapInc (Fld.QUE_POPS_pops q)
    let n := badWords x.off items
    let s2 := if n == 0 then s1 else (s1.bumpBy (Fld.QUE_STAT_parity q) n).raise (evMem 8)
    (popWord items first last (s1.get (Fld.QUE_POPS_pops q)), s2.queEnd q)

/-! ## Halves that power down, and the pool (R53, R285, R299) -/

/-- A queue-store half powers down: its queues restart empty, their items counted lost (R53, R285). -/
def State.halfDown (h : Nat) (s : State) : State :=
  forEach ((tkeys s.ques).filter (fun q => q / 48 == h)) State.queReset s

/-- Free cells in both halves, and cells that queues hold in the other half (R299). -/
def State.quePool (s : State) : Nat × Nat :=
  (32768 - s.halfUsed 0 - s.halfUsed 1, sumL (s.ques.map (fun e => (e.2.cells.filter (fun o => o)).length)))

end Sys2Proof.Machine
end

