-- ==== Sys2Proof/Machine/Domains.lean ====
section
/-! DEFINITION. Machine/Domains.lean: one switched domain at a time: its fence and its requests, its PLL, its registers, its
three wake steps and its power-down (R36, R41, R42, R46, R58, R66). What a domain is needed for and what planning does with
that is Machine/Power.lean's. -/

namespace Sys2Proof.Machine

/-! ## Which domain is what (R36, R58) -/

/-- The fast PLL that clocks a domain. -/
def pllOf (d : Nat) : Option Nat :=
  match easelOf d with
  | some e => some (e / 2)
  | none => if (Nat.ble 84 d && Nat.blt d 134) || d == 144 || d == 145 then some 6 else none

/-- The register ranges of a domain. -/
def domRanges (d : Nat) : List (Nat × Nat) :=
  if d < 48 then
    (if d % 2 == 1 then [(0x100000 + 0x1000 * (d / 2), 0x101000 + 0x1000 * (d / 2)),
      (0x120000 + 0x100 * (d / 2), 0x120100 + 0x100 * (d / 2))] else [])
  else if d < 72 then (if d % 2 == 0 then [(0x400000 + 0x8000 * (d - 48), 0x410000 + 0x8000 * (d - 48))] else [])
  else if d == 132 then [(0x610100, 0x610200), (0x620000, 0x620C00)]
  else if d == 133 then [(0x620C00, 0x621800)]
  else if d == 136 then [(0x900000, 0x910000)]
  else if d < 138 then []
  else if d < 142 then [(0xA00000 + 0x100 * (d - 138), 0xA00100 + 0x100 * (d - 138))]
  else if d == 143 then [(0x090000, 0x0A0000)]
  else if d == 144 then [(0x700000, 0x708008)]
  else if d == 146 then [(0x080000, 0x090000)]
  else if d == 147 then [(0x070000, 0x080000)]
  else if d == 149 then [(0x0A0000, 0x0B0000)]
  else if d == 151 then [(0x050000, 0x060000)]
  else []

/-! ## Requests (R47, R66) -/

/-- Whether a DCTRL bit asks that a domain stays powered; it has precedence over hold_off (R66). -/
def State.domHeld (s : State) (d : Nat) : Bool := s.flag (Fld.PM_DCTRL_hold_on d)

/-- Whether a domain may not wake: a fence, or an accepted hold_off (R66, R416). -/
def State.domBarred (s : State) (d : Nat) : Bool :=
  s.domFenced d || (s.flag (Fld.PM_DCTRL_hold_off d) && !s.domHeld d)

/-! ## Ports (R36, R41, R416, R418) -/

/-- Whether a port is in use: an image is loaded, the port is enabled and neither fenced nor under BIST (R416, R418). -/
def State.portOn (s : State) (p : Nat) : Bool :=
  s.loaded && s.flag (Fld.PORT_CFG_enable p) && !s.domHurt (2 * p) && !s.domHurt (2 * p + 1)

/-- Whether both domains of a port are powered: before that it takes no work (R41). -/
def State.portAwake (s : State) (p : Nat) : Bool := s.domPower (2 * p) && s.domPower (2 * p + 1)

/-- Whether the D-PHY or C-PHY link of a combo port is configured: A, or B in 2 × 2 mode (R105). -/
def State.comboLink (s : State) (p : Nat) (b : Bool) : Bool :=
  s.portOn p && (!b || s.get (Fld.PORT_CFG_phy_mode p) == 1)

/-- Whether that link is up (R132): it has no link-loss signal of its own (R107), so it is up while the port is in use and powered. -/
def State.comboUp (s : State) (p : Nat) (b : Bool) : Bool := s.comboLink p b && s.portAwake p

/-- Link A of a combo port comes up with the second of its domains (R41, R131). -/
def State.portWoke (p : Nat) (s : State) : State := s.raiseIf (Nat.ble 16 p && s.comboUp p false) (evPort p 0)

/-! ## PLLs (R58) -/

/-- A PLL starts on demand; how long it takes to lock, at most 20 µs, is not stated (R58, R66). -/
def State.pllStart (d : Nat) (s : State) : State :=
  match pllOf d with
  | none => s
  | some n =>
    if s.flag (Fld.CK_PLL_running n) then s
    else (((s.put (Fld.CK_PLL_running n) 1).put (Fld.CK_PLL_locked n) 1).put (Fld.CK_PLL_last_lock n)
      (Config.openVal s.free 66 % 201)).draw

/-- A PLL stops when no domain that it clocks is powered (R58). -/
def State.pllStop (d : Nat) (s : State) : State :=
  match pllOf d with
  | none => s
  | some n =>
    if s.doms.any (fun e => pllOf e.1 == some n && !(e.2 == .off)) then s
    else (s.put (Fld.CK_PLL_running n) 0).put (Fld.CK_PLL_locked n) 0

/-! ## Waking (R41, R42) -/

/-- How many domains ramp now: those whose wake began less than 20 µs ago (R41, R42). -/
def State.ramping (s : State) : Nat :=
  (s.doms.filter (fun e => e.2 == .waking && Nat.blt s.tm.loc (tget s.rampAt e.1 0 + 20000))).length

/-- A domain starts to wake: step 1 of R41, where fewer than 8 domains ramp (R42). -/
def State.domWake (d : Nat) (s : State) : State :=
  if s.dom d == .off && !s.domBarred d && Nat.blt s.ramping 8 then
    ({ s with rampAt := tset s.rampAt d s.tm.loc, ramps := tdel s.ramps d }.setDom d .waking).pllStart d
  else s

/-- HL_BUDGET.declared and CK_SRC.pcie_sris follow HL_CFG (R502). -/
def State.hlDeclared (s : State) : State :=
  (s.put Fld.HL_BUDGET_declared s.declaredBudget).put Fld.CK_SRC_pcie_sris (s.get Fld.HL_CFG_sris)

/-- A domain's registers are restored from the shadow copy, what derives from them follows, and its census set is checked: step 3
of R41. -/
def State.domRestore (d : Nat) (s : State) : State :=
  let s1 := forEach (domRanges d) (fun r s => s.restore r.1 r.2) s
  (if d == 136 then s1.hlDeclared else s1).cenCheckSet d

/-- Packets that were held for a transmit port go out in their order (R40, R46). -/
def State.csoFlush (n : Nat) (s : State) : State :=
  forEach (tget s.outHeld n []) (State.csoOut n) { s with outHeld := tdel s.outHeld n }

/-- What was held for the host goes out in its order (R41, R309). -/
def State.hlFlush (s : State) : State :=
  if s.linkLow || !(s.dom 134 == .on) then s
  else forEach (tget s.outHeld 4 []) (fun o s => s.emit o) { s with outHeld := tdel s.outHeld 4 }

/-- The three wake steps of a domain have ended (R41): it is powered and restored; a bank group's words are zero (R278), and a
transmit port and the host link send what was held for them, link A of a combo port comes up. -/
def State.domPowered (d : Nat) (s : State) : State :=
  let s1 := (({ s with ramps := tdel s.ramps d, rampAt := tdel s.rampAt d }.setDom d .on).bump (Fld.PM_DSTAT_wakes d)).domRestore d
  let s2 := if Nat.ble 84 d && Nat.blt d 132 then s1.groupClear (d - 84) else s1
  if Nat.ble 138 d && Nat.blt d 142 then s2.csoFlush (d - 138)
  else if d == 134 then s2.hlFlush
  else if Nat.blt d 48 then s2.portWoke (d / 2)
  else s2

/-- A domain is powered with all three steps behind it, as at the image load and at the end of a wake from Standby. -/
def State.domBring (d : Nat) (s : State) : State :=
  if s.dom d == .on || s.dom d == .draining || s.domBarred d then s else (s.pllStart d).domPowered d

/-! ## Powering down (R46) -/

/-- A domain powers down: step 3 of R46. A queue-store half loses its queues' items (R53). -/
def State.domDown (d : Nat) (s : State) : State :=
  let s1 := if d == 132 || d == 133 then s.halfDown (d - 132) else s
  { s1 with ramps := tdel s1.ramps d, rampAt := tset s1.rampAt d s1.tm.loc }.setDom d .powerdown

/-- A domain is off. -/
def State.domCut (d : Nat) (s : State) : State :=
  ({ s with ramps := tdel s.ramps d, rampAt := tdel s.rampAt d }.setDom d .off).pllStop d

/-- Domains that were powering down before time passed are off. -/
def State.domsOff (s : State) : State :=
  forEach (tkeys (s.doms.filter (fun e => e.2 == .powerdown && Nat.blt (tget s.rampAt e.1 0) s.tm.loc))) State.domCut s

/-! ## Domains 134 to 137 by link state (R309) -/

/-- Whether the link state asks for a host-link domain. -/
def State.hlWant (s : State) (d : Nat) : Bool :=
  let l := s.get Fld.HL_STAT_lstate
  if s.hlReset then d == 136
  else if d == 134 then Nat.blt l 4 || l == 5
  else if d == 135 then l == 5 || ((l == 0 || l == 2 || l == 3) && Nat.ble 8 (s.get Fld.HL_STAT_width_now))
  else if d == 136 then true
  else Nat.blt l 4 && (s.flag Fld.HL_STAT_cache_on || !(s.spdm.ide == 0))

/-- One of domains 134 to 137 goes to what the link state asks for: one that it wants starts to wake (R41), or ends its draining; one
that it does not want drains first (R46), or, without an image, whose transfers it could hold, powers down at once. -/
def State.hlDom (d : Nat) (s : State) : State :=
  if s.hlWant d || s.domHeld d then (if s.dom d == .draining then s.setDom d .on else s.domWake d)
  else match s.dom d with
    | .on => if s.loaded then s.setDom d .draining else (s.domDown d).domCut d
    | .waking => if s.loaded then s.domDown d else (s.domDown d).domCut d
    | _ => s

/-- Bring domains 134 to 137 to what the link state asks for. -/
def State.hlDoms (s : State) : State := forEach [134, 135, 136, 137] State.hlDom s

/-- L1_EXIT: Falith has something to issue in L1, L1.1 or L1.2, and the link leaves it (R309); what waited goes out. -/
def State.hlExit (s : State) : State :=
  if s.linkLow then ((s.exitCall.put Fld.HL_STAT_lstate 0).hlDoms).hlFlush else s

/-- The link leaves a low-power state for what waits to be sent (R309). -/
def State.hlGo (s : State) : State := if (tget s.outHeld 4 []).isEmpty then s else s.hlExit.hlFlush

end Sys2Proof.Machine
end

