-- ==== Sys2Proof/Machine/Placement.lean ====
section
/-! DEFINITION. Machine/Placement.lean: the placement function, its result registers and the mapping of slots to easels
(R175 to R184, R187, R188, R195, R196). -/

namespace Sys2Proof.Machine

/-! ## Fractions -/

/-- A non-negative fraction: numerator and denominator. -/
abbrev Frac := Nat × Nat

/-- Sum of fractions. -/
def fAdd (a b : Frac) : Frac := (a.1 * b.2 + b.1 * a.2, a.2 * b.2)

/-- Whether one fraction is at most another. -/
def fLe (a b : Frac) : Bool := Nat.ble (a.1 * b.2) (b.1 * a.2)

/-- Whether one fraction is below another. -/
def fLt (a b : Frac) : Bool := !fLe b a

/-- A fraction in parts per 10,000, rounded up. -/
def fParts (a : Frac) : Nat := if a.2 == 0 then 0 else (a.1 * 10000 + a.2 - 1) / a.2

/-! ## Quantities of a stream (R163, R171, R172, R176) -/

/-- What the placement function sees of one stream. -/
structure PStream where
  st    : Nat
  /-- 0 auto, 1 in-line required, 2 through palette required -/
  path  : Nat
  prio  : Nat
  H     : Nat
  cline : Nat
  /-- line time in ns -/
  lt    : Nat
  /-- period in ns -/
  P     : Nat
  /-- slack in ns -/
  slack : Nat
  L     : Nat
  tcells : Nat
  /-- output bytes for one frame -/
  bytes : Nat
  deriving DecidableEq, Repr

/-- Period P_s of a stream (R163). -/
def State.strmP (s : State) (st : Nat) : Nat :=
  let p := s.get (Fld.SYNC_PERIOD_period (s.get (Fld.STRM_CFG_group st)))
  if p == 0 then (s.prof st).period else p

/-- Exposures that a line costs (R171). -/
def State.strmX (s : State) (st : Nat) : Nat := if passDt (s.strmDt st) then 1 else (s.prof st).exps

/-- Cells for one stored line (R176). -/
def State.lineCells (s : State) (st : Nat) : Nat :=
  let dt := s.strmDt st
  let b := if (Nat.ble 0x28 dt && Nat.ble dt 0x2E) || dt == 0x1E then 2 else 4
  (s.strmW st * s.strmX st * b + 2047) / 2048

/-- The inputs of one stream. -/
def State.pstream (s : State) (st : Nat) : PStream :=
  { st := st, path := s.get (Fld.STRM_CFG_path st), prio := s.get (Fld.STRM_CFG_prio st), H := s.strmH st
    cline := (s.strmW st + 1) / 2 * s.strmX st, lt := (s.prof st).lineTime, P := s.strmP st
    slack := (s.get (Fld.STRM_BUDGET_budget st) - s.get (Fld.STRM_TIN_t_in st) - 1000) * 1000
    L := s.lineCells st, tcells := s.tableCells st, bytes := s.frameBytes st }

/-- In-line load u_in. -/
def PStream.uin (p : PStream) : Frac := (10 * p.H * p.cline, 12 * p.P)

/-- Stroke length n_s (R172). -/
def PStream.ns (p : PStream) : Nat :=
  match [256, 128, 64, 32].find? (fun n => Nat.ble (2 * n * p.lt) p.slack) with
  | some n => n
  | none => 16

/-- Stroke density d. -/
def PStream.dens (p : PStream) : Frac :=
  (10 * ((p.ns + 8) * p.cline + 2400), 12 * Nat.min (p.ns * p.lt) p.slack)

/-- Whether the line cost fits the line time. -/
def PStream.fitsLine (p : PStream) : Bool := Nat.ble (10 * p.cline) (12 * p.lt)

/-- Palette cells (R176). -/
def PStream.cellsOf (p : PStream) (inl : Bool) : Nat :=
  (if inl then 0 else ((p.slack + p.lt - 1) / p.lt + p.ns + 8) * p.L) + 3 + 96 + p.tcells

/-- Output share in bytes per second, as a fraction. -/
def PStream.shareOf (p : PStream) : Frac := (p.bytes * 1000000000, p.P)

/-! ## The placement function (R177, R178) -/

/-- A refusal: reason, whole set, stream, slot, demand, limit. -/
structure PRefusal where
  reason : Nat
  whole  : Bool
  st     : Nat
  slot   : Nat
  need   : Nat
  have_  : Nat
  deriving DecidableEq, Repr

/-- What the function builds up. -/
structure PAcc where
  places : Tbl Place
  /-- in-line stream of each slot -/
  inl    : List (Option PStream)
  /-- largest stroke line cost of each slot -/
  big    : List Nat
  loads  : List Frac
  deriving DecidableEq, Repr

/-- Insert into a list kept in descending order of a fraction, after its equals. -/
def insDesc (f : PStream → Frac) (x : PStream) : List PStream → List PStream
  | [] => [x]
  | y :: ys => if fLt (f y) (f x) then x :: y :: ys else y :: insDesc f x ys

/-- Sort in descending order of a fraction; equals keep ascending stream number. -/
def sortDesc (f : PStream → Frac) (l : List PStream) : List PStream := l.foldl (fun a x => insDesc f x a) []

/-- Blocking sum of a slot with a stroke line cost added (R171). -/
def PAcc.blockSum (a : PAcc) (j c : Nat) : Nat :=
  match nth a.inl j none with
  | none => 0
  | some q => q.cline + Nat.max (nth a.big j 0) c

/-- Whether a slot meets R171 with a stroke line cost added. -/
def PAcc.slotFits (a : PAcc) (j c : Nat) : Bool :=
  match nth a.inl j none with
  | none => true
  | some q => Nat.ble (10 * a.blockSum j c) (12 * q.lt)

/-- The least-loaded slot of a list, the lower on equal loads. -/
def PAcc.least (a : PAcc) : List Nat → Option Nat
  | [] => none
  | j :: js =>
    match a.least js with
    | none => some j
    | some i => some (if fLe (nth a.loads j (0, 1)) (nth a.loads i (0, 1)) then j else i)

/-- Place one through-palette stream. DESIGN CHOICE (log 162): a refusal's slack and its limits of 1.2 line times are rounded down to
whole units, its 32 line times up; the spec states no rounding. -/
def PAcc.place (a : PAcc) (k : Nat) (p : PStream) : Except PRefusal PAcc :=
  if Nat.blt p.slack (32 * p.lt) then
    .error ⟨5, false, p.st, 15, p.slack / 1000, (32 * p.lt + 999) / 1000⟩
  else
    let fit := (List.range k).filter (fun j => a.slotFits j p.cline)
    match fit with
    | [] =>
      (match leastBy (fun j => a.blockSum j p.cline) (List.range k) with
       | none => .error ⟨6, false, p.st, 15, 0, 0⟩
       | some j => .error ⟨6, false, p.st, j, a.blockSum j p.cline,
           match nth a.inl j none with
           | some q => 12 * q.lt / 10
           | none => 0⟩)
    | _ =>
      let ok := fit.filter (fun j => fLe (fAdd (nth a.loads j (0, 1)) p.dens) (95, 100))
      match a.least ok with
      | none =>
        let j := (a.least fit).getD 15
        .error ⟨2, false, p.st, j, fParts (fAdd (nth a.loads j (0, 1)) p.dens), 9500⟩
      | some j =>
        .ok { a with
          places := tset a.places p.st ⟨true, j, p.ns, p.cellsOf false, p.shareOf.1 / p.shareOf.2⟩
          big := setAt a.big j (Nat.max (nth a.big j 0) p.cline)
          loads := setAt a.loads j (fAdd (nth a.loads j (0, 1)) p.dens) }

/-- Place the through-palette streams in order. -/
def placeAll (k : Nat) : List PStream → PAcc → Except PRefusal PAcc
  | [], a => .ok a
  | p :: ps, a =>
    match a.place k p with
    | .error e => .error e
    | .ok a' => placeAll k ps a'

/-- Sum of shares in bytes per second, as a fraction. -/
def shareSum (ps : List PStream) : Frac := ps.foldl (fun a p => fAdd a p.shareOf) (0, 1)

/-- The placement function: streams in ascending number, slots in service, host link budget in units of 10 MB/s. -/
def placement (ps : List PStream) (k budget extra limit : Nat) : Except PRefusal PAcc :=
  let req := ps.filter (fun p => p.path == 1)
  match req[k]? with
  | some p => .error ⟨1, false, p.st, 15, req.length, k⟩
  | none =>
    match req.find? (fun p => !p.fitsLine) with
    | some p => .error ⟨7, false, p.st, 15, p.cline, 12 * p.lt / 10⟩
    | none =>
      let autos := sortDesc PStream.uin (ps.filter (fun p => p.path == 0 && p.fitsLine))
      let inl := req ++ autos.take (k - req.length)
      let a0 : PAcc := {
        places := (List.zip (List.range inl.length) inl).foldl
          (fun t e => tset t e.2.st ⟨false, e.1, 0, e.2.cellsOf true, e.2.shareOf.1 / e.2.shareOf.2⟩) []
        inl := (List.range k).map (fun j => inl[j]?)
        big := List.replicate k 0
        loads := (List.range k).map (fun j => match inl[j]? with
          | some p => p.uin
          | none => (0, 1)) }
      let rest := sortDesc PStream.dens (ps.filter (fun p => !inl.any (fun q => q.st == p.st)))
      match placeAll k rest a0 with
      | .error e => .error e
      | .ok a =>
        let cells := sumL (a.places.map (fun e => e.2.cells)) + 2560 + extra
        if Nat.blt limit cells then .error ⟨3, true, 0, 15, cells, limit⟩
        else
          let sh := shareSum ps
          let dem := (sh.1 + sh.2 * 10000000 - 1) / (sh.2 * 10000000)
          if fLt (budget * 10000000, 1) sh then .error ⟨4, true, 0, 15, dem, budget⟩
          else .ok a

/-! ## Running placement (R180 to R182, R187, R188) -/

/-- Whether a stream counts as enabled for placement: it is, or the boundary at which a commit closes it has not come (R164). -/
def State.strmCounts (s : State) (st : Nat) : Bool :=
  s.flag (Fld.STRM_CFG_enable st) || s.cmt.turns.any (fun t => t.closes.contains st)

/-- The enabled streams' inputs, without the degraded ones. -/
def State.pstreams (s : State) : List PStream :=
  ((List.range 32).filter (fun st => s.strmCounts st && !s.plc.degraded.contains st)).map s.pstream

/-- Palette cells that placement may reserve: those of the bank groups that are not fenced (R416). -/
def State.palLimit (s : State) : Nat := 49152 - 1024 * ((List.range 48).filter (fun g => s.flag (Fld.BIST_DOM_fenced (84 + g)))).length

/-- Run the placement function over the registers as they stand, with k slots. -/
def State.placeWith (s : State) (k : Nat) : Except PRefusal PAcc :=
  placement s.pstreams k s.declaredBudget s.reloadExtra s.palLimit

/-- Slots in service: easels that are neither retired nor resting. -/
def State.slotsK (s : State) : Nat := s.get Fld.PLC_STAT_slots

/-- Record a refusal in PLC_REF (R178). -/
def State.plcRefuse (e : PRefusal) (s : State) : State :=
  let w := 2 ^ 31 + e.reason * 2 ^ 16 + b2n e.whole * 2 ^ 13 + e.st * 2 ^ 8 + e.slot
  ((s.setReg Reg.PLC_REF (BitVec.ofNat 32 w)).setReg Reg.PLC_REF_NEED (BitVec.ofNat 32 e.need)).setReg
    Reg.PLC_REF_HAVE (BitVec.ofNat 32 e.have_)

/-- The result record as numbers, in ascending stream (R178). -/
def recordNums (t : Tbl Place) : List Nat :=
  t.flatMap (fun e => [e.1, b2n e.2.palette, e.2.slot, e.2.ns, e.2.cells, e.2.share])

/-- PLC_STAT.mode (R196). -/
def State.plcMode (s : State) : Nat :=
  if !s.plc.degraded.isEmpty then 2 else if s.plc.resting.isSome then 0 else 1

/-- Show one easel's state in PLC_EASEL_e_STAT and PLC_EASEL_e_STROKES (R196). -/
def State.showEasel (e : Nat) (s : State) : State :=
  let slot := s.plc.slotMap.findIdx? (fun x => x == e)
  let code := if thas s.plc.retired e then 4
    else if s.plc.resting == some e then (if s.plc.restOk then 2 else 1)
    else if s.plc.leaving == some e then 3 else 0
  let inl := slot.bind (fun j => (s.plc.result.find? (fun x => !x.2.palette && x.2.slot == j)).map (fun x => x.1))
  let w := code * 2 ^ 28 + slot.getD 15 * 2 ^ 24 + inl.getD 0 * 2 ^ 19 + b2n inl.isSome * 2 ^ 18 +
    tget s.plc.retired e 0 * 2 ^ 14 + (slot.map (fun j => nth s.plc.loads j 0)).getD 0
  let str := maskOf ((s.plc.result.filter (fun x => x.2.palette && slot == some x.2.slot)).map (fun x => x.1))
  (s.setReg (Reg.PLC_EASEL_STAT e) (BitVec.ofNat 32 w)).setReg (Reg.PLC_EASEL_STROKES e) (BitVec.ofNat 32 str)

/-- Streams to drop for a trained budget: ascending priority class, descending stream number (R308). -/
def State.budgetDrops (s : State) (trained : Nat) : Nat → List PStream → List Nat
  | 0, _ => []
  | n + 1, ps =>
    if fLe (shareSum ps) (trained * 10000000, 1) then []
    else match leastBy (fun p : PStream => p.prio * 32 + (31 - p.st)) ps with
      | none => []
      | some p => p.st :: s.budgetDrops trained n (ps.filter (fun q => !(q.st == p.st)))

/-- The drop choice after a training, and when the demand changes (R308). -/
def State.chooseDrops (s : State) : State :=
  let t := s.get Fld.HL_BUDGET_trained
  let l := if Nat.blt t (s.get Fld.PLC_HL_demand) then s.budgetDrops t 33 s.pstreams else []
  let m := maskOf l
  (s.setReg Reg.HL_DROPSET (BitVec.ofNat 32 m)).raiseIf (!(m == (s.reg Reg.HL_DROPSET).toNat)) (evHl 3)

/-- Show the placement engine's state in the PLC_ registers (R196); a trained link's drop choice follows the demand (R308). -/
def State.plcShow (s : State) : State :=
  let sh := shareSum s.pstreams
  let s1 := (s.put Fld.PLC_STAT_resting (s.plc.resting.getD 15)).put Fld.PLC_STAT_mode s.plcMode
  let s2 := s1.cellsShow
  let s3 := (s2.put Fld.PLC_HL_budget s.declaredBudget).put Fld.PLC_HL_demand ((sh.1 + sh.2 * 10000000 - 1) / (sh.2 * 10000000))
  forEach (List.range 12) State.showEasel (if s3.flag Fld.HL_STAT_up then s3.chooseDrops else s3)

/-- Take a placement as the result record in force (R178). -/
def State.plcAccept (a : PAcc) (s : State) : State :=
  let s1 := { s with plc := { s.plc with result := a.places, loads := a.loads.map fParts } }
  let s2 := s1.setReg Reg.PLC_DIGEST (BitVec.ofNat 32 (crc32c (Config.recordBytes (recordNums a.places))))
  let s3 := forEach (List.range 32) (fun st s =>
    match tget? a.places st with
    | some p => s.setReg (Reg.STRM_PLACE st)
        (BitVec.ofNat 32 (b2n p.palette * 2 ^ 31 + p.slot * 2 ^ 27 + p.ns * 2 ^ 18 + p.cells))
    | none => s.setReg (Reg.STRM_PLACE st) 0x78000000#32) s2
  (s3.bump Fld.PLC_STAT_runs).plcShow

/-- The path code and the easel that a stream takes at its next frame boundary (R181, R187, R195). -/
def State.placeTarget (s : State) (st : Nat) : Nat × Nat :=
  if s.plc.degraded.contains st then ((if s.get (Fld.STRM_CFG_degrade st) == 1 then 3 else 2), 15)
  else
    match tget? s.plc.result st with
    | none => (7, 15)
    | some p => (b2n p.palette, nth s.plc.slotMap p.slot 15)

/-- The logical slot that a stream takes at its next frame boundary, 15 = none (R181, R187). -/
def State.placeSlot (s : State) (st : Nat) : Nat :=
  if s.plc.degraded.contains st then 15
  else match tget? s.plc.result st with
    | none => 15
    | some p => p.slot

/-- The stroke length and the cells that a stream takes at its next frame boundary (R166, R176). -/
def State.placeRun (s : State) (st : Nat) : Nat × Nat :=
  if s.plc.degraded.contains st then (0, 0)
  else match tget? s.plc.result st with
    | none => (0, 0)
    | some p => (p.ns, p.cells)

/-- The stroke length and the cells of the placement under which a stream runs (R166, R276). -/
def State.plcRuns (s : State) (st : Nat) : Nat × Nat := tget s.plc.runs st (0, 0)

/-- Whether a stream has the path, the physical easel and the logical slot of its placement (R181). -/
def State.samePlace (s : State) (st : Nat) : Bool :=
  s.placeTarget st == (s.get (Fld.STRM_STAT_path_now st), s.get (Fld.STRM_STAT_easel st)) &&
    s.placeSlot st == tget s.plc.slotNow st 15

/-- Whether a stream runs as placed (R181). -/
def State.asPlaced (s : State) (st : Nat) : Bool := s.samePlace st && s.placeRun st == s.plcRuns st

/-- Whether the bank groups of the placement in force are powered, those that may not wake apart (R278): a placement that needs
more of them applies once they are. -/
def State.palReady (s : State) : Bool :=
  (List.range s.palG).all (fun g => s.groupOn g || s.domBarred (84 + g))

/-- A change of slot, physical easel or path of a stream is counted, and raises its event (R181). -/
def State.plcMoved (st : Nat) (s : State) : State := (s.bump (Fld.STRM_STAT_moves st)).raise (evStrm st 5)

/-- A stream takes its placement, one with a path once its bank groups are powered (R181, R187, R278). -/
def State.applyPlace (st : Nat) (s : State) : State :=
  let (path, e) := s.placeTarget st
  let old := s.get (Fld.STRM_STAT_path_now st)
  if s.asPlaced st || (Nat.blt path 2 && !s.palReady) then s
  else
    let s1 := ({ s with plc := { s.plc with slotNow := tset s.plc.slotNow st (s.placeSlot st), runs := tset s.plc.runs st (s.placeRun st) } }.put
      (Fld.STRM_STAT_path_now st) path).put (Fld.STRM_STAT_easel st) e
    if s.samePlace st || old == 7 || path == 7 then s1 else s1.plcMoved st

/-- The streams without an open frame take their placement at once (R181). -/
def State.applyIdle (s : State) : State :=
  forEach (List.range 32) (fun st s => if s.flag (Fld.STRM_STAT_open st) then s else s.applyPlace st) s

/-- The slots are mapped to the easels in service that neither rest nor leave service for the rest, in ascending order (R182,
R183, R186). -/
def State.mapSlots (s : State) : State :=
  let es := (List.range 12).filter (fun e =>
    !thas s.plc.retired e && !(s.plc.resting == some e) && !(s.plc.leaving == some e))
  { s with plc := { s.plc with slotMap := es } }.put Fld.PLC_STAT_slots es.length

/-- Degrade streams one at a time until placement succeeds (R187). -/
def State.plcDegrade : Nat → State → State
  | 0, s => s
  | n + 1, s =>
    match s.placeWith s.slotsK with
    | .ok a => s.plcAccept a
    | .error e =>
      let s1 := (s.plcRefuse e).bump Fld.PLC_STAT_runs
      match leastBy (fun p : PStream => p.prio * 32 + (31 - p.st)) s1.pstreams with
      | none => s1
      | some p => State.plcDegrade n { s1 with plc := { s1.plc with degraded := s1.plc.degraded ++ [p.st] } }

/-- Lift degrades in reverse order while placement succeeds (R188). -/
def State.plcLift : Nat → State → State
  | 0, s => s
  | n + 1, s =>
    match s.plc.degraded.reverse with
    | [] => s
    | _ :: rest =>
      let s1 := { s with plc := { s.plc with degraded := rest.reverse } }
      match s1.placeWith s1.slotsK with
      | .ok a => State.plcLift n (s1.plcAccept a)
      | .error e => (s.plcRefuse e).bump Fld.PLC_STAT_runs

/-- A placement run after a change of the slots in service or of the streams (R180, R187, R188). -/
def State.plcRun (s : State) : State :=
  ((State.plcDegrade 33 s).plcShow).applyIdle

end Sys2Proof.Machine
end

