-- ==== Sys2Proof/Machine/Entry.lean ====
section
/-! DEFINITION. Machine/Entry.lean: the ledger entry of a frame: its layout, state, digest, and its place in LDG_s_E
(R250, R251, R255). -/

namespace Sys2Proof.Machine

/-- Flag bits of an entry (R250). -/
def efSent : Nat := 0
/-- confirmed -/
def efConfirmed : Nat := 1
/-- mismatch -/
def efMismatch : Nat := 2
/-- no_ed -/
def efNoEd : Nat := 3
/-- miss -/
def efMiss : Nat := 4
/-- slipped -/
def efSlipped : Nat := 5
/-- void -/
def efVoid : Nat := 6
/-- host -/
def efHost : Nat := 7
/-- held -/
def efHeld : Nat := 8
/-- late -/
def efLate : Nat := 9
/-- sketch -/
def efSketch : Nat := 10

/-- Set a flag. -/
def LEntry.mark (e : LEntry) (b : Nat) : LEntry := { e with flags := e.flags ||| (1 <<< b) }

/-- Clear a flag. -/
def LEntry.unmark (e : LEntry) (b : Nat) : LEntry := { e with flags := e.flags &&& (0xFFFF - (1 <<< b)) }

/-- The unconfirmed condition of R251; `edc` = the profile confirms by embedded data. -/
def LEntry.unconf (e : LEntry) (edc : Bool) : Bool :=
  bit e.flags efMismatch || bit e.flags efNoEd || (bit e.flags efMiss && !edc)

/-- The summary state of R251. -/
def LEntry.state (e : LEntry) (edc : Bool) : Nat :=
  if bit e.flags efVoid then 6
  else if e.unconf edc then 4
  else if bit e.flags efSlipped then 5
  else if bit e.flags efConfirmed then 3
  else if bit e.flags efSent then 2
  else 1

/-- Bytes 0x00 to 0x3B of an entry (R250). -/
def LEntry.body (e : LEntry) (edc : Bool) : List Nat :=
  leBytes 4 e.frame ++ [e.state edc, e.cmd % 256] ++ leBytes 2 e.flags ++
  (List.range 4).flatMap (fun k => leBytes 4 (nth e.exp k 0)) ++
  (List.range 4).flatMap (fun k => leBytes 2 (nth e.gain k 0)) ++
  (List.range 4).map (fun k => nth e.conv k 0 % 256) ++
  leBytes 2 e.temp ++ leBytes 2 e.lscW ++ (List.range 4).flatMap (fun k => leBytes 2 (nth e.wb k 0)) ++
  leBytes 2 e.tone ++ leBytes 2 e.alpha ++ leBytes 4 e.grid ++ leBytes 4 e.src

/-- The 64 bytes of an entry. -/
def LEntry.bytes (e : LEntry) (edc : Bool) : List Nat := let b := e.body edc; b ++ leBytes 4 (crc32c b)

/-- Read an entry from its 64 bytes. -/
def parseEntry (b : List Nat) : LEntry :=
  { frame := leAt b 0 4, cmd := nth b 5 0, flags := leAt b 6 2, exp := nums b 8 4 4, gain := nums b 0x18 2 4
    conv := nums b 0x20 1 4, temp := leAt b 0x24 2, lscW := leAt b 0x26 2, wb := nums b 0x28 2 4, tone := leAt b 0x30 2
    alpha := leAt b 0x32 2, grid := leAt b 0x34 4, src := leAt b 0x38 4 }

/-- The 64 bytes at a frame's ring index (R250). -/
def State.ldgBytes (s : State) (st F : Nat) : List Nat :=
  (List.range 16).flatMap (fun n => leBytes 4 (s.reg (Reg.LDG_E st (F % 64) n)).toNat)

/-- Whether frame F has an entry: its index is planned for F. -/
def State.hasEntry (s : State) (st F : Nat) : Bool :=
  let b := s.ldgBytes st F
  !(nth b 4 0 == 0) && leAt b 0 4 == F % 2 ^ 32

/-- The entry of frame F. -/
def State.entry (s : State) (st F : Nat) : LEntry := parseEntry (s.ldgBytes st F)

/-- An entry that nothing has set. -/
def LEntry.blank (F : Nat) : LEntry :=
  ⟨F % 2 ^ 32, 0, 0, [0, 0, 0, 0], [0, 0, 0, 0], [0, 0, 0, 0], 0, 0, [0, 0, 0, 0], 0, 0, 0, 0xFFFFFFFF⟩

/-- The entry of frame F, or a blank one. -/
def State.entryOr (s : State) (st F : Nat) : LEntry := if s.hasEntry st F then s.entry st F else LEntry.blank F

/-- Store an entry with its digest (R255); the unconfirmed condition counts and raises its event when it first holds
(R251), the slipped flag raises EV_STRM_LDG_SLIP when it is set (R257). -/
def State.putEntry (st : Nat) (e : LEntry) (s : State) : State :=
  let edc := (s.prof st).edConfirm
  let was := s.hasEntry st e.frame && (s.entry st e.frame).unconf edc
  let slipWas := s.hasEntry st e.frame && bit (s.entry st e.frame).flags efSlipped
  let ws := wordsOf (e.bytes edc)
  let s1 := forEach (List.range 16) (fun n s => s.setReg (Reg.LDG_E st (e.frame % 64) n) (BitVec.ofNat 32 (nth ws n 0))) s
  let s2 := if !was && e.unconf edc then (s1.bump (Fld.LDG_CNT_unconf st)).raise (evStrm st 6) else s1
  if !slipWas && bit e.flags efSlipped then s2.raise (evStrm st 7) else s2

/-- Change an existing entry. -/
def State.modEntry (st F : Nat) (g : LEntry → LEntry) (s : State) : State :=
  if s.hasEntry st F then s.putEntry st (g (s.entry st F)) else s

/-- t_EXP of an entry in ns, by its line time (R250). -/
def LEntry.tExp (e : LEntry) (lt : Nat) : Nat := (rndDiv ((nth e.exp 0 0 * lt : Nat) : Int) 256).toNat

/-- t_EXP of a planned frame in ns. -/
def State.tExp (s : State) (st F lt : Nat) : Nat := (s.entry st F).tExp lt

/-- A frame's grid (R203, R266): every node 4,096 unless the laws set it. -/
def State.gridOf (s : State) (st F : Nat) : List Nat := tget (s.strm st).grids (F % 2 ^ 32) (List.replicate 768 4096)

/-- CRC-32C of a grid (R250). -/
def gridCrc (g : List Nat) : Nat := crc32c (g.flatMap (leBytes 2))

/-- The entry of a frame, 64 bytes: as it was final at the frame's close, in the ring until then (R255). -/
def State.frameLdg (s : State) (f : Frame) : List Nat := match f.own with
  | some (b, _) => b
  | none => s.ldgBytes f.st f.num

/-- The entry of a frame. -/
def State.frameEntry (s : State) (f : Frame) : LEntry := parseEntry (s.frameLdg f)

/-- The grid of a frame, as its entry. -/
def State.frameGrid (s : State) (f : Frame) : List Nat := match f.own with
  | some (_, g) => g
  | none => s.gridOf f.st f.num

/-- The parameter set of a frame (R203): its own, whatever its stream has planned since (R204). -/
def State.paramsOf (s : State) (f : Frame) : Params :=
  let e := s.frameEntry f
  { exps := (List.range 4).map (fun k => (nth e.exp k 0, nth e.gain k 0)), temp := sgn 16 e.temp, lscW := e.lscW
    wb := e.wb, tone := e.tone, alpha := e.alpha, grid := s.frameGrid f }

/-! ## Timestamps (R159) -/

/-- The time that a capture stands for, before vehicle time starts where it comes out negative. -/
def State.stampAt (s : State) (f : Frame) (cap : Nat) : Int :=
  (cap : Int) - ((s.frameProf f).tRo : Int) - ((s.frameEntry f).tExp (s.frameProf f).lineTime / 2 : Nat)

/-- A timestamp from a capture, 64 bits. -/
def State.stamp (s : State) (f : Frame) (cap : Nat) : Nat := unsgn 64 (s.stampAt f cap)

/-! ## The map entries of a stream (R110, R112) -/

/-- Map entries (port, index) that name a stream. -/
def State.streamEntries (s : State) (st : Nat) : List (Nat × Nat) :=
  let p := s.get (Fld.STRM_CFG_port st)
  ((List.range 4).filter (fun k => s.flag (Fld.PORT_VCMAP_enable p k) && s.get (Fld.PORT_VCMAP_stream p k) == st)).map
    (fun k => (p, k))

/-- The stream a map entry names. -/
def State.entStream (s : State) (p k : Nat) : Nat := s.get (Fld.PORT_VCMAP_stream p k)

/-- The exposure index of a map entry. -/
def State.entExp (s : State) (p k : Nat) : Nat := s.get (Fld.PORT_VCMAP_exposure p k)

/-- The loss bit of a map entry (R132). -/
def fLoss (p k : Nat) : Fld := ⟨Reg.PORT_FSTAT p, 4 + k, 4 + k⟩
/-- The open bit of a map entry. -/
def fOpen (p k : Nat) : Fld := ⟨Reg.PORT_FSTAT p, k, k⟩
/-- The reinit bit of a map entry. -/
def fReinit (p k : Nat) : Fld := ⟨Reg.PORT_FSTAT p, 8 + k, 8 + k⟩

end Sys2Proof.Machine
end

