-- ==== Sys2Proof/Machine/Stats.lean ====
section
/-! DEFINITION. Machine/Stats.lean: a closed frame through its chain, the sketch set (R126 to R129), the statistics block
(R236 to R244), and the payloads of its views (R200, R228). -/

namespace Sys2Proof.Machine

/-! ## A frame's planes -/

/-- How many lines of a closed frame entered its easel: all of them, or those before a retirement (R186). -/
def Frame.entered (f : Frame) : Nat :=
  let n := (nth f.lines 0 []).length
  match f.cut with
  | some E => Nat.min E n
  | none => n

/-- A line as the easel read it: its codes, or free values where a word of its cells held an uncorrected error, whose place in the
line the spec does not give (R280). -/
def Frame.lineRead (f : Frame) (k L : Nat) (codes : List Nat) : List Nat :=
  match tget? f.asRead L with
  | none => codes
  | some draw => (List.range codes.length).map (fun i => Config.openVal (draw + 16384 * k + L) i % 2 ^ dtBits f.dt)

/-- Lines of every exposure as the chain takes them: the lines entered, and up to the CFA period filled (R200). -/
def Frame.codes (f : Frame) : List Plane :=
  let n := f.entered
  (List.zip (List.range f.lines.length) f.lines).map (fun x =>
    (List.zip (List.range n) (x.2.take n)).map (fun l => f.lineRead x.1 l.1 l.2) ++
      List.replicate (if n == 0 then 0 else f.cfaV - n) ((List.range (dtSamples f.dt f.W)).map (fillCode f.dt)))

/-- Processed height N of a frame (R200). -/
def Frame.N (f : Frame) : Nat :=
  let n := f.entered
  if n == 0 then 0 else Nat.max n f.cfaV

/-- Stage 5's output of a frame and its count of dynamic corrections. -/
def State.frontOf (s : State) (f : Frame) : Plane × Nat :=
  let t := f.tset
  let n := f.entered
  if n == 0 || t.cfa == 0xFF then ([], 0)
  else t.front (s.paramsOf f) f.W f.H f.N (f.trunc && Nat.blt n t.obCount) (dpcSites (f.tab 9)) (f.tab 8) f.codes

/-- The component planes that a frame's windows read. -/
def State.compsOf (s : State) (f : Frame) : List Plane :=
  let t := f.tset
  if t.cfa == 0xFF then passPlanes f.dt f.W (nth f.codes 0 [])
  else t.back (s.paramsOf f) f.W f.H f.N (t.stage7 f.W f.N (s.frontOf f).1)

/-- The payload of view v of a closed frame, with its rows and valid rows (R215, R223 to R228). -/
def State.viewOut (s : State) (f : Frame) (v : Nat) : List Nat × Nat × Nat :=
  let c := viewCfg f.cfg.regs f.st v
  let (rows, valid) := viewRows c f.valid f.H
  if c.src == 1 then (rawView c rows valid (f.tset.stage7 f.W f.N (s.frontOf f).1), rows, valid)
  else (renderView (f.tab 7) v c f.W f.N rows valid (s.compsOf f), rows, valid)

/-! ## Zones and bins -/

/-- First index of zone i of n over a length (R127, R238). -/
def zLo (len n i : Nat) : Nat := i * len / n

/-- Positions [lo, hi). -/
def span (lo hi : Nat) : List Nat := (List.range (hi - lo)).map (fun i => lo + i)

/-- Sum and count of the values that a function gives over a zone's sites. -/
def zoneSum (W N zw zh len i j : Nat) (f : Nat → Nat → Option Nat) : Nat × Nat :=
  (span (zLo len zh j) (Nat.min N (zLo len zh (j + 1)))).foldl (fun acc y =>
    (span (zLo W zw i) (zLo W zw (i + 1))).foldl (fun a x => match f x y with
      | some v => (a.1 + v, a.2 + 1)
      | none => a) acc) (0, 0)

/-- floor(sum / count), 0 when there is nothing. -/
def avgOf (p : Nat × Nat) : Nat := if p.2 == 0 then 0 else p.1 / p.2

/-- Position of the highest set bit of a number. -/
def topBit (v : Nat) : Nat := bitLen 64 v - 1

/-- Bin of the sketch histogram (R128). -/
def sketchBin (v : Nat) : Nat :=
  let u := v / 32
  if Nat.blt u 16 then u else let e := topBit u; 16 * (e - 3) + (u >>> (e - 4)) - 16

/-- Bin of a full histogram (R240). -/
def fullBin (v : Nat) : Nat := if Nat.blt v 512 then v / 8 else let e := topBit v; 64 * (e - 8) + (v >>> (e - 6)) - 64

/-- A histogram of n saturating 32-bit bins. -/
def histOf (n : Nat) (vs : List Nat) : List Nat :=
  let t := vs.foldl (fun (t : Tbl Nat) b => tmod t b 0 (fun c => satAdd (2 ^ 32 - 1) c 1)) []
  (List.range n).map (fun b => tget t b 0)

/-! ## The sketch set (R126 to R129) -/

/-- The map entry whose exposure feeds a stream's sketch set. -/
def State.sketchEntry (s : State) (st : Nat) : Option (Nat × Nat) :=
  (s.streamEntries st).find? (fun e => s.flag (Fld.PORT_SKETCH_use e.1 e.2))

/-- The sketch value at a site of a frame, where the site belongs to the sketch channel (R126). -/
def State.sketchAt (s : State) (f : Frame) (x y : Nat) : Option Nat :=
  match s.sketchEntry f.st with
  | none => none
  | some e =>
    let k := s.entExp e.1 e.2
    let t := f.tset
    let dt := f.dt
    let line := nth (nth f.lines k []) y []
    if passDt dt then
      let c := if dt == 0x24 then nth line (3 * x + 1) 0 else nth line (2 * x + 1) 0
      some (c <<< (24 - dtBits dt))
    else
      let c := t.chan x y
      if (t.cfa == 3 && c == 2) || (!(t.cfa == 3) && (c == 1 || c == 2)) then
        some (decompand (nth t.curves k []) (nth line x 0) - s.get (Fld.PORT_SKETCH_black e.1 e.2))
      else none

/-- The sketch sections: 192 averages and 256 bins. -/
def State.sketchBytes (s : State) (f : Frame) : List Nat :=
  let W := f.W
  let H := f.H
  let n := (nth f.lines 0 []).length
  let zones := (List.range 12).flatMap (fun j => (List.range 16).flatMap (fun i =>
    leBytes 4 (avgOf (zoneSum W n 16 12 H i j (s.sketchAt f)))))
  let vals := (List.range n).flatMap (fun y => (List.range W).filterMap (fun x => (s.sketchAt f x y).map sketchBin))
  zones ++ (histOf 256 vals).flatMap (leBytes 4)

/-! ## The full sections (R238 to R242) -/

/-- Whether a channel index is a metering channel (R238). -/
def meters (cfa c : Nat) : Bool := if cfa == 3 then c == 2 else c == 1 || c == 2

/-- The full sections of a frame, and its total of saturated sites. -/
def State.fullBytes (s : State) (f : Frame) : List Nat × Nat :=
  let t := f.tset
  let W := f.W
  let H := f.H
  let n := f.entered
  let p := (s.frontOf f).1
  let short := nth f.lines (t.X - 1) []
  let satCode := bits (regOf f.cfg.regs (Reg.STAT_CFG f.st)) 23 0
  let sat (x y : Nat) : Bool := Nat.ble satCode (pix short x y)
  let zones := (List.range 48).flatMap (fun j => (List.range 64).flatMap (fun i => (List.range 4).flatMap (fun c =>
    leBytes 4 (avgOf (zoneSum W n 64 48 H i j (fun x y => if t.chan x y == c then some (pix p x y) else none))))))
  let sats := (List.range 48).flatMap (fun j => (List.range 64).flatMap (fun i =>
    leBytes 2 (Nat.min 65535 (zoneSum W n 64 48 H i j (fun x y => if sat x y then some 0 else none)).2)))
  let hist := (List.range 4).flatMap (fun c => (histOf 1024 ((List.range n).flatMap (fun y =>
    (List.range W).filterMap (fun x => if t.chan x y == c then some (fullBin (pix p x y)) else none)))).flatMap (leBytes 4))
  let sharp := (List.range 24).flatMap (fun j => (List.range 32).flatMap (fun i =>
    leBytes 4 (Nat.min (2 ^ 24 - 1) (avgOf (zoneSum W n 32 24 H i j (fun x y =>
      if meters t.cfa (t.chan x y) && Nat.ble (x + 2) (W - 1) then
        some (((pix p (x + 2) y : Int) - (pix p x y : Int)).natAbs) else none))))))
  let groups := (f.valid + 3) / 4
  let flick := (List.range 4096).flatMap (fun g =>
    leBytes 4 (if Nat.blt g groups then avgOf ((span (4 * g) (Nat.min n (4 * g + 4))).foldl (fun acc y =>
      (List.range W).foldl (fun a x => if meters t.cfa (t.chan x y) then (a.1 + pix p x y, a.2 + 1) else a) acc) (0, 0)) else 0))
  let total := sumL ((List.range n).map (fun y => ((List.range W).filter (fun x => sat x y)).length))
  (zones ++ sats ++ hist ++ sharp ++ flick, Nat.min (2 ^ 32 - 1) total)

/-- Whether a frame's full sections are present (R244). -/
def Frame.statFull (f : Frame) : Bool := !(passDt f.dt) && !(f.path == 2) && !f.withdrawn

/-- The statistics block of a closed frame (R236, R237). -/
def State.statBlock (s : State) (f : Frame) : List Nat :=
  let full := f.statFull
  let fb := if full then s.fullBytes f else (List.replicate (statBytes - 0x800) 0, 0)
  let flags := b2n full + 2 * b2n f.trunc + 4 * b2n f.withdrawn + 8 * b2n (f.path == 2) + 16 * b2n (passDt f.dt)
  let head := leBytes 2 1 ++ [f.st, 0] ++ leBytes 4 f.num ++ leBytes 4 flags ++ leBytes 2 f.W ++
    leBytes 2 f.H ++ leBytes 2 f.valid ++ leBytes 2 (if full then (f.valid + 3) / 4 else 0) ++ leBytes 4 f.cfg.epoch ++
    leBytes 4 fb.2 ++ leBytes 4 0 ++ s.frameLdg f
  padTo 256 head ++ s.sketchBytes f ++ fb.1

end Sys2Proof.Machine
end

