-- ==== Sys2Proof/Machine/Laws.lean ====
section
/-! DEFINITION. Machine/Laws.lean: host control of ledger fields (R256 to R259), planning of entries (R246 to R249), and the
control laws (R260 to R270). -/

namespace Sys2Proof.Machine

/-! ## Fields of an entry by mask bit (R256, R272) -/

/-- The value of mask bit i in command words. -/
def cmdField (w : List Nat) (i : Nat) : Nat :=
  if i < 4 then nth w i 0
  else if i < 8 then bits (nth w (4 + (i - 4) / 2) 0) (16 * (i % 2) + 15) (16 * (i % 2))
  else if i < 12 then bits (nth w 6 0) (8 * (i - 8) + 7) (8 * (i - 8))
  else if i == 12 then nth w 7 0 % 2 ^ 16
  else if i == 13 then nth w 7 0 / 2 ^ 16
  else if i == 14 then nth w 8 0 + 2 ^ 32 * nth w 9 0
  else if i == 15 then nth w 10 0 % 2 ^ 16
  else nth w 10 0 / 2 ^ 16

/-- Set a field of an entry by its mask bit. -/
def LEntry.setField (e : LEntry) (i v : Nat) : LEntry :=
  if i < 4 then { e with exp := setAt e.exp i v }
  else if i < 8 then { e with gain := setAt e.gain (i - 4) v }
  else if i < 12 then { e with conv := setAt e.conv (i - 8) v }
  else if i == 12 then { e with temp := v }
  else if i == 13 then { e with lscW := v }
  else if i == 14 then { e with wb := (List.range 4).map (fun c => bits v (16 * c + 15) (16 * c)) }
  else if i == 15 then { e with tone := v }
  else { e with alpha := v }

/-- Copy the sensor-side values of one entry into another. -/
def LEntry.sensorFrom (e d : LEntry) : LEntry := { e with exp := d.exp, gain := d.gain, conv := d.conv }

/-- Copy the device-side values of one entry into another. -/
def LEntry.deviceFrom (e d : LEntry) : LEntry :=
  { e with temp := d.temp, lscW := d.lscW, wb := d.wb, tone := d.tone, alpha := d.alpha, grid := d.grid }

/-- The number that an accepted command's place gives it: 1 to 255, never 0 (R256). -/
def cmdNum (ord : Nat) : Nat := if ord == 0 then 0 else (ord - 1) % 255 + 1

/-- Commands in the order in which they apply: by applied frame, then by acceptance (R258). -/
def State.cmdsInOrder (s : State) (st : Nat) : List HostCmd :=
  let x := s.strm st
  sortBy (fun c : HostCmd => sub32 c.at_ (x.last.getD 0)) x.cmds

/-- One command's effect on the table of controlled fields. -/
def hostFold (t : Tbl (Nat × Nat)) (c : HostCmd) : Tbl (Nat × Nat) :=
  (onesOf 17 c.mask).foldl (fun t i => if c.rel then tdel t i else tset t i (cmdField c.vals i, c.ord)) t

/-- Fields under host control at frame F, with the place of the command that set each (R258). -/
def State.hostAt (s : State) (st F : Nat) : Tbl (Nat × Nat) :=
  ((s.cmdsInOrder st).filter (fun c => serGE F c.at_)).foldl hostFold (s.strm st).host

/-- An entry with the laws' values where the host holds none, and the host's where it does (R258). An entry that is sent keeps its
sensor-side values, which the sensor has (R249). -/
def State.hostOver (s : State) (st : Nat) (e : LEntry) : LEntry :=
  let raw := tget (s.strm st).raw e.frame e
  let h := s.hostAt st e.frame
  let sent := bit e.flags efSent
  let base := ((if sent then e else e.sensorFrom raw).deviceFrom raw).unmark efHost
  let e1 := (h.filter (fun x => !sent || Nat.ble 12 x.1)).foldl (fun e x => e.setField x.1 x.2.1) base
  if h.isEmpty then { e1 with cmd := 0 } else { e1.mark efHost with cmd := cmdNum (maxL (h.map (fun x => x.2.2))) }

/-- Set the slipped flag of an entry that a slipped command first reaches (R257). -/
def State.hostSlip (st : Nat) (e : LEntry) (s : State) : LEntry × State :=
  let x := s.strm st
  if x.cmds.any (fun c => c.slip && !c.marked && c.at_ == e.frame) then
    (e.mark efSlipped, s.setStrm st { x with cmds := x.cmds.map (fun c => if c.at_ == e.frame then { c with marked := true } else c) })
  else (e, s)

/-- A write window of an entry was missed before it was planned: it takes its miss flag now (R254). -/
def State.planMiss (st : Nat) (e : LEntry) (s : State) : LEntry × State :=
  let x := s.strm st
  if x.missed.contains e.frame then (e.mark efMiss, s.setStrm st { x with missed := x.missed.filter (fun F => !(F == e.frame)) })
  else (e, s)

/-- Plan an entry: the laws' values change by `g`, the entry's by `g` and then by the host's control (R255, R258). -/
def State.planEntry (st F : Nat) (g : LEntry → LEntry) (s : State) : State :=
  let F := F % 2 ^ 32
  let x := s.strm st
  let raw := g (tget x.raw F (LEntry.blank F))
  let s1 := s.setStrm st { x with raw := tset x.raw F raw }
  let e := g (s1.entryOr st F)
  let (e2, s2) := s1.hostSlip st (s1.hostOver st e)
  let (e3, s3) := s2.planMiss st e2
  s3.putEntry st e3

/-- Host control has changed: every planned entry from frame A on is written anew (R258). -/
def State.hostRefresh (st A : Nat) (s : State) : State :=
  forEach ((tkeys (s.strm st).raw).filter (fun F => serGE F A)) (fun F s => s.planEntry st F id) s

/-! ## Metering (R238, R262) -/

/-- Average of channel index c in full zone z of a statistics block. -/
def zoneAvg (b : List Nat) (z c : Nat) : Nat := leAt b (0x800 + 16 * z + 4 * c) 4

/-- Metering value m of full zone z. -/
def zoneM (cfa : Nat) (b : List Nat) (z : Nat) : Nat :=
  if cfa == 3 then zoneAvg b z 2 else (rndDiv ((zoneAvg b z 1 + zoneAvg b z 2 : Nat) : Int) 2).toNat

/-- Metering cell (i, j) (R262). -/
def meterCell (cfa : Nat) (full : Bool) (b : List Nat) (i j : Nat) : Nat :=
  if full then
    (rndDiv ((sumL ((List.range 4).flatMap (fun y => (List.range 4).map (fun x => zoneM cfa b ((4 * j + y) * 64 + 4 * i + x)))) : Nat) : Int) 16).toNat
  else leAt b (0x100 + 4 * (16 * j + i)) 4

/-- Weight of metering cell n. -/
def meterW (l : List (Nat × Word)) (st n : Nat) : Nat := bits (regOf l (Reg.STAT_AE_W st (n / 4))) (8 * (n % 4) + 7) (8 * (n % 4))

/-- Mw (R262); with every weight 0 the spec states no value. -/
def meterMw (l : List (Nat × Word)) (st cfa : Nat) (full : Bool) (b : List Nat) (draw : Nat) : Nat :=
  let cells := List.range 192
  let wsum := sumL (cells.map (meterW l st))
  if wsum == 0 then Config.openVal draw 0 % 2 ^ 24
  else (rndDiv ((sumL (cells.map (fun n => meterW l st n * meterCell cfa full b (n % 16) (n / 16))) : Nat) : Int) wsum).toNat

/-! ## Automatic exposure (R263, R267) -/

/-- What automatic exposure decides. -/
structure AeOut where
  exp  : List Nat
  gain : List Nat
  conv : List Nat
  atTmax : Bool
  atGmax : Bool
  atTmin : Bool
  deriving DecidableEq, Repr

/-- Flicker period fp of a mode (R267); 0 = none. -/
def flkPeriod (mode lt : Nat) : Nat :=
  if mode == 1 then (rndDiv ((10000000 * 256 : Nat) : Int) lt).toNat
  else if mode == 2 then (rndDiv ((8333333 * 256 : Nat) : Int) lt).toNat
  else 0

/-- Automatic exposure: exposure count, line time, entry N's values, Mw, t_lim and active flicker mode (R263). Exposure
times at or above X are 0 (R250); gains and conversion modes there stay entry N's. -/
def aeLaw (l : List (Nat × Word)) (st X lt exp0 : Nat) (gain0 conv0 : List Nat) (mw : Nat) (tLim : Option Nat) (flk : Nat) : AeOut :=
  let target := fldOf l (Fld.STAT_AE_CTRL_target st) * 256
  let tol := fldOf l (Fld.STAT_AE_CTRL_tol st)
  let damp := fldOf l (Fld.STAT_AE_CTRL_damp st)
  let tMax := fldOf l (Fld.STAT_AE_TMAX_t_max st)
  let gMax := fldOf l (Fld.STAT_AE_LIM_g_max st)
  let tMin0 := fldOf l (Fld.STAT_AE_LIM_t_min st)
  let tMin := if tMin0 == 0 then 256 else tMin0
  let led := if fldOf l (Fld.STAT_FLK_led st) == 1 then (rndDiv ((fldOf l (Fld.STAT_FLK_led_min st) * 256000 : Nat) : Int) lt).toNat else 0
  let q := (rndShift ((exp0 * nth gain0 0 0 : Nat) : Int) 8).toNat
  let qn : Nat :=
    if ((mw : Int) - (target : Int)).natAbs ≤ (rndShift ((target * tol : Nat) : Int) 8).toNat then q
    else ((q : Int) + rndShift ((rndDiv ((q * target : Nat) : Int) (Nat.max mw 1) - (q : Int)) * (damp : Int)) 8).toNat
  let lim := match tLim with
    | some x => Nat.min tMax x
    | none => tMax
  let t0 := Nat.min qn lim
  let fp := flkPeriod flk lt
  let t1 := if !(fp == 0) && Nat.ble fp t0 then t0 / fp * fp else t0
  let t := Nat.max t1 (Nat.max tMin led)
  let g0 := Nat.max (rndDiv ((qn * 256 : Nat) : Int) t).toNat 256
  let g := Nat.min g0 gMax
  let ratio (k : Nat) : Nat :=
    if k == 1 then fldOf l (Fld.STAT_AE_RATIO_A_ratio1 st) else if k == 2 then fldOf l (Fld.STAT_AE_RATIO_A_ratio2 st)
    else fldOf l (Fld.STAT_AE_RATIO_B_ratio3 st)
  let on := fldOf l (Fld.STAT_AE_CONV_conv_on st)
  let c := if !(on == 0) && Nat.ble on g then 1 else if on == 0 || Nat.ble g (fldOf l (Fld.STAT_AE_CONV_conv_off st)) then 0 else nth conv0 0 0
  { exp := (List.range 4).map (fun k => if Nat.ble X k then 0 else if k == 0 then t
      else Nat.max tMin (Nat.max led (rndShift ((t * ratio k : Nat) : Int) 16).toNat))
    gain := (List.range 4).map (fun k => if Nat.ble X k then nth gain0 k 0 else g)
    conv := (List.range 4).map (fun k => if Nat.ble X k then nth conv0 k 0 else c)
    atTmax := Nat.blt lim qn, atGmax := Nat.blt gMax g0, atTmin := Nat.blt t1 (Nat.max tMin led) }

/-! ## White balance, mesh blend, local contrast (R264 to R266) -/

/-- Gains of channels a and b, and the qualifying zones; none = the law holds. -/
def awbLaw (l : List (Nat × Word)) (st cfa : Nat) (b : List Nat) (old : List Nat) : Nat × Option (Nat × Nat) :=
  let cb := if cfa == 3 then 1 else 3
  let low := fldOf l (Fld.STAT_AWB_LUM_low st) * 256
  let high := fldOf l (Fld.STAT_AWB_LUM_high st) * 256
  let bmin := fldOf l (Fld.STAT_AWB_BOX_box_min st)
  let bmax := fldOf l (Fld.STAT_AWB_BOX_box_max st)
  let ok (z : Nat) : Bool :=
    let m := zoneM cfa b z
    let r (c : Nat) : Nat := (rndDiv ((zoneAvg b z c * 4096 : Nat) : Int) (Nat.max m 1)).toNat
    leAt b (0xC800 + 2 * z) 2 == 0 && Nat.ble low m && Nat.ble m high &&
      Nat.ble bmin (r 0) && Nat.ble (r 0) bmax && Nat.ble bmin (r cb) && Nat.ble (r cb) bmax
  let zs := (List.range 3072).filter ok
  let n := zs.length
  if Nat.blt n (fldOf l (Fld.STAT_AWB_CTRL_min_zones st)) then (n, none)
  else
    let sm := sumL (zs.map (zoneM cfa b))
    let gmin := fldOf l (Fld.STAT_AWB_GAIN_gmin st)
    let gmax := fldOf l (Fld.STAT_AWB_GAIN_gmax st)
    let gain (c : Nat) : Nat :=
      let t := Nat.min (Nat.max (rndDiv ((sm * 4096 : Nat) : Int) (Nat.max (sumL (zs.map (fun z => zoneAvg b z c))) 1)).toNat gmin) gmax
      ((nth old c 0 : Int) + rndShift (((t : Int) - (nth old c 0 : Int)) * (fldOf l (Fld.STAT_AWB_CTRL_damp st) : Int)) 8).toNat
    (n, some (gain 0, gain cb))

/-- lsc_w (R265); where the blend range or a gain leaves no quotient the spec states no value. -/
def lscLaw (l : List (Nat × Word)) (st ga gb draw : Nat) : Nat :=
  let qa := fldOf l (Fld.STAT_LSC_Q_qa st)
  let qb := fldOf l (Fld.STAT_LSC_Q_qb st)
  if gb == 0 || Nat.ble qb qa then Config.openVal draw 1 % 257
  else
    let qr := rndDiv ((ga * 4096 : Nat) : Int) gb
    (clampI 0 256 (rndDiv ((qr - (qa : Int)) * 256) (qb - qa))).toNat

/-- The local-contrast grid (R266). -/
def lceLaw (l : List (Nat × Word)) (st cfa : Nat) (b : List Nat) : List Nat :=
  let target := fldOf l (Fld.STAT_LCE_T_target st) * 256
  (List.range 24).flatMap (fun j => (List.range 32).map (fun i =>
    let m := (rndDiv ((sumL ((List.range 2).flatMap (fun y => (List.range 2).map (fun x => zoneM cfa b ((2 * j + y) * 64 + 2 * i + x)))) : Nat) : Int) 4).toNat
    Nat.min (Nat.max (rndDiv ((target * 4096 : Nat) : Int) (Nat.max m 1)).toNat (fldOf l (Fld.STAT_LCE_gmin st))) (fldOf l (Fld.STAT_LCE_gmax st))))

/-! ## Flicker detection (R268) -/

/-- Score of a candidate period in ns. -/
def flkScore (b : List Nat) (groups lt p : Nat) : Nat :=
  let d := (rndDiv (p : Int) (4 * lt)).toNat
  let h := d / 2
  let n := groups - d
  let r (g : Nat) : Nat := leAt b (0x12C00 + 4 * g) 4
  let dif (k : Nat) : Nat := sumL ((List.range n).map (fun g => ((r g : Int) - (r (g + k) : Int)).natAbs))
  if Nat.blt d 2 || Nat.blt n (d + 1) then 0
  else
    let x := dif h
    Nat.min 255 (rndDiv (((x : Int) - (dif d : Int)) * 256) (Nat.max x 1)).toNat

/-- Detection and the switch it makes: active mode, run, scores, and whether it switched. -/
def flkLaw (l : List (Nat × Word)) (st : Nat) (full : Bool) (b : List Nat) (lt active run s50 s60 : Nat) :
    Nat × Nat × Nat × Nat × Bool :=
  let mode := fldOf l (Fld.STAT_FLK_mode st)
  let act := if mode == 3 then (if active == 0 then 1 else active) else mode
  if !full then (act, (if mode == 3 then run else 0), s50, s60, false)
  else
    let groups := leAt b 0x12 2
    let a := flkScore b groups lt 10000000
    let c := flkScore b groups lt 8333333
    let best := if Nat.blt a c then 2 else 1
    let det := if Nat.ble (fldOf l (Fld.STAT_FLK_thresh st)) (Nat.max a c) then best else 0
    let need := let f := fldOf l (Fld.STAT_FLK_frames st); if f == 0 then 4 else f
    if !(mode == 3) then (act, 0, a, c, false)
    else if det == 0 || det == act then (act, 0, a, c, false)
    else if Nat.ble need (run + 1) then (det, 0, a, c, true)
    else (act, run + 1, a, c, false)

/-! ## The laws of one frame (R246 to R248, R260 to R270) -/

/-- The value of a compared setting of entry N as the laws take it (R253). -/
def Frame.seen (f : Frame) (setting k v : Nat) : Nat :=
  match f.reported.find? (fun r => r.1 == setting && r.2.1 == k) with
  | some r => r.2.2
  | none => v

/-- T_f from input 1 (R261); a number outside its format has no stated value. -/
def lawTemp (i : Option Int) (draw : Nat) : Nat :=
  match i with
  | none => 0
  | some t => if t < -32768 || t > 32767 then Config.openVal draw 2 % 65536 else unsgn 16 t

/-- The laws of frame N end: entries N + 1 + k_s and N + 2 are planned, the result is published (R260). A sensor-side set stays
open to them until its frame closes (with k_s = 0 the window that carries it is that of its own frame, R246); a device-side one
until its frame opens (R247). -/
def State.lawsEnd (f : Frame) (s0 : State) : State :=
  let s := s0.draw
  let dr := s0.free
  let st := f.st
  let N := f.num
  let pr := s.frameProf f
  let l := f.cfg.regs
  let b := f.stats.getD []
  let full := bit (leAt b 8 4) 0
  let cfa := f.tset.cfa
  let e := s.frameEntry f
  let F1 := add32 N (1 + pr.ks)
  let F2 := add32 N 2
  let prev1 := s.entryOr st (add32 N pr.ks)
  let prev2 := s.entryOr st (add32 N 1)
  -- flicker detection
  let (act, run, s50, s60, sw) := if f.trunc then
      (s.get (Fld.STAT_FLK_STAT_active st), s.get (Fld.STAT_FLK_STAT_run st), s.get (Fld.STAT_FLK_STAT_score50 st), s.get (Fld.STAT_FLK_STAT_score60 st), false)
    else flkLaw l st full b pr.lineTime (s.get (Fld.STAT_FLK_STAT_active st)) (s.get (Fld.STAT_FLK_STAT_run st))
      (s.get (Fld.STAT_FLK_STAT_score50 st)) (s.get (Fld.STAT_FLK_STAT_score60 st))
  -- automatic exposure
  let aeOn := fldOf l (Fld.STAT_CFG_ae_en st) == 1 && !f.trunc
  let mw := meterMw l st cfa full b dr
  let tLim := match nth f.inputs 0 none with
    | some x => if x ≤ 0 then none else some (rndDiv (x * 256000) pr.lineTime).toNat
    | none => none
  let ae := aeLaw l st pr.exps pr.lineTime (f.seen 1 0 (nth e.exp 0 0))
    ((List.range 4).map (fun k => f.seen 2 k (nth e.gain k 0))) ((List.range 4).map (fun k => f.seen 3 k (nth e.conv k 0))) mw tLim act
  let g1 (x : LEntry) : LEntry :=
    if aeOn then
      let y := { x with exp := ae.exp, gain := ae.gain, conv := ae.conv, src := N }
      if full then y else y.mark efSketch
    else { (x.sensorFrom prev1).mark efHeld with src := 0xFFFFFFFF }
  let fixed (o : Option Nat) (F : Nat) : Bool := o.any (fun y => serGE y F)
  let doneS := fixed (s.strm st).fixS F1
  let doneD := fixed (s.strm st).fixD F2
  let s1 := if doneS then s else s.planEntry st F1 g1
  -- device-side values
  let lceOn := fldOf l (Fld.STAT_CFG_lce_en st) == 1
  let awbOn := fldOf l (Fld.STAT_CFG_awb_en st) == 1 && full && !f.trunc
  let (nz, awb) := if awbOn then awbLaw l st cfa b e.wb else (0, none)
  let wb := match awb with
    | some (ga, gb) => (List.range 4).map (fun c => if c == 0 then ga else if c == (if cfa == 3 then 1 else 3) then gb else 4096)
    | none => prev2.wb
  let lsc := match awb with
    | some (ga, gb) => lscLaw l st ga gb dr
    | none => prev2.lscW
  let grid := if !lceOn then List.replicate 768 4096
    else if f.trunc || !full then s.gridOf st (add32 N 1) else lceLaw l st cfa b
  let tone := fldOf l (Fld.STAT_TONE_tone_gain st)
  let alpha := fldOf l (Fld.STAT_TONE_lce_alpha st)
  let heldD := f.trunc || awb.isNone || (lceOn && !full)
  let g2 (x : LEntry) : LEntry :=
    let y := if f.trunc then { x.deviceFrom prev2 with grid := gridCrc grid }
      else { x with temp := lawTemp (nth f.inputs 1 none) dr, lscW := lsc, wb := wb, tone := tone, alpha := alpha, grid := gridCrc grid }
    if heldD then y.mark efHeld else y
  let s2 := if doneD then s1 else s1.setStrm st { s1.strm st with grids := tset (s1.strm st).grids F2 grid }
  let s3 := if doneD then s2 else s2.planEntry st F2 g2
  let s4 := s3.setStrm st { s3.strm st with
    fixS := if doneS then (s3.strm st).fixS else some F1, fixD := if doneD then (s3.strm st).fixD else some F2 }
  -- registers
  let heldAe := !aeOn
  let aeWord := b2n (aeOn && ae.atTmax) * 2 ^ 31 + b2n (aeOn && ae.atGmax) * 2 ^ 30 + b2n (aeOn && ae.atTmin) * 2 ^ 29 +
    b2n (!full) * 2 ^ 28 + b2n heldAe * 2 ^ 27 + mw % 2 ^ 24
  let s5 := s4.setReg (Reg.STAT_AE_STAT st) (BitVec.ofNat 32 aeWord)
  let s6 := s5.setReg (Reg.STAT_FLK_STAT st) (BitVec.ofNat 32 (act * 2 ^ 30 + run * 2 ^ 24 + s50 * 256 + s60))
  -- the result window
  let p1 := s6.entry st F1
  let p2 := s6.entry st F2
  let w4 := b2n heldAe * 2 ^ 31 + b2n (!full) * 2 ^ 30 + b2n (aeOn && ae.atTmax) * 2 ^ 29 + b2n (aeOn && ae.atGmax) * 2 ^ 28 +
    b2n awb.isNone * 2 ^ 27 + b2n sw * 2 ^ 26 + mw % 2 ^ 24
  let words := [nth p1.exp 0 0, nth p1.gain 0 0 * 2 ^ 16 + nth p1.conv 0 0, nth p2.wb 1 0 * 2 ^ 16 + nth p2.wb 0 0,
    nth p2.wb 3 0 * 2 ^ 16 + nth p2.wb 2 0, w4, nz % 4096 * 2 ^ 16 + act * 2 ^ 12 + p2.lscW % 512,
    leAt (s6.frameLdg f) 60 4, f.cfg.epoch]
  let x := s6.strm st
  let serial := match x.result with
    | some r => r.serial + 1
    | none => 1
  (s6.setStrm st { x with result := some ⟨serial, N, words⟩ }).modFrame st N (fun f => { f with lawed := true })

/-! ## The result window (R269) -/

/-- A read of STAT_s_RES_HEAD by guard domain d: the value and the snapshot taken. -/
def State.resHead (st d : Nat) (s : State) : Nat × State :=
  let x := s.strm st
  match x.result with
  | none => (0, s)
  | some r =>
    let again := match tget? x.snaps d with
      | some p => p.serial == r.serial
      | none => false
    (2 ^ 31 + b2n again * 2 ^ 30 + r.frame % 2 ^ 30, s.setStrm st { x with snaps := tset x.snaps d r })

/-- STAT_s_RES_n as guard domain d reads it. -/
def State.resWord (s : State) (st d n : Nat) : Nat :=
  match tget? (s.strm st).snaps d with
  | some p => nth p.words n 0
  | none => 0

end Sys2Proof.Machine
end

