-- ==== Sys2Proof/Machine/Ledger.lean ====
section
/-! DEFINITION. Machine/Ledger.lean: streams opening and closing (R164, R249), the settings sets of write windows (R144 to
R146, R254), confirmation by embedded data (R252), host commands (R256 to R259). -/

namespace Sys2Proof.Machine

/-! ## Opening a stream (R164, R249, R477) -/

/-- The values of LDG_s_CMD_0 to LDG_s_CMD_10. -/
def State.cmdWords (s : State) (st : Nat) : List Nat := (List.range 11).map (fun n => (s.reg (Reg.LDG_CMD st n)).toNat)

/-- Set every field of a mask from command words. -/
def LEntry.setFields (e : LEntry) (w : List Nat) (mask : Nat) : LEntry :=
  (onesOf 17 mask).foldl (fun e i => e.setField i (cmdField w i)) e

/-- Mask of the sensor-side fields: exposure times at or above X stay 0 (R250). -/
def sensorMask (X : Nat) : Nat := (2 ^ X - 1) + 0xFF0

/-- Mask of the device-side fields. -/
def deviceMask : Nat := 0x1F000

/-- A stream takes the cells of its history, statistics and tables, where it does not hold them yet and so many are free (R274,
R276), and the control island writes its tables. -/
def State.strmCells (st : Nat) (s : State) : State :=
  let s1 := if (s.palOf 4 st).isEmpty then (s.palAllocAll 4 st 3).1 else s
  let s2 := if !(s1.strm st).statCells.isEmpty then s1
    else
      let (t, cs) := s1.palAllocAll 6 st 96
      t.setStrm st { t.strm st with statCells := cs }
  forEach [7, 8, 9] (fun typ s =>
    let p := s.tabPayload typ st
    if p.isEmpty || !(tget (s.strm st).tabCells typ []).isEmpty then s
    else
      let (t, cs) := s.palAllocAll 5 st (cellsFor p.length)
      (t.setStrm st { t.strm st with tabCells := tset (t.strm st).tabCells typ cs }).palWrite cs p) s2

/-- A stream opens: frames of an earlier opening that are still in progress keep what is theirs; counters restart, entries 0 to k_s and the device-side values of entries 0 and 1 come from the command
registers, frames up to k_s take the configuration of this moment (R164, R245, R249). -/
def State.strmOpen (st : Nat) (s : State) : State :=
  let ks := (s.prof st).ks
  let X := (s.prof st).exps
  let w := s.cmdWords st
  let cfg := s.cfgNow st
  let s0 := { s with regs := s.regs.filter (fun e => !(Reg.LDG_E st 0 0 ≤ e.1 && e.1 < Reg.LDG_E st 0 0 + 0x1000)) }
  let s1 := ((((s0.setReg (Reg.STRM_FRAME st) 0).put (Fld.STRM_STAT_moves st) 0).setReg (Reg.STRM_DROP st) 0).setReg
    (Reg.LDG_CNT st) 0).setReg (Reg.LDG_CMD_CTRL st) 0
  let s2 := (((s1.setReg (Reg.LDG_CMD_APPLY st) 0).setReg (Reg.STAT_AE_STAT st) 0).setReg (Reg.STAT_FLK_STAT st) 0x40000000#32).setReg
    (Reg.STAT_CNT st) 0
  let old := s2.strm st
  let s2' : State := { s2 with frames := s2.frames.map (fun (f : Frame) => if f.st == st then { f with prior := true } else f) }
  let s3 := s2'.setStrm st { Strm.init with
    opened := true, broken := old.broken, cfgs := (List.range (ks + 1)).map (fun F => (F, cfg)), fixS := some ks, fixD := some 1
    snaps := old.snaps.map (fun (e : Nat × LawResult) => (e.1, { e.2 with serial := 0 }))
    store := old.store, lostCells := old.lostCells, tabCells := old.tabCells, statCells := old.statCells }
  let g := gridCrc (List.replicate 768 4096)
  let s4 := forEach (List.range (Nat.max (ks + 1) 2)) (fun F s => s.planEntry st F (fun e =>
    let a := if Nat.ble F ks then e.setFields w (sensorMask X) else e
    if F ≤ 1 then { a.setFields w deviceMask with grid := g } else a)) s3
  s4.strmCells st

/-- A stream is not open and has no work left that needs its history, statistics or tables: their cells are freed (R274), those that a
broken line store lost among them (R281). -/
def State.strmSweep (st : Nat) (s : State) : State :=
  let x := s.strm st
  if x.opened || s.strokes.any (fun k => k.st == st) || s.frames.any (fun f => f.st == st && !f.lawed) then s
  else
    let s1 := (((s.palFreeOwner 4 st).palFreeOwner 6 st).palFreeOwner 5 st).palFree x.lostCells
    s1.setStrm st { x with tabCells := [], statCells := [], broken := false, lostCells := [] }

/-- A stream closes (R164). Its line store is freed as its last strokes end. -/
def State.strmClose (st : Nat) (s : State) : State :=
  s.setStrm st { s.strm st with opened := false, closing := false, again := false }

/-! ## The settings sets (R144, R246, R249, R254) -/

/-- Bytes of one setting-map entry for a ledger value, in the order in which they are sent (R141, R252). -/
def mapBytes (m : MapField) (v : Nat) : List Nat :=
  let x := (v >>> m.shift) % 2 ^ (8 * m.width)
  if m.msb then beBytes m.width x else leBytes m.width x

/-- The ledger's value of a setting code and exposure. -/
def LEntry.setting (e : LEntry) (setting k : Nat) : Nat :=
  if setting == 1 then nth e.exp k 0 else if setting == 2 then nth e.gain k 0 else nth e.conv k 0

/-- The writes of a settings set in order (R144). -/
def State.settingWrites (s : State) (st F : Nat) : List (Nat × List Nat) :=
  let pr := s.prof st
  let e := s.entry st F
  let body := pr.sets.map (fun m => (m.addr, mapBytes m (e.setting m.setting m.exp)))
  if pr.groupHold then (pr.holdReg, [pr.holdOn]) :: body ++ [(pr.holdReg, [pr.holdOff])] else body

/-- The frame whose entry gives the settings of step 5 of R136 or of step 3 of R124: the last one confirmed or sent. -/
def State.ldgBase (s : State) (st : Nat) : Nat :=
  match (s.strm st).last with
  | none => 0
  | some L =>
    let top := add32 L ((s.prof st).ks + 1)
    let cand := (List.range 64).map (fun i => sub32 top i)
    (cand.find? (fun F => s.hasEntry st F && (bit (s.entry st F).flags efSent || bit (s.entry st F).flags efConfirmed))).getD L

/-- Whether the settings set that governs frame F is ready: the laws or the opening have fixed it (R144, R246). -/
def State.ldgReady (s : State) (st F : Nat) : Bool :=
  s.hasEntry st F && (match (s.strm st).fixS with
    | some x => serGE x F
    | none => false)

/-- A settings set has been written (R251). -/
def State.ldgSent (st F : Nat) (s : State) : State := s.modEntry st F (fun e => (e.mark efSent).unmark efMiss)

/-- A write window was missed: its entry keeps sent clear, at its planning where it is not planned yet (R254). -/
def State.ldgMissed (st F : Nat) (s : State) : State :=
  if !s.hasEntry st F then s.setStrm st { s.strm st with missed := (s.strm st).missed ++ [F % 2 ^ 32] }
  else if bit (s.entryOr st F).flags efSent then s.modEntry st F (fun e => (e.mark efMiss).unmark efSent)
  else s.modEntry st F (fun e => e.mark efMiss)

/-- Step 5 of R136 has written the initial settings: entries 0 to k_s become sent (R249). -/
def State.ldgInitSent (st : Nat) (s : State) : State :=
  if (s.strm st).last.isSome then s
  else forEach (List.range ((s.prof st).ks + 1)) (fun F s => s.ldgSent st F) s

/-- Step 3 of R124 has written settings: they bind the first frame after the loss and the k_s after it (R125, R249). -/
def State.ldgKeep (st F : Nat) (s : State) : State :=
  let e := s.entry st F
  s.setStrm st { s.strm st with resent := some (e.exp, e.gain, e.conv) }

/-- The first frame after a re-initialisation opens: entries F to F + k_s take what step 3 wrote (R249). -/
def State.ldgResent (st F : Nat) (s : State) : State :=
  match (s.strm st).resent with
  | none => s
  | some (x, g, c) =>
    let ks := (s.prof st).ks
    let s1 := s.setStrm st { s.strm st with resent := none, fixS := some (add32 F ks) }
    let sent (e : LEntry) : LEntry := ({ (e.unmark efMiss) with exp := x, gain := g, conv := c, src := 0xFFFFFFFF }).mark efSent
    forEach (List.range (ks + 1)) (fun i s => (s.planEntry st (add32 F i) sent).modEntry st (add32 F i) sent) s1

/-! ## Confirmation (R252, R253) -/

/-- Read an embedded-data field, shifted to the ledger's unit (R141). -/
def edRead (m : MapField) (bytes : List Nat) : Option Nat :=
  if Nat.blt bytes.length (m.addr + m.width) then none
  else
    let b := slice bytes m.addr m.width
    some ((if m.msb then beVal b else leVal b) <<< m.shift)

/-- The fields that R252 compares. -/
def Profile.compared (p : Profile) : List MapField := p.eds.filter (fun m => m.setting == 1 || m.setting == 2 || m.setting == 3)

/-- The frame's first embedded-data packet is compared with its entry: a field that differs sets mismatch, a field that the
payload does not reach sets no_ed, and with neither the entry is confirmed (R252). -/
def State.ldgConfirm (st F : Nat) (bytes : List Nat) (s : State) : State :=
  let pr := s.prof st
  let e := s.entryOr st F
  let rs := pr.compared.map (fun m => (m, edRead m bytes))
  let want (m : MapField) : Nat := ((e.setting m.setting m.exp >>> m.shift) % 2 ^ (8 * m.width)) <<< m.shift
  let got := rs.filterMap (fun r => match r.2 with
    | some v => some (r.1, v)
    | none => none)
  let s1 := if rs.any (fun r => r.2.isNone) then s.modEntry st F (fun e => e.mark efNoEd) else s
  if got.any (fun r => !(r.2 == want r.1)) then
    (s1.modFrame st F (fun f => { f with reported := got.map (fun r => (r.1.setting, r.1.exp, r.2)) })).modEntry st F
      (fun e => e.mark efMismatch)
  else if rs.any (fun r => r.2.isNone) then s1
  else s1.modEntry st F (fun e => e.mark efConfirmed)

/-! ## Host commands (R256 to R259) -/

/-- The earliest feasible frame of a stream (R245). -/
def State.earliest (s : State) (st : Nat) : Nat :=
  let ks := (s.prof st).ks
  match (s.strm st).last with
  | some L => add32 L (2 + ks)
  | none => 1 + ks

/-- Whether a target frame has passed (R245). -/
def State.passed (s : State) (st F : Nat) : Bool := Nat.ble (2 ^ 31) (sub32 F (s.earliest st))

/-- The reason for which a command is refused, 0 = accepted (R259). -/
def State.cmdReason (s : State) (owns : Bool) (st : Nat) (rel : Bool) : Nat :=
  let x := s.strm st
  let mask := (s.reg (Reg.LDG_CMD_MASK st)).toNat % 2 ^ 17
  let w := s.cmdWords st
  let beyond := (List.range 4).any (fun k => Nat.ble (s.prof st).exps k && (bit mask k || bit mask (4 + k) || bit mask (8 + k)))
  let bad := (List.range 4).any (fun k => (bit mask k && cmdField w k == 0) || (bit mask (4 + k) && Nat.blt (cmdField w (4 + k)) 256)) ||
    (bit mask 13 && Nat.blt 256 (cmdField w 13)) || (bit mask 16 && Nat.blt 256 (cmdField w 16))
  if !owns then 0x22
  else if Nat.ble 4 x.cmds.length then 0x50
  else if mask == 0 || beyond then 0x51
  else if !x.opened then 0x52
  else if !rel && bad then 0x53
  else 0

/-- LDG_s_CMD_CTRL.op (R256 to R259). -/
def State.ldgCmd (owns : Bool) (st : Nat) (rel : Bool) (s : State) : State :=
  let why := s.cmdReason owns st rel
  if !(why == 0) then s.put (Fld.LDG_CMD_CTRL_reason st) why
  else
    let x := s.strm st
    let F := (s.reg (Reg.LDG_CMD_FRAME st)).toNat
    let slip := s.passed st F
    let A := if slip then s.earliest st else F
    let c : HostCmd := ⟨x.num + 1, A, rel, (s.reg (Reg.LDG_CMD_MASK st)).toNat % 2 ^ 17, s.cmdWords st, slip, false⟩
    let s1 := s.setStrm st { x with num := x.num + 1, cmds := x.cmds ++ [c] }
    let s2 := (((s1.put (Fld.LDG_CMD_CTRL_reason st) 0).put (Fld.LDG_CMD_CTRL_pending st) (x.cmds.length + 1)).put
      (Fld.LDG_CMD_CTRL_seq st) (cmdNum (x.num + 1))).put (Fld.LDG_CMD_CTRL_slipped st) (b2n slip)
    let s3 := if slip then s2.bump (Fld.LDG_CNT_slipped st) else s2
    (s3.setReg (Reg.LDG_CMD_APPLY st) (BitVec.ofNat 32 A)).hostRefresh st A

/-- Frame F opens: commands that apply up to it are no longer pending and become standing control (R258). -/
def State.ldgPrune (st F : Nat) (s : State) : State :=
  let x := s.strm st
  let due := (s.cmdsInOrder st).filter (fun c => serGE F c.at_)
  let s1 := s.setStrm st { x with
    host := due.foldl hostFold x.host, cmds := x.cmds.filter (fun c => !serGE F c.at_)
    raw := x.raw.filter (fun e => serGE e.1 F), grids := x.grids.filter (fun e => serGE e.1 (sub32 F 64)) }
  s1.put (Fld.LDG_CMD_CTRL_pending st) (s1.strm st).cmds.length

/-! ## The entry at its frame's opening and close (R247, R255) -/

/-- Whether the sensor-side values of entry F are fixed (R246). -/
def State.fixedS (s : State) (st F : Nat) : Bool := (s.strm st).fixS.any (fun y => serGE y F)

/-- Frame F opens: device-side values freeze; those not fixed are taken from the entry before, late (R247). Sensor-side values
that no laws have fixed are those of the entry before until the laws fix them (R246, R248). -/
def State.ldgFreeze (st F : Nat) (s : State) : State :=
  let x := s.strm st
  let prev := s.entryOr st (sub32 F 1)
  let s1 := if s.fixedS st F then s
    else s.planEntry st F (fun e => { (e.sensorFrom prev) with src := 0xFFFFFFFF })
  if x.fixD.any (fun y => serGE y F) then s1
  else
    let g := s1.gridOf st (sub32 F 1)
    let s2 := s1.setStrm st { s1.strm st with grids := tset (s1.strm st).grids (F % 2 ^ 32) g, fixD := some F }
    (s2.planEntry st F (fun e => (e.deviceFrom prev).mark efLate)).bump (Fld.LDG_CNT_late st)

/-- Frame F closes: without embedded data it is no_ed where the profile confirms; a truncated frame is void (R252, R120).
Sensor-side values that no laws fixed by then are held (R248). -/
def State.ldgClose (st F : Nat) (edSeen trunc : Bool) (s0 : State) : State :=
  let s := if s0.fixedS st F then s0
    else (s0.modEntry st F (fun e => e.mark efHeld)).setStrm st { (s0.modEntry st F (fun e => e.mark efHeld)).strm st with fixS := some F }
  let s1 := if (s.prof st).edConfirm && !edSeen then s.modEntry st F (fun e => e.mark efNoEd) else s
  if trunc then s1.modEntry st F (fun e => e.mark efVoid) else s1

end Sys2Proof.Machine
end

