-- ==== Sys2Proof/Machine/Sensor.lean ====
section
/-! DEFINITION. Machine/Sensor.lean: the control channels: initialisation, transfers with retries and back-off, write
windows, interrupts, the mailbox, read-backs (R133 to R149, R161). -/

namespace Sys2Proof.Machine

/-! ## Targets -/

/-- Whether channel p is enabled; else it sends no traffic (R135). -/
def State.chanOn (s : State) (p : Nat) : Bool := s.flag (Fld.SC_CFG_enable p)

/-- Whether target k of channel p is enabled. -/
def State.tgtOn (s : State) (p k : Nat) : Bool := s.flag (Fld.SC_TGT_enable p k)

/-- Whether target k is an auxiliary target (R135). -/
def State.tgtAux (s : State) (p k : Nat) : Bool := s.flag (Fld.SC_TGT_aux p k)

/-- The profile number of a target (R135). -/
def State.tgtProf (s : State) (p k : Nat) : Nat :=
  if s.tgtAux p k then s.get (Fld.SC_TGT_profile p k) else s.get (Fld.STRM_CFG_profile (s.get (Fld.SC_TGT_stream p k)))

/-- The bound target of a stream on channel p. -/
def State.boundTgt (s : State) (p st : Nat) : Option Nat :=
  (List.range 4).find? (fun k => s.tgtOn p k && !s.tgtAux p k && s.get (Fld.SC_TGT_stream p k) == st)

/-- Whether a stream's sensor has completed its initialisation (R137). -/
def State.targetReady (s : State) (p st : Nat) : Bool :=
  match s.boundTgt p st with
  | none => false
  | some k => bit (s.chan p).ready k

/-- Enabled targets of a channel, as a mask. -/
def State.tgtMask (s : State) (p : Nat) : Nat := maskOf ((List.range 4).filter (s.tgtOn p))

/-- Bit k of SC_p_STAT.init_fail. -/
def fInitFail (p k : Nat) : Fld := ⟨Reg.SC_STAT p, k, k⟩

/-- Whether the sensor of target k of channel p is being re-initialised (R124). -/
def State.tgtReinit (s : State) (p k : Nat) : Bool :=
  !s.tgtAux p k && (s.streamEntries (s.get (Fld.SC_TGT_stream p k))).any (fun e => s.flag (fReinit e.1 e.2))

/-! ## Jobs and transfers -/

/-- The settings set in hand for target k of channel p. -/
def State.planOf (s : State) (p k : Nat) : Option SetPlan := (s.chan p).plans.find? (fun pl => pl.k == k)

/-- Drop the settings set of a target. -/
def State.dropPlan (p k : Nat) (s : State) : State :=
  s.setChan p { s.chan p with plans := (s.chan p).plans.filter (fun pl => !(pl.k == k)) }

/-- Put a settings set for its target in place of an older one. -/
def State.addPlan (p : Nat) (pl : SetPlan) (s : State) : State :=
  let s1 := s.dropPlan p pl.k
  s1.setChan p { s1.chan p with plans := (s1.chan p).plans ++ [pl] }

/-- The target a job works on, if any. -/
def Job.target : Job → Option Nat
  | .setdasa k | .init k _ | .settings k _ _ | .standby k _ | .wake k _ | .readback k _ _ | .fix k _ | .swr k _ _ => some k
  | _ => none

/-- The operations of a sequence job (R86, R143). -/
def State.jobOps (s : State) (p : Nat) : Job → List (List Nat)
  | .init k _ => s.initOps (s.tgtProf p k)
  | .standby k _ => (s.profile (s.tgtProf p k)).standby
  | .wake k _ => (s.profile (s.tgtProf p k)).wake
  | _ => []

/-- The operation number of a sequence job. -/
def Job.opNo : Job → Nat
  | .init _ o | .standby _ o | .wake _ o => o
  | _ => 0

/-- The job with another operation number. -/
def Job.atOp : Job → Nat → Job
  | .init k _, o => .init k o
  | .standby k _, o => .standby k o
  | .wake k _, o => .wake k o
  | j, _ => j

/-- Data bytes of an operation in the order of the wire (R87). -/
def wireBytes (lsb : Bool) (n v : Nat) : List Nat := if lsb then leBytes n v else beBytes n v

/-- Replace the job of a channel. -/
def State.setJob (p : Nat) (j : Option Job) (w : JobWait) (s : State) : State :=
  s.setChan p { s.chan p with job := j, wait := w, nacks := 0, backs := 0 }

/-- Whether target k uses I3C (R140). -/
def State.tgtI3c (s : State) (p k : Nat) : Bool := (s.profile (s.tgtProf p k)).bus == 1

/-- Whether channel p has an I3C target, and so an I3C bus. -/
def State.busI3c (s : State) (p : Nat) : Bool := (List.range 4).any (fun k => s.tgtOn p k && s.tgtI3c p k)

/-- A write to a target: the register address in the profile's reg_bytes bytes, most significant first, then data (R87). -/
def State.sendWrite (p k reg : Nat) (bytes : List Nat) (s : State) : State :=
  s.emit (.sensor p (s.get (Fld.SC_TGT_addr p k)) false (beBytes (s.profile (s.tgtProf p k)).regBytes reg) bytes 0)

/-- A read of n bytes from a target (R87). -/
def State.sendRead (p k reg n : Nat) (s : State) : State :=
  s.emit (.sensor p (s.get (Fld.SC_TGT_addr p k)) true (beBytes (s.profile (s.tgtProf p k)).regBytes reg) [] n)

/-- Launch the transfer of a job (R87, R136, R144, R161, R403). -/
def State.launch (p : Nat) (j : Job) (s : State) : State :=
  match j with
  | .busClear => s.emit (.busClear p (s.busI3c p))
  | .disec => s.emit (.ccc p 0x01 none)
  | .setdasa k => s.emit (.ccc p 0x87 (some (s.get (Fld.SC_TGT_addr p k), s.get (Fld.SC_TGT_addr p k))))
  | .init k o | .standby k o | .wake k o =>
    let op := nth (s.jobOps p j) o []
    let n := nth op 1 0 % 8
    let lsb := bit (nth op 1 0) 7
    if nth op 0 0 == 1 then s.sendWrite p k (leAt op 2 2) (wireBytes lsb n (leAt op 4 4)) else s.sendRead p k (leAt op 2 2) n
  | .settings k i _ =>
    match s.planOf p k with
    | none => s
    | some pl =>
      let w := nth pl.writes i (0, [])
      s.sendWrite p k w.1 w.2
  | .mailbox =>
    match (s.chan p).mail with
    | none => s
    | some m => if m.rd then s.sendRead p m.tgt m.reg m.width else s.sendWrite p m.tgt m.reg (wireBytes m.lsb m.width m.data)
  | .readback k i _ =>
    let c := nth (s.profile (s.cenProf p k)).census i (0, 0)
    s.sendRead p k c.1 c.2
  | .fix k i =>
    let w := nth (tget (s.chan p).fixes k []) i (0, [])
    s.sendWrite p k w.1 w.2
  | .swr k sig v =>
    s.sendWrite p k (s.get (Fld.SIG_DEF_ROUTE_swr_reg sig)) (beBytes
      (if s.flag (Fld.SIG_DEF_ROUTE_swr_wide sig) then 2 else 1) v)

/-- Start a sequence operation: GPIO operations are launched and passed over, a DELAY waits, WRITE and EXPECT are
transfers (R86); none = the sequence has ended. -/
def State.seqFrom (p : Nat) (j : Job) : Nat → Nat → State → State × Option Job
  | 0, _, s => (s, none)
  | n + 1, o, s =>
    match (s.jobOps p j)[o]? with
    | none => (s, none)
    | some op =>
      if opGpio op then State.seqFrom p j n (o + 1) (s.emit (.tunnel p (nth op 1 0) (leAt op 4 4 == 1)))
      else
        let j' := j.atOp o
        if nth op 0 0 == 3 then (s.setJob p (some j') .delay, some j')
        else ((s.setJob p (some j') .transfer).launch p j', some j')

/-- Whether channel p is stuck (R138). -/
def State.stuck (s : State) (p : Nat) : Bool := s.flag (Fld.SC_STAT_stuck p)

/-- Whether every channel has ended its first attempt (R139). -/
def State.firstDone (s : State) : Bool :=
  (List.range 24).all (fun p => !s.chanOn p || (s.chan p).firstEnd)

/-- Note that a target completed step 5 or failed once (R139). -/
def State.noteTried (p k : Nat) (s : State) : State :=
  let c := s.chan p
  let t := c.tried ||| (1 <<< k)
  s.setChan p { c with tried := t, firstEnd := c.firstEnd || (t &&& s.tgtMask p) == s.tgtMask p }

/-- Whether a job carries the settings set of target k's write window (R144). -/
def Job.isWindow (k : Nat) : Job → Bool
  | .settings j _ true => j == k
  | _ => false

/-- Whether a job belongs to an attempt to initialise target k (R124, R136). -/
def Job.isAttempt (k : Nat) : Job → Bool
  | .setdasa j | .init j _ | .settings j _ false | .readback j _ true => j == k
  | _ => false

/-- Whether the settings set of a target's write window is in hand or waits. -/
def State.winSet (s : State) (p k : Nat) : Bool :=
  (s.chan p).todo.any (Job.isWindow k) || (s.chan p).job.any (Job.isWindow k)

/-- A sequence of a target failed (R137). -/
def State.seqBad (p k : Nat) (s : State) : State := (s.put (fInitFail p k) 1).raise (evTime 10)

/-- A sequence, the initial settings or a read-back of target k failed (R124, R137): its attempt ends, and no job of it is left; a
settings set of its write window waits on. -/
def State.seqFail (p k : Nat) (s : State) : State :=
  let c := s.chan p
  let s1 := s.setChan p { c with
    todo := c.todo.filter (fun j => !j.isAttempt k)
    plans := if s.winSet p k then c.plans else c.plans.filter (fun pl => !(pl.k == k)) }
  (s1.seqBad p k).noteTried p k

/-- A standby or wake sequence of target k ends (R143): SC_p_STAT.init_fail shows a sequence that failed and has not succeeded yet
(R161). -/
def State.sleepSeq (p k : Nat) (wake ok : Bool) (s : State) : State :=
  let c := s.chan p
  let set (m : Nat) : Nat := if ok then m &&& (15 - (1 <<< k)) else m ||| (1 <<< k)
  let c1 := if wake then { c with badWk := set c.badWk } else { c with badSb := set c.badSb }
  let s1 := s.setChan p c1
  if !ok then s1.seqBad p k
  else if bit c.ready k && !bit c1.badSb k && !bit c1.badWk k then s1.put (fInitFail p k) 0
  else s1

/-- The initial settings set, or that of step 3 of R124, as a plan. -/
def State.fullSet (p k : Nat) (s : State) : SetPlan :=
  let st := s.get (Fld.SC_TGT_stream p k)
  let f := s.ldgBase st
  ⟨k, st, f, s.settingWrites st f⟩

/-- The job in hand has ended and left no follow-up of its own. -/
def State.jobFree (p : Nat) (s : State) : State := s.setJob p none .transfer

/-- A mailbox transfer ends with a result (R161). -/
def State.mailDone (p res : Nat) (data : Option Nat) (s : State) : State :=
  let s1 := s.setChan p { s.chan p with mail := none }
  let s2 := ((s1.put (Fld.SC_XFER_go p) 0).put (Fld.SC_XFER_result p) res).raise (evTime 13)
  match data with
  | none => s2
  | some v => s2.put (Fld.SC_XDATA_data p) v

/-- A target's initialisation has succeeded (R136 step 5, R137). -/
def State.tgtDone (p k : Nat) (s : State) : State :=
  let s0 := if s.tgtAux p k || s.tgtReinit p k then s else s.ldgInitSent (s.get (Fld.SC_TGT_stream p k))
  let c := s0.chan p
  let s1 := s0.setChan p { c with
    ready := c.ready ||| (1 <<< k), badSb := c.badSb &&& (15 - (1 <<< k)), badWk := c.badWk &&& (15 - (1 <<< k)) }
  (s1.put (fInitFail p k) 0).noteTried p k

/-- A write window closed without its set: the set in hand is dropped, the ledger records the miss (R145, R254). -/
def State.windowMiss (p k st frame : Nat) (s0 : State) : State :=
  let s := s0.dropPlan p k
  let c := s.chan p
  let s1 := s.setChan p { c with
    winDone := c.winDone ||| (1 <<< k)
    todo := c.todo.filter (fun j => !j.isWindow k) }
  (s1.raise (evTime 7)).ldgMissed st frame

/-- A job fails for good: its consequence by what it was (R136, R137, R145, R161, R404). DESIGN CHOICE (log 113): a failed DISEC or
SETDASA of step 2 ends the attempt as a failed sequence does, with init_fail, its event and a retry. -/
def State.jobFail (p : Nat) (j : Job) (res : Nat) (s : State) : State :=
  let s1 := s.jobFree p
  match j with
  | .busClear => s1
  | .disec => forEach ((List.range 4).filter (fun k => s1.tgtOn p k && s1.tgtI3c p k)) (State.seqFail p) s1
  | .setdasa k => s1.seqFail p k
  | .init k _ => s1.seqFail p k
  | .standby k _ => s1.sleepSeq p k false false
  | .wake k _ => s1.sleepSeq p k true false
  | .settings k _ false => (s1.dropPlan p k).seqFail p k
  | .settings k _ true =>
    match s1.planOf p k with
    | some pl => s1.windowMiss p k pl.stream pl.frame
    | none => s1
  | .mailbox => s1.mailDone p res none
  | .readback k _ reinit =>
    let s2 := (s1.setChan p { s1.chan p with rb := tdel (s1.chan p).rb k }).raise (evSafe 4)
    if reinit then s2.seqFail p k else s2
  | .fix k _ => s1.repairFail (sensorSet p k)
  | .swr _ _ _ => s1.raise (evSig 19)

/-- A job placed behind the last waiting initialisation sequence: step 5 of R136 follows every step 4. -/
def afterInits (j : Job) : List Job → List Job
  | [] => [j]
  | x :: xs =>
    if (x :: xs).any (fun y => match y with
      | .init _ _ => true
      | _ => false) then x :: afterInits j xs else j :: x :: xs

/-- What follows a job's completed sequence or set. -/
def State.jobEnd (p : Nat) (j : Job) (s : State) : State :=
  match j with
  | .init k _ =>
    if s.tgtAux p k then (s.jobFree p).tgtDone p k
    else
      let pl := s.fullSet p k
      let s1 := (if s.tgtReinit p k then s.ldgKeep pl.stream pl.frame else s).addPlan p pl
      if pl.writes.isEmpty then ((s1.dropPlan p k).jobFree p).tgtDone p k
      else
        let s2 := s1.jobFree p
        s2.setChan p { s2.chan p with todo := afterInits (.settings k 0 false) (s2.chan p).todo }
  | .settings k _ false =>
    let s1 := (s.jobFree p).dropPlan p k
    if s.tgtReinit p k then
      if (s.profile (s.cenProf p k)).census.isEmpty then s1.tgtDone p k
      else
        let s2 := s1.cenBegin (sensorSet p k)
        s2.setChan p { s2.chan p with rb := tdel (s2.chan p).rb k, todo := .readback k 0 true :: (s2.chan p).todo }
    else s1.tgtDone p k
  | .settings k _ true =>
    match s.planOf p k with
    | none => s.jobFree p
    | some pl => ((s.jobFree p).dropPlan p k).ldgSent pl.stream pl.frame
  | .readback k _ reinit =>
    let bytes := tget (s.chan p).rb k []
    let again := bit (s.chan p).recheck k
    let s0 := s.jobFree p
    let s1 := s0.setChan p { s0.chan p with rb := tdel (s0.chan p).rb k, recheck := (s0.chan p).recheck &&& (15 - (1 <<< k)) }
    let (ok, wr, s2) := s1.sensorCheck p k (s.cenProf p k) bytes again
    if reinit then (if ok then s2.tgtDone p k else s2.seqFail p k)
    else if wr.isEmpty then s2
    else s2.setChan p { s2.chan p with fixes := tset (s2.chan p).fixes k wr, todo := .fix k 0 :: (s2.chan p).todo }
  | .fix k _ =>
    let s1 := (s.jobFree p).cenBegin (sensorSet p k)
    s1.setChan p { s1.chan p with
      fixes := tdel (s1.chan p).fixes k, recheck := (s1.chan p).recheck ||| (1 <<< k), rb := tdel (s1.chan p).rb k
      todo := .readback k 0 false :: (s1.chan p).todo }
  | .swr _ sig v => { s.jobFree p with sig := { s.sig with swr := tset s.sig.swr sig v } }
  | .standby k _ => (s.jobFree p).sleepSeq p k false true
  | .wake k _ => (s.jobFree p).sleepSeq p k true true
  | _ => s.jobFree p

/-- Whether a job runs only outside write windows (R146). -/
def Job.outside : Job → Bool
  | .mailbox | .readback _ _ _ | .fix _ _ | .swr _ _ _ => true
  | _ => false

/-- The first job of a list that may start, and the rest of the list. -/
def firstJob (winOpen : Bool) : List Job → Option (Job × List Job)
  | [] => none
  | j :: js =>
    if winOpen && j.outside then (firstJob winOpen js).map (fun r => (r.1, j :: r.2)) else some (j, js)

/-- Start the next waiting job of a channel that is free (R136, R144, R146): nothing goes out before the channel has started, so that
the bus clear and the DISEC of its start come first (R134, R138). -/
def State.chanNext (p : Nat) : Nat → State → State
  | 0, s => s
  | n + 1, s =>
    let c := s.chan p
    if c.job.isSome || !s.chanOn p || !c.started then s
    else
      match firstJob (!(c.winOpen == 0)) c.todo with
      | none => s
      | some (j, rest) =>
        let s1 := s.setChan p { c with todo := rest }
        if s.stuck p && !(j == .busClear) then State.chanNext p n (s1.jobFail p j 3)
        else
          match j with
          | .init _ _ | .standby _ _ | .wake _ _ =>
            let (s2, r) := State.seqFrom p j 1100 0 s1
            (match r with
             | some _ => s2
             | none => State.chanNext p n (s2.jobEnd p j))
          | _ => (s1.setJob p (some j) .transfer).launch p j

/-- Let a channel go on. -/
def State.chanGo (p : Nat) (s : State) : State := State.chanNext p 64 s

/-- Add a job at the end of a channel's list, and go on. -/
def State.chanAdd (p : Nat) (j : Job) (s : State) : State :=
  (s.setChan p { s.chan p with todo := (s.chan p).todo ++ [j] }).chanGo p

/-- Add a job before the waiting ones. -/
def State.chanFirst (p : Nat) (j : Job) (s : State) : State :=
  (s.setChan p { s.chan p with todo := j :: (s.chan p).todo }).chanGo p

/-- Whether an EXPECT operation is met by the bytes read (R86, R87, R137). -/
def expectOk (op bytes : List Nat) : Bool :=
  let v := if bit (nth op 1 0) 7 then leVal bytes else beVal bytes
  let e := leAt op 4 2
  let m := leAt op 6 2
  (v &&& m) == (e &&& m)

/-- A transfer of the job in hand has completed (R87). -/
def State.xferOk (p : Nat) (bytes : List Nat) (s : State) : State :=
  match (s.chan p).job with
  | none => s
  | some j =>
    match j with
    | .busClear => ((s.put (Fld.SC_STAT_stuck p) 0).jobFree p).chanGo p
    | .disec => (s.jobFree p).chanGo p
    | .setdasa k =>
      let s1 := s.jobFree p
      (s1.setChan p { s1.chan p with dasa := (s1.chan p).dasa ||| (1 <<< k) }).chanGo p
    | .init _ o | .standby _ o | .wake _ o =>
      let op := nth (s.jobOps p j) o []
      if nth op 0 0 == 2 && !expectOk op bytes then (s.jobFail p j 0).chanGo p
      else
        let (s1, r) := State.seqFrom p j 1100 (o + 1) s
        (match r with
         | some _ => s1
         | none => (s1.jobEnd p j).chanGo p)
    | .settings k i w =>
      match s.planOf p k with
      | none => (s.jobFree p).chanGo p
      | some pl =>
        if Nat.blt (i + 1) pl.writes.length then
          (s.setJob p (some (.settings k (i + 1) w)) .transfer).launch p (.settings k (i + 1) w)
        else (s.jobEnd p j).chanGo p
    | .mailbox =>
      match (s.chan p).mail with
      | none => (s.jobFree p).chanGo p
      | some m =>
        ((s.jobFree p).mailDone p 0 (if m.rd then some (if m.lsb then leVal bytes else beVal bytes) else none)).chanGo p
    | .readback k i re =>
      let s1 := s.setChan p { s.chan p with rb := tset (s.chan p).rb k (tget (s.chan p).rb k [] ++ bytes) }
      if Nat.blt (i + 1) (s.profile (s.cenProf p k)).census.length then
        let s2 := s1.jobFree p
        (s2.setChan p { s2.chan p with todo := .readback k (i + 1) re :: (s2.chan p).todo }).chanGo p
      else (s1.jobEnd p (.readback k i re)).chanGo p
    | .fix k i =>
      if Nat.blt (i + 1) (tget (s.chan p).fixes k []).length then
        let s1 := s.jobFree p
        (s1.setChan p { s1.chan p with todo := .fix k (i + 1) :: (s1.chan p).todo }).chanGo p
      else (s.jobEnd p (.fix k i)).chanGo p
    | .swr _ _ _ => (s.jobEnd p j).chanGo p

/-- A transfer was not acknowledged: retried after 10 µs, or failed (R148). -/
def State.xferNack (p : Nat) (s : State) : State :=
  let c := s.chan p
  match c.job with
  | none => s
  | some .busClear =>
    let s1 := ((s.put (Fld.SC_STAT_stuck p) 1).raise (evTime 9)).jobFree p
    (s1.setChan p { s1.chan p with firstEnd := true }).chanGo p
  | some j =>
    if Nat.blt c.nacks (s.get (Fld.SC_CFG_retries p)) then s.setChan p { c with nacks := c.nacks + 1, wait := .nack }
    else (((s.bump (Fld.SC_STAT_nacks p)).raise (evTime 8)).jobFail p j 1).chanGo p

/-- A transfer was abandoned: restarted after its back-off, or failed at the ninth time (R148). -/
def State.xferAbandon (p : Nat) (s : State) : State :=
  let c := s.chan p
  match c.job with
  | none => s
  | some j =>
    let s1 := s.bump (Fld.SC_STAT_backoffs p)
    if Nat.blt c.backs 8 then s1.setChan p { c with backs := c.backs + 1, wait := .backoff }
    else ((s1.raise (evTime 11)).jobFail p j 2).chanGo p

/-- Restart the transfer in hand from its beginning, keeping its counts. -/
def State.xferAgain (p : Nat) (s : State) : State :=
  let c := s.chan p
  match c.job with
  | none => s
  | some j => (s.setChan p { c with wait := .transfer }).launch p j

/-- CONTROL_TRANSFER_DONE (R87). -/
def State.xferDone (p : Nat) (res : XferRes) (s : State) : State :=
  if (s.chan p).job.isSome && (s.chan p).wait == .transfer then
    match res with
    | .done bytes => s.xferOk p (bytes.map BitVec.toNat)
    | .nack => s.xferNack p
    | .abandoned => s.xferAbandon p
  else s

/-! ## Initialisation (R136 to R139) -/

/-- Step 2 of R136 for some targets: DISEC, then SETDASA for each I3C target. -/
def State.dasaJobs (s : State) (p : Nat) (ts : List Nat) : List Job :=
  match ts.filter (s.tgtI3c p) with
  | [] => []
  | ks => .disec :: ks.map Job.setdasa

/-- The jobs of steps 2 to 5 of R136: step 2 and the auxiliary targets in full, the bound targets of a mask. -/
def State.initJobs (s : State) (p mask : Nat) (aux : Bool) : List Job :=
  let ts := (List.range 4).filter (fun k => s.tgtOn p k)
  s.dasaJobs p ts ++
  ((ts.filter (fun k => aux && s.tgtAux p k)).map (fun k => Job.init k 0)) ++
  ((ts.filter (fun k => !s.tgtAux p k && bit mask k)).map (fun k => Job.init k 0))

/-- A channel starts its initialisation once its BIST wave has ended (R75, R136). -/
def State.chanStart (p : Nat) (s : State) : State :=
  if !s.chanOn p || (s.chan p).started then s
  else
    let c := { s.chan p with started := true, firstEnd := s.tgtMask p == 0 }
    if Nat.ble 16 p then (s.setChan p { c with todo := Job.busClear :: s.initJobs p 15 true ++ c.todo }).chanGo p
    else if s.flag (Fld.PORT_LSTAT_link_up p) then (s.setChan p { c with todo := s.initJobs p 15 true ++ c.todo }).chanGo p
    else (s.setChan p c).chanGo p

/-- Whether a job belongs to steps 2 to 4 of R136. -/
def Job.isInit : Job → Bool
  | .disec | .setdasa _ | .init _ _ => true
  | _ => false

/-- An AP link has come up: steps 2 and 3 run again, and bound targets not initialised yet are initialised (R136), before any other
job (R134): one in hand, which the link down left without an answer, starts again behind them. The auxiliary targets have completed
nothing on this link. -/
def State.chanLinkUp (p : Nat) (s : State) : State :=
  let c := s.chan p
  if s.chanOn p && c.started then
    let aux := maskOf ((List.range 4).filter (s.tgtAux p))
    (s.setChan p { c with
      job := none, wait := .transfer, nacks := 0, backs := 0, ready := c.ready - (c.ready &&& aux), dasa := 0
      todo := s.initJobs p (15 - c.ready % 16) true ++ (c.job.toList ++ c.todo).filter (fun j => !j.isInit) }).chanGo p
  else s

/-- A channel is disabled: it sends nothing more, and a mailbox transfer on it ends as refused (R135, R161). -/
def State.chanStop (p : Nat) (s : State) : State :=
  let c := s.chan p
  let s1 := s.setChan p { c with job := none, wait := .transfer, todo := [], plans := [], fixes := [], rb := [] }
  if c.mail.isSome then s1.mailDone p 3 none else s1

/-- The procedure of R124 starts for a stream's sensor; while its port shows it, no census read-back runs (R403). -/
def State.chanReinit (p st : Nat) (s : State) : State :=
  match s.boundTgt p st with
  | none => s
  | some k =>
    let c := s.chan p
    let checks (j : Job) : Bool := match j with
      | .readback _ _ false => true
      | _ => false
    (s.setChan p { c with ready := c.ready &&& (15 - (1 <<< k)), todo := c.todo.filter (fun j => !checks j) }).chanAdd p (.init k 0)

/-- The procedure of R124 is repeated at a frame start once it has failed. -/
def State.chanReinitAgain (p st : Nat) (s : State) : State :=
  match s.boundTgt p st with
  | none => s
  | some k =>
    let c := s.chan p
    let busy := (c.todo.any (fun j => j.target == some k)) || (c.job.any (fun j => j.target == some k)) || bit c.ready k
    if busy then s else s.chanAdd p (.init k 0)

/-- SENSOR_REINIT_COMPLETE: the procedure of R124 has succeeded; the next frame start opens a frame. -/
def State.reinitDone (p k : Nat) (s : State) : State :=
  let st := s.entStream p k
  if s.flag (fReinit p k) && s.targetReady p st then
    forEach (s.streamEntries st) (fun e s => s.put (fReinit e.1 e.2) 0) s
  else s

/-- INIT_RETRY_TIMER: a failed target restarts from step 3 (R137); an I3C target that has no dynamic address, from step 2
(log 113). -/
def State.initRetry (p k : Nat) (s : State) : State :=
  let c := s.chan p
  if s.chanOn p && s.flag (fInitFail p k) && s.tgtOn p k && !bit c.ready k && !s.tgtReinit p k && c.started then
    let step2 := if bit c.dasa k then [] else s.dasaJobs p [k]
    (s.setChan p { c with todo := c.todo ++ step2 ++ [.init k 0] }).chanGo p
  else s

/-- BUS_CLEAR_RETRY: the clear is repeated (R138), on an enabled channel (R135). DESIGN CHOICE (log 163): a repeated clear that fails
raises no further EV_SC_BUS_STUCK. -/
def State.busRetry (p : Nat) (sdaLow : Bool) (s : State) : State :=
  if !s.stuck p || !s.chanOn p then s
  else
    let s1 := s.launch p .busClear
    if sdaLow then s1
    else
      let c := s1.chan p
      let todo := if (c.ready &&& s.tgtMask p) == s.tgtMask p then c.todo else c.todo ++ s1.initJobs p (15 - c.ready % 16) true
      ((s1.put (Fld.SC_STAT_stuck p) 0).setChan p { c with todo := todo }).chanGo p

/-- CLOCK_STRETCH_TIMEOUT: the transfer is aborted and the bus is cleared (R134). DESIGN CHOICE (log 111): R134 does not say what
becomes of the aborted transfer; the model starts its job again behind the clear, a sequence at its first operation, with no
retry counted. -/
def State.stretch (p : Nat) (s : State) : State :=
  let c := s.chan p
  match c.job with
  | none => s
  | some j =>
    let s1 := s.setChan p { c with job := some .busClear, wait := .transfer, nacks := 0, backs := 0, todo := j :: c.todo }
    s1.launch p .busClear

/-- FIRST_ATTEMPT_TIMEOUT (R139). -/
def State.firstTimeout (p : Nat) (s : State) : State :=
  if s.chanOn p && !s.flag (Fld.PORT_LSTAT_link_up p) then s.setChan p { s.chan p with firstEnd := true } else s

/-- IN_BAND_INTERRUPT: it wins over a transfer of Falith's in flight, which is abandoned, and is served (R147); the transfer
restarts as an abandoned one does (R148). -/
def State.ibi (p addr : Nat) (s : State) : State :=
  if !s.chanOn p then s
  else
    let c := s.chan p
    let s1 := (s.put (Fld.SC_STAT_ibi_addr p) addr).raise (evTime 12)
    if c.job.isSome && !(c.job == some .busClear) && c.wait == .transfer then s1.xferAbandon p else s1

/-! ## Write windows (R144, R145) -/

/-- Start the settings set that the open window of a stream carries, once it is ready (R144). -/
def State.windowTry (st frame : Nat) (s : State) : State :=
  let p := s.get (Fld.STRM_CFG_port st)
  let target := add32 frame (s.prof st).ks
  match s.boundTgt p st with
  | none => s
  | some k =>
    let c := s.chan p
    if s.chanOn p && bit c.ready k && bit c.winOpen k && !bit c.winDone k && s.ldgReady st target then
      let s1 := s.addPlan p ⟨k, st, target, s.settingWrites st target⟩
      (s1.setChan p { s1.chan p with winDone := (s1.chan p).winDone ||| (1 <<< k) }).chanFirst p (.settings k 0 true)
    else s

/-- A window that closes before its set has ended, or before the set was ready, is missed (R145, R246). -/
def State.windowAbandon (p k : Nat) (s : State) : State :=
  let c := s.chan p
  let st := s.get (Fld.SC_TGT_stream p k)
  if !bit c.winOpen k then s
  else
    match (if s.winSet p k then s.planOf p k else none) with
    | some pl =>
      let s1 := s.windowMiss p k pl.stream pl.frame
      (match (s1.chan p).job with
       | some (.settings j _ true) => if j == k then s1.jobFree p else s1
       | _ => s1)
    | none =>
      if bit c.winDone k then s
      else match (s.strm st).last with
        | some L => s.windowMiss p k st (add32 L (s.prof st).ks)
        | none => s

/-- A window's marks are cleared. -/
def State.windowShut (p k : Nat) (s : State) : State :=
  let c := s.chan p
  s.setChan p { c with winOpen := c.winOpen &&& (15 - (1 <<< k)), winDone := c.winDone &&& (15 - (1 <<< k)) }

/-- The stream's next frame-start capture closes a window that is still open (R144). -/
def State.windowEnd (st : Nat) (s : State) : State :=
  let p := s.get (Fld.STRM_CFG_port st)
  match s.boundTgt p st with
  | none => s
  | some k => (s.windowAbandon p k).windowShut p k

/-- Frame F's write window opens at its frame-start capture (R144). -/
def State.windowOpen (st frame : Nat) (s : State) : State :=
  let p := s.get (Fld.STRM_CFG_port st)
  match s.boundTgt p st with
  | none => s
  | some k => ((s.setChan p { s.chan p with winOpen := (s.chan p).winOpen ||| (1 <<< k) }).windowTry st frame).chanGo p

/-- WRITE_WINDOW_CLOSE (R145). -/
def State.windowClose (p k : Nat) (s : State) : State :=
  if bit (s.chan p).winOpen k then ((s.windowAbandon p k).windowShut p k).chanGo p else s

/-- SENSOR_READBACK: once per second, of a target that completed step 5, while no entry of its port shows reinit (R403). -/
def State.readBack (p k : Nat) (s : State) : State :=
  let busy := (s.chan p).todo.any (fun j => j.outside && j.target == some k) || (s.chan p).job.any (fun j => j.outside && j.target == some k)
  let reinit := (List.range 4).any (fun i => s.flag (fReinit p i))
  if s.chanOn p && s.tgtOn p k && bit (s.chan p).ready k && !reinit && !busy && !(s.profile (s.cenProf p k)).census.isEmpty then
    let s1 := s.cenBegin (sensorSet p k)
    (s1.setChan p { s1.chan p with rb := tdel (s1.chan p).rb k }).chanAdd p (.readback k 0 false)
  else s

/-! ## Mailbox (R161) -/

/-- A mailbox transfer starts at go, or ends at once as refused. -/
def State.mailGo (p : Nat) (m : Mailbox) (s : State) : State :=
  if s.flag (Fld.SC_XFER_go p) then s
  else if s.stuck p || !s.tgtOn p m.tgt || !s.chanOn p then
    ((s.put (Fld.SC_XFER_result p) 3).put (Fld.SC_XFER_go p) 0).raise (evTime 13)
  else ((s.put (Fld.SC_XFER_go p) 1).setChan p { s.chan p with mail := some m }).chanAdd p .mailbox

end Sys2Proof.Machine
end

