-- ==== Sys2Proof/Machine/Signals.lean ====
section
/-! DEFINITION. Machine/Signals.lean: the signal bridge, CAN traffic, GPIOs and glue masters (R359 to R372). -/

namespace Sys2Proof.Machine

/-! ## Bit positions and scaling (R363, R364) -/

/-- Payload bit positions of a value of n bits, from its most significant bit down, big-endian (R363). -/
def bePositions : Nat → Nat → List Nat
  | 0, _ => []
  | n + 1, p => p :: bePositions n (if p % 8 == 0 then p + 15 else p - 1)

/-- Payload bit positions of a value, value bit 0 first (R363). -/
def bitPositions (bigEndian : Bool) (start len : Nat) : List Nat :=
  if bigEndian then (bePositions len start).reverse else (List.range len).map (fun i => start + i)

/-- Payload bit b of a byte list. -/
def payloadBit (bs : List Nat) (b : Nat) : Bool := bit (nth bs (b / 8) 0) (b % 8)

/-- The number that payload bits spell, value bit 0 first. -/
def bitsValue (bs : List Nat) : List Nat → Nat
  | [] => 0
  | p :: ps => b2n (payloadBit bs p) + 2 * bitsValue bs ps

/-- Place a value's bits at payload positions, value bit 0 first. -/
def placeBits (bs : List Nat) (v : Nat) : List Nat → List Nat
  | [] => bs
  | p :: ps => placeBits (bs.modify (p / 8) (fun x => if v % 2 == 1 then x ||| (1 <<< (p % 8)) else x)) (v / 2) ps

/-- Held in the signed 48-bit range of 32.16. -/
def sat48 (v : Int) : Int := clampI (-(2 ^ 47 : Nat)) ((2 ^ 47 : Nat) - 1 : Int) v

/-- Factor of a signal, 16.16. -/
def State.sigFactor (s : State) (k : Nat) : Int := sgn 32 (s.reg (Reg.SIG_DEF_FACTOR k)).toNat

/-- Offset of a signal, 32.16. -/
def State.sigOffset (s : State) (k : Nat) : Int := sgn 48 (s.reg64 (Reg.SIG_DEF_OFFSET k))

/-- The raw value of a signal in a payload (R363). -/
def State.sigRaw (s : State) (k : Nat) (bs : List Nat) : Int :=
  let n := s.get (Fld.SIG_DEF_POS_len k)
  let r := bitsValue bs (bitPositions (s.flag (Fld.SIG_DEF_POS_order k)) (s.get (Fld.SIG_DEF_POS_start k)) n)
  if s.flag (Fld.SIG_DEF_POS_signed k) then sgn n r else r

/-- The scaled value (R364): the product saturates, and so does the sum. -/
def State.sigScale (s : State) (k : Nat) (r : Int) : Int := sat48 (sat48 (r * s.sigFactor k) + s.sigOffset k)

/-! ## Reception (R361, R362, R365) -/

/-- Whether a definition takes a frame (R361). -/
def State.msgMatch (s : State) (m c kind : Nat) (ext : Bool) (ident : Nat) : Bool :=
  s.flag (Fld.SIG_MSG_ID_enable m) && bit (s.get (Fld.SIG_MSG_CFG_ctrl m)) c &&
  (s.get (Fld.SIG_MSG_CFG_kind m) == 3 || s.get (Fld.SIG_MSG_CFG_kind m) == kind) &&
  s.flag (Fld.SIG_MSG_ID_ext m) == ext && s.get (Fld.SIG_MSG_ID_id m) == ident

/-- The definition that takes a frame, the lowest that matches. -/
def State.msgOf (s : State) (c kind : Nat) (ext : Bool) (ident : Nat) : Option Nat :=
  (List.range 64).find? (fun m => s.msgMatch m c kind ext ident)

/-- Whether the bridge takes frames of a controller. -/
def State.canOn (s : State) (c : Nat) : Bool := s.loaded && !s.domHurt 146 && s.flag (Fld.SIG_CAN_CFG_enable c) && !(s.get (Fld.SIG_CAN_STAT_state c) == 2)

/-- Whether the bridge takes frames of a kind from a controller. DEDUCED (log 176): a controller takes the kinds up to its mode, classical,
FD, XL; a remote frame (kind 3) is received and discarded (R359, R387). -/
def State.canTakes (s : State) (c kind : Nat) : Bool := s.canOn c && Nat.ble kind (s.get (Fld.SIG_CAN_CFG_mode c)) && Nat.blt kind 3

/-- A signal receives a value. -/
def State.sigTake (bs : List Nat) (k : Nat) (s : State) : State :=
  let v := s.sigScale k (s.sigRaw k bs)
  let l := ((s.now, v) :: tget s.sig.recs k []).take 16
  { s with sig := { s.sig with
      recs := tset s.sig.recs k l, firsts := tset s.sig.firsts k (tget s.sig.firsts k s.now) } }.setReg64 (Reg.SIG_DEF_VALUE k) (unsgn 64 v)

/-- Bytes two to an item, the earlier byte low (R362). -/
def itemPairs : List Nat → List Nat
  | a :: b :: rest => (a + 256 * b) :: itemPairs rest
  | [a] => [a]
  | [] => []

/-- The items of a queued frame (R362). -/
def frameItems (m c kind ident : Nat) (bs : List Nat) : List Nat :=
  [m + 2 ^ 8 * c + 2 ^ 10 * kind, ident % 65536, ident / 65536] ++ itemPairs bs

/-- Push a packet of items into a queue. -/
def State.quePacketIn (q : Nat) (items : List Nat) (s : State) : State :=
  forEach (List.range items.length) (fun i s =>
    s.quePush q (nth items i 0 % 65536 + (if i == 0 then 2 ^ 16 else 0) + (if i + 1 == items.length then 2 ^ 17 else 0))) s

/-- CAN_FRAME_RECEIVED (R361): controller, kind, identifier format and identifier, payload. -/
def State.canReceive (c kind : Nat) (ext : Bool) (ident : Nat) (bytes : List Nat) (s : State) : State :=
  if !s.canTakes c kind then s
  else
    match s.msgOf c kind ext ident with
    | none => s
    | some m =>
      let bs := bytes.take 64
      if Nat.blt bs.length (s.get (Fld.SIG_MSG_CFG_min_len m)) then s.raise (evSig 9)
      else
        let s1 := { s with sig := { s.sig with msgs := tset s.sig.msgs m ⟨s.tm.loc, false⟩ } }
        let ks := (List.range 256).filter (fun k => s.flag (Fld.SIG_DEF_POS_enable k) && s.get (Fld.SIG_DEF_POS_msg k) == m)
        let s2 := forEach ks (State.sigTake bs) s1
        if s.flag (Fld.SIG_MSG_CFG_q_en m) then s2.quePacketIn (s.get (Fld.SIG_MSG_CFG_queue m)) (frameItems m c kind ident bs) else s2

/-- Whether a received frame wakes Falith (R369). -/
def State.canWakes (s : State) (c kind : Nat) (ext : Bool) (ident : Nat) (bytes : List Nat) : Bool :=
  s.canTakes c kind && (match s.msgOf c kind ext ident with
    | none => false
    | some m => s.flag (Fld.SIG_MSG_CFG_wake m) && Nat.ble (s.get (Fld.SIG_MSG_CFG_min_len m)) (bytes.take 64).length)

/-- CAN_MESSAGE_TIMEOUT (R361). -/
def State.msgTimeout (m : Nat) (s : State) : State :=
  let x := tget s.sig.msgs m ⟨0, false⟩
  if s.loaded && s.flag (Fld.SIG_MSG_ID_enable m) && !(s.get (Fld.SIG_MSG_CFG_timeout m) == 0) && !x.late then
    { s with sig := { s.sig with msgs := tset s.sig.msgs m { x with late := true } } }.raise (evSig 8)
  else s

/-! ## Binding to frames (R365 to R367) -/

/-- Exposure midpoint of a frame (R365). -/
def State.midpoint (s : State) (f : Frame) : Int :=
  s.stampAt f f.cap.1 + ((f.H - 1) * (s.frameProf f).lineTime / 2 : Nat)

/-- The value bound at a time: flags (never 1, stale 2, overrun 4) and value. Of the receptions since the image load the 16 latest are kept:
where none of those is before the time but the first one of all was, all 16 come at or after it. -/
def State.sigAt (s : State) (k : Nat) (m : Int) : Nat × Int :=
  let l := tget s.sig.recs k []
  match l.find? (fun e => decide ((e.1 : Int) < m)) with
  | some e =>
    let t := s.get (Fld.SIG_MSG_CFG_timeout (s.get (Fld.SIG_DEF_POS_msg k)))
    ((if !(t == 0) && decide (((e.1 + t * 10000000 : Nat) : Int) < m) then 2 else 0), e.2)
  | none =>
    match tget? s.sig.firsts k with
    | some t => if decide ((t : Int) < m) then (4, ((l.getLast?).map (fun e => e.2)).getD 0) else (1, s.sigOffset k)
    | none => (1, s.sigOffset k)

/-- The integer value of a 32.16 number (R364). -/
def intOf (v : Int) : Int := v / 65536

/-- Metadata entry of a signal (R366). -/
def sigEntry (k flags : Nat) (v : Int) : List Nat := leBytes 2 k ++ [flags, 0, 0, 0, 0, 0] ++ leBytes 8 (unsgn 64 v)

/-- Enabled signals that a route bit selects. -/
def State.sigs (s : State) (p : Nat → Bool) : List Nat := (List.range 256).filter (fun k => s.flag (Fld.SIG_DEF_POS_enable k) && p k)

/-- A sensor write of a bound value, where it differs from the last one written (R367). -/
def State.swrGo (k : Nat) (v : Int) (s : State) : State :=
  let st := s.get (Fld.SIG_DEF_ROUTE_stream k)
  let p := s.get (Fld.STRM_CFG_port st)
  let x := (clampI 0 (if s.flag (Fld.SIG_DEF_ROUTE_swr_wide k) then 65535 else 255) v).toNat
  match s.boundTgt p st with
  | none => s
  | some t =>
    if tget? s.sig.swr k == some x then s
    else
      let c := s.chan p
      (s.setChan p { c with todo := c.todo.filter (fun j => match j with
        | .swr _ k' _ => !(k' == k)
        | _ => true) }).chanAdd p (.swr t k x)

/-- Whether signals can be bound to a frame: its midpoint has come, or there is no signal to bind (R365). -/
def State.sigDue (s : State) (f : Frame) : Bool := (s.sigs (fun _ => true)).isEmpty || decide (s.midpoint f ≤ (s.now : Int))

/-- Signals are bound to a frame, no sooner than its midpoint: metadata entries, law inputs, GPIOs, sensor writes (R365 to R367). -/
def State.sigBind (st num : Nat) (s : State) : State :=
  match s.frame st num with
  | none => s
  | some f =>
    if f.sigBound || !s.sigDue f then s
    else
      let m := s.midpoint f
      let on := s.sigs (fun _ => true)
      let lost := on.any (fun k => (s.sigAt k m).1 == 4 &&
        (s.flag (Fld.SIG_DEF_ROUTE_meta_en k) || s.get (Fld.SIG_DEF_ROUTE_stream k) == st))
      let entries := (on.filter (fun k => s.flag (Fld.SIG_DEF_ROUTE_meta_en k))).map (fun k =>
        let b := s.sigAt k m
        sigEntry k b.1 b.2)
      let mine := on.filter (fun k => s.get (Fld.SIG_DEF_ROUTE_stream k) == st)
      let input (i : Nat) : Option Int :=
        (mine.find? (fun k => s.get (Fld.SIG_DEF_ROUTE_law k) == i + 1)).map (fun k => intOf (s.sigAt k m).2)
      let newest := !s.frames.any (fun g => g.st == st && g.sigBound && Nat.blt 0 (sub32 g.num num) && serGE g.num num)
      let s1 := (s.modFrame st num (fun f => { f with sigs := entries, inputs := [input 0, input 1], sigBound := true })).raiseIf lost (evSig 10)
      let s2 := if !newest then s1 else forEach (mine.filter (fun k => s.flag (Fld.SIG_DEF_ROUTE_gpio_en k))) (fun k s =>
        let g := s.get (Fld.SIG_DEF_ROUTE_gpio k)
        let on := !(intOf (s1.sigAt k m).2 == 0)
        { s with sig := { s.sig with gpioSig := putBits s.sig.gpioSig g g (b2n on) } }) s1
      if !newest then s2 else forEach (mine.filter (fun k => s.flag (Fld.SIG_DEF_ROUTE_swr_en k))) (fun k s =>
        s.swrGo k (intOf (s1.sigAt k m).2)) s2

/-! ## Sending (R368) -/

/-- The value of an outgoing field (R368). -/
def State.txField (s : State) (j i alive : Nat) : Nat :=
  let idx := s.get (Fld.SIG_TX_F_idx j i)
  let n := s.get (Fld.SIG_TX_F_len j i)
  match s.get (Fld.SIG_TX_F_src j i) with
  | 1 =>
    (match tget s.sig.recs idx [] with
     | [] => Config.openVal s.free idx % 2 ^ n
     | e :: _ =>
       let r := rndDiv (e.2 - s.sigOffset idx) (s.sigFactor idx).toNat
       if s.flag (Fld.SIG_DEF_POS_signed idx) then
         unsgn n (clampI (-(2 ^ (n - 1) : Nat)) ((2 ^ (n - 1) : Nat) - 1 : Int) r)
       else (clampI 0 ((2 ^ n : Nat) - 1 : Int) r).toNat)
  | 2 => s.cen.pub.1
  | 3 => leAt s.cen.pub.2 (4 * (idx % 4)) 4
  | 4 => alive
  | 5 => (s.reg (Reg.STRM_FRAME (idx % 32))).toNat
  | _ => 0

/-- The payload of outgoing definition j. -/
def State.txPayload (s : State) (j alive : Nat) : List Nat :=
  (List.range 4).foldl (fun bs i =>
    if s.get (Fld.SIG_TX_F_src j i) == 0 then bs
    else placeBits bs (s.txField j i alive)
      (bitPositions (s.flag (Fld.SIG_TX_F_order j i)) (s.get (Fld.SIG_TX_F_start j i)) (s.get (Fld.SIG_TX_F_len j i))))
    (List.replicate (s.get (Fld.SIG_TX_CFG_length j)) 0)

/-- Whether a controller can send a frame of a kind. DEDUCED (log 176): kinds up to its mode. -/
def State.canSends (s : State) (c kind : Nat) : Bool :=
  s.flag (Fld.SIG_CAN_CFG_enable c) && !s.flag (Fld.SIG_CAN_CFG_listen c) && !(s.get (Fld.SIG_CAN_STAT_state c) == 2) &&
    Nat.ble kind (s.get (Fld.SIG_CAN_CFG_mode c))

/-- CAN_TX_PERIOD (R368): a new frame is formed; `wins` says whether it wins arbitration before its next period. -/
def State.canTx (j : Nat) (wins : Bool) (s0 : State) : State :=
  if !(s0.loaded && s0.flag (Fld.SIG_TX_ID_enable j)) || s0.domHurt 146 then s0
  else
    let x := tget s0.sig.tx j ⟨0, false⟩
    let s := s0.raiseIf x.unsent (evSig 11)
    let c := s.get (Fld.SIG_TX_CFG_ctrl j)
    let kind := s.get (Fld.SIG_TX_CFG_kind j)
    let ok := wins && s.canSends c kind
    let s1 := { s.draw with sig := { s.sig with tx := tset s.sig.tx j ⟨x.alive + 1, !ok⟩ } }
    if ok then s1.emit (.can c kind (s.get (Fld.SIG_TX_ID_id j)) (s.flag (Fld.SIG_TX_ID_ext j)) (s.txPayload j x.alive)) else s1

/-! ## Controllers (R360, R386) -/

/-- CAN_BUS_OFF (R360): the transmit error count is past 255, where it saturates (R359, R387). -/
def State.canBusOff (c : Nat) (s : State) : State :=
  if !s.canOn c then s
  else ((((s.put (Fld.SIG_CAN_STAT_state c) 2).put (Fld.SIG_CAN_STAT_tec c) 255).bump (Fld.SIG_CAN_STAT_busoffs c)).emit (.pin (.canTxd c) true)).raise (evSig c)

/-- CAN_BUSOFF_RECOVERY (R359): error active with its error counts at 0. -/
def State.canRecover (c : Nat) (s : State) : State :=
  if s.loaded && s.flag (Fld.SIG_CAN_CFG_enable c) && s.get (Fld.SIG_CAN_STAT_state c) == 2 then
    ((s.put (Fld.SIG_CAN_STAT_state c) 0).put (Fld.SIG_CAN_STAT_rec c) 0).put (Fld.SIG_CAN_STAT_tec c) 0
  else s

/-- CAN_ERROR_PASSIVE (R386): the error counts of a controller. DEDUCED (log 177): by ISO 11898-1, which R359 names, it is error passive
while one of them is over 127, and error active otherwise. -/
def State.canPassive (c rec_ tec : Nat) (s : State) : State :=
  if !s.canOn c then s
  else
    let was := s.get (Fld.SIG_CAN_STAT_state c)
    let s1 := (s.put (Fld.SIG_CAN_STAT_rec c) (Nat.min 255 rec_)).put (Fld.SIG_CAN_STAT_tec c) (Nat.min 255 tec)
    let passive := Nat.blt 127 rec_ || Nat.blt 127 tec
    (s1.put (Fld.SIG_CAN_STAT_state c) (b2n passive)).raiseIf (passive && !(was == 1)) (evSig (4 + c))

/-- A controller's state follows its enable bit (R387): a disabled controller shows 0b11. -/
def State.canEnable (c : Nat) (s : State) : State :=
  let on := s.flag (Fld.SIG_CAN_CFG_enable c)
  let st := s.get (Fld.SIG_CAN_STAT_state c)
  if on && st == 3 then s.put (Fld.SIG_CAN_STAT_state c) 0
  else if !on && !(st == 3) then s.put (Fld.SIG_CAN_STAT_state c) 3
  else s

/-! ## GPIOs (R371) -/

/-- Whether a GPIO is driven by Falith, and its level. -/
def State.gpioWant (s : State) (n : Nat) : Option Bool :=
  match s.get (Fld.SIG_GPIO_CFG_func n) with
  | 0 => if s.flag (Fld.SIG_GPIO_CFG_dir n) then some (s.flag (Fld.SIG_GPIO_CFG_out n)) else none
  | 1 => some (bit s.sig.gpioSig n)
  | 2 => some (s.phase == .active)
  | _ => none

/-- One GPIO output follows what drives it. -/
def State.gpioDrive (n : Nat) (s : State) : State :=
  match s.gpioWant n with
  | none => s
  | some v =>
    let f : Fld := ⟨Reg.SIG_GPIO_LVL, n, n⟩
    if bit s.sig.gpioOut n == v && s.flag f == v then s
    else ({ s with sig := { s.sig with gpioOut := putBits s.sig.gpioOut n n (b2n v) } }.put f (b2n v)).emit (.pin (.gpio n) v)

/-- Every GPIO output, while an image is loaded (R20). -/
def State.gpioAll (s : State) : State := if s.loaded then forEach (List.range 32) State.gpioDrive s else s

/-- Whether an edge to a level is one that a GPIO's configuration asks for. -/
def State.gpioEdgeOn (s : State) (n : Nat) (high : Bool) : Bool :=
  let e := s.get (Fld.SIG_GPIO_CFG_edge n)
  (s.gpioWant n).isNone && (if high then e == 1 || e == 3 else e == 2 || e == 3)

/-- GPIO_EDGE (R371): a debounced input has taken a level. -/
def State.gpioEdge (n : Nat) (high : Bool) (s : State) : State :=
  if !s.loaded || s.domHurt 146 || (s.gpioWant n).isSome then s
  else (s.put ⟨Reg.SIG_GPIO_LVL, n, n⟩ (b2n high)).raiseIf (s.gpioEdgeOn n high) (evSig 13)

/-- Whether a GPIO edge wakes Falith (R54, R371). -/
def State.gpioWakes (s : State) (n : Nat) (high : Bool) : Bool :=
  s.loaded && !s.domHurt 146 && s.get (Fld.SIG_GPIO_CFG_func n) == 3 && s.gpioEdgeOn n high

/-! ## Glue masters (R372) -/

/-- A glue transfer of bus n has ended with a result code (R372, R387). -/
def State.glueFin (n code : Nat) (s : State) : State :=
  let s1 := { s with sig := { s.sig with gm := tdel s.sig.gm n } }
  (((s1.put (Fld.SIG_GM_XFER_go n) 0).put (Fld.SIG_GM_XFER_result n) code).raiseIf (!(code == 0)) (evSig 15)).raise (evSig 14)

/-- A glue transfer is launched on its bus. -/
def State.glueOut (n : Nat) (x : GlueX) (s : State) : State := s.emit (.glue n x.addr x.rd x.two x.reg x.data)

/-- A write of SIG_GM_n_XFER: its fields are taken, and `go` starts the transfer that they describe unless one is in flight; a
bus clear goes before the first transfer on the bus (R30, R161, R372, R387). -/
def State.glueGo (n v : Nat) (s : State) : State :=
  let old := (s.reg (Reg.SIG_GM_XFER n)).toNat
  let s1 := s.setReg (Reg.SIG_GM_XFER n) (BitVec.ofNat 32 ((v &&& 0x4EFEFFFF) ||| (old &&& 0xB0000000)))
  if s.domHurt 146 then s
  else if !bit v 31 || bit old 31 then s1
  else if !s1.flag (Fld.SIG_GM_CFG_enable n) || bit s1.sig.stuck n then s1.glueFin n 3
  else
    let w := s1.get (Fld.SIG_GM_XFER_width n) + 1
    let rd := s1.flag (Fld.SIG_GM_XFER_rd n)
    let s0 := if bit s1.sig.gmClear n then s1
      else { s1 with sig := { s1.sig with gmClear := s1.sig.gmClear ||| (1 <<< n) } }.emit (.glueClear n)
    let x : GlueX := ⟨s1.get (Fld.SIG_GM_XFER_addr n), rd, s1.flag (Fld.SIG_GM_XFER_reg2 n), s1.get (Fld.SIG_GM_XFER_reg n), w,
      if rd then [] else leBytes w (s1.reg (Reg.SIG_GM_XDATA n)).toNat, 0, false⟩
    ({ s0 with sig := { s0.sig with gm := tset s0.sig.gm n x } }.put (Fld.SIG_GM_XFER_go n) 1).glueOut n x

/-- How the attempt of a glue transfer on bus n ends (R372): done with the bytes read; not acknowledged; arbitration lost, for the ninth
time or with a back-off before the next attempt; or the clock stretched over 10 ms, after which the transfer is aborted and the bus cleared;
`sdaLow` = the bus clear leaves SDA low. DESIGN CHOICE (log 178): the result code of that abortion is open but for failing; DEDUCED: with
the ninth loss nothing is aborted on the bus, which is another master's, so no bus clear follows. -/
def State.glueEnd (n : Nat) (res : GlueRes) (sdaLow : Bool) (s : State) : State :=
  match tget? s.sig.gm n with
  | none => s
  | some x =>
    if x.waiting then s
    else match res with
    | .done bytes =>
      (if x.rd then s.setReg (Reg.SIG_GM_XDATA n) (BitVec.ofNat 32 (leVal ((bytes.map BitVec.toNat).take x.width))) else s).glueFin n 0
    | .nack => s.glueFin n 1
    | .lost =>
      if Nat.ble 8 x.losses then s.glueFin n 2
      else { s with sig := { s.sig with gm := tset s.sig.gm n { x with losses := x.losses + 1, waiting := true } } }
    | .stretched =>
      let s1 := if sdaLow then { s with sig := { s.sig with stuck := s.sig.stuck ||| (1 <<< n) } } else s
      ((s1.draw).emit (.glueClear n)).glueFin n (1 + Config.openVal s.free 372 % 3)

/-- The back-off of a glue bus is over: its transfer is launched again (R148, R372). -/
def State.glueAgain (n : Nat) (res : GlueRes) (sdaLow : Bool) (s : State) : State :=
  match tget? s.sig.gm n with
  | none => s
  | some x =>
    if !x.waiting then s
    else
      let y := { x with waiting := false }
      ({ s with sig := { s.sig with gm := tset s.sig.gm n y } }.glueOut n y).glueEnd n res sdaLow

/-- The bus clear of a stuck glue bus is repeated (R138, R372). -/
def State.glueRetry (n : Nat) (sdaLow : Bool) (s : State) : State :=
  if !bit s.sig.stuck n then s
  else (if sdaLow then s else { s with sig := { s.sig with stuck := putBits s.sig.stuck n n 0 } }).emit (.glueClear n)

end Sys2Proof.Machine
end

