-- ==== Sys2Proof/Machine/Time.lean ====
section
/-! DEFINITION. Machine/Time.lean: the discipline of vehicle time and the edges of the sync groups (R150 to R158). -/

namespace Sys2Proof.Machine

/-! ## Vehicle time -/

/-- Magnitude of an offset. -/
def mag (i : Int) : Nat := i.natAbs

/-- Period and phase of a group (R155). -/
def State.grpP (s : State) (g : Nat) : Nat := s.get (Fld.SYNC_PERIOD_period g)

/-- Phase of a group. -/
def State.grpPhase (s : State) (g : Nat) : Nat := s.get (Fld.SYNC_PHASE_phase g)

/-- Signed offsets in ns of the enabled FSO outputs and tunnelled lines that name a group (R156). -/
def State.grpOffsets (s : State) (g : Nat) : List Int :=
  ((List.range 16).filter (fun n => s.flag (Fld.SYNC_FSO_enable n) && s.get (Fld.SYNC_FSO_group n) == g)).map
    (fun n => sgn 16 (s.get (Fld.SYNC_FSO_offset n)) * 1000) ++
  ((List.range 16).filter (fun p => s.flag (Fld.SYNC_TUN_enable p) && s.get (Fld.SYNC_TUN_group p) == g)).map
    (fun p => sgn 16 (s.get (Fld.SYNC_TUN_offset p)) * 1000)

/-- The least of a list of integers, if any. -/
def minI : List Int → Option Int
  | [] => none
  | x :: xs => match minI xs with
    | none => some x
    | some y => some (if x < y then x else y)

/-- The first time of a plan (period P, phase φ) at or after a bound (R155). -/
def planAt (P phase : Nat) (bound : Int) : Nat :=
  let b := (if bound < 0 then 0 else bound).toNat
  if P == 0 then 0 else b + (P - (b + P - phase % P) % P) % P

/-- The least time at which an edge of the group is usable now (R158). -/
def State.usableFrom (s : State) (g : Nat) : Int :=
  match minI (s.grpOffsets g) with
  | none => s.now
  | some o => (s.now : Int) - o

/-- A group's edges start or resume at its first usable edge (R139, R54, R158). -/
def State.grpStart (g : Nat) (s : State) : State :=
  if s.grpP g == 0 then s
  else (s.setReg64 (Reg.SYNC_NEXT g) (planAt (s.grpP g) (s.grpPhase g) (s.usableFrom g))).put (Fld.SYNC_CTRL_run g) 1

/-- The first vehicle time that does not come before a local time, at the corrected rate (R150, R158). -/
def TimeSt.vehAt (t : TimeSt) (at_ : Nat) : Int :=
  if Nat.ble at_ t.loc then (t.veh : Int) - ((t.loc - at_) * (1000000000 + t.corr).toNat / 1000000000 : Nat)
  else
    let v := (t.after (at_ - t.loc)).veh
    if Nat.ble (at_ - t.loc) (t.until v) then (v : Int) else (v : Int) + 1

/-- A group's edges are planned anew after a change of its plan or a step of vehicle time (R158): also of a group that had no
edges while its period was 0. -/
def State.grpReplan (g : Nat) (s : State) : State :=
  if !(s.flag (Fld.SYNC_CTRL_run g) || (s.syncOn && s.phase == .active)) then s
  else if s.grpP g == 0 then s.put (Fld.SYNC_CTRL_run g) 0
  else
    let P := s.grpP g
    let half : Int := match (s.grp g).last with
      | none => s.usableFrom g
      | some (_, l) => s.tm.vehAt (l + (P + 1) / 2)
    let bound := if half < s.usableFrom g then s.usableFrom g else half
    let s1 := (s.setReg64 (Reg.SYNC_NEXT g) (planAt P (s.grpPhase g) bound)).put (Fld.SYNC_CTRL_run g) 1
    (s1.bump (Fld.SYNC_CTRL_replans g)).raise (evTime 6)

/-- Vehicle time is stepped by an offset (R153). -/
def State.timeStep (off : Int) (s : State) : State :=
  let v := unsgn 64 ((s.tm.veh : Int) + off)
  let s1 := { s with tm := { s.tm with veh := v, good := 0 } }
  let s2 := ((s1.put Fld.TIME_STAT_state 1).bump Fld.TIME_STAT_steps).raise (evTime 3)
  forEach (List.range 8) State.grpReplan s2

/-- A measured offset disciplines vehicle time (R153). -/
def State.timeOffset (off : Int) (s0 : State) : State :=
  let s := s0.setReg Reg.TIME_OFFSET (BitVec.ofNat 32 (unsgn 32 (clampI (-2147483648) 2147483647 off)))
  if Nat.blt 1000000 (mag off) then s.timeStep off
  else
    let good := if Nat.ble (mag off) 1000 then s.tm.good + 1 else 0
    let s1 := { s with
      free := s.free + 1
      tm := { s.tm with corr := clampI (-500000) 500000 (Config.slew off s.free), good := good } }
    let st := s1.get Fld.TIME_STAT_state
    if Nat.ble 8 good && !(st == 2) then
      ({ s1 with tm := { s1.tm with hold := none } }.put Fld.TIME_STAT_state 2).raise (evTime 0)
    else s1

/-- The reference is lost: synced turns into holdover (R153); under gPTP that is the master (R152). -/
def State.timeLost (s : State) : State :=
  let s1 := { s with tm := { s.tm with good := 0, master := if s.get Fld.TIME_CFG_source == 0 then none else s.tm.master } }
  if s1.get Fld.TIME_STAT_state == 2 then
    ({ s1 with tm := { s1.tm with hold := some s1.tm.loc } }.put Fld.TIME_STAT_state 3).raise (evTime 1)
  else s1

/-- Distance of a time from the nearest whole second, in ns. -/
def offSecond (t : Nat) : Nat := Nat.min (t % 1000000000) (1000000000 - t % 1000000000)

/-- A PPS_IN edge (R154). DESIGN CHOICE (log 112): with source 0b10, an edge for which no TIME_TOD has been written since the one
before means no time, and yields no measurement. -/
def State.ppsEdge (s : State) : State :=
  let src := s.get Fld.TIME_CFG_source
  if s.domHurt 147 then s
  else if src == 2 then
    let s1 := s.setReg64 Reg.TIME_PPS s.now
    match s1.tm.tod with
    | none => s1
    | some t => { s1 with tm := { s1.tm with tod := none } }.timeOffset ((t : Int) - (s1.now : Int))
  else if s.flag Fld.TIME_CFG_pps_check then
    let good := Nat.ble (offSecond s.now) 1000
    ((s.setReg64 Reg.TIME_PPS s.now).put Fld.TIME_STAT_pps_ok (b2n good)).raiseIf (!good) (evTime 5)
  else s

/-! ## Outputs of a group (R156) -/

/-- Whether an output (0 to 15: FSO pins; 16 + p: the tunnelled line of port p) is enabled. -/
def State.fsoOn (s : State) (n : Nat) : Bool :=
  if n < 16 then s.flag (Fld.SYNC_FSO_enable n) else s.flag (Fld.SYNC_TUN_enable (n - 16))

/-- The group an output names. -/
def State.fsoGroup (s : State) (n : Nat) : Nat :=
  if n < 16 then s.get (Fld.SYNC_FSO_group n) else s.get (Fld.SYNC_TUN_group (n - 16))

/-- The offset of an output in ns (R156). -/
def State.fsoOffset (s : State) (n : Nat) : Int :=
  sgn 16 (if n < 16 then s.get (Fld.SYNC_FSO_offset n) else s.get (Fld.SYNC_TUN_offset (n - 16))) * 1000

/-- An output has been enabled, or its offset has changed: a next edge that would need a late pulse of it is not issued, the one after
it that is usable comes next (R158). DESIGN CHOICE (log 165): it is no new plan, so replans counts nothing. -/
def State.edgeRecheck (n : Nat) (s : State) : State :=
  let g := s.fsoGroup n
  let E := s.reg64 (Reg.SYNC_NEXT g)
  let low := (E : Int) + 1
  if s.fsoOn n && s.flag (Fld.SYNC_CTRL_run g) && !(s.grpP g == 0) && decide ((E : Int) + s.fsoOffset n < (s.now : Int)) then
    s.setReg64 (Reg.SYNC_NEXT g) (planAt (s.grpP g) (s.grpPhase g) (if low < s.usableFrom g then s.usableFrom g else low))
  else s

/-- Drive an output to its active or inactive level (R156). -/
def State.fsoDrive (n : Nat) (act : Bool) (s : State) : State :=
  let s1 := { s with fsoHigh := if act then s.fsoHigh ||| (1 <<< n) else s.fsoHigh &&& (2 ^ 32 - 1 - (1 <<< n)) }
  if n < 16 then s1.emit (.pin (.fso n) act)
  else s1.emit (.tunnel (n - 16) (s.get (Fld.SYNC_TUN_line (n - 16))) (if s.flag (Fld.SYNC_TUN_low (n - 16)) then !act else act))

/-- FSO_OUTPUT_EDGE: an output's active edge or its tunnel message (R156). -/
def State.fsoEdge (n : Nat) (s : State) : State :=
  let g := s.fsoGroup n
  if s.working && !s.domHurt 147 && s.fsoOn n && !(s.grpP g == 0) && (s.flag (Fld.SYNC_CTRL_run g) || (s.grp g).last.isSome) then s.fsoDrive n true
  else s

/-- FSO_PULSE_END: an output's pulse ends (R156). -/
def State.fsoEnd (n : Nat) (s : State) : State := if bit s.fsoHigh n then s.fsoDrive n false else s

/-- The predicted frame start of a stream with a given frame-start delay, after the edge E of its group (R43). -/
def State.predStart (s : State) (g E delay : Nat) : Nat :=
  let o := match minI (s.grpOffsets g) with
    | some x => if x < 0 then x else 0
    | none => 0
  ((E : Int) + o + (delay : Int)).toNat

end Sys2Proof.Machine
end

