-- ==== Sys2Proof/Machine/Pour.lean ====
section
/-! DEFINITION. Machine/Pour.lean: the pour: descriptors, binding, publication, the pour log, the fault mailbox, CSI-2
transmit ports (R9 to R11, R307, R308, R311 to R336). -/

namespace Sys2Proof.Machine

/-! ## Functions, rings and slots (R303, R312, R313) -/

/-- Whether a function takes output: in D0, not in reset, present, and the host link up (R55, R56, R332). -/
def State.fnOk (s : State) (fn : Nat) : Bool :=
  let f := s.fn fn
  f.present && f.d0 && !f.inReset && s.flag Fld.HL_STAT_up

/-- Whether a ring is in use (R339). -/
def State.ringOn (s : State) (r : Nat) : Bool := s.flag (Fld.OUT_CFG_enable r)

/-- Slot of a frame or period in a ring. -/
def State.slotOf (s : State) (r F : Nat) : Nat := F % 2 ^ s.get (Fld.OUT_CFG_depth r)

/-- Generation of a frame or period in a ring. -/
def State.genOf (s : State) (r F : Nat) : Nat := (F >>> s.get (Fld.OUT_CFG_depth r)) % 256

/-- Address of a slot (R312). -/
def State.slotAddr (s : State) (r F : Nat) : Nat :=
  s.reg64 (Reg.OUT_BASE r) / 64 * 64 + (if Nat.blt r 256 then 64 else 320) * s.slotOf r F

/-! ## Reads and writes of host memory (R302, R309, R310) -/

/-- A non-posted read is issued (R310, R338). -/
def State.tagUp (s : State) : State :=
  let s1 := s.bump Fld.HL_TAGS_now
  s1.peak Fld.HL_TAGS_peak (s1.get Fld.HL_TAGS_now)

/-- Non-posted reads that may be outstanding, by the tags that the physical function's Device Control allows (R310, log 117). -/
def State.tagLimit (s : State) : Nat :=
  match (s.fn 0).dc.tags.val with
  | 0 => 256
  | 1 => 1024
  | _ => 16384

/-- A read goes out with a tag: descriptor reads travel as RdCurr where the link runs CXL, flush reads on CXL.io (R302). -/
def State.readOut (x : HostRd) (s : State) : State :=
  (s.hlExit.hlPost (.hostRead x.fn x.addr x.len (s.flag Fld.HL_STAT_cxl && !x.flush))).tagUp

/-- The next read that waits takes a free tag, flush reads first (R310). -/
def State.readNext (s : State) : State :=
  if Nat.ble s.tagLimit (s.get Fld.HL_TAGS_now) then s
  else match (s.reads.filter (fun x => x.flush) ++ s.reads).head? with
    | none => s
    | some x => { s with reads := s.reads.erase x }.readOut x

/-- Issue a host read, or let it wait for a free tag (R310). -/
def State.hostReadGo (flush : Bool) (fn addr n : Nat) (s : State) : State :=
  let x : HostRd := ⟨fn, addr, n, flush⟩
  { s with reads := s.reads ++ [x] }.readNext

/-- A read ends: its tag is free for the next one; one that still waited leaves the queue. -/
def State.readEnd (flush : Bool) (fn addr n : Nat) (s : State) : State :=
  let x : HostRd := ⟨fn, addr, n, flush⟩
  if s.reads.contains x then { s with reads := s.reads.erase x }
  else (s.put Fld.HL_TAGS_now (s.get Fld.HL_TAGS_now - 1)).readNext

/-- A burst of n bytes read from the host in one drip: its requests count as outstanding together (R310, R338). -/
def State.readBurst (fn n : Nat) (s : State) : State :=
  let each := 128 * 2 ^ (s.fn fn).dc.mrrs.val
  s.hlExit.peak Fld.HL_TAGS_peak (Nat.min s.tagLimit (s.get Fld.HL_TAGS_now + (n + each - 1) / each))

/-- Issue a posted write to the host; in a low-power state of the link its exit starts first (R309). -/
def State.hostPut (fn addr : Nat) (ro : Bool) (bytes : List Nat) (s : State) : State := s.hlExit.hlPost (.hostWrite fn addr ro bytes)

/-! ## The transfer buffer (R341, R352) -/

/-- The buffer cells of channel c that hold n bytes (R341). -/
def txeCells (c n : Nat) : List Nat := (List.range ((n + 2047) / 2048)).map (fun i => 16 * c + i)

/-- Buffer cells that are live (R341, R358). -/
def State.txeLive (s : State) : Nat := (s.cells.filter (fun e => e.2.kind == 1)).length

/-- n bytes enter the buffer cells of channel c, which are live until these bytes are written (R274, R341). -/
def State.bufTake (c n : Nat) (s : State) : State :=
  let s1 := s.palFixed 1 (txeCells c n) true
  s1.peak Fld.TXE_BUF_peak s1.txeLive

/-- The palette words with flipped bits among those in which channel c's buffer holds n bytes. -/
def State.bufHurt (s : State) (c n : Nat) : List Nat :=
  (tkeys s.palFlip).filter (fun w => Nat.ble (8192 * c) w && Nat.blt w (8192 * c + (n + 3) / 4))

/-- The places in bytes, within what channel c's buffer holds, of its words with an uncorrected error (R279). -/
def State.bufBad (s : State) (c n : Nat) : List Nat :=
  ((s.bufHurt c n).filter (fun w => Nat.ble 2 (s.flips w))).map (fun w => 4 * (w - 8192 * c))

/-- Bytes as channel c's buffer delivers them: words with an uncorrected error as their bits are stored (R280). -/
def State.bufBytes (s : State) (c : Nat) (b : List Nat) : List Nat :=
  (s.bufBad c b.length).foldl (fun b i =>
    (b.take i ++ leBytes 4 (leAt b i 4 ^^^ tget s.palFlip (8192 * c + i / 4) 0 % 2 ^ 32) ++ b.drop (i + 4)).take b.length) b

/-- The n bytes in channel c's buffer have been read: errors are corrected or counted (R279, R280), and the cells are free (R341). -/
def State.bufFree (c n : Nat) (s : State) : State :=
  (forEach (s.bufHurt c n) (State.palTouch false) s).palFixed 1 (txeCells c n) false

/-- Channel c's payload write of a drip of an output: where its buffer holds an uncorrected word, the write goes out packet by packet,
and each packet that carries such a word is poisoned (R352). -/
def State.payloadPut (c fn addr : Nat) (ro : Bool) (bytes : List Nat) (s : State) : State :=
  let bad := s.bufBad c bytes.length
  if bad.isEmpty then s.hostPut fn addr ro bytes
  else
    let n := 128 * 2 ^ (s.fn fn).dc.mps.val
    let b := s.bufBytes c bytes
    forEach ((List.range ((b.length + n - 1) / n)).map (fun i => n * i)) (fun k s =>
      if bad.any (fun i => Nat.ble k i && Nat.blt i (k + n)) then s.hlExit.hlPost (.hostPoison fn (addr + k) ro (slice b k n))
      else s.hostPut fn (addr + k) ro (slice b k n)) s

/-- Whether payload writes to a ring carry relaxed ordering (R320). -/
def State.roOf (s : State) (fn r : Nat) : Bool := (s.fn fn).dc.ro && s.flag (Fld.OUT_CFG_ro r)

/-- A translation of a page that the host gave is cached, the oldest entry leaving a full cache (R301, log 119). -/
def State.atsNote (fn addr : Nat) (ok : Bool) (s : State) : State :=
  let e := (fn, addr / 4096)
  let rest := s.atc.filter (fun x => !(x == e))
  { s with atc := if ok then (e :: rest).take 512 else rest }

/-! ## Descriptors (R311, R315) -/

/-- Change one fetch of a ring. -/
def State.modFetch (r F : Nat) (g : Fetch → Fetch) (s : State) : State :=
  let x := s.ring r
  s.setRing r { x with fetches := x.fetches.map (fun f => if f.num == F && !f.dead then g f else f) }

/-- The live fetch of a frame or period in a ring. -/
def State.fetchOf (s : State) (r F : Nat) : Option Fetch := (s.ring r).fetches.find? (fun f => f.num == F && !f.dead)

/-- Issue the read of a fetch where its function can be reached. -/
def State.fetchIssue (r F : Nat) (s : State) : State :=
  match s.fetchOf r F with
  | none => s
  | some f =>
    if f.got.isSome then s
    else if f.busy then s.modFetch r F (fun f => { f with again := true })
    else if !s.fnOk f.fn then s
    else (s.modFetch r F (fun f => { f with busy := true })).hostReadGo false f.fn f.desc 16

/-- A frame opens, or a period's edge is issued: the descriptor is fetched, or one that stayed bound is taken (R315, R316). -/
def State.fetchStart (r F : Nat) (s : State) : State :=
  if !s.ringOn r then s
  else
    let fn := s.get (Fld.OUT_CFG_fn r)
    let slot := s.slotOf r F
    let x := s.ring r
    let kept := tget? x.kept slot
    let f : Fetch := ⟨F, fn, s.slotAddr r F, false, false, 0, kept, false, kept.isSome⟩
    (s.setRing r { x with fetches := x.fetches ++ [f], kept := tdel x.kept slot }).fetchIssue r F

/-- An output no longer needs its fetch. -/
def State.fetchDrop (r F : Nat) (s : State) : State :=
  let x := s.ring r
  s.setRing r { x with fetches := x.fetches.filterMap (fun f =>
    if f.num == F && !f.dead then (if f.busy then some { f with dead := true } else none) else some f) }

/-- An output is dropped before it binds: a descriptor that stayed bound for it stays bound for the next frame of its slot (R316). -/
def State.fetchLose (r F : Nat) (s : State) : State :=
  match s.fetchOf r F with
  | some f =>
    match f.got with
    | some g =>
      if f.stay then
        let x := s.ring r
        (s.setRing r { x with kept := tset x.kept (s.slotOf r F) g }).fetchDrop r F
      else s.fetchDrop r F
    | none => s.fetchDrop r F
  | none => s

/-- DESCRIPTOR_FETCH_COMPLETE: the oldest outstanding read of a ring ends with the descriptor's first 16 bytes, or fails
(R315, R311). -/
def State.fetchDone (r : Nat) (bytes : Option (List Nat)) (s0 : State) : State :=
  match (s0.ring r).fetches.find? (fun f => f.busy) with
  | none => s0
  | some f =>
    let s := s0.readEnd false f.fn f.desc 16
    let x := s.ring r
    if f.dead then s.setRing r { x with fetches := x.fetches.filter (fun g => !(g == f)) }
    else
      let s1 := s.modFetch r f.num (fun g => { g with busy := false, again := false })
      if f.again then s1.fetchIssue r f.num
      else
        let b := bytes.getD []
        let w0 := leAt b 0 4
        if bytes.isSome && s.fnOk f.fn && bit w0 0 && bits w0 15 8 == s.genOf r f.num then
          s1.modFetch r f.num (fun g => { g with got := some (leAt b 8 8, leAt b 4 4) })
        else s1.raiseIf (f.tries == 16) (evHl 16)

/-- DESCRIPTOR_RETRY_TIMER: the oldest descriptor that is not handed over is read again, 16 times at most (R315). -/
def State.fetchRetry (r : Nat) (s : State) : State :=
  match (s.ring r).fetches.find? (fun f => !f.busy && !f.dead && f.got.isNone && Nat.blt f.tries 16) with
  | none => s
  | some f => (s.modFetch r f.num (fun g => { g with tries := g.tries + 1 })).fetchIssue r f.num

/-- OUTPUT_DOORBELL (R311, R315): every descriptor not handed over is fetched again, with 16 retries of its own. -/
def State.doorbell (r : Nat) (s : State) : State :=
  forEach (((s.ring r).fetches.filter (fun f => !f.dead && f.got.isNone)).map (fun f => f.num))
    (fun F s => (s.modFetch r F (fun f => { f with tries := 0 })).fetchIssue r F) s

/-- A fetch that never completes counts as not handed over (R315, R321). -/
def State.fetchTimeout (r : Nat) (s : State) : State :=
  if (s.ring r).fetches.any (fun f => f.busy) then ((s.bump Fld.HL_ERR_cto).raise (evHl 6)).fetchDone r none else s

/-! ## Drops (R316) -/

/-- A frame counts as having an uncorrected error, which withdraws its full statistics, once its block has not closed (R191,
R244). -/
def State.markError (st F : Nat) (s : State) : State :=
  s.modFrame st F (fun f => if f.stats.isSome then f else { f with withdrawn := true })

/-- Change one window of a frame. -/
def State.modWin (st F w : Nat) (g : WinSt → WinSt) (s : State) : State :=
  s.modFrame st F (fun f => { f with wins := f.wins.map (fun x => if x.w == w then g x else x) })

/-- Count one output of a ring as lost (R318). -/
def State.ringLost (r : Nat) (s : State) : State :=
  let x := s.ring r
  s.setRing r { x with lost := satAdd 255 x.lost 1 }

/-- Why an output is dropped: R316's causes in their order, or a degrade action. -/
inductive DropCause where
  | held | budget | notOwned | degraded
  deriving DecidableEq, Repr

/-- Count a dropped output by its cause. -/
def State.countDrop (r : Nat) (c : DropCause) (s : State) : State :=
  match c with
  | .held => ((s.bump (Fld.OUT_CNT_held r)).raise (evPm 4)).ringLost r
  | .budget => (s.bump (Fld.OUT_LOSS_budget r)).ringLost r
  | .notOwned => (s.bump (Fld.OUT_CNT_not_owned r)).ringLost r
  | .degraded => s

/-! ## The pour log (R11, R329 to R331) -/

/-- The eight bytes of a member's entry (R330). -/
def Member.bytes (m : Member) : List Nat := leBytes 4 (m.frame.getD 0) ++ [m.flags % 128, Nat.min 255 m.extra, m.pub, m.fail]

/-- Bytes 0x004 to 0x13F of a record (R330). -/
def Period.body (p : Period) (g epoch : Nat) : List Nat :=
  let due := p.due.getD (0, false)
  let head := leBytes 4 p.num ++ leBytes 8 p.edge ++ leBytes 4 (maskOf (p.members.map (fun m => m.st))) ++
    [g, b2n p.synced + 2 * b2n due.2, 0, 0] ++ leBytes 8 due.1 ++ leBytes 4 epoch ++ List.replicate 24 0
  let ents := (List.range 32).flatMap (fun st => match p.members.find? (fun m => m.st == st) with
    | some m => m.bytes
    | none => List.replicate 8 0)
  head ++ leBytes 4 (crc32c (head ++ ents)) ++ ents

/-- Record a publication for the fault search (R323). -/
def State.pubNote (p : Pub) (s : State) : State :=
  { s with pubs := tset s.pubs p.fn ((p :: tget s.pubs p.fn []).take 256) }

/-- Bytes cut into pieces of n. -/
def chunks (n : Nat) : Nat → List Nat → List (List Nat)
  | 0, _ => []
  | fuel + 1, b => if b.isEmpty then [] else b.take n :: chunks n fuel (b.drop n)

/-- Bytes 0x004 to 0x13F of a record go out in ascending address order, each write at most Max Payload Size long (R331). -/
def State.logWrite (fn at_ : Nat) (body : List Nat) (s : State) : State :=
  let n := 128 * 2 ^ (s.fn fn).dc.mps.val
  (forEach (chunks n 4 body) (fun b (a : Nat × State) => (a.1 + b.length, a.2.hostPut fn a.1 false b)) (at_, s)).2

/-- Publish the bound records of a group that no earlier record holds back (R331). An injector on the ring alters the record's own
checksum, since it has no payload and no trailer, or withholds its word 0 (R422, R423; DEDUCED, log 171). -/
def State.logFlush (g : Nat) : Nat → State → State
  | 0, s => s
  | n + 1, s =>
    let x := s.grp g
    match x.periods with
    | [] => s
    | p :: rest =>
      if p.due.isNone then s
      else
        let r := 256 + g
        let (fn, at_) := p.slot
        let (e, s0) := s.inject 4 r
        let s1 := s0.setGrp g { x with periods := rest }
        let b := p.body g (s.get Fld.CEN_EPOCH_epoch)
        let s2' := s1.logWrite fn (at_ + 4) (if e.crc then setAt b 56 (nth b 56 0 ^^^ 1) else b)
        let s2 := if e.withhold then s2' else s2'.hostPut fn at_ false (leBytes 4 (s.genOf r p.num * 256))
        let s3 := ((s2.setReg (Reg.OUT_PUB r) (BitVec.ofNat 32 p.num)).wrapInc (Fld.OUT_LOSS_published r)).pubNote
          ⟨fn, r, p.num, at_, 320, at_, 320⟩
        State.logFlush g n s3

/-- A record is dropped when it falls due, or later while it waits (R331). -/
def State.logDrop (g : Nat) (c : DropCause) (s : State) : State :=
  let r := 256 + g
  match c with
  | .held => ((s.bump (Fld.OUT_CNT_held r)).raise (evPm 4)).raise (evHl 18)
  | _ => (s.bump (Fld.OUT_CNT_not_owned r)).raise (evHl 18)

/-- A record falls due once every member is accounted for; it binds to its slot or is dropped then (R11, R316, R331). -/
def State.logCheck (g num : Nat) (expiry : Bool) (s : State) : State :=
  let x := s.grp g
  match x.periods.find? (fun p => p.num == num) with
  | none => s
  | some p =>
    if p.due.isSome || !(p.members.all (fun m => m.done)) then s
    else
      let r := 256 + g
      let without (s : State) : State := s.setGrp g { s.grp g with periods := (s.grp g).periods.filter (fun q => !(q.num == num)) }
      let f := s.fetchOf r num
      let s1 := s.fetchDrop r num
      let s2 :=
        if !s.ringOn r then without s1
        else if !s.fnOk (s.get (Fld.OUT_CFG_fn r)) then (without (s.fetchLose r num)).logDrop g .held
        else match f.bind (fun f => f.got.map (fun _ => f)) with
          | none => (without s1).logDrop g .notOwned
          | some f => s1.setGrp g { s1.grp g with periods := (s1.grp g).periods.map (fun q =>
              if q.num == num then { q with due := some (s.now, expiry), slot := (f.fn, f.desc) } else q) }
      s2.logFlush g (s2.grp g).periods.length

/-- Change a member of a period. -/
def State.modMember (g num st : Nat) (h : Member → Member) (s : State) : State :=
  s.setGrp g { s.grp g with periods := (s.grp g).periods.map (fun p =>
    if p.num == num then { p with members := p.members.map (fun m => if m.st == st then h m else m) } else p) }

/-- The group issues an edge: its next pour period begins (R329, R315). Its members are the streams of the group that are open at the
edge; one that opens later in the period joins the next one (DESIGN CHOICE, log 70). -/
def State.logEdge (g edge : Nat) (synced : Bool) (s : State) : State :=
  let x := s.grp g
  let num := x.periodNo
  let sts := (List.range 32).filter (fun st => (s.strm st).opened && s.get (Fld.STRM_CFG_group st) == g)
  let ms := sts.map (fun st => (⟨st, none, false, 0, Nat.min 255 (tget x.carry st 0), 0, 0⟩ : Member))
  let s1 := s.setGrp g { x with
    periodNo := (num + 1) % 2 ^ 32, carry := [], periods := x.periods ++ [⟨num, edge, synced, ms, none, (0, 0)⟩] }
  (s1.fetchStart (256 + g) num).logCheck g num false

/-- The number of the pour period of a group in which a vehicle time lies: the one that runs, or, before its edge, the one before. -/
def Group.numAt (x : Group) (cap : Nat) : Nat :=
  (x.periodNo + 2 ^ 32 - (if x.last.any (fun e => Nat.blt cap e.1) then 2 else 1)) % 2 ^ 32

/-- A stream's entry in the period of a group with some number, where its record has not gone. -/
def Group.entryIn (x : Group) (num st : Nat) : Option (Period × Member) :=
  (x.periods.find? (fun p => p.num == num)).bind (fun p => (p.members.find? (fun m => m.st == st)).map (fun m => (p, m)))

/-- One more extra frame in the stream's entry of a group's next record that has not fallen due: the period after a number where that
runs already, else the one that comes (R329). -/
def State.logExtra (g num st : Nat) (s : State) : State :=
  let x := s.grp g
  let next := (num + 1) % 2 ^ 32
  match x.entryIn next st with
  | some (p, _) => if p.due.isNone then s.modMember g next st (fun m => { m with extra := m.extra + 1 })
      else s.setGrp g { x with carry := tmod x.carry st 0 (fun n => n + 1) }
  | none => s.setGrp g { x with carry := tmod x.carry st 0 (fun n => n + 1) }

/-- A frame opens whose start was captured at a vehicle time: it belongs to the period of that capture, in the group that counts the
stream as a member there, its present one first (R11, log 70); it is the period's frame, or an extra frame of it or of the next
record (R329). The answer is the period that it is the member frame of. -/
def State.logFrame (st F cap : Nat) (s : State) : Option (Nat × Nat) × State :=
  let g0 := s.get (Fld.STRM_CFG_group st)
  let at_ (g : Nat) : Option (Nat × Period × Member) :=
    if (s.grp g).last.isNone then none else ((s.grp g).entryIn ((s.grp g).numAt cap) st).map (fun e => (g, e))
  match (g0 :: List.range 8).findSome? at_ with
  | none =>
    let x := s.grp g0
    if s.grpP g0 == 0 || x.last.isNone || x.periods.any (fun p => p.num == x.numAt cap) then (none, s)
    else (none, s.logExtra g0 (x.numAt cap) st)
  | some (g, p, m) =>
    if p.due.isSome || bit m.flags 2 then (none, s.logExtra g p.num st)
    else if m.frame.isSome then (none, s.modMember g p.num st (fun m => { m with extra := m.extra + 1 }))
    else (some (g, p.num), s.modMember g p.num st (fun m => { m with frame := some F, flags := m.flags ||| 1 }))

/-- MEMBER_BUDGET_EXPIRY: the stream is declared missing in the oldest period whose frame has not started, in whichever group it
was a member when the period began (R11, R187). -/
def State.logMissing (st : Nat) (s : State) : State :=
  let waits (p : Period) : Bool := p.due.isNone && p.members.any (fun m => m.st == st && !m.done && m.frame.isNone)
  match leastBy (fun e : Nat × Period => e.2.edge) ((List.range 8).filterMap (fun g =>
    ((s.grp g).periods.find? waits).map (fun p => (g, p)))) with
  | none => s
  | some (g, p) =>
    let deg := s.plc.degraded.contains st
    let s1 := s.modMember g p.num st (fun m => { m with done := true, flags := m.flags ||| 4 ||| (if deg then 8 else 0) })
    (s1.raise (evStrm st 2)).logCheck g p.num true

/-- A member frame has finished every window (R11, R330). -/
def State.logDone (f : Frame) (s : State) : State :=
  match f.per with
  | none => s
  | some (g, num) =>
    (s.modMember g num f.st (fun m => { m with
      done := true, pub := f.pub, fail := f.failM
      flags := m.flags ||| (if f.trunc then 2 else 0) ||| (if f.path == 2 then 8 else 0) |||
        (if f.dropM == 0 then 0 else 16) ||| (if f.failM == 0 then 0 else 32) ||| (if f.withdrawn then 64 else 0) })).logCheck g num false

/-! ## A frame's outputs -/

/-- Whether an easel has nothing of a frame left to work: every stroke has ended, and no in-line line waits (R44). -/
def State.workDone (s : State) (st F : Nat) : Bool :=
  !s.strokes.any (fun k => k.st == st && k.num == F) &&
    !s.eas.any (fun e => e.2.ready.any (fun l => l.1 == st && l.2.1 == F))

/-- Whether the content of a window of a frame is there: the metadata block holds the signals bound to the frame (R366). -/
def State.winReady (s : State) (f : Frame) (w : Nat) : Bool :=
  if w == 4 then f.stats.isSome else !f.isOpen && s.workDone f.st f.num && (!(w == 5) || f.sigBound)

/-- First-line and last-line timestamps of a frame (R159). -/
def State.stamps (s : State) (f : Frame) : Nat × Nat := (s.stamp f f.cap.1, s.stamp f f.capLast.1)

/-- The status flags of R319 that come from the frame. -/
def State.frameStatus (s : State) (f : Frame) : Nat :=
  let e := s.frameEntry f
  b2n f.trunc + 4 * b2n f.trunc + 8 * b2n (bit e.flags efSlipped) + 16 * b2n (e.unconf (s.frameProf f).edConfirm) +
    64 * b2n f.cap.2 + 128 * b2n f.capLast.2 + 256 * b2n (!f.statFull) + 512 * b2n (bit e.flags efLate)

/-- The packets of a metadata block in arrival order, those that fit (R327). -/
def Pkt.bytes (p : Pkt) : List Nat :=
  let n := p.data.length
  [p.dt, p.vc, p.exp, 0] ++ leBytes 4 n ++ p.data ++ List.replicate ((8 - n % 8) % 8) 0

/-- The metadata block of a frame (R327). -/
def State.metaBlock (s : State) (f : Frame) : List Nat :=
  let e := s.frameEntry f
  let ts := s.stamps f
  let pk := f.pkts.flatMap Pkt.bytes
  let gap := f.gap.getD (0, 0, 0)
  let flags := b2n f.trunc + 2 * b2n f.full + 4 * b2n f.cap.2 + 8 * b2n f.capLast.2 + 16 * b2n f.gap.isSome + 32 * b2n (bit e.flags efLate)
  let head := leBytes 2 1 ++ [f.st, 0] ++ leBytes 4 f.num ++ leBytes 4 f.cfg.epoch ++ leBytes 4 flags ++ leBytes 8 ts.1 ++ leBytes 8 ts.2 ++
    leBytes 2 f.valid ++ leBytes 2 f.repaired ++ leBytes 2 (if f.repaired == 0 then 0xFFFF else f.firstRep) ++ leBytes 2 (f.ctr.getD 0) ++
    leBytes 4 f.dpc ++ leBytes 4 f.palBad ++ leBytes 4 (f.palCell.getD 0xFFFFFFFF) ++
    leBytes 4 (gap.2.1 * 65536 + gap.1) ++ leBytes 4 gap.2.2 ++ leBytes 4 (leAt (s.frameLdg f) 0x3C 4) ++
    [f.num % 64, f.sigs.length] ++ leBytes 2 f.pkts.length ++ leBytes 4 pk.length
  padTo 0x100 head ++ padTo 1024 f.sigs.flatten ++ padTo 6912 pk

/-- A window's payload, the row count of its descriptor, and whether its view was padded. -/
def State.winPayload (s : State) (f : Frame) (w : Nat) : List Nat × Nat × Bool :=
  if Nat.blt w 4 then
    let (b, rows, valid) := s.viewOut f w
    (b, rows, (viewCfg f.cfg.regs f.st w).pad && Nat.blt valid rows)
  else if w == 4 then (f.stats.getD [], f.valid, false)
  else (s.metaBlock f, f.valid, false)

/-- The output trailer (R325). -/
def trailer (F epoch alive st w len flags crc : Nat) : List Nat :=
  let t := [0x41, 0x4C, 0x54, 0x52] ++ leBytes 4 F ++ leBytes 4 epoch ++ leBytes 2 alive ++ [st, w] ++ leBytes 4 len ++ leBytes 4 flags ++ leBytes 4 crc
  t ++ leBytes 4 (crc32c t)

/-- Bytes 0x10 to 0x3F of a slot descriptor (R318). -/
def State.descBody (s : State) (f : Frame) (x : WinSt) (lost : Nat) : List Nat :=
  let ts := s.stamps f
  leBytes 4 f.num ++ [f.st, x.w] ++ leBytes 2 x.alive ++ leBytes 4 x.vb ++ leBytes 2 (x.status ||| (if x.failed then 32 else 0)) ++
    leBytes 2 x.vl ++ leBytes 8 ts.1 ++ leBytes 8 ts.2 ++ leBytes 4 (leAt (s.frameLdg f) 0x3C 4) ++ leBytes 4 x.crc ++
    leBytes 4 f.cfg.epoch ++ [f.num % 64, lost, 0, 0]

/-! ## Publication (R9, R10, R317, R320 to R324) -/

/-- Every window of a frame has finished, be it before its last line: the frame-done event, the pour log; the frame is kept until
its laws have ended. -/
def State.frameDone (st F : Nat) (s : State) : State :=
  match s.frame st F with
  | none => s
  | some f =>
    if f.done || !(f.wins.all (fun x => x.phase == .done)) then s
    else
      let s1 := ((s.modFrame st F (fun f => { f with done := true })).raise (evStrm st 0)).logDone f
      if f.lawed then { s1 with frames := s1.frames.filter (fun g => !(g.st == st && g.num == F)) } else s1

/-- A frame whose outputs and laws are done leaves. -/
def State.frameGone (st F : Nat) (s : State) : State :=
  { s with frames := s.frames.filter (fun g => !(g.st == st && g.num == F && g.done && g.lawed)) }

/-! ## Pour channels (R341, R342, R347, R348) -/

/-- The transfer channel that carries a window of a frame (R328, R341). -/
def Frame.chan (f : Frame) (w : Nat) : Nat := 4 * f.st + (if Nat.blt w 4 then w else (viewsOf f.cfg.regs f.st).headD 0)

/-- Whether a transfer channel has no software descriptor left to run to its end (R342), and no output in hand. -/
def State.chanFree (s : State) (c : Nat) : Bool :=
  !thas s.pour.jobs c && (match tget? s.txe c with
    | some x => x.desc.isNone
    | none => true)

/-- Whether nothing comes before a new output on a transfer channel. -/
def State.chanClear (s : State) (c : Nat) : Bool := s.chanFree c && !thas s.pour.queue c

/-- Change the pour channels. -/
def State.modPour (g : PourSt → PourSt) (s : State) : State := { s with pour := g s.pour }

/-- The read engine loads the next drip of the output in hand on channel c into its cells: 32 KiB at most (R341, R347). It waits for
both engines' power (R41, R46). -/
def State.pourLoad (c : Nat) (s : State) : State :=
  match tget? s.pour.jobs c with
  | none => s
  | some j =>
    if !(s.domOn 144 && s.domOn 145) || Nat.blt 0 j.moved then s
    else
      let n := Nat.min 32768 (j.bytes.length - j.pos)
      (s.modPour (fun p => { p with jobs := tset p.jobs c { j with moved := n } })).bufTake c n

/-- Channel c takes an output in hand. -/
def State.pourPut (c : Nat) (j : PourJob) (s : State) : State := (s.modPour (fun p => { p with jobs := tset p.jobs c j })).pourLoad c

/-- An output comes to channel c, after what the channel has to do first. -/
def State.pourAdd (c : Nat) (j : PourJob) (s : State) : State :=
  if s.chanClear c then s.pourPut c j else s.modPour (fun p => { p with queue := tmod p.queue c ([] : List PourJob) (fun l => l ++ [j]) })

/-- Channel c goes on with the next output that waits for it. -/
def State.pourNext (c : Nat) (s : State) : State :=
  if !s.chanFree c then s
  else match tget s.pour.queue c [] with
    | [] => s
    | j :: js => (s.modPour (fun p => { p with queue := if js.isEmpty then tdel p.queue c else tset p.queue c js })).pourPut c j

/-- Whether the output in hand or waiting on a channel is the host's of a ring and number. -/
def PourJob.hosts (j : PourJob) (r num : Nat) : Bool := j.ring == r && j.num == num && j.host.isSome

/-- No more of a ring's output goes to the host: what is in hand goes on for its send mirrors alone, or leaves its channel. -/
def State.pourStop (r num : Nat) (s : State) : State :=
  let rest := (s.pour.queue.map (fun e => (e.1, e.2.filter (fun j => !j.hosts r num)))).filter (fun e => !e.2.isEmpty)
  let s1 := s.modPour (fun p => { p with queue := rest })
  forEach (s1.pour.jobs.filter (fun e => e.2.hosts r num)) (fun (e : Nat × PourJob) s =>
    if e.2.legs.any (fun l => !l.ended) then s.modPour (fun p => { p with jobs := tset p.jobs e.1 { e.2 with host := none } })
    else ((s.modPour (fun p => { p with jobs := tdel p.jobs e.1 })).palFixed 1 (txeCells e.1 e.2.moved) false).pourNext e.1) s1

/-- Whether the write engine can write the drip of channel c: that of an output, or of a software channel whose function takes it or
has reset. -/
def State.writeReady (s : State) (c : Nat) : Bool :=
  (tget? s.pour.jobs c).any (fun j => Nat.blt 0 j.moved) ||
  (tget? s.txe c).any (fun x => x.drip && (x.reset || s.fnOk (s.get (Fld.TXE_CFG_fn c))))

/-- Drips of the write engine among which a software channel that waits gets one: 0 acts as 16; no output waits for two software drips
(R348). -/
def State.swShare (s : State) : Nat :=
  let n := s.get Fld.TXE_ARB_sw_share
  Nat.max 2 (if n == 0 then 16 else n)

/-- The write engine takes its next drip where it has none in hand: outputs by deadline, then channel; software channels in round
robin, and one of them in its share of the drips (R348). -/
def State.writeNext (s : State) : State :=
  if s.pour.hand.any s.writeReady then s
  else
    let soft := leastBy (fun c => (c + 127 - s.pour.last) % 128) ((tkeys s.txe).filter (fun c => !thas s.pour.jobs c && s.writeReady c))
    let mine := (leastBy (fun e : Nat × PourJob => e.2.due) (s.pour.jobs.filter (fun e => Nat.blt 0 e.2.moved))).map (fun e => e.1)
    let turn := Nat.ble s.swShare (s.pour.run + 1)
    s.modPour (fun p => match mine, soft with
      | some _, some c => if turn then { p with hand := some c, run := 0 } else { p with hand := mine, run := p.run + 1 }
      | some _, none => { p with hand := mine, run := 0 }
      | none, _ => { p with hand := soft, run := 0 })

/-! ## Outputs of send mirrors (R381) -/

/-- The send mirrors that take a window of a stream. -/
def State.mirLegs (s : State) (st w : Nat) : List MirLeg :=
  ((List.range 8).filter (fun m => s.flag (Fld.ERK_MIR_CFG_enable m) && !s.flag (Fld.ERK_MIR_CFG_dir m) &&
    s.get (Fld.ERK_MIR_CFG_stream m) == st && bit (s.get (Fld.ERK_MIR_CFG_windows m)) w)).map (fun m => ⟨m, none, false⟩)

/-- When an output of a frame is due: its reference time and its latency budget (R163, R348). -/
def Frame.due (f : Frame) : Nat := f.ref + 1000 * fldOf f.cfg.regs (Fld.STRM_BUDGET_budget f.st)

/-- The work of a channel on a window of a frame: the host's buffer, where it goes there, and the bytes with their trailer. -/
def State.jobOf (s : State) (f : Frame) (x : WinSt) (host : Option (Nat × Nat × Bool)) (bytes : List Nat) : PourJob :=
  let r := 8 * f.st + x.w
  ⟨r, f.num, host, bytes, s.descBody f x (s.ring r).lost, s.mirLegs f.st x.w, 0, 0, f.due⟩

/-- A window's output that does not go to the host goes to its send mirrors alone, where it has any; a view that a degrade action
drops has no output. -/
def State.mirAlone (st F w : Nat) (s : State) : State :=
  match s.frame st F with
  | none => s
  | some f =>
    match f.wins.find? (fun x => x.w == w) with
    | none => s
    | some x =>
      if (s.mirLegs st w).isEmpty || (f.path == 2 && Nat.blt w 4) then s
      else
        let (bytes, rows, pad) := s.winPayload f w
        let status := s.frameStatus f + 2 * b2n pad
        let y := { x with vb := bytes.length + 32, vl := rows, status := status, crc := crc32c bytes, failed := false }
        s.pourAdd (f.chan w) (s.jobOf f y none (bytes ++ trailer f.num f.cfg.epoch x.alive st w bytes.length status y.crc))

/-- A window's content is complete: where its output no longer goes to the host, its send mirrors take it now. -/
def State.mirror (st F w : Nat) (s : State) : State :=
  if (s.frame st F).any (fun f => f.wins.any (fun x => x.w == w && x.phase == .done)) then s.mirAlone st F w else s

/-- An output that is dropped before its bytes go goes to its send mirrors alone, once its content is complete. -/
def State.mirDropped (st F w : Nat) (s : State) : State :=
  let r := 8 * st + w
  if (s.frame st F).any (fun f => f.wins.any (fun x => x.w == w && (x.phase == .waiting || x.phase == .bound)) && s.winReady f w) &&
      !s.pour.jobs.any (fun e => e.2.ring == r && e.2.num == F) then s.mirAlone st F w
  else s

/-- An output of a frame is dropped (R316). -/
def State.winDrop (st F w : Nat) (c : DropCause) (s : State) : State :=
  let r := 8 * st + w
  let s1 := (((s.mirDropped st F w).fetchLose r F).countDrop r c).raise (evStrm st 3)
  let s2 := (s1.modWin st F w (fun x => { x with phase := .done })).modFrame st F (fun f => { f with dropM := f.dropM ||| (1 <<< w) })
  s2.frameDone st F

/-- Steps 3 and 4 of R320 for a window, and what they count. -/
def State.publish (st F w : Nat) (s : State) : State :=
  match s.frame st F with
  | none => s
  | some f =>
    match f.wins.find? (fun x => x.w == w) with
    | none => s
    | some x =>
      let r := 8 * st + w
      let lost := (s.ring r).lost
      let s1 := s.hostPut x.fn (x.desc + 0x10) false (s.descBody f x lost)
      let s2 := if x.hold then s1 else s1.hostPut x.fn x.desc false (leBytes 4 (s.genOf r F * 256))
      let s3 := (s2.setRing r { s2.ring r with lost := 0 }).setReg (Reg.OUT_PUB r) (BitVec.ofNat 32 F)
      let s4 := (s3.wrapInc (Fld.OUT_LOSS_published r)).pubNote ⟨x.fn, r, F, x.addr, x.len, x.desc, 64⟩
      let s5 := if x.failed then (s4.bump (Fld.OUT_CNT_failed r)).raise (evHl 13) else s4
      let s6 := (s5.modWin st F w (fun y => { y with phase := .done })).modFrame st F (fun f => { f with
        pub := f.pub ||| (1 <<< w), failM := if x.failed then f.failM ||| (1 <<< w) else f.failM })
      s6.frameDone st F

/-- The first frame of a window that has not finished (R10). -/
def State.winHead (s : State) (st w : Nat) : Option (Frame × WinSt) :=
  (s.frames.filter (fun f => f.st == st)).findSome? (fun f =>
    (f.wins.find? (fun x => x.w == w && !(x.phase == .done))).map (fun x => (f, x)))

/-- Whether the channel that carries a window has it next: the channel of a stream's lowest view carries, frame after frame, that
view, the statistics block and the metadata block in this order (R328). -/
def State.chanTurn (s : State) (f : Frame) (w : Nat) : Bool :=
  let order := (viewsOf f.cfg.regs f.st).take 1 ++ [4, 5]
  let sent (g : Frame) (ws : List Nat) : Bool :=
    g.wins.all (fun x => !ws.contains x.w || x.phase == .written || x.phase == .done)
  !order.contains w ||
    (((s.frames.filter (fun g => g.st == f.st)).takeWhile (fun g => !(g.num == f.num))).all (fun g =>
        sent g ((viewsOf g.cfg.regs g.st).take 1 ++ [4, 5])) &&
      sent f (order.takeWhile (fun v => !(v == w))))

/-- Begin the output of a window whose turn has come: its channel takes payload and trailer, drip by drip; a refused or untranslated
one goes on to its descriptor at once (R317, R320, R322, R347, R423). -/
def State.pourWin (st w : Nat) : Nat → State → State
  | 0, s => s
  | n + 1, s =>
    match s.winHead st w with
    | none => s
    | some (f, x) =>
      if !(x.phase == .bound && s.winReady f w && s.chanTurn f w && s.chanClear (f.chan w)) then s
      else
        let r := 8 * st + w
        let (e, s0) := s.inject 4 r
        let (bytes, rows, pad) := s.winPayload f w
        let crc := crc32c bytes ^^^ b2n e.crc
        let len := bytes.length + 32
        let status := s.frameStatus f + 2 * b2n pad + 1024 * b2n (Nat.blt x.len len) + 2048 * b2n (!(x.addr % 64 == 0))
        if Nat.blt x.len len || !(x.addr % 64 == 0) then
          let s1 := s0.modWin st f.num w (fun y => { y with status := status, vb := 0, vl := 0, crc := 0, hold := e.withhold })
          State.pourWin st w n ((((s1.mirAlone st f.num w).bump (Fld.OUT_CNT_refused r)).raise (evHl 17)).publish st f.num w)
        else
          let y := { x with status := status, vb := len, vl := rows, crc := crc, hold := e.withhold }
          let s1 := s0.modWin st f.num w (fun _ => y)
          if x.noXlat then State.pourWin st w n ((s1.mirAlone st f.num w).publish st f.num w)
          else s1.pourAdd (f.chan w) (s1.jobOf f { y with failed := false } (some (x.fn, x.addr, s.roOf x.fn r))
            (bytes ++ trailer f.num f.cfg.epoch x.alive st w bytes.length status crc))

/-- Go on with every window of a stream; each goes in the order of R328 (chanTurn). -/
def State.pourAll (st : Nat) (s : State) : State :=
  forEach (List.range (s.frames.length + 1)) (fun _ s =>
    forEach [0, 1, 2, 3, 4, 5] (fun w s => State.pourWin st w (s.frames.length + 1) s) s) s

/-- Whether an output may go to a function: it is not held, and no transfer engine is fenced (R316, R416). DESIGN CHOICE (log 120): an
output that a fenced engine cannot carry counts as held. -/
def State.pourMay (s : State) (fn : Nat) : Bool := s.fnOk fn && !s.domFenced 144 && !s.domFenced 145

/-- OUTPUT_READY: a window's first byte is ready; the output binds or is dropped (R316). -/
def State.outputReady (r : Nat) (xlatOk : Bool) (s : State) : State :=
  let st := r / 8
  let w := r % 8
  match (s.frames.filter (fun f => f.st == st && !(f.path == 2 && Nat.blt w 4))).find? (fun f =>
    f.wins.any (fun x => x.w == w && x.phase == .waiting)) with
  | none => s
  | some f =>
    let fn := s.get (Fld.OUT_CFG_fn r)
    if !s.pourMay fn then (s.winDrop st f.num w .held).pourAll st
    else if f.bdrop then (s.winDrop st f.num w .budget).pourAll st
    else match s.fetchOf r f.num with
      | some ⟨_, fn', desc, _, _, _, some (addr, len), _, _⟩ =>
        (((s.fetchDrop r f.num).atsNote fn' addr xlatOk).modWin st f.num w (fun x => { x with
          phase := .bound, addr := addr, len := len, fn := fn', desc := desc, failed := !xlatOk, noXlat := !xlatOk })).pourAll st
      | _ => (s.winDrop st f.num w .notOwned).pourAll st

/-- FLUSH_READ_COMPLETE (R321, R322). -/
def State.flushDone (r : Nat) (ok : Bool) (s : State) : State :=
  let st := r / 8
  let w := r % 8
  match s.winHead st w with
  | some (f, x) =>
    if x.phase == .written then
      let s1 := s.readEnd true x.fn (x.addr + x.vb - 4) 0
      let s2 := if ok then s1 else s1.modWin st f.num w (fun x => { x with failed := true })
      (s2.publish st f.num w).pourAll st
    else s
  | none => s

/-- COMPLETION_TIMEOUT of a flush read (R321). -/
def State.flushTimeout (r : Nat) (s : State) : State :=
  match s.winHead (r / 8) (r % 8) with
  | some (_, x) => if x.phase == .written then ((s.bump Fld.HL_ERR_cto).raise (evHl 6)).flushDone r false else s
  | none => s

/-! ## Functions that leave, and the link (R55, R56, R308, R332) -/

/-- Outputs of the functions that no longer take output: bound ones are dropped and leave their descriptor bound (R55, R316). -/
def State.pourCut (s : State) : State :=
  let go := s.frames.flatMap (fun f => (f.wins.filter (fun x =>
    (x.phase == .bound || x.phase == .written) && !s.fnOk x.fn)).map (fun x => (f.st, f.num, x)))
  let s1 := forEach go (fun (e : Nat × Nat × WinSt) s =>
    let r := 8 * e.1 + e.2.2.w
    let x := s.ring r
    let s' := s.setRing r { x with kept := tset x.kept (s.slotOf r e.2.1) (e.2.2.addr, e.2.2.len) }
    (if e.2.2.phase == .written then s'.readEnd true e.2.2.fn (e.2.2.addr + e.2.2.vb - 4) 0 else s'.pourStop r e.2.1).winDrop
      e.1 e.2.1 e.2.2.w .held) s
  forEach (List.range 8) (fun g s =>
    let x := s.grp g
    let held := x.periods.filter (fun p => p.due.isSome && !s.fnOk p.slot.1)
    let s2 := s.setGrp g { x with periods := x.periods.filter (fun p => !(p.due.isSome && !s.fnOk p.slot.1)) }
    let s3 := forEach held (fun (p : Period) s =>
      let y := s.ring (256 + g)
      (s.setRing (256 + g) { y with kept := tset y.kept (s.slotOf (256 + g) p.num) (0, 0) }).logDrop g .held) s2
    s3.logFlush g (s3.grp g).periods.length) s1

/-- A function's descriptors count as not handed over until they are fetched again (R332). -/
def State.fnForget (fn : Nat) (s : State) : State :=
  forEach (tkeys s.rings) (fun r s =>
    if !(s.get (Fld.OUT_CFG_fn r) == fn) then s
    else
      let x := s.ring r
      let fresh (f : Fetch) : Fetch := { f with got := none, tries := 0, stay := false, busy := false, again := false }
      s.setRing r { x with kept := [], fetches := x.fetches.flatMap (fun f =>
        if f.dead then [f] else if f.busy then [{ f with dead := true }, fresh f] else [fresh f]) }) s

/-- A function takes output again: its descriptors that are not handed over are fetched. -/
def State.fnRefetch (fn : Nat) (s : State) : State :=
  forEach (tkeys s.rings) (fun r s => if s.get (Fld.OUT_CFG_fn r) == fn then s.doorbell r else s) s

/-- Function states in HL_FN: ready is a function in D0 that takes output, held one in D3hot, in reset or absent, whatever the
link's state (R338). -/
def State.fnShow (s : State) : State :=
  let out (f : Nat) : Bool := !((s.fn f).present && (s.fn f).d0 && !(s.fn f).inReset)
  (s.put Fld.HL_FN_ready (maskOf ((List.range 16).filter s.fnOk))).put Fld.HL_FN_held (maskOf ((List.range 16).filter out))

/-! ## The fault mailbox (R323) -/

/-- Whether a range of addresses overlaps a page. -/
def overlaps (page a n : Nat) : Bool := Nat.blt a (page * 4096 + 4096) && Nat.blt (page * 4096) (a + n)

/-- FAULT_MAILBOX_WRITE: windows of frames, received outputs and pour-log records that are bound and not published are marked, and
the function's last publications are searched. Steps 3 and 4 of R320 are one act of the model, so none stands between them. -/
def State.faultMail (page fn : Nat) (s0 : State) : State :=
  let s := s0.raise (evHl 14)
  let open_ := s.frames.flatMap (fun f => (f.wins.filter (fun x => (x.phase == .bound || x.phase == .written) && x.fn == fn &&
    (overlaps page x.addr x.len || overlaps page x.desc 64))).map (fun x => (8 * f.st + x.w, f.num)))
  let logs := (List.range 8).flatMap (fun g => ((s.grp g).periods.filter (fun p => p.due.isSome && p.slot.1 == fn &&
    overlaps page p.slot.2 320)).map (fun p => (256 + g, p.num)))
  let late := (tget s.pubs fn []).filter (fun p => overlaps page p.buf p.len || overlaps page p.desc p.dlen)
  let hit (x : ErkPour) : Bool := (x.phase == .bound || x.phase == .written) && x.fn == fn && (overlaps page x.addr x.len || overlaps page x.desc 64)
  let erks := (s.erk.pours.filter hit).map (fun x => (8 * s.get (Fld.ERK_MIR_CFG_local x.m) + x.w, x.num))
  let pend := open_ ++ erks ++ logs
  let s1 := forEach open_ (fun e s => s.modWin (e.1 / 8) e.2 (e.1 % 8) (fun x => { x with failed := true }))
    { s with erk := { s.erk with pours := s.erk.pours.map (fun x => if hit x then { x with failed := true } else x) } }
  let s2 := forEach logs (fun e s => (s.bump (Fld.OUT_CNT_failed e.1)).raise (evHl 13)) s1
  let show_ (r num : Nat) (isLate : Bool) (s : State) : State :=
    (s.setReg Reg.OUT_FAULT_STAT (BitVec.ofNat 32 (2 ^ 31 + b2n isLate * 2 ^ 30 + b2n (!late.isEmpty) * 2 ^ 29 +
      Nat.min 255 (pend.length + late.length) * 2 ^ 8 + r % 256))).setReg Reg.OUT_FAULT_FRAME (BitVec.ofNat 32 num)
  let s3 := match leastBy (fun e : Nat × Nat => e.1) pend, leastBy (fun p : Pub => p.ring) late with
    | some e, _ => show_ e.1 e.2 false s2
    | none, some p => show_ p.ring p.num true s2
    | none, none => s2
  s3.raiseIf (!late.isEmpty) (evHl 15)

/-! ## CSI-2 transmit (R333 to R336) -/

/-- Samples of 10 bits packed as CSI-2 packs them: four high bytes, then their low bits. -/
def pack10 : List Nat → List Nat
  | a :: b :: c :: d :: rest =>
    [a / 4, b / 4, c / 4, d / 4, a % 4 + 4 * (b % 4) + 16 * (c % 4) + 64 * (d % 4)] ++ pack10 rest
  | [] => []
  | rest => let l := padTo 4 rest; l.map (fun v => v / 4) ++ [sumL ((List.range 4).map (fun i => 4 ^ i * (nth l i 0 % 4)))]

/-- The sample values of a payload of nb bytes each. -/
def samplesOf (nb : Nat) : Nat → List Nat → List Nat
  | 0, _ => []
  | n + 1, b => leVal (b.take nb) :: samplesOf nb n (b.drop nb)

/-- The lines of a view's CSI-2 frame from its payload (R334). -/
def csoLines (v : ViewCfg) (rows : Nat) (payload : List Nat) : List (List Nat) :=
  let nb := compBytes v.fmt
  let w := v.ow
  let pk (l : List Nat) : List Nat := if nb == 2 then pack10 l else l
  let ys (i : Nat) : List Nat := samplesOf nb w (payload.drop (nb * w * i))
  let cs (i : Nat) : List Nat := samplesOf nb w (payload.drop (nb * w * rows + nb * w * i))
  let uyvy (y c : List Nat) : List Nat :=
    (List.range (w / 2)).flatMap (fun i => [nth c (2 * i) 0, nth y (2 * i) 0, nth c (2 * i + 1) 0, nth y (2 * i + 1) 0])
  match v.fmt with
  | 0 | 1 => (List.range rows).map (fun i => pk (if i % 2 == 0 then ys i else uyvy (ys i) (cs (i / 2))))
  | 2 | 3 => (List.range rows).map (fun i => pk (uyvy (ys i) (cs i)))
  | 4 => (List.range rows).map (fun i => (List.range w).flatMap (fun x =>
      [2, 1, 0].map (fun c => nth payload (w * rows * c + w * i + x) 0)))
  | 8 => (List.range rows).map (fun i => slice payload (2 * w * i) (2 * w))
  | _ => (List.range rows).map (fun i => slice payload (4 * w * i) (4 * w))

/-- CSI-2 data type of a window's content (R334). -/
def csoType (fmt w : Nat) : Nat :=
  if w == 4 then 0x32 else if w == 5 then 0x33
  else match fmt with
    | 0 => 0x18
    | 1 => 0x19
    | 2 => 0x1E
    | 3 => 0x1F
    | 4 => 0x24
    | 8 => 0x30
    | _ => 0x31

/-- How a transmit port sends a packet (R333): a short one carries two bytes of data in its header, a long one its length there and
a CRC-16 after its payload. -/
def State.csoHow (s : State) (n vc dt : Nat) (bytes : List Nat) : CsoHow :=
  let short := Nat.blt dt 0x10
  ⟨s.flag (Fld.CSO_CFG_scr n), s.get (Fld.CSO_CFG_phy_mode n) == 0 && s.flag (Fld.CSO_CFG_cont_clk n),
    Config.csiEcc vc dt (if short then leVal bytes else bytes.length), if short then none else some (csiCrc bytes)⟩

/-- Send one packet of a transmit port, through the injectors (R423); a port whose domain is not on has its packets held until
it is (R40, R46), and sends nothing where it is fenced (R416). -/
def State.csoPacket (n vc dt : Nat) (bytes : List Nat) (s : State) : State :=
  let o := Out.cso n vc dt bytes [] (s.csoHow n vc dt bytes)
  if s.domFenced (138 + n) then s
  else if s.domOn (138 + n) then s.csoOut n o
  else { s with outHeld := tmod s.outHeld n [] (fun l => l ++ [o]) }

/-- Send one frame of a window on a transmit port (R334). -/
def State.csoFrame (n vc : Nat) (f : Frame) (x : WinSt) (s : State) : State :=
  let (bytes, rows, pad) := s.winPayload f x.w
  let v := viewCfg f.cfg.regs f.st x.w
  let dt := csoType v.fmt x.w
  let lines := if Nat.blt x.w 4 then csoLines v rows bytes else chunks 2048 64 bytes
  let ls := s.flag (Fld.CSO_CFG_lsle n)
  let crc := crc32c bytes
  let num := leBytes 2 (f.num % 65535 + 1)
  let s1 := s.csoPacket n vc 0x00 num
  let s2 := forEach (List.range lines.length) (fun i s =>
    let a := if ls then s.csoPacket n vc 0x02 (leBytes 2 (i + 1)) else s
    let b := a.csoPacket n vc dt (nth lines i [])
    if ls then b.csoPacket n vc 0x03 (leBytes 2 (i + 1)) else b) s1
  let s3 := s2.csoPacket n vc 0x34 (trailer f.num f.cfg.epoch x.alive f.st x.w bytes.length (s.frameStatus f + 2 * b2n pad) crc)
  s3.csoPacket n vc 0x01 num

/-- Transmit map entries of a window of a stream, on enabled ports. -/
def State.csoMaps (s : State) (st w : Nat) : List (Nat × Nat) :=
  (List.range 64).filterMap (fun m =>
    let n := s.get (Fld.CSO_MAP_port m)
    if s.flag (Fld.CSO_MAP_enable m) && s.get (Fld.CSO_MAP_stream m) == st && s.get (Fld.CSO_MAP_window m) == w &&
      s.flag (Fld.CSO_CFG_enable n) then some (n, s.get (Fld.CSO_MAP_vc m)) else none)

/-- A window's content is complete: it goes out on the transmit ports that map it; a view that a degrade action drops sends
nothing (R334, R336, R337). -/
def State.csoSend (st F w : Nat) (s : State) : State :=
  match s.frame st F with
  | none => s
  | some f =>
    match f.wins.find? (fun x => x.w == w) with
    | none => s
    | some x =>
      if f.path == 2 && Nat.blt w 4 then forEach (s.csoMaps st w) (fun _ s => s.raise (evHl 19)) s
      else forEach (s.csoMaps st w) (fun e s => s.csoFrame e.1 e.2 f x) s

/-- A stream closes: its transmit map entries send nothing (R337). -/
def State.csoClosed (st : Nat) (s : State) : State :=
  forEach (List.range 6) (fun w s => forEach (s.csoMaps st w) (fun _ s => s.raise (evHl 19)) s) s

end Sys2Proof.Machine
end

