-- ==== Sys2Proof/Machine/Erkuhar.lean ====
section
/-! DEFINITION. Machine/Erkuhar.lean: the Erkuhar link: frames, sequence and replay, mirrors, notices, time and census
frames (R378 to R383). Control transactions, which reach registers, are in Machine/Targets.lean. -/

namespace Sys2Proof.Machine

/-! ## Frames that are sent (R379, R380) -/

/-- What a frame to be sent says: type, flags, stream, window, frame number, byte offset, payload. -/
structure ErkMsg where
  typ   : Nat
  flags : Nat
  st    : Nat
  w     : Nat
  num   : Nat
  off   : Nat
  data  : List Nat
  deriving DecidableEq, Repr

/-- A payload padded to a multiple of 4. -/
def pad4 (l : List Nat) : List Nat := padTo ((l.length + 3) / 4 * 4) l

/-- A frame's bytes: the 24-byte header, the padded payload, the CRC-32C over both. -/
def erkBytes (x : ErkMsg) (seq ack : Nat) : List Nat :=
  let h := [x.typ, x.flags] ++ leBytes 2 x.data.length ++ leBytes 4 seq ++ leBytes 4 ack ++ [x.st, x.w, 0, 0] ++
    leBytes 4 x.num ++ leBytes 4 x.off ++ pad4 x.data
  h ++ leBytes 4 (crc32c h)

/-- Frames not acknowledged yet. -/
def Erk.open_ (e : Erk) : Nat := sub32 e.txSeq e.acked

/-- Send a frame in sequence: it goes through the injectors (R422) and is kept among the last 256. -/
def State.erkSend (x : ErkMsg) (s : State) : State :=
  if !s.flag Fld.ERK_STAT_up then s
  else
    let b := erkBytes x s.erk.txSeq s.erk.rxSeq
    let s1 := s.emitFi 3 0 (.erk b)
    let l := s1.erk.store ++ [(s1.erk.txSeq, b)]
    { s1 with erk := { s1.erk with txSeq := add32 s1.erk.txSeq 1, store := l.drop (l.length - 256) } }

/-- Send an idle frame, which carries the acknowledgement and takes no number of its own. -/
def State.erkIdle (s : State) : State :=
  if s.flag Fld.ERK_STAT_up then s.emitFi 3 0 (.erk (erkBytes ⟨7, 0, 0, 0, 0, 0, []⟩ s.erk.txSeq s.erk.rxSeq)) else s

/-! ## The link (R378, R380) -/

/-- The leader starts training (R378). -/
def State.erkTrain (s : State) : State :=
  if s.flag Fld.ERK_CFG_enable && !s.flag Fld.ERK_CFG_role then s.emit .erkTrain else s

/-- An open control transaction of this end ends with a result (R384, R388). -/
def State.ctlEnd (result : Nat) (s : State) : State :=
  match s.erk.ctl with
  | none => s
  | some _ => ((({ s with erk := { s.erk with ctl := none, back := false } }.put Fld.ERK_PCTL_go 0).put Fld.ERK_PCTL_result result).raise
      (evTime 24))

/-- The link is lost or taken down; the leader trains it again. -/
def State.erkDown (s : State) : State :=
  if !s.flag Fld.ERK_STAT_up then s
  else (((s.put Fld.ERK_STAT_up 0).raise (evTime 17)).ctlEnd 3).erkTrain

/-- ERK_LINK_UP: a training ends, with the role that the peer claims: false = leader. -/
def State.erkUp (peer : Bool) (s : State) : State :=
  if !(s.loaded && s.flag Fld.ERK_CFG_enable) || s.flag Fld.ERK_STAT_up || s.domHurt 142 || s.domHurt 143 then s
  else
    let s1 := s.bump Fld.ERK_STAT_retrains
    if peer == s.flag Fld.ERK_CFG_role then (s1.put Fld.ERK_STAT_role_clash 1).raise (evTime 19)
    else ((s1.put Fld.ERK_STAT_role_clash 0).put Fld.ERK_STAT_up 1).raise (evTime 16)

/-- The sender replays from the oldest unacknowledged frame; at the eighth replay of one of the frames the link is taken down. -/
def State.erkReplay (s : State) : State :=
  if !s.flag Fld.ERK_STAT_up || s.erk.open_ == 0 then s
  else
    let s1 := (s.bump Fld.ERK_STAT_replays).raise (evTime 18)
    let l := s1.erk.store.filter (fun e => serGE e.1 s1.erk.acked)
    let reps := l.map (fun e => (e.1, tget s1.erk.reps e.1 0 + 1))
    if reps.any (fun e => Nat.ble 8 e.2) then { s1 with erk := { s1.erk with reps := [] } }.erkDown
    else forEach l (fun e s => s.emitFi 3 0 (.erk e.2)) { s1 with erk := { s1.erk with reps := reps } }

/-! ## Requests of this end (R384) -/

/-- Send the request of this end's open transaction: the word of ERK_PCTL without `go`, and the data. -/
def State.ctlAsk (s : State) : State :=
  match s.erk.ctl with
  | none => s
  | some (rd, off, data, _) => s.erkSend ⟨4, 0, 0, 0, 0, 0, leBytes 4 (b2n rd * 2 ^ 30 + off) ++ leBytes 4 data⟩

/-- A write of ERK_PCTL (R384, R388): `go` opens a transaction unless one is open; with the link down it ends at once. -/
def State.erkCtl (v : Nat) (s : State) : State :=
  if s.erk.ctl.isSome then s
  else
    let s1 := (s.put Fld.ERK_PCTL_rd (bits v 30 30)).put Fld.ERK_PCTL_offset (bits v 23 0)
    if !bit v 31 then s1
    else
      let data := if bit v 30 then 0 else (s1.reg Reg.ERK_PCTL_DATA).toNat
      let s2 := { s1.put Fld.ERK_PCTL_go 1 with erk := { s1.erk with ctl := some (bit v 30, bits v 23 0, data, 0) } }
      if s.flag Fld.ERK_STAT_up then s2.ctlAsk else s2.ctlEnd 3

/-- ERK_CONTROL_ANSWER: the peer's answer ends this end's open transaction. -/
def State.ctlAnswered (result data : Nat) (s : State) : State :=
  match s.erk.ctl with
  | none => s
  | some (rd, _, _, _) =>
    let s1 := if rd then s.setReg Reg.ERK_PCTL_DATA (BitVec.ofNat 32 data) else s
    s1.ctlEnd (if result == 0 then 0 else 1)

/-- This end is the follower and gives up its own request for the leader's: the request waits for the back-off of R148, until the
ninth abandonment (R384). One that waits for its back-off already is not open on the link. -/
def State.ctlBack (s : State) : State :=
  match s.erk.ctl with
  | none => s
  | some (rd, off, data, n) =>
    if s.erk.back then s
    else if Nat.ble 9 (n + 1) then (s.ctlEnd 2).raise (evTime 25)
    else { s with erk := { s.erk with ctl := some (rd, off, data, n + 1), back := true } }

/-- The back-off of this end's request ends: it is sent again (R148, R384). -/
def State.ctlAgain (s : State) : State :=
  if s.erk.back then { s with erk := { s.erk with back := false } }.ctlAsk else s

/-! ## Send mirrors (R381) -/

/-- Count a mirrored output that is dropped or abandoned. -/
def State.mirDrop (m : Nat) (s : State) : State := (s.bump (Fld.ERK_MIR_STAT_dropped m)).raise (evTime 20)

/-- A send mirror sends data frames of an output, each with its flags, offset and payload: at the first one that finds the replay store
full, the rest goes as one abandoned frame. Whether that happened. -/
def State.mirParts (m st w num : Nat) : List (Nat × Nat × List Nat) → State → Bool × State
  | [], s => (false, s)
  | (fl, off, d) :: rest, s =>
    if Nat.ble 256 s.erk.open_ then (true, (s.erkSend ⟨1, 3, st, w, num, off, []⟩).mirDrop m)
    else State.mirParts m st w num rest (s.erkSend ⟨1, fl, st, w, num, off, d⟩)

/-- The journal takes a mirrored output of which frames went (R382). -/
def State.mirNote (first st w num : Nat) (s : State) : State :=
  let j := s.erk.journal ++ [⟨first, sub32 s.erk.txSeq 1, st, w, num⟩]
  { s with erk := { s.erk with journal := j.drop (j.length - 4096) } }

/-- A send mirror takes the bytes of one drip of an output as the channel's buffer delivers them, and after the last of them the
descriptor bytes (R381). With the link down nothing more goes, and the output is dropped. -/
def State.legSend (j : PourJob) (b : List Nat) (l : MirLeg) (s : State) : MirLeg × State :=
  let st := j.ring / 8
  let w := j.ring % 8
  if l.ended then (l, s)
  else if !s.flag Fld.ERK_STAT_up then
    let s1 := s.mirDrop l.m
    ({ l with ended := true }, l.first.elim s1 (fun n => s1.mirNote n st w j.num))
  else
    let first := l.first.getD s.erk.txSeq
    let cut := chunks 2048 17 b
    let parts := (List.zip (List.range cut.length) cut).map (fun e => (0, j.pos + 2048 * e.1, e.2))
    let ends := j.pos + b.length == j.bytes.length
    let (full, s1) := State.mirParts l.m st w j.num (parts ++ (if ends then [(1, j.bytes.length, j.body)] else [])) s
    if full then (⟨l.m, some first, true⟩, s1.mirNote first st w j.num)
    else if ends then (⟨l.m, some first, true⟩, (s1.wrapInc (Fld.ERK_MIR_STAT_outputs l.m)).mirNote first st w j.num)
    else (⟨l.m, some first, false⟩, s1)

/-! ## Frames that are received (R380) -/

/-- The acknowledgement of a received frame moves the sender's window; one that shows a gap starts a replay. -/
def State.erkAck (ack : Nat) (gap : Bool) (s : State) : State :=
  let e := s.erk
  let s1 := if !(ack == e.acked) && Nat.ble (sub32 ack e.acked) e.open_ then
    { s with erk := { e with acked := ack, reps := e.reps.filter (fun x => serGE x.1 ack) } } else s
  if gap then s1.erkReplay else s1

/-- A frame of the peer: whether it is taken, with its sequence number, acknowledgement and checksum. One out of sequence
or with a wrong checksum is answered with the expected number. -/
def State.erkTake (seq ack : Nat) (gap crcOk : Bool) (s : State) : Bool × State :=
  if !s.flag Fld.ERK_STAT_up then (false, s)
  else if !crcOk then (false, s.erkIdle)
  else
    let s1 := s.erkAck ack gap
    if seq == s1.erk.rxSeq then (true, { s1 with erk := { s1.erk with rxSeq := add32 seq 1 } })
    else (false, s1.erkIdle)

/-! ## Receive mirrors (R381) -/

/-- A notice frame about an output of the peer (R382). -/
def State.erkNotice (first cause : Nat) (s : State) : State := s.erkSend ⟨6, 0, 0, 0, 0, 0, leBytes 4 first ++ [cause]⟩

/-- The receive mirrors that take a stream and window of the peer. -/
def State.mirsFor (s : State) (st w : Nat) : List Nat :=
  (List.range 8).filter (fun m =>
    s.flag (Fld.ERK_MIR_CFG_enable m) && s.flag (Fld.ERK_MIR_CFG_dir m) && s.get (Fld.ERK_MIR_CFG_stream m) == st &&
    bit (s.get (Fld.ERK_MIR_CFG_windows m)) w)

/-- The local ring of a receive mirror's window. -/
def State.mirRing (s : State) (m w : Nat) : Nat := 8 * s.get (Fld.ERK_MIR_CFG_local m) + w

/-- An output that came abandoned or incomplete: dropped, counted, its descriptor no longer needed, and the peer told. -/
def State.mirLost (x : ErkIn) (s : State) : State :=
  let s1 := { s with erk := { s.erk with ins := s.erk.ins.filter (fun y => !(y.m == x.m && y.w == x.w)) } }
  (((s1.fetchLose (s1.mirRing x.m x.w) x.num).mirDrop x.m)).erkNotice x.first 3

/-- Receive mirror m takes a data frame of an output in sequence order. -/
def State.mirTake (m seq flags w num off : Nat) (data : List Nat) (s : State) : State :=
  let cur := s.erk.ins.find? (fun y => y.m == m && y.w == w)
  let fits := match cur with
    | some y => y.num == num && y.bytes.length == off
    | none => false
  let s1 := match cur with
    | some y => if fits then s else s.mirLost y
    | none => s
  let x : Option ErkIn := if fits then cur else if off == 0 then some ⟨m, seq, w, num, []⟩ else none
  match x with
  | none => s1
  | some y =>
    let s2 := if fits then s1 else s1.fetchStart (s1.mirRing m w) num
    let rest := s2.erk.ins.filter (fun z => !(z.m == m && z.w == w))
    if bit flags 1 then { s2 with erk := { s2.erk with ins := rest ++ [y] } }.mirLost y
    else if bit flags 0 then
      if data.length == 48 then
        { s2 with erk := { s2.erk with
          ins := rest, pours := s2.erk.pours ++ [⟨m, y.first, w, num, y.bytes, data, .waiting, 0, 0, 0, 0, false, false⟩] } }
      else { s2 with erk := { s2.erk with ins := rest ++ [y] } }.mirLost y
    else { s2 with erk := { s2.erk with ins := rest ++ [{ y with bytes := y.bytes ++ data }] } }

/-- A data frame of an output in sequence order: every receive mirror of its stream and window takes it. -/
def State.mirData (seq flags st w num off : Nat) (data : List Nat) (s : State) : State :=
  forEach (s.mirsFor st w) (fun m s => s.mirTake m seq flags w num off data) s

/-! ## Pouring what was received (R316, R317, R320, R321) -/

/-- The first output of a receive mirror that a ring is pouring. -/
def State.erkPourOf (s : State) (r : Nat) : Option ErkPour := s.erk.pours.find? (fun p => s.mirRing p.m p.w == r)

/-- Change or remove the first pour of a ring. -/
def State.modErkPour (x : ErkPour) (y : Option ErkPour) (s : State) : State :=
  { s with erk := { s.erk with pours := s.erk.pours.filterMap (fun p =>
      if p.m == x.m && p.w == x.w && p.num == x.num && p.first == x.first then y else some p) } }

/-- Publish a received output: the sender's descriptor bytes with this end's delivery result, then ownership. -/
def State.erkPublish (x : ErkPour) (s : State) : State :=
  let r := s.mirRing x.m x.w
  let body := if x.failed then setAt x.body 12 (nth x.body 12 0 ||| 32) else x.body
  let s0 := (s.modErkPour x none).hostPut x.fn (x.desc + 0x10) false body
  let s1 := if x.hold then s0 else s0.hostPut x.fn x.desc false (leBytes 4 (s.genOf r x.num * 256))
  let s2 := (s1.setReg (Reg.OUT_PUB r) (BitVec.ofNat 32 x.num)).wrapInc (Fld.OUT_LOSS_published r)
  let s3 := (s2.pubNote ⟨x.fn, r, x.num, x.addr, x.len, x.desc, 64⟩).wrapInc (Fld.ERK_MIR_STAT_outputs x.m)
  if x.failed then (((s3.bump (Fld.OUT_CNT_failed r)).raise (evHl 13))).erkNotice x.first 1 else s3

/-- A received output is dropped at the ingress (R316). -/
def State.erkPourDrop (x : ErkPour) (c : DropCause) (s : State) : State :=
  let r := s.mirRing x.m x.w
  let s1 := (((s.modErkPour x none).fetchLose r x.num).countDrop r c).raise (evStrm (r / 8) 3)
  let s2 := s1.mirDrop x.m
  match c with
  | .notOwned => s2.erkNotice x.first 2
  | _ => s2

/-- The transfer channel of a receive mirror's window: 4t + w for a view, and for statistics and metadata that of the lowest view in
its mask, as R328 has it (R381; DEDUCED, log 172). -/
def State.mirChan (s : State) (m w : Nat) : Nat :=
  let views := (List.range 4).filter (bit (s.get (Fld.ERK_MIR_CFG_windows m)))
  4 * s.get (Fld.ERK_MIR_CFG_local m) + (if Nat.blt w 4 then w else views.headD 0)

/-- An output with its payload checksum altered by an injector, in its trailer (R423). -/
def badTrailer (b : List Nat) : List Nat :=
  let n := b.length - 32
  let t := (b.drop n).take 28
  let t' := setAt t 24 (nth t 24 0 ^^^ 1)
  b.take n ++ t' ++ leBytes 4 (crc32c t')

/-- OUTPUT_READY of a receive mirror's ring: the output binds and its channel takes it, through the injectors of its ring (R422), or it
is dropped. -/
def State.erkReady (r : Nat) (xlatOk : Bool) (s : State) : State :=
  match s.erkPourOf r with
  | none => s
  | some x =>
    if !(x.phase == .waiting) then s
    else if !s.ringOn r then (s.modErkPour x none).mirDrop x.m
    else if !s.pourMay (s.get (Fld.OUT_CFG_fn r)) then s.erkPourDrop x .held
    else match s.fetchOf r x.num with
      | some ⟨_, fn, desc, _, _, _, some (addr, len), _, _⟩ =>
        let (e, s0) := s.inject 4 r
        let s1 := (s0.fetchDrop r x.num).atsNote fn addr xlatOk
        let y := { x with
          phase := .bound, fn := fn, desc := desc, addr := addr, len := len, failed := !xlatOk, hold := e.withhold
          bytes := if e.crc then badTrailer x.bytes else x.bytes
          body := if e.crc then setAt x.body 36 (nth x.body 36 0 ^^^ 1) else x.body }
        let n := x.bytes.length
        if Nat.blt len n || !(addr % 64 == 0) then
          let st := leAt x.body 12 2 ||| (1024 * b2n (Nat.blt len n)) ||| (2048 * b2n (!(addr % 64 == 0)))
          let body := slice x.body 0 8 ++ [0, 0, 0, 0] ++ leBytes 2 st ++ [0, 0] ++ slice x.body 16 20 ++ [0, 0, 0, 0] ++ slice x.body 40 8
          let z := { y with body := body }
          (((s1.modErkPour x (some z)).bump (Fld.OUT_CNT_refused r)).raise (evHl 17)).erkPublish z
        else if !xlatOk then (s1.modErkPour x (some y)).erkPublish y
        else (s1.modErkPour x (some y)).pourAdd (s.mirChan x.m x.w) ⟨r, x.num, some (fn, addr, s.roOf fn r), y.bytes, [], [], 0, 0, s.now⟩
      | _ => s.erkPourDrop x .notOwned

/-- FLUSH_READ_COMPLETE of a receive mirror's ring (R321). -/
def State.erkFlushed (r : Nat) (ok : Bool) (s : State) : State :=
  match s.erkPourOf r with
  | none => s
  | some x =>
    if x.phase == .written then
      let y := { x with failed := x.failed || !ok }
      ((s.readEnd true x.fn (x.addr + x.bytes.length - 4) 0).modErkPour x (some y)).erkPublish y
    else s

/-- Received outputs of functions that no longer take output are dropped; bound descriptors stay bound (R316). -/
def State.erkCut (s : State) : State :=
  forEach (s.erk.pours.filter (fun x => (x.phase == .bound || x.phase == .written) && !s.fnOk x.fn)) (fun (x : ErkPour) s =>
    let r := s.mirRing x.m x.w
    let g := s.ring r
    let s1 := s.setRing r { g with kept := tset g.kept (s.slotOf r x.num) (x.addr, x.len) }
    (if x.phase == .written then s1.readEnd true x.fn (x.addr + x.bytes.length - 4) 0 else s1.pourStop r x.num).erkPourDrop x .held) s

/-! ## Drips of the pour channels (R347, R352) -/

/-- The bytes of a ring's output have all been written: its flush read is due. -/
def State.jobWritten (r num : Nat) (s : State) : State :=
  match s.erk.pours.find? (fun p => s.mirRing p.m p.w == r && p.num == num && p.phase == .bound) with
  | some x => s.modErkPour x (some { x with phase := .written })
  | none => s.modWin (r / 8) num (r % 8) (fun x => { x with phase := .written })

/-- Channel c has done with an output: its flush read goes out where the host has it, and what waits goes on (R320, R321). -/
def State.pourEnd (c : Nat) (j : PourJob) (s : State) : State :=
  let s1 := s.modPour (fun p => { p with jobs := tdel p.jobs c })
  let s2 := match j.host with
    | none => s1
    | some (fn, addr, _) => (s1.jobWritten j.ring j.num).hostReadGo true fn (addr + j.bytes.length - 4) 0
  (s2.pourNext c).pourAll (j.ring / 8)

/-- The write engine writes the drip of an output that channel c holds: to the host, and to its send mirrors, which take it from the
buffer (R347, R381). An uncorrected word of the buffer is an uncorrected error of the frame's output (R352). -/
def State.pourDrip (c : Nat) (s : State) : State :=
  match tget? s.pour.jobs c with
  | none => s
  | some j =>
    let b := slice j.bytes j.pos j.moved
    let s0 := if (s.bufBad c j.moved).isEmpty then s else (s.markError (j.ring / 8) j.num).raise (evTxe c 1)
    let s1 := match j.host with
      | some (fn, addr, ro) => s0.payloadPut c fn (addr + j.pos) ro b
      | none => s0
    let (legs, s2) := forEach j.legs (fun l (a : List MirLeg × State) =>
      let (l', t) := a.2.legSend j (s.bufBytes c b) l
      (a.1 ++ [l'], t)) ([], s1)
    let k := { j with pos := j.pos + j.moved, moved := 0, legs := legs }
    let s3 := s2.bufFree c j.moved
    if k.pos == k.bytes.length || (k.host.isNone && legs.all (fun l => l.ended)) then s3.pourEnd c k else s3.pourPut c k

/-! ## Notices, time, census (R382, R383) -/

/-- ERK_NOTICE_RECEIVED: looked up in the journal. A number that is not there names no stream, window or frame. -/
def State.noticeCame (first cause : Nat) (s : State) : State :=
  let s1 := ((s.put Fld.ERK_NOTICE_valid 1).put Fld.ERK_NOTICE_cause cause).bump Fld.ERK_NOTICE_count
  match s.erk.journal.find? (fun j => j.first == first) with
  | none => (s1.put Fld.ERK_NOTICE_unmatched 1).raise (evTime 22)
  | some j => ((((s1.put Fld.ERK_NOTICE_unmatched 0).put Fld.ERK_NOTICE_stream j.st).put Fld.ERK_NOTICE_window j.w).setReg
      Reg.ERK_NOTICE_FRAME (BitVec.ofNat 32 j.num)).raise (evTime 21)

/-- Half of a sum in ns; the spec states no rounding of an odd sum (R383). -/
def halfOf (x : Int) (draw : Nat) : Int := if x % 2 == 0 then x / 2 else x / 2 + ((Config.openVal draw 383 % 2 : Nat) : Int)

/-- ERK_TIME_FRAME: the peer's send time, and this end's last send time with its reception time at the peer. -/
def State.erkTimeCame (sent : Nat) (echo : Option (Nat × Nat)) (s : State) : State :=
  let s1 := { s with erk := { s.erk with peer := some (sent, s.now) } }
  match echo with
  | none => s1
  | some (mine, got) =>
    let sum : Int := ((got : Int) - (mine : Int)) + ((sent : Int) - (s.now : Int))
    (s1.setReg64 Reg.ERK_TIME_OFFSET (unsgn 64 (halfOf sum s1.free))).draw

/-- ERK_TIME_SEND. -/
def State.erkTimeSend (s : State) : State :=
  if !s.flag Fld.ERK_STAT_up then s
  else
    let p := s.erk.peer.getD (0, 0)
    { s with erk := { s.erk with sent := s.now } }.erkSend ⟨2, 0, 0, 0, 0, 0, leBytes 8 s.now ++ leBytes 8 p.1 ++ leBytes 8 p.2⟩

/-- ERK_CENSUS_SEND: the published pair (R383, R410). -/
def State.erkCensusSend (s : State) : State := s.erkSend ⟨3, 0, 0, 0, 0, 0, leBytes 4 s.cen.pub.1 ++ padTo 16 s.cen.pub.2⟩

/-- ERK_CENSUS_FRAME (R383, R411): the peer's epoch and digest bytes. -/
def State.erkCensusCame (epoch : Nat) (digest : List Nat) (s : State) : State :=
  let old := (List.range 4).map (fun n => (s.reg (Reg.ERK_PEER_DIGEST n)).toNat)
  let new := padTo 4 (wordsOf digest)
  let s1 := s.setReg Reg.ERK_PEER_EPOCH (BitVec.ofNat 32 epoch)
  let s2 := forEach (List.range 4) (fun n s => s.setReg (Reg.ERK_PEER_DIGEST n) (BitVec.ofNat 32 (nth new n 0))) s1
  (s2.raiseIf (!(epoch == (s.reg Reg.ERK_PEER_EPOCH).toNat && new == old)) (evTime 23)).cenPeer epoch digest

end Sys2Proof.Machine
end

