-- ==== Sys2Proof/Machine/Checks.lean ====
section
/-! DEFINITION. Machine/Checks.lean: the check units: takers, feeds, alive checks, scans (R389 to R396). -/

namespace Sys2Proof.Machine

/-- A check unit that nothing has taken. -/
def ChkSt.init : ChkSt := ⟨0, false, 0, false, (0, 0, 0), []⟩

/-- A check unit's state beside its registers. -/
def State.unit (s : State) (n : Nat) : ChkSt := tget s.chk n ChkSt.init

/-- Replace it. -/
def State.setUnit (n : Nat) (x : ChkSt) (s : State) : State := { s with chk := tset s.chk n x }

/-- Width, polynomial, initial value, reflected, final XOR of a poly code (R391). -/
def chkPoly (code : Nat) : Nat × Nat × Nat × Bool × Nat :=
  match code with
  | 0 => (8, 0x1D, 0xFF, false, 0xFF)
  | 1 => (16, 0x1021, 0xFFFF, false, 0)
  | 2 => (32, 0x04C11DB7, 0xFFFFFFFF, true, 0xFFFFFFFF)
  | _ => (32, 0x1EDC6F41, 0xFFFFFFFF, true, 0xFFFFFFFF)

/-- Feed bytes into a running value; a reflected register is kept in reflected form. -/
def chkFeedBytes (code run : Nat) (bs : List Nat) : Nat :=
  let (w, p, _, refl, _) := chkPoly code
  let r := run % 2 ^ w
  if refl then revBits w (crcFeed w p true bs (revBits w r)) else crcFeed w p false bs r

/-- The result of a running value. -/
def chkResult (code run : Nat) : Nat :=
  let (w, _, _, _, x) := chkPoly code
  run % 2 ^ w ^^^ x

/-- The low bits of a number that a unit's polynomial has. -/
def chkLow (code v : Nat) : Nat := v % 2 ^ (chkPoly code).1

/-- A unit's running value takes a new value, with RESULT beside it. -/
def State.chkRun (n v : Nat) (s : State) : State :=
  (s.put (Fld.CHK_RUN_value n) v).put (Fld.CHK_RESULT_value n) (chkResult (s.get (Fld.CHK_CTRL_poly n)) v)

/-- RESULT follows the polynomial in force (R391). -/
def State.chkShow (n : Nat) (s : State) : State := s.chkRun n (s.get (Fld.CHK_RUN_value n))

/-- Feed bytes into a unit. -/
def State.chkBytes (n : Nat) (bs : List Nat) (s : State) : State :=
  s.chkRun n (chkFeedBytes (s.get (Fld.CHK_CTRL_poly n)) (s.get (Fld.CHK_RUN_value n)) bs)

/-- Who holds a unit (R390, R426): 0 none, 1 software, 2 scan, 3 channel, 4 CSE, 5 census. -/
def State.chkTaker (s : State) (n : Nat) : Nat :=
  if n == 15 then 5
  else if s.get (Fld.CHK_CTRL_mode n) == 1 then 4
  else s.get (Fld.CHK_STAT_taker n)

/-- A taker takes a unit, which loads the initial value. A software start also begins the alive check anew (R393). -/
def State.chkTake (n taker by_ : Nat) (s : State) : State :=
  let init := (chkPoly (s.get (Fld.CHK_CTRL_poly n))).2.2.1
  let u := s.unit n
  (((s.put (Fld.CHK_STAT_taken n) 1).put (Fld.CHK_STAT_taker n) taker).setUnit n { u with
    by_ := by_, alive := !(taker == 1) && u.alive, pos := 0, abort := false }).chkRun n init

/-- A unit becomes free. -/
def State.chkFree (n : Nat) (s : State) : State := (s.put (Fld.CHK_STAT_taken n) 0).put (Fld.CHK_STAT_taker n) 0

/-- A feed ends (R392). -/
def State.chkEnd (n : Nat) (s : State) : State :=
  let code := s.get (Fld.CHK_CTRL_poly n)
  let bad := s.flag (Fld.CHK_CTRL_cmp n) && !(s.get (Fld.CHK_RESULT_value n) == chkLow code (s.get (Fld.CHK_EXPECT_value n)))
  let s1 := if bad then (s.put (Fld.CHK_STAT_mismatch n) 1).raise (evSafe (8 + n)) else s
  ((s1.put (Fld.CHK_STAT_done n) 1).raise (evSafe 40)).chkFree n

/-- CHK_START by requester r (R390). -/
def State.chkStart (r n : Nat) (s : State) : State :=
  if s.chkTaker n == 0 then s.chkTake n 1 r else s.put (Fld.CHK_STAT_scan_result n) 0x22

/-- CHK_CLOSE by requester r: the software taker ends its feed (R392). -/
def State.chkClose (r n : Nat) (s : State) : State :=
  if s.chkTaker n == 1 && (s.unit n).by_ == r then s.chkEnd n else s

/-- CHK_FEED (R390, R391). -/
def State.chkFeed (r n v : Nat) (s : State) : State :=
  if s.chkTaker n == 1 && (s.unit n).by_ == r then
    s.chkBytes n (leBytes (match s.get (Fld.CHK_CTRL_feed_bytes n) with
      | 0 => 1
      | 1 => 2
      | _ => 4) v)
  else s.bump (Fld.CHK_STAT_dropped n)

/-- CHK_RUN_WRITE (R390, R391). -/
def State.chkRunWrite (r n v : Nat) (s : State) : State :=
  if s.chkTaker n == 1 && (s.unit n).by_ == r then s.chkRun n (chkLow (s.get (Fld.CHK_CTRL_poly n)) v)
  else s.bump (Fld.CHK_STAT_dropped n)

/-- The bits of a unit's alive check. -/
def State.aliveBits (s : State) (n : Nat) : Nat := match s.get (Fld.CHK_CTRL_alive_bits n) with
  | 0 => 0
  | 1 => 4
  | 2 => 8
  | _ => 16

/-- The alive check of a value v after the last one, l: how far it has come (R393). -/
def State.aliveStep (s : State) (n l v : Nat) : Nat := (v + 2 ^ 16 - l) % 2 ^ s.aliveBits n

/-- A repeat or a loss is counted (R393). -/
def State.aliveCount (n d : Nat) (s : State) : State :=
  if d == 0 then s.bump (Fld.CHK_ALIVE_STAT_repeats n)
  else if d == 1 then s
  else s.bumpBy (Fld.CHK_ALIVE_STAT_losses n) (d - 1)

/-- CHK_ALIVE_WRITE (R393). -/
def State.chkAlive (n v : Nat) (s : State) : State :=
  let l := s.get (Fld.CHK_ALIVE_value n)
  let s1 := (s.put (Fld.CHK_ALIVE_value n) v).setUnit n { s.unit n with alive := true }
  if s.aliveBits n == 0 || !(s.unit n).alive then s1
  else
    let d := s.aliveStep n l v
    (s1.aliveCount n d).raiseIf (!(d == 1)) (evSafe (24 + n))

/-! ## Scans (R394, R395) -/

/-- The bytes of a scan's space. -/
def scanSize (space : Nat) : Nat := if space == 0 then 16 * 2 ^ 20 else if space == 1 then 96 * 2 ^ 20 else 2 * 2 ^ 20

/-- Whether requester r may scan a range (R394): the read bits of every window in it; a word of no window asks for none. -/
def State.scanMay (s : State) (r space start len : Nat) : Bool :=
  if r == 19 then true
  else
    let d := s.reqDomain r
    match space with
    | 0 => (List.range (len / 4)).all (fun i => match accessObj (start + 4 * i) with
        | some o => s.mayRead o d
        | none => true)
    | 1 => s.mayRead (Reg.GRD_WIN 44) d
    | _ => r == s.holder

/-- CHK_SCAN by requester r (R394). -/
def State.chkScan (r n : Nat) (s : State) : State :=
  let start := s.get (Fld.CHK_SCAN_START_start n)
  let len := s.get (Fld.CHK_SCAN_LEN_length n)
  let space := s.get (Fld.CHK_SCAN_LEN_space n)
  if !(s.chkTaker n == 0) then s.put (Fld.CHK_STAT_scan_result n) 0x22
  else if space == 3 || !(start % 4 == 0) || !(len % 4 == 0) || len == 0 || Nat.blt (scanSize space) (start + len) then
    s.put (Fld.CHK_STAT_scan_result n) 0x20
  else if !(s.scanMay r space start len) then s.put (Fld.CHK_STAT_scan_result n) 0x21
  else
    let s1 := s.chkTake n 2 r
    s1.setUnit n { s1.unit n with scan := (start, len, space) }

/-- CHK_SCAN_ABORT (R395). -/
def State.chkAbort (n : Nat) (s : State) : State :=
  if s.chkTaker n == 2 then s.setUnit n { s.unit n with abort := true } else s

/-- Whether some word of the queue store holds a parity error. -/
def State.queBad (s : State) : Bool := s.ques.any (fun e => e.2.pkts.any (fun p => p.slotBad || p.items.any QItem.bad))

/-- What one scanned word feeds and whether it counts as an uncorrected one; `rd` reads a register without side effects.
The place of a queue's items in the queue store is not stated: a word of it is a free value, and while some word has a parity
error, so is whether it is this one (log 68). -/
def State.scanWord (s : State) (rd : State → Nat → Nat) (space a : Nat) : Nat × Bool :=
  match space with
  | 0 => (rd s a, false)
  | 1 => (s.palValue (a / 4), Nat.ble 2 (s.flips (a / 4)))
  | _ => ((Config.palWord s.free (a + 2 ^ 27)).toNat, s.queBad && bit (Config.palWord s.free (a + 2 ^ 28)).toNat 0)

/-- CHK_SCAN_DRIP: the lowest unit with a scan pending feeds up to 4,096 words of the range checked at its start (R394, R395). -/
def State.scanDrip (rd : State → Nat → Nat) (s : State) : State :=
  match (List.range 15).find? (fun n => s.chkTaker n == 2) with
  | none => s
  | some n =>
    let u := s.unit n
    if u.abort then (s.put (Fld.CHK_STAT_scan_result n) 0x23).chkEnd n
    else
      let (start, len, space) := u.scan
      let words := Nat.min 4096 ((len - u.pos) / 4)
      let at_ := start + u.pos
      let ws := (List.range words).map (fun i => s.scanWord rd space (at_ + 4 * i))
      let s1 := (s.chkBytes n (bytesOfWords (ws.map (fun w => w.1)))).draw
      let s2 := s1.bumpBy (Fld.CHK_STAT_ecc n) (ws.filter (fun w => w.2)).length
      let s3 := if space == 1 then
          forEach ((tkeys s.palFlip).filter (fun w => Nat.ble (at_ / 4) w && Nat.blt w (at_ / 4 + words))) (State.palTouch false) s2
        else s2
      let s4 := s3.setUnit n { u with pos := u.pos + 4 * words }
      if Nat.ble len (u.pos + 4 * words) then (s4.put (Fld.CHK_STAT_scan_result n) 0).chkEnd n else s4

/-! ## CSE (R396) -/

/-- The unit in CSE mode that serves a port. -/
def State.cseUnit (s : State) (p : Nat) : Option Nat :=
  (List.range 15).find? (fun n => s.get (Fld.CHK_CTRL_mode n) == 1 && s.get (Fld.CHK_CTRL_port n) == p)

/-- Whether a port's CSE fields are checked. -/
def State.cseServed (s : State) (p : Nat) : Bool := (s.cseUnit p).isSome

/-- A long packet of map entry k of a port is checked, if a unit serves it: its CSE CRC and, by R393, its message counter. The
context's running value is that of the CSE code, whose bytes the spec does not give. DEDUCED (log 175): the first counter of a context only
sets it, and repeats and losses count in CHK_n_ALIVE_STAT without their event. -/
def State.cseCheck (p k : Nat) (cse : CseField) (s : State) : Bool × State :=
  match s.cseUnit p with
  | none => (true, s)
  | some n =>
    let u := s.unit n
    let s1 := ((s.put (Fld.CHK_CTX_value n k) (Config.openVal s.free 396)).draw).setUnit n { u with
      ctrs := tset u.ctrs (4 * p + k) cse.ctr.val }
    match tget? u.ctrs (4 * p + k) with
    | none => (cse.ok, s1)
    | some l =>
      let d := s.aliveStep n l cse.ctr.val
      (cse.ok && d == 1, s1.aliveCount n d)

end Sys2Proof.Machine
end

