-- ==== Sys2Proof/Machine/Transfer.lean ====
section
/-! DEFINITION. Machine/Transfer.lean: the transfer engine: software channels with their rings, drips, write-back, pause, drain and
abort, and the choices of its two engines (R341 to R358). -/

namespace Sys2Proof.Machine

/-- A software channel. -/
def State.txeCh (s : State) (c : Nat) : TxeCh := tget s.txe c TxeCh.init

/-- What a host read of a drip delivers: its bytes, a failure, a failed translation, an uncorrected word in the buffer. -/
inductive DripRead where
  | ok (bytes : List Nat)
  | failed
  | noXlat
  | bufErr
  deriving DecidableEq, Repr

/-- Whether channel c is a pour channel (R342, R381): its view is enabled on an open stream or has outputs to finish, or its
stream is the local stream of a receive mirror. -/
def State.pourCh (s : State) (c : Nat) : Bool :=
  let st := c / 4
  let v := c % 4
  ((s.strm st).opened && viewOn s.regs st v) ||
  s.frames.any (fun f => f.st == st && f.wins.any (fun w => w.w == v && !(w.phase == .done))) ||
  thas s.pour.jobs c || thas s.pour.queue c ||
  (List.range 8).any (fun m => s.flag (Fld.ERK_MIR_CFG_enable m) && s.flag (Fld.ERK_MIR_CFG_dir m) && s.get (Fld.ERK_MIR_CFG_local m) == st)

/-- The state code of TXE_c_STAT (R358), with or without a software pause in force: a channel that fetches nothing because of it, or
because of a drain, is paused (R356). -/
def TxeCh.code_ (x : TxeCh) (pause : Bool) : Nat :=
  match x.phase with
  | .idle | .retry => if x.drain || x.drained then 5 else if pause then 4 else if x.phase == .retry then 1 else 0
  | .fetching => if pause || x.drain then 3 else 1
  | .stalled => 7
  | .refused | .flushing => if pause || x.drain then 3 else 2
  | .running | .waitUnit =>
    if x.drained then 5 else if x.paused then 4
    else if (pause || x.drain) && x.drip then 3
    else if x.phase == .waitUnit then 6 else 2

/-- Replace a channel, and show its state. -/
def State.setTxe (c : Nat) (x : TxeCh) (s : State) : State :=
  let s1 := { s with txe := tset s.txe c x }
  (s1.put (Fld.TXE_STAT_state c) (x.code_ (s.flag (Fld.TXE_CTRL_pause c) && !s.pourCh c))).put (Fld.TXE_STAT_retries c) x.tries

/-- The function of a channel. -/
def State.txeFn (s : State) (c : Nat) : Nat := s.get (Fld.TXE_CFG_fn c)

/-- Address of the descriptor that the channel consumes next (R343). -/
def State.txeDescAt (s : State) (c : Nat) : Nat :=
  s.reg64 (Reg.TXE_RING c) / 32 * 32 + 32 * (s.get (Fld.TXE_NEXT_n c) % 2 ^ s.get (Fld.TXE_CFG_depth c))

/-- Generation that the channel expects. -/
def State.txeGen (s : State) (c : Nat) : Nat := (s.get (Fld.TXE_NEXT_n c) >>> s.get (Fld.TXE_CFG_depth c)) % 256

/-! ## Fetching (R343) -/

/-- Whether both engines are powered (R41). -/
def State.txeOn (s : State) : Bool := s.domOn 144 && s.domOn 145

/-- Issue a descriptor fetch where the channel may fetch; else a doorbell is kept. -/
def State.txeFetch (c : Nat) (s : State) : State :=
  let x := s.txeCh c
  if !s.flag (Fld.TXE_CFG_enable c) || s.pourCh c then s.setTxe c { x with phase := .idle, again := false }
  else if s.flag (Fld.TXE_CTRL_pause c) || x.drain || x.drained || !s.txeOn || !s.fnOk (s.txeFn c) then
    s.setTxe c { x with phase := .idle, again := true }
  else (s.setTxe c { x with phase := .fetching, again := false }).hostReadGo false (s.txeFn c) (s.txeDescAt c) 32

/-- TXE_DOORBELL (R342, R343). -/
def State.txeDoorbell (c : Nat) (s : State) : State :=
  let x := s.txeCh c
  if s.pourCh c then s.bump (Fld.TXE_CNT_refused c)
  else match x.phase with
    | .idle | .retry | .stalled => (s.setTxe c { x with tries := 0 }).txeFetch c
    | .fetching => s.setTxe c { x with again := true, tries := 0 }
    | _ => s

/-- TXE_RETRY_TIMER (R343, R315). -/
def State.txeRetry (c : Nat) (s : State) : State :=
  let x := s.txeCh c
  if x.phase == .retry && Nat.blt x.tries 16 then (s.setTxe c { x with tries := x.tries + 1 }).txeFetch c else s

/-- The code with which a descriptor is refused before any byte moves, 0 = it runs (R349). -/
def State.txeRefusal (s : State) (c : Nat) (d : TxeDesc) : Nat :=
  let op := bits d.w0 3 1
  let pal := bit d.w0 5 && !(op == 1)
  let chk := bits d.w0 19 16
  let dom := s.reqDomain (s.txeFn c)
  if !(bits d.w0 7 6 == 0) || !(bits d.w0 31 20 == 0) || Nat.blt 3 op || d.len == 0 || !(d.len % 4 == 0) || Nat.blt 0x10000000 d.len ||
      !(d.dst % 4 == 0) || (if op == 1 then Nat.ble (2 ^ 32) d.src else !(d.src % 4 == 0)) then 0x20
  else if pal && (!s.mayRead (Reg.GRD_WIN 44) dom || Nat.blt (96 * 2 ^ 20) (d.src + d.len)) then 0x21
  else if op == 3 && !s.mayWrite (Reg.GRD_CHK chk) dom then 0x22
  else 0

/-- The descriptor's bytes to move start: registers, and for a check-fed copy its unit or a wait for it (R345, R356). -/
def State.txeBegin (c : Nat) (s : State) : State :=
  let x := s.txeCh c
  match x.desc with
  | none => s
  | some d =>
    let chk := bits d.w0 19 16
    if !(bits d.w0 3 1 == 3) then s.setTxe c { x with phase := .running }
    else if s.chkTaker chk == 0 then
      let s1 := s.chkTake chk 3 c
      let s2 := if x.saved then s1.chkRun chk (s.get (Fld.TXE_CRC_value c)) else s1
      s2.setTxe c { x with phase := .running, unit := true, saved := false }
    else s.setTxe c { x with phase := .waitUnit }

/-- The current-position registers of a channel. -/
def State.txePos (c : Nat) (s : State) : State :=
  let x := s.txeCh c
  match x.desc with
  | none => s
  | some d =>
    let src := if bits d.w0 3 1 == 1 then d.src else d.src + x.pos
    ((s.setReg64 (Reg.TXE_CUR_SRC c) src).setReg64 (Reg.TXE_CUR_DST c) (d.dst + x.pos)).put (Fld.TXE_REMAIN_bytes c) (d.len - x.pos)

/-- A pause or drain in force takes the channel at its drip boundary; a check-fed copy gives its unit back (R353, R354). -/
def State.txeHold (c : Nat) (s : State) : State :=
  let x := s.txeCh c
  let soft := s.flag (Fld.TXE_CTRL_pause c) && !s.pourCh c
  if !(x.phase == .running || x.phase == .waitUnit) || x.drip || !(soft || x.drain) then s
  else
    let s1 := match x.desc with
      | some d => if x.unit then
          (s.put (Fld.TXE_CRC_value c) (s.get (Fld.CHK_RUN_value (bits d.w0 19 16)))).chkFree (bits d.w0 19 16)
        else s
      | none => s
    s1.setTxe c { x with paused := x.paused || soft, drained := x.drained || x.drain, unit := false, saved := x.saved || x.unit }

/-- TXE_DESCRIPTOR_FETCH: the fetch completes with 32 bytes, or fails (R343). -/
def State.txeFetched (c : Nat) (bytes : Option (List Nat)) (s0 : State) : State :=
  let x := s0.txeCh c
  if !(x.phase == .fetching) then s0
  else
    let s := s0.readEnd false (s0.txeFn c) (s0.txeDescAt c) 32
    if s.pourCh c then s.setTxe c { x with phase := .idle, again := false }
    else if x.again then (s.setTxe c { x with again := false }).txeFetch c
    else
      let b := bytes.getD []
      let d : TxeDesc := ⟨leAt b 0 4, leAt b 4 4, leAt b 8 8, leAt b 16 8⟩
      if bytes.isSome && s.fnOk (s.txeFn c) && bit d.w0 0 && bits d.w0 15 8 == s.txeGen c then
        let why := s.txeRefusal c d
        let x1 := { x with desc := some d, pos := 0, moved := 0, drip := false, code := why, result := 0, tries := 0, paused := false }
        if why == 0 then (((s.setTxe c x1).txePos c).txeBegin c).txeHold c
        else s.setTxe c { x1 with phase := .refused }
      else if x.tries == 16 then (s.setTxe c { x with phase := .stalled }).raise (evTxe c 1)
      else s.setTxe c { x with phase := .retry }

/-- COMPLETION_TIMEOUT of a descriptor fetch (R315). -/
def State.txeFetchLate (c : Nat) (s : State) : State :=
  if (s.txeCh c).phase == .fetching then ((s.bump Fld.HL_ERR_cto).raise (evHl 6)).txeFetched c none else s

/-! ## Completion (R349 to R351) -/

/-- Write a descriptor's status back, hand it to the host and go on with the next. -/
def State.txeWriteBack (c code result : Nat) (s : State) : State :=
  let x := s.txeCh c
  match x.desc with
  | none => s
  | some d =>
    let fn := s.txeFn c
    let at_ := s.txeDescAt c
    let s1 := (s.hostPut fn (at_ + 0x18) false (leBytes 4 code ++ leBytes 4 result)).hostPut fn at_ false (leBytes 4 (d.w0 / 2 * 2))
    let s2 := ((s1.wrapInc (Fld.TXE_NEXT_n c)).wrapInc (Fld.TXE_CNT_done c)).put (Fld.TXE_STAT_last c) code
    let s3 := if Nat.ble 0x10 code then (s2.bump (Fld.TXE_CNT_errors c)).raise (evTxe c 1) else s2
    let s4 := s3.raiseIf (bit d.w0 4) (evTxe c 0)
    let s5 := if x.unit then s4.chkEnd (bits d.w0 19 16) else s4
    ((((s5.setTxe c { TxeCh.init with drain := x.drain }).txeFetch c)).pourNext c).pourAll (c / 4)

/-- TXE_UNKNOWN_OP: a refused descriptor gets its write-back (R351). -/
def State.txeRefused (c : Nat) (s : State) : State :=
  let x := s.txeCh c
  if x.phase == .refused then s.txeWriteBack c x.code 0 else s

/-- A descriptor's bytes have ended with a code and result: the flush read if it wrote, else the write-back (R350). -/
def State.txeEnd (c code result : Nat) (s : State) : State :=
  let x := s.txeCh c
  match x.desc with
  | none => s
  | some d =>
    let s1 := s.setTxe c { x with code := code, result := result, phase := .flushing }
    if bits d.w0 3 1 == 2 || x.pos == 0 then s1.txeWriteBack c code result
    else s1.hostReadGo true (s.txeFn c) (d.dst + x.pos - 4) 0

/-- The flush read of a channel's descriptor ends. -/
def State.txeFlushEnds (c : Nat) (s : State) : State :=
  let x := s.txeCh c
  match x.desc with
  | none => s
  | some d => s.readEnd true (s.txeFn c) (d.dst + x.pos - 4) 0

/-- TXE_FLUSH_COMPLETE (R349, R350). -/
def State.txeFlushed (c : Nat) (ok : Bool) (s : State) : State :=
  let x := s.txeCh c
  if x.phase == .flushing then
    (s.txeFlushEnds c).txeWriteBack c (if x.code == 0 && !ok then 0x12 else x.code) x.result
  else s

/-- COMPLETION_TIMEOUT of a descriptor's flush read (R321). -/
def State.txeFlushLate (c : Nat) (s : State) : State :=
  if (s.txeCh c).phase == .flushing then ((s.bump Fld.HL_ERR_cto).raise (evHl 6)).txeFlushed c false else s

/-! ## Drips (R347, R348) -/

/-- Whether a software channel has a drip for the read engine to begin. -/
def State.txeReady (s : State) (c : Nat) : Bool :=
  let x := s.txeCh c
  x.phase == .running && !x.drip && !x.paused && !x.drained && s.fnOk (s.txeFn c)

/-- The software channel whose drip the read engine has in hand: the one that it picked, else the next ready one in round robin after
the one served last (R348). Outputs take no time of it, since their bytes come from the pour. -/
def State.txeNow (s : State) : Option Nat :=
  if s.txePick.any s.txeReady then s.txePick
  else leastBy (fun c => (c + 127 - s.txeLast) % 128) ((tkeys s.txe).filter s.txeReady)

/-- Bytes of the palette as a source: values, corrected, and whether a word is uncorrected (R346, R305). -/
def State.txePal (s : State) (at_ n : Nat) : List Nat × Bool :=
  let ws := (List.range (n / 4)).map (fun i => at_ / 4 + i)
  (ws.flatMap (fun w => leBytes 4 (s.palValue w)), ws.any (fun w => Nat.ble 2 (s.flips w)))

/-- The bytes of a drip's source: from the palette, or those that the host delivered, whole words, at most 32 KiB and no more
than what is left. An error code in their place where the read failed. -/
def State.txeSource (s : State) (x : TxeCh) (d : TxeDesc) (rd : DripRead) : Except Nat (List Nat) :=
  let cap := Nat.min 32768 (d.len - x.pos)
  if bit d.w0 5 then
    let (b, bad) := s.txePal (d.src + x.pos) cap
    if bad || rd == .bufErr then .error 0x14 else .ok b
  else match rd with
    | .ok b => .ok (b.take (Nat.min cap (b.length / 4 * 4)))
    | .failed => .error 0x10
    | .noXlat => .error 0x13
    | .bufErr => .error 0x14

/-- Touch the palette words among n bytes, 32 KiB at most, that a drip has read: single errors are corrected, uncorrected ones
counted (R305, R346). -/
def State.txeTouch (x : TxeCh) (d : TxeDesc) (most : Nat) (s : State) : State :=
  if bit d.w0 5 && !(bits d.w0 3 1 == 1) then
    let lo := (d.src + x.pos) / 4
    let n := Nat.min 32768 most
    forEach ((tkeys s.palFlip).filter (fun w => Nat.ble lo w && Nat.blt w (lo + n / 4))) (State.palTouch false) s.draw
  else s

/-- The read engine has a drip's bytes, n of each source, or an error in their place; it goes on with another channel. What was read
lives in the channel's buffer cells until the write engine has done with it (R274, R341); a fill reads nothing. -/
def State.txeMoved (c n code result : Nat) (b : List Nat) (s : State) : State :=
  let x := s.txeCh c
  let s1 := s.setTxe c { x with drip := true, moved := n, code := code, result := result, buf := b }
  let s2 := { s1 with txeLast := c, txePick := none }
  if x.desc.any (fun d => bits d.w0 3 1 == 1) then s2 else s2.bufTake c n

/-- The reads of a drip's source, and of a compare's other side, take tags while they are outstanding (R310). -/
def State.txeReadTags (c : Nat) (d : TxeDesc) (n : Nat) (s : State) : State :=
  let op := bits d.w0 3 1
  let each := (if bit d.w0 5 || op == 1 then 0 else n) + (if op == 2 then n else 0)
  if each == 0 then s else s.readBurst (s.txeFn c) each

/-- The read engine's part of one drip of a copy, a fill or a check-fed copy (ops 0, 1, 3): its bytes, or an error (R345, R349). -/
def State.txeDrip (op c : Nat) (rd : DripRead) (dstXlat : Bool) (s : State) : State :=
  let x := s.txeCh c
  match x.desc with
  | none => s
  | some d =>
    if !(s.txeNow == some c && bits d.w0 3 1 == op) then s
    else
      let src : Except Nat (List Nat) := if op == 1 then
          .ok (((List.range (Nat.min 32768 (d.len - x.pos) / 4))).flatMap (fun _ => leBytes 4 d.src))
        else s.txeSource x d rd
      match src with
      | .error e => (s.txeTouch x d (d.len - x.pos)).txeMoved c 0 (if dstXlat then e else 0x13) 0 []
      | .ok b =>
        if b.isEmpty then s
        else if !dstXlat then (s.txeTouch x d b.length).txeMoved c 0 0x13 0 []
        else ((s.txeTouch x d b.length).txeReadTags c d b.length).txeMoved c b.length 0 0 b

/-- The first word at which two byte lists differ. -/
def firstDiff (a b : List Nat) : Option Nat :=
  (List.range (a.length / 4)).find? (fun i => !(slice a (4 * i) 4 == slice b (4 * i) 4))

/-- One drip of a compare (R345). -/
def State.txeCompare (c : Nat) (rd rd2 : DripRead) (s : State) : State :=
  let x := s.txeCh c
  match x.desc with
  | none => s
  | some d =>
    if !(s.txeNow == some c && bits d.w0 3 1 == 2) then s
    else match s.txeSource x d rd, rd2 with
      | .error 0x13, _ => s.txeMoved c 0 0x13 0 []
      | _, .noXlat => (s.txeTouch x d (d.len - x.pos)).txeMoved c 0 0x13 0 []
      | .error 0x10, _ => s.txeMoved c 0 0x10 0 []
      | _, .failed => (s.txeTouch x d (d.len - x.pos)).txeMoved c 0 0x11 0 []
      | .error e, _ => (s.txeTouch x d (d.len - x.pos)).txeMoved c 0 e 0 []
      | _, .bufErr => (s.txeTouch x d (d.len - x.pos)).txeMoved c 0 0x14 0 []
      | .ok a, .ok b =>
        let n := Nat.min a.length (b.length / 4 * 4)
        if n == 0 then s
        else
          let s1 := (s.txeTouch x d n).txeReadTags c d n
          match firstDiff (a.take n) (b.take n) with
          | some i => s1.txeMoved c n 1 (x.pos + 4 * i) []
          | none => s1.txeMoved c n 0 0 []

/-- A reset of the channel's function ends its descriptor without a write-back (R351). -/
def State.txeKill (c : Nat) (s : State) : State :=
  let x := s.txeCh c
  let s1 := match x.desc with
    | some d => if x.unit then s.chkFree (bits d.w0 19 16) else s
    | none => s
  let s2 := (s1.put (Fld.TXE_STAT_last c) 0x24).setTxe c { TxeCh.init with drain := x.drain }
  (s2.bump (Fld.TXE_CNT_errors c)).raise (evTxe c 1)

/-- The write engine writes, or compares, the drip that software channel c has read: an uncorrected word in its buffer ends the
descriptor with code 0x14, and nothing is written (R352). A function in reset writes nothing (R332). -/
def State.txeWrite (c : Nat) (d : TxeDesc) (s : State) : State :=
  let x := s.txeCh c
  let op := bits d.w0 3 1
  let bad := !(op == 1) && !(s.bufBad c x.moved).isEmpty
  let s1 := if op == 1 then s else s.bufFree c x.moved
  if x.reset then s1
  else if bad then s1.setTxe c { x with code := 0x14, result := 0, moved := 0 }
  else if op == 2 || !(x.code == 0) then s1
  else
    let s2 := s1.hostPut (s.txeFn c) (d.dst + x.pos) false x.buf
    if op == 3 then s2.chkBytes (bits d.w0 19 16) x.buf else s2

/-- The drip that software channel c has in hand ends: written or compared, the registers updated, its descriptor ended where it has
come to its end (R347, R349). -/
def State.txeSoft (c : Nat) (s0 : State) : State :=
  match (s0.txeCh c).desc with
  | none => s0
  | some d =>
    let s := s0.txeWrite c d
    let x := s.txeCh c
    let pos := x.pos + x.moved
    let s1 := ((s.modPour (fun p => { p with last := c })).setTxe c { x with pos := pos, moved := 0, drip := false, buf := [] }).txePos c
    let op := bits d.w0 3 1
    if x.reset then s1.txeKill c
    else if x.code == 1 then s1.txeEnd c 1 x.result
    else if !(x.code == 0) then s1.txeEnd c x.code x.pos
    else if pos == d.len then
      s1.txeEnd c 0 (if op == 2 then 0xFFFFFFFF else if op == 3 then s1.get (Fld.CHK_RUN_value (bits d.w0 19 16)) else pos)
    else s1.txeHold c

/-- The read engine has a channel in hand where one is ready (R348). -/
def State.readPick (s : State) : State := { s with txePick := s.txeNow }

/-- TXE_DRIP_BOUNDARY: the drip that the write engine has in hand ends, and each engine picks its next one (R347, R348). -/
def State.txeBoundary (c : Nat) (s0 : State) : State :=
  let s := s0.writeNext
  if !(s.pour.hand == some c) then s0
  else
    let s1 := s.modPour (fun p => { p with hand := none })
    ((if thas s1.pour.jobs c then s1.pourDrip c else s1.txeSoft c).writeNext).readPick

/-- DRIP_TIME_LIMIT: the outstanding read of the drip that the read engine has in hand is abandoned; no byte of it moved (R347). -/
def State.txeLimit (c : Nat) (s : State) : State :=
  if s.txeNow == some c then { s with txeLast := c, txePick := none }.readPick else s

/-! ## Pause, resume, drain, abort (R353 to R356) -/

/-- A paused channel goes on once every cause is gone. -/
def State.txeGo (c : Nat) (s : State) : State :=
  let x := s.txeCh c
  if (x.phase == .running || x.phase == .waitUnit) && !x.paused && !x.drained then
    (if x.drip || x.unit then s.setTxe c x else s.txeBegin c)
  else if x.phase == .idle && x.again then s.txeFetch c
  else s.setTxe c x

/-- TXE_c_CTRL.pause takes a value (R353). -/
def State.txePause (c : Nat) (on : Bool) (s : State) : State :=
  if s.pourCh c then s.put (Fld.TXE_CTRL_pause c) (b2n on)
  else
    let s1 := s.put (Fld.TXE_CTRL_pause c) (b2n on)
    let x := s1.txeCh c
    if on then (s1.setTxe c x).txeHold c
    else (s1.setTxe c { x with paused := false }).txeGo c

/-- TXE_c_CTRL.resume: the drain no longer holds the channel (R354). -/
def State.txeResume (c : Nat) (s : State) : State :=
  let x := s.txeCh c
  if x.drained && !x.drain then (s.setTxe c { x with drained := false }).txeGo c else s

/-- TXE_c_CTRL.abort ends a paused descriptor (R355). -/
def State.txeAbort (c : Nat) (s : State) : State :=
  let x := s.txeCh c
  if !s.pourCh c && (x.phase == .running || x.phase == .waitUnit) && !x.drip && x.paused then s.txeEnd c 0x23 x.pos else s

/-- TXE_UNIT_AVAILABLE: the unit that a waiting copy needs is free (R356). -/
def State.txeUnit (c : Nat) (s : State) : State :=
  let x := s.txeCh c
  if x.phase == .waitUnit && !x.paused && !x.drained then s.txeBegin c else s

/-- A domain drains: the channels whose transfers it holds pause at their drip boundaries (R46, R354). -/
def State.txeDrain (cs : List Nat) (s : State) : State :=
  forEach cs (fun c s => (s.setTxe c { s.txeCh c with drain := true }).txeHold c) s

/-- A domain is powered again: of the channels that it held, those with resume-on-wake go on, and held transfers start (R46,
R354). -/
def State.txeWake (cs : List Nat) (s : State) : State :=
  forEach cs (fun c s =>
    let x := s.txeCh c
    if s.flag (Fld.TXE_CFG_row c) || s.pourCh c || !(x.phase == .running || x.phase == .waitUnit) then
      (s.setTxe c { x with drain := false, drained := false }).txeGo c
    else s.setTxe c { x with drain := false }) s

/-- A reset of function fn reaches its channels: at once, or at the boundary of the drip in hand (R332, R351). -/
def State.txeReset (fn : Nat) (s : State) : State :=
  forEach ((tkeys s.txe).filter (fun c => s.txeFn c == fn)) (fun c s =>
    let x := s.txeCh c
    match x.phase with
    | .idle => s.setTxe c { x with again := false }
    | .fetching => (s.readEnd false (s.txeFn c) (s.txeDescAt c) 32).setTxe c { TxeCh.init with drain := x.drain }
    | .retry | .stalled => s.setTxe c { TxeCh.init with drain := x.drain }
    | .flushing => (s.txeFlushEnds c).txeKill c
    | .running => if x.drip then s.setTxe c { x with reset := true } else s.txeKill c
    | _ => s.txeKill c) s

/-! ## Both engines (R41, R342, R348) -/

/-- A software pause has no effect on a pour channel: what it held goes on (R342). -/
def State.txeUnheld (s : State) : State :=
  forEach ((tkeys s.txe).filter (fun c => (s.txeCh c).paused && s.pourCh c)) (fun c s =>
    (s.setTxe c { s.txeCh c with paused := false }).txeGo c) s

/-- Outputs whose drips wait for the engines' power are loaded, and those that wait for their channel go on (R41, R46). -/
def State.pourResume (s : State) : State :=
  forEach (tkeys s.pour.queue) State.pourNext (forEach (tkeys s.pour.jobs) State.pourLoad s)

/-- The engines go on with what is ready. -/
def State.engines (s : State) : State := ((s.txeUnheld.pourResume).writeNext).readPick

end Sys2Proof.Machine
end

