-- ==== Sys2Proof/Machine/HostLink.lean ====
section
/-! DEFINITION. Machine/HostLink.lean: the host link: training, link states and their domains, loss, its reset, function
states (R55, R56, R69, R71, R300 to R310, R332, R338), and the keys that its domains hold (R419). -/

namespace Sys2Proof.Machine

/-! ## Domains 134 to 137 at a link event (R309) -/

/-- The wake steps of the host-link domains that the link state wants have ended, as an event of the link itself reports. -/
def State.hlBring (s : State) : State :=
  forEach [134, 135, 136, 137] (fun d s => if s.hlWant d then s.domBring d else s) s

/-! ## Keys (R419) -/

/-- The link IDE stream leaves the secure state (R419, EV_HL_IDE). -/
def State.ideDrop (s : State) : State :=
  if s.spdm.ide == 0 then s
  else { s.put Fld.HL_STAT_ide_on 0 with spdm := { s.spdm with ide := 0 } }.raiseIf (s.spdm.ide == 2) (evHl 8)

/-- The SPDM session ends where one is open (EV_SEC_SPDM). -/
def State.sessEnd (s : State) : State :=
  match s.spdm.sess with
  | none => s
  | some _ => { s with spdm := { s.spdm with sess := none, beats := 0, updates := 0 } }.raise (evSec 3)

/-- The key store and the session keys are cleared before a scan (R419). -/
def State.keysClear (s : State) : State :=
  let s1 := (s.ideDrop).sessEnd
  { s1 with spdm := { s1.spdm with keys := false } }.raise (evSafe 46)

/-- The key store is derived from OTP: at a Boot, and after a test, unless debug scan has domain 150 open (R419). -/
def State.keysDerive (s : State) : State := { s with spdm := { s.spdm with keys := !s.debug } }

/-! ## Training, up, down -/

/-- Falith starts to train the link with a rate, a width and a clock mode (R71, R72). -/
def State.hlTrain (rate width : Nat) (sris : Bool) (s : State) : State :=
  if s.flag Fld.HL_STAT_up then s else ((s.emit (.train rate width sris)).put Fld.HL_STAT_lstate 5).hlDoms

/-- Functions take output again: their descriptors are fetched, and their software channels go on. -/
def State.fnResume (fn : Nat) (s : State) : State :=
  forEach ((tkeys s.txe).filter (fun c => s.txeFn c == fn)) State.txeGo (s.fnRefetch fn)

/-- HOST_LINK_UP: the link reaches L0, from training or again after a retraining (R300, R307, R308). CXL runs in the flit mode of
64 and 32 GT/s only (R302); a retraining changes the protocol to nothing else. A fenced host link, or one under BIST, does not come up
(R416, R418). -/
def State.hlUp (rate width : Nat) (cxl : Bool) (s : State) : State :=
  if s.hlReset || s.pw.perst || !s.runs || [134, 135, 136, 137].any s.domHurt then s
  else
    let was := s.flag Fld.HL_STAT_up
    let c := (if was then s.flag Fld.HL_STAT_cxl else cxl && s.flag Fld.HL_CFG_cxl_offer) && Nat.ble 5 rate
    let s1 := (((((s.put Fld.HL_STAT_up 1).put Fld.HL_STAT_cxl (b2n c)).put Fld.HL_STAT_cache_on (b2n c)).put
      Fld.HL_STAT_rate_now rate).put Fld.HL_STAT_width_now width).put Fld.HL_STAT_lstate 0
    let slow := Nat.blt rate (s.get Fld.HL_CFG_max_rate) || Nat.blt width (s.get Fld.HL_CFG_max_width)
    let s2 := ((s1.raise (evHl 0)).raiseIf slow (evHl 2)).raiseIf (!(c == s.flag Fld.HL_STAT_cache_on)) (evHl 9)
    let s3 := ((s2.put Fld.HL_BUDGET_trained (hlBudget rate width)).hlBring.hlDoms.hlFlush).fnShow
    if !s3.loaded then s3 else if was then s3.chooseDrops
    else forEach ((List.range 16).filter s3.fnOk) State.fnResume s3.chooseDrops

/-- The link leaves the up states, and what waited for it is lost (R56). -/
def State.hlDown (s : State) : State :=
  if !s.flag Fld.HL_STAT_up then s
  else
    let c := s.flag Fld.HL_STAT_cache_on
    let s1 := ((((({ s with outHeld := tdel s.outHeld 4 }.put Fld.HL_STAT_up 0).put Fld.HL_STAT_cxl 0).put Fld.HL_STAT_cache_on 0).put
      Fld.HL_STAT_rate_now 0).put Fld.HL_STAT_width_now 0).put Fld.HL_STAT_lstate 6
    ((((s1.put Fld.HL_BUDGET_trained 0).raise (evHl 1)).raiseIf c (evHl 9)).hlDoms.fnShow).pourCut.erkCut

/-- LINK_LOW_POWER_ENTRY: L0p, L1, L1.1 or L1.2 (codes 1 to 4), L2 (5), or the return from L0p to L0 (0); L0p and the return
take a width (R309). HL_STAT has no code for L2: it shows the link as down (log 118). -/
def State.hlSleep (l width : Nat) (s : State) : State :=
  if !s.flag Fld.HL_STAT_up then s
  else if l == 5 then s.hlDown
  else if l == 0 && !(s.get Fld.HL_STAT_lstate == 1) then s
  else
    let s1 := s.put Fld.HL_STAT_lstate l
    (if Nat.ble l 1 then s1.put Fld.HL_STAT_width_now width else s1).hlDoms

/-! ## The host-link reset (R67, R69) -/

/-- Functions as the link's reset leaves them: the PF in D0, virtual functions gone, whose descriptors count as not handed over
(R332); those of the PF that stayed bound stay so (R56, R316). -/
def State.fnsReset (s : State) : State :=
  let s1 := forEach (List.range 16) (fun f s => (if f == 0 then s else s.fnForget f).txeReset f) s
  { s1 with fns := [(0, FnSt.init true)], msix := [], msixPend := [], atc := [] }

/-- A host-link reset starts: link down, HL_ registers at their Reset column, function state and session keys gone. -/
def State.hlResetGo (s : State) : State :=
  if s.hlReset then s
  else
    let s1 := ((s.hlDown.ideDrop).sessEnd).fnsReset
    ({ s1.resetRange 0x900000 0x910000 with hlReset := true }.fnShow).hlDoms

/-- A host-link reset with its cause bit, which the warmer keeps (R67, R70). -/
def State.hlResetCause (s : State) : State :=
  if s.runs then { s with warm := { s.warm with causes := s.warm.causes ||| 16 } }.hlResetGo else s

/-- HOST_LINK_DOWN: the link goes down by a hot reset or by itself, either of which is a host-link reset (R67). -/
def State.hlLost (s : State) : State := if s.flag Fld.HL_STAT_up then s.hlResetCause else s

/-! ## Functions (R55, R303, R332) -/

/-- FUNCTION_D3HOT_ENTRY (R55). -/
def State.fnD3 (fn : Nat) (s : State) : State :=
  let f := s.fn fn
  if !f.present || !f.d0 then s else (((s.setFn fn { f with d0 := false }).raise (evHl 11)).fnShow).pourCut.erkCut

/-- FUNCTION_D0_ENTRY: the function is in D0, a VF also begins to exist; its MSI-X Enable and Function Mask, whose clearing sends the
messages that it held back (R437), its Device Control
(R303, R310, R320, R332). In Boot no configuration request is served (R71), and in a failed Boot there are no virtual functions
(R90). -/
def State.fnD0 (fn : Nat) (en mask : Bool) (dc : DevCtl) (s : State) : State :=
  if s.phase == .boot || (s.phase == .failed && !(fn == 0)) then s else
  let f := s.fn fn
  let s1 := (s.setFn fn ⟨true, true, false, en, mask, dc⟩).raiseIf (!f.d0 && f.present) (evHl 11)
  let s1' := if f.fmask && !mask then forEach (List.range (if fn == 0 then 2048 else 64)) (fun v s => s.msiUnmasked fn v) s1 else s1
  let s2 := forEach (List.range s1'.reads.length) (fun _ s => s.readNext) s1'.fnShow
  if s2.loaded && s2.fnOk fn && !(s.fnOk fn) then s2.fnResume fn else s2

/-- A function's rings act as in D3hot, then its descriptors, those that a drop left bound among them, count as not handed over, its MSI-X table is at its reset state. -/
def State.fnGone (fn : Nat) (f : FnSt) (s : State) : State :=
  let s1 := (((s.setFn fn f).pourCut.erkCut).fnForget fn).txeReset fn
  let s2 := { s1 with
    atc := s1.atc.filter (fun e => !(e.1 == fn))
    msix := s1.msix.filter (fun e => !(e.1 / 65536 == fn)), msixPend := s1.msixPend.filter (fun k => !(k / 2048 == fn)) }
  (s2.raise (evHl 10)).fnShow

/-- FUNCTION_LEVEL_RESET (R332): it lasts until the function is in D0 again. -/
def State.fnReset (fn : Nat) (s : State) : State :=
  if !(s.fn fn).present then s else s.fnGone fn ⟨true, (s.fn fn).d0, true, false, false, DevCtl.init⟩

/-- VF_REMOVAL (R332). -/
def State.vfGone (vf : Nat) (s : State) : State :=
  if vf == 0 || !(s.fn vf).present then s else s.fnGone vf (FnSt.init false)

/-- ATS_INVALIDATION: honoured in the translation cache: the function's entries leave it (R301). The command names no address, so
all of them do (log 119). -/
def State.atsInval (fn : Nat) (s : State) : State :=
  if s.flag Fld.HL_STAT_up then
    ({ s with atc := s.atc.filter (fun e => !(e.1 == fn)) }.emit (.atsDone fn)).raise (evHl 12)
  else s

/-- CXL_SNOOP: Falith holds no line (R302). -/
def State.cxlSnoop (addr : Nat) (s : State) : State :=
  if s.flag Fld.HL_STAT_cxl then s.emit (.snoopInvalid addr) else s

end Sys2Proof.Machine
end

