-- ==== Sys2Proof/Machine/Spdm.lean ====
section
/-! DEFINITION. Machine/Spdm.lean: the SPDM responder behind the DOE mailbox of the physical function, its measurements,
and IDE_KM in its session (R301, R412, R413, R419). -/

namespace Sys2Proof.Machine

/-- Whether the mailbox takes requests: the link is up, the physical function is there and not in reset, and the security domain takes
part (R418). -/
def State.doeOpen (s : State) : Bool :=
  s.flag Fld.HL_STAT_up && (s.loaded || s.phase == .failed) && (s.fn 0).present && !(s.fn 0).inReset && !s.domHurt 150

/-- A request wakes the security domain (R39). DESIGN CHOICE (log 173): it is answered in the same command. -/
def State.secWake (s : State) : State := if s.loaded then s.domWake 150 else s

/-- Answer a request. -/
def State.doeSay (a : DoeAns) (s : State) : State := s.emit (.doe a)

/-- The transcript takes a request's code and bytes. -/
def State.doeLog (code : Nat) (bytes : List Nat) (s : State) : State :=
  { s with spdm := { s.spdm with log := s.spdm.log ++ code :: bytes } }

/-- The device certificate chain of slot 0, which Nimica provisions (R412). -/
def certChain : List Nat := Config.spdmBytes 0 0

/-- A signature over the transcript with the device key; each takes a draw. -/
def State.doeSign (s : State) (what : List Nat) : List Nat := Config.sign (s.spdm.log ++ what) s.free

/-- A request that needs a stage of the connection: 1 after GET_VERSION, 2 after GET_CAPABILITIES, 3 after
NEGOTIATE_ALGORITHMS; before it, the request is refused. -/
def State.doeAt (stage : Nat) (f : State → State) (s : State) : State :=
  if !s.doeOpen then s else if Nat.ble stage s.spdm.stage then f s.secWake else s.secWake.doeSay .error

/-- Set the stage of the connection. -/
def State.doeStage (n : Nat) (s : State) : State := { s with spdm := { s.spdm with stage := n } }

/-- GET_VERSION: the connection starts anew. -/
def State.spdmVersion (s : State) : State :=
  if s.doeOpen then
    let s1 := s.secWake.sessEnd
    (({ s1 with spdm := { s1.spdm with stage := 1, log := [] } }).doeLog 0x84 []).doeSay (.version [0x12])
  else s

/-- GET_CAPABILITIES. -/
def State.spdmCapabilities (req : List Nat) : State → State :=
  State.doeAt 1 (fun s => ((s.doeLog 0xE1 req).doeStage 2).doeSay .capabilities)

/-- NEGOTIATE_ALGORITHMS: what both support, of the algorithms of R412. -/
def State.spdmAlgorithms (offered : Nat) : State → State :=
  State.doeAt 2 (fun s => ((s.doeLog 0xE3 [offered]).doeStage 3).doeSay (.algorithms (offered % 16)))

/-- GET_DIGESTS: slot 0 only. -/
def State.spdmDigests : State → State :=
  State.doeAt 3 (fun s => (s.doeLog 0x81 []).doeSay (.digests (sha384 certChain)))

/-- GET_CERTIFICATE: a portion of the chain of slot 0; another slot is refused. -/
def State.spdmCertificate (slot off len : Nat) : State → State :=
  State.doeAt 3 (fun s =>
    if !(slot == 0) || Nat.ble certChain.length off then s.doeSay .error
    else
      let part := slice certChain off len
      (s.doeLog 0x82 [slot, off, len]).doeSay (.certificate part (certChain.length - off - part.length)))

/-- CHALLENGE: slot 0 only, and only while the key store holds the device key (R419). -/
def State.spdmChallenge (slot : Nat) (nonce : List Nat) : State → State :=
  State.doeAt 3 (fun s =>
    if !(slot == 0) || !s.spdm.keys then s.doeSay .error
    else
      let s1 := s.doeLog 0x83 nonce
      (s1.draw).doeSay (.challengeAuth (sha384 certChain) (s1.doeSign (sha384 certChain))))

/-- The value of a measurement block, read at the request (R413). -/
def State.measurement (s : State) (i : Nat) : List Nat :=
  match i with
  | 1 => padTo 48 ((Config.spdmBytes 1 s.otp.rom).take 48)
  | 2 => (List.range 12).flatMap (fun n => leBytes 4 (s.reg (Reg.BOOT_DIGEST n)).toNat)
  | 3 => leBytes 4 s.cen.pub.1 ++ s.cen.pub.2
  | 4 => leBytes 4 (s.reg Reg.BOOT_SEC).toNat
  | 5 => leBytes 4 (s.reg Reg.PLC_DIGEST).toNat
  | _ => []

/-- The DMTF type of a measurement block (R413). -/
def measType (i : Nat) : MeasType := if i == 1 then .rom else if i == 2 || i == 4 then .firmwareConfig else .hardwareConfig

/-- GET_MEASUREMENTS (R413): index 0 asks how many blocks there are, 1 to 5 for one, 255 for all. -/
def State.spdmMeasurements (index : Nat) (signed : Bool) (nonce : List Nat) : State → State :=
  State.doeAt 3 (fun s =>
    if signed && !s.spdm.keys then s.doeSay .error
    else if index == 0 then (s.doeLog 0xE0 [0]).doeSay (.blockCount 5)
    else if Nat.ble index 5 || index == 255 then
      let idx := if index == 255 then [1, 2, 3, 4, 5] else [index]
      let blocks := idx.map (fun i => (i, measType i, s.measurement i))
      let s1 := s.doeLog 0xE0 (index :: nonce)
      if signed then (s1.draw).doeSay (.measurements blocks (some (s1.doeSign (blocks.flatMap (fun b => b.1 :: b.2.2)))))
      else s1.doeSay (.measurements blocks none)
    else s.doeSay .error)

/-- KEY_EXCHANGE: a session starts; one at a time, while the key store holds the device key (R419). -/
def State.spdmKeyExchange (session : Nat) (share : List Nat) : State → State :=
  State.doeAt 3 (fun s =>
    if s.spdm.sess.isSome || !s.spdm.keys then s.doeSay .error
    else
      let s1 := s.doeLog 0xE4 share
      let s2 := ({ s1.draw with spdm := { s1.spdm with sess := some (session, false), beats := 0, updates := 0 } }).raise (evSec 3)
      s2.doeSay (.keyExchange session (s1.doeSign share)))

/-- FINISH: the session's setup is complete. `ok` = the requester's check value is right; if not, the session ends. -/
def State.spdmFinish (ok : Bool) : State → State :=
  State.doeAt 3 (fun s =>
    match s.spdm.sess with
    | some (n, false) =>
      if ok then ({ s with spdm := { s.spdm with sess := some (n, true) } }).doeSay .finish else (s.sessEnd).doeSay .error
    | _ => s.doeSay .error)

/-- A request inside the session. -/
def State.doeIn (f : State → State) : State → State :=
  State.doeAt 3 (fun s => match s.spdm.sess with
    | some (_, true) => f s
    | _ => s.doeSay .error)

/-- END_SESSION: the session and its keys end. -/
def State.spdmEnd : State → State := State.doeIn (fun s => (s.sessEnd).doeSay .endSession)

/-- HEARTBEAT. -/
def State.spdmHeartbeat : State → State :=
  State.doeIn (fun s => ({ s with spdm := { s.spdm with beats := s.spdm.beats + 1 } }).doeSay .heartbeat)

/-- KEY_UPDATE. -/
def State.spdmKeyUpdate : State → State :=
  State.doeIn (fun s => ({ s with spdm := { s.spdm with updates := s.spdm.updates + 1 } }).doeSay .keyUpdate)

/-- IDE_KM_REQUEST (R301): a query, programming of the link stream's keys, their switching on, and the stream's stop. The
stream changes its state when it becomes secure and when it stops being so (EV_HL_IDE). -/
def State.ideKm (m : IdeMsg) : State → State :=
  State.doeIn (fun s =>
    match m with
    | .query => s.doeSay (.ideQuery (s.spdm.ide == 2))
    | .keyProg =>
      (({ s with spdm := { s.spdm with ide := if s.spdm.ide == 2 then 2 else 1 } }).hlDoms).doeSay .ideProg
    | .setGo =>
      if s.spdm.ide == 0 then s.doeSay .error
      else if s.spdm.ide == 2 then s.doeSay .ideGo
      else
        (((({ s with spdm := { s.spdm with ide := 2 } }).put Fld.HL_STAT_ide_on 1).raise (evHl 8)).hlDoms).doeSay .ideGo
    | .setStop => ((s.ideDrop).hlDoms).doeSay .ideStop)

/-- An IDE integrity failure (EV_HL_IDE): the stream is no longer secure, as PCI Express lets it fail. -/
def State.ideFail (s : State) : State := if s.spdm.ide == 2 then (s.ideDrop).hlDoms else s

/-- DEBUG_AUTHORISATION (R419, R431): before debug scan opens the domains of the keys, they are cleared; when it ends, the key store is
derived again. -/
def State.debugAuth (on : Bool) (s : State) : State :=
  if s.runs && !(s.debug == on) then
    let s1 := if on then s.keysClear else s
    let s2 := { s1.raise (evSec 4) with debug := on }.emit (.debug on)
    if on || s2.domBist 150 || s2.domBist 134 then s2 else s2.keysDerive
  else s

end Sys2Proof.Machine
end

