-- ==== Sys2Proof/Machine/Reload.lean ====
section
/-! DEFINITION. Machine/Reload.lean: table reload (R229 to R231). -/

namespace Sys2Proof.Machine

/-- The record type that a reload's kind names. -/
def trlType (kind : Nat) : Nat := if kind == 1 then 7 else if kind == 2 then 8 else if kind == 3 then 9 else 0

/-- The image with one record's payload replaced. -/
def Image.withPayload (i : Image) (typ st : Nat) (p : List Nat) : Image :=
  { i with recs := i.recs.map (fun c : Rec => if c.typ == typ && c.inst == st then { c with payload := p } else c) }

/-- The payload in the reload buffer. -/
def State.trlPayload (s : State) : List Nat :=
  let n := s.get Fld.EAS_TRL_LEN_length
  ((List.range ((n + 3) / 4)).flatMap (fun i => leBytes 4 (s.reg (Reg.EAS_TRL_BUF i)).toNat)).take n

/-- EAS_TRL_CTRL.cmd = open (R229). -/
def State.trlOpen (r : Nat) (s : State) : State :=
  match s.trl.claim with
  | some q =>
    if !(q == r) then s.put Fld.EAS_TRL_STAT_reason 0x20
    else if s.trl.waiting.isSome || s.trl.held.isSome then s
    else s.put Fld.EAS_TRL_TARGET_has_target 0
  | none =>
    if s.trl.waiting.isSome || s.trl.held.isSome then s.put Fld.EAS_TRL_STAT_reason 0x20
    else
      (((({ s with trl := { s.trl with claim := some r } }.put Fld.EAS_TRL_CTRL_owner (s.reqDomain r)).put
        Fld.EAS_TRL_TARGET_has_target 0).put Fld.EAS_TRL_STAT_reason 0).put Fld.EAS_TRL_STAT_state 0).put Fld.EAS_TRL_STAT_cells 0

/-- EAS_TRL_CTRL.cmd = abort (R229). -/
def State.trlAbort (r : Nat) (s : State) : State :=
  if s.trl.claim == some r && s.trl.waiting.isNone && s.trl.held.isNone then
    ({ s with trl := { s.trl with claim := none } }.put Fld.EAS_TRL_CTRL_owner 0).put Fld.EAS_TRL_STAT_state 0
  else s

/-- Whether the last frame that uses the old record has closed (R231). -/
def State.trlDone (s : State) (h : HeldTab) : Bool :=
  !s.frames.any (fun f => f.st == h.st && f.isOpen && !serGE f.num h.first) &&
  (!(s.strm h.st).opened || (match (s.strm h.st).last with
    | some L => serGE L (sub32 h.first 1)
    | none => h.first == 0))

/-- Once the last frame on the old record has closed, its cells are freed and the claim is released; the new record stays where it
is (R231). -/
def State.trlRelease (s : State) : State :=
  match s.trl.held with
  | none => s
  | some h =>
    if !s.trlDone h then s
    else
      let s2 := { s with trl := ⟨none, none, none⟩ }.palFree h.cells
      (((s2.put Fld.EAS_TRL_STAT_state 0).put Fld.EAS_TRL_STAT_cells 0).put Fld.EAS_TRL_CTRL_owner 0).cellsShow

/-- Whether the boundary of a reload or commit with a target has come: the target's command deadline has fallen (R96). DESIGN
CHOICE (log 110): where the target stream has closed before that, R96 names no boundary; the model takes the next drip
boundary. -/
def State.deadlineFell (s : State) (target : Option (Nat × Nat)) : Bool :=
  match target with
  | none => true
  | some (st, F) => s.passed st F || !(s.strm st).opened

/-- Frames of every stream from its earliest feasible one on, or of a target stream from its target on, take the
configuration in force now where their deadline has already fallen (R96). -/
def State.recfg (target : Option (Nat × Nat)) (s : State) : State :=
  match target with
  | none => s
  | some (st, F) =>
    let x := s.strm st
    let c := s.cfgNow st
    s.setStrm st { x with cfgs := x.cfgs.map (fun e => if serGE e.1 F then (e.1, c) else e) }

/-- The stream's table pointer moves to the reload's cells, which become table cells; the old ones are the reload's until they are
freed (R231). -/
def State.trlMove (w : Reload) (s : State) : State :=
  let x := s.strm w.st
  let old := tget x.tabCells w.typ []
  let kind (t : Tbl Cell) (k : Nat) (cs : List Nat) : Tbl Cell := cs.foldl (fun t c => tmod t c ⟨k, w.st, 0xFFFF⟩ (fun x => { x with kind := k })) t
  let tabs := tset x.tabCells w.typ w.cells
  let s1 := s.setStrm w.st { x with tabCells := tabs }
  { s1 with cells := chainCells (chainCells (kind (kind s1.cells 5 w.cells) 7 old) (tabs.flatMap (fun e => e.2))) old }

/-- TABLE_RELOAD_EXECUTE (R231). -/
def State.trlExecute (s : State) : State :=
  match s.trl.waiting with
  | none => s
  | some w =>
    let tgt := w.target.map (fun F => (w.st, F))
    if !s.loaded || !s.deadlineFell tgt then s
    else
      let first := w.target.getD (if (s.strm w.st).opened then s.earliest w.st else 0)
      let old := s.tabPayload w.typ w.st
      let s1 := { s with
        img := s.img.withPayload w.typ w.st w.payload
        trl := { s.trl with waiting := none, held := some ⟨w.typ, w.st, old, first, tget (s.strm w.st).tabCells w.typ []⟩ } }
      (((((s1.trlMove w).epochStep [153]).recfg tgt).put Fld.EAS_TRL_STAT_state 2).cellsShow).trlRelease

end Sys2Proof.Machine
end

