-- ==== Sys2Proof/Machine/Frames.lean ====
section
/-! DEFINITION. Machine/Frames.lean: a stream's frames from their opening to their end: opening, line store and strokes,
close, statistics, laws (R8, R112, R164 to R174, R186, R243, R260, R275 to R277). -/

namespace Sys2Proof.Machine

/-! ## Facts of a stream's open frame -/

/-- The open frame of a stream. -/
def State.openOf (s : State) (st : Nat) : Option Frame := s.frames.find? (fun f => f.st == st && f.isOpen)

/-- Whether a stream has an open frame. -/
def State.frameOpen (s : State) (st : Nat) : Bool := (s.openOf st).isSome

/-- Number that the next frame of a stream takes (R164). -/
def Strm.next (x : Strm) : Nat := match x.last with
  | none => 0
  | some L => add32 L 1

/-- What a stream's packets are taken by: the configuration of its open frame, else of the frame that opens next (R96, R200). -/
def State.curCfg (s : State) (st : Nat) : FrameCfg :=
  match s.openOf st with
  | some f => f.cfg
  | none => tget (s.strm st).cfgs (s.strm st).next (s.cfgNow st)

/-- Width of that frame. -/
def State.curW (s : State) (st : Nat) : Nat := widthOf (s.curCfg st).regs st
/-- Declared height of that frame. -/
def State.curH (s : State) (st : Nat) : Nat := heightOf (s.curCfg st).regs st
/-- Data type of that frame. -/
def State.curDt (s : State) (st : Nat) : Nat := dtOf (s.curCfg st).regs st
/-- Profile of that frame. -/
def State.curProf (s : State) (st : Nat) : Profile := s.profile (fldOf (s.curCfg st).regs (Fld.STRM_CFG_profile st))
/-- CFA vertical period of that frame (R116). -/
def State.curV (s : State) (st : Nat) : Nat :=
  match s.openOf st with
  | some f => f.cfaV
  | none => cfaPer (nth (s.tabFor 7 st (s.strm st).next) 2 0)

/-- Whether a stream takes packets: open, placed or degraded to sketch only, not suspended (R164, R187). -/
def State.strmTakes (s : State) (st : Nat) : Bool :=
  (s.strm st).opened && !(s.get (Fld.STRM_STAT_path_now st) == 3) && !(s.get (Fld.STRM_STAT_path_now st) == 7)

/-- Whether the last pour period of a stream's group has ended during Standby entry (R50). -/
def State.groupDone (s : State) (st : Nat) : Bool := !s.flag (Fld.SYNC_CTRL_run (s.get (Fld.STRM_CFG_group st)))

/-- The reference time of a frame (R163): the group edge of the pour period in which it was captured, else its frame-start
capture. -/
def State.refTime (s : State) (st cap : Nat) : Nat :=
  let g := s.get (Fld.STRM_CFG_group st)
  if s.grpP g == 0 then cap
  else match (s.grp g).last with
    | some (v, _) => if Nat.blt cap v then (s.grp g).prev.getD cap else v
    | none => cap

/-- Lines that every exposure of a stream has delivered. -/
def State.linesIn (s : State) (st : Nat) : Nat :=
  match (s.streamEntries st).map (fun e => (s.ent e.1 e.2).lines.length) with
  | [] => 0
  | n :: ns => ns.foldl Nat.min n

/-! ## The easel's slots (R166 to R168) -/

/-- Line boundary state of an easel. -/
def State.easel (s : State) (e : Nat) : EasSt := tget s.eas e ⟨[], none⟩

/-- Replace it. -/
def State.setEasel (s : State) (e : Nat) (x : EasSt) : State := { s with eas := tset s.eas e x }

/-- A context load for a frame reads the cells of its tables: an uncorrected word there is signalled, the frame uses the words as
read, and the control island rewrites the cells from its copy (R233, R279). DEDUCED (log 116): the whole frame takes the words
as read, lines that were worked before included. -/
def State.ctxLoad (e st F : Nat) (s : State) : State :=
  let s1 := s.bump (Fld.EAS_CTXLD_loads e)
  let cells (typ : Nat) : List Nat := s.tabCellsFor typ st F
  let ws := s.flipsIn ([7, 8, 9].flatMap cells)
  if ws.isEmpty then s1
  else
    let bad := [7, 8, 9].filter (fun typ => (s.flipsIn (cells typ)).any (fun w => Nat.ble 2 (s.flips w)))
    let s2 := forEach ws (State.palTouch false) s1
    if bad.isEmpty then s2
    else
      let s3 := (s2.markError st F).modFrame st F (fun f => { f with
        tabs := bad.foldl (fun t typ => tset t typ (s.palBytes (cells typ) (f.tab typ).length)) f.tabs })
      (s3.raise (evEas e 6)).tabRewrite st

/-- A stroke of a frame reads cells: the uncorrected words among them are counted for its metadata block, and the frame counts as
having an uncorrected error (R279, R280). -/
def State.palReads (st F : Nat) (cs : List Nat) (s : State) : State :=
  let ws := s.flipsIn cs
  let bad := ws.filter (fun w => Nat.ble 2 (s.flips w))
  let s1 := forEach ws (State.palTouch false) s
  match bad with
  | [] => s1
  | w :: _ => (s1.markError st F).modFrame st F (fun f => { f with
      palBad := f.palBad + bad.length, palCell := some (f.palCell.getD (w / 512)) })

/-- Lines of a frame are read with an uncorrected error: what the easel sees of them is a free value (R280). -/
def State.readBad (st F : Nat) (lines : List Nat) (s : State) : State :=
  if lines.isEmpty then s
  else (s.modFrame st F (fun f => { f with asRead := lines.foldl (fun t L => tset t L s.free) f.asRead })).draw

/-- The resident slot of an easel takes the context of its in-line stream, where it does not hold it (R166, R235). -/
def State.resident (e st F : Nat) (s : State) : State :=
  if s.flag (Fld.EAS_STAT_has_inline e) && s.get (Fld.EAS_STAT_inline e) == st then s
  else ((s.put (Fld.EAS_STAT_has_inline e) 1).put (Fld.EAS_STAT_inline e) st).ctxLoad e st F

/-- Whether some view of a stream, as a set of registers configures it, needs more than the raw-linear tap (R36, R197). -/
def needsBack (regs : List (Nat × Word)) (st : Nat) : Bool :=
  (viewsOf regs st).any (fun v => (viewCfg regs st v).src == 0)

/-- Whether a frame in progress needs the back half of its easel. -/
def State.frameBack (s : State) (st F : Nat) : Bool :=
  match s.frame st F with
  | some f => needsBack f.cfg.regs st
  | none => false

/-- The open streams that placement gives to easel e. -/
def State.strmsOn (s : State) (e : Nat) : List Nat :=
  (List.range 32).filter (fun st => (s.strm st).opened && (s.placeTarget st).2 == e && Nat.blt (s.placeTarget st).1 2)

/-- Whether easel e needs its back half: for a stream that placement gives it, or for work that it has left (R36, R197). -/
def State.backNeeded (s : State) (e : Nat) : Bool :=
  (s.strmsOn e).any (needsBack s.regs) ||
  s.strokes.any (fun k => k.easel == e && s.frameBack k.st k.num) ||
  (s.easel e).ready.any (fun l => s.frameBack l.1 l.2.1) ||
  s.frames.any (fun f => f.isOpen && f.path == 0 && f.easel == e && needsBack f.cfg.regs f.st)

/-- Whether an easel is ready to work: its front half and statistics engine are on, and its back half where it is needed (R36,
R41, R44). -/
def State.easelUp (s : State) (e : Nat) (back : Bool) : Bool :=
  s.domOn (48 + 2 * e) && s.domOn (72 + e) && (!back || s.domOn (49 + 2 * e))

/-- The domains of an easel that its work needs. -/
def State.easelNeeds (s : State) (e : Nat) : List Nat :=
  [48 + 2 * e, 72 + e] ++ (if s.backNeeded e then [49 + 2 * e] else [])

/-! ## Opening (R8, R112, R164, R181, R245, R247, R315) -/

/-- The windows of a frame at its opening: those of disabled rings do not exist for it. -/
def State.winsOf (s : State) (st path : Nat) (cfg : FrameCfg) : List WinSt :=
  (viewsOf cfg.regs st ++ [4, 5]).map (fun w =>
    let alive := nth (s.strm st).alive w 0
    (⟨w, if s.ringOn (8 * st + w) || (path == 2 && Nat.blt w 4) then .waiting else .done, 0, 0, 0, 0, alive, 0, 0, 0, 0, false, false, false⟩ : WinSt))

/-- The alive counters of the windows that a frame produces step (R325). -/
def aliveNext (alive : List Nat) (path : Nat) (views : List Nat) : List Nat :=
  (List.range 6).map (fun w =>
    let a := nth alive w 0
    if (Nat.ble 4 w || (views.contains w && !(path == 2))) then (a + 1) % 65536 else a)

/-- The cells of the statistics block that a frame accumulates into: one of two by the parity of its number (R243). -/
def State.statBlockCells (s : State) (st F : Nat) : List Nat := ((s.strm st).statCells.drop (46 * (F % 2))).take 46

/-- A frame boundary of a stream: a broken line store is rebuilt (R281), cells that it has not got yet are taken, and the
statistics block that the frame takes is written anew (R243, R276). -/
def State.strmBoundary (st F : Nat) (s : State) : State :=
  let x := s.strm st
  let s1 := if x.broken then (s.setStrm st { x with broken := false, lostCells := [] }).palFree x.lostCells else s
  let s2 := s1.strmCells st
  let block := s2.statBlockCells st F
  { s2 with palFlip := s2.palFlip.filter (fun e => !block.contains (e.1 / 512)) }

/-- A frame-start packet opens the next frame of a stream. -/
def State.openFrame (st : Nat) (cap : Nat × Bool) (s0 : State) : State :=
  let s1 := (s0.windowEnd st).strmBoundary st (s0.strm st).next
  let x := s1.strm st
  let F := x.next
  let ks := (s1.prof st).ks
  let cfg := tget x.cfgs F (s1.cfgNow st)
  let ahead := add32 F (1 + ks)
  let s2 := s1.setStrm st { x with
    last := some F, rel := 0, edge := (s1.grp (s1.get (Fld.STRM_CFG_group st))).last.map (fun e => e.1)
    cfgs := tset (x.cfgs.filter (fun e => serGE e.1 F && !(e.1 == F))) ahead (s1.cfgNow st), noCell := [] }
  let s3 := ((s2.ldgResent st F).ldgFreeze st F).ldgPrune st F
  let s4 := (s3.setReg (Reg.STRM_FRAME st) (BitVec.ofNat 32 F)).applyPlace st
  let path := s4.get (Fld.STRM_STAT_path_now st)
  let e := s4.get (Fld.STRM_STAT_easel st)
  let s5 := (s4.put (Fld.STRM_STAT_open st) 1)
  let s6 := if path == 2 then s5.bump (Fld.STRM_DROP_degraded st) else s5
  let wins := s6.winsOf st path cfg
  let (per, s7) := s6.logFrame st F cap.1
  let f : Frame := {
    st := st, num := F, cfg := cfg, tabs := s7.tabsFor st F, at_ := s7.tm.loc, asRead := [], cap := cap, capLast := cap, path := path, easel := e, ns := (s7.plcRuns st).1
    ref := s7.refTime st cap.1, bdrop := bit (s7.reg Reg.HL_DROPSET).toNat st, isOpen := true, trunc := false, cut := none
    valid := 0, lines := [], repaired := 0, firstRep := 0, ctr := none, gap := none, pkts := [], full := false, edSeen := false
    reported := [], withdrawn := s7.cenBad st e, missedDl := false, inputs := [], sigs := [], sigBound := false, per := per, stats := none, lawed := false
    dpc := 0, palBad := 0, palCell := none, wins := wins, pub := 0, failM := 0, dropM := 0, done := false, own := none, prior := false }
  let s8 := { s7 with frames := s7.frames ++ [f] }.cenWork st e
  let s9 := s8.setStrm st { s8.strm st with alive := aliveNext (s8.strm st).alive path (viewsOf cfg.regs st) }
  let s10 := forEach (s9.streamEntries st) (fun en s =>
    if s.flag (fOpen en.1 en.2) then s else s.setEnt en.1 en.2 { s.ent en.1 en.2 with lines := [], caps := [], repaired := 0, ended := none }) s9
  let s11 := forEach (wins.map (fun w => w.w)) (fun w s => s.fetchStart (8 * st + w) F) s10
  let s12 := if path == 0 && Nat.blt e 12 then (s11.resident e st F).raiseIf (!s11.easelUp e (needsBack cfg.regs st)) (evPm 2) else s11
  s12.windowOpen st F

/-- The frame records the gap that it ends (R125, R327). -/
def State.markGap (st last first : Nat) (s : State) : State :=
  match s.openOf st with
  | none => s
  | some f => s.modFrame st f.num (fun f => { f with gap := some (last, first, f.num) })

/-! ## Packets of the frame (R109, R252, R327) -/

/-- A packet is kept for the metadata block where it fits the packet area whole (R327). -/
def Frame.keep (f : Frame) (p : Pkt) : Frame :=
  if Nat.blt 6912 ((f.pkts ++ [p]).flatMap Pkt.bytes).length then { f with full := true } else { f with pkts := f.pkts ++ [p] }

/-- An embedded-data packet of the open frame; the first of exposure 0 confirms its entry. -/
def State.frameEmbedded (st vc k : Nat) (bytes : List Nat) (first : Bool) (s : State) : State :=
  match s.openOf st with
  | none => s
  | some f =>
    let s1 := s.modFrame st f.num (fun f => { f.keep ⟨0x12, vc, k, bytes⟩ with edSeen := f.edSeen || k == 0 })
    if first && k == 0 && (s.frameProf f).edConfirm then s1.ldgConfirm st f.num bytes else s1

/-- A user-defined packet of the open frame. -/
def State.frameUser (st vc k dt : Nat) (bytes : List Nat) (s : State) : State :=
  match s.openOf st with
  | none => s
  | some f => s.modFrame st f.num (fun f => f.keep ⟨dt, vc, k, bytes⟩)

/-! ## Line store and strokes (R166, R169, R172, R275 to R277) -/

/-- Cells of a stream's line store, by the placement under which it runs (R276, R278). -/
def State.storeShare (s : State) (st : Nat) : Nat := (s.plcRuns st).2 - 99 - s.tableCells st

/-- A line of a through-palette stream takes its cells; false where it finds none (R277), or where the list that they join is
broken (R281). -/
def State.storeLine (st F L : Nat) (s : State) : Bool × State :=
  let n := s.lineCells st
  if Nat.blt (s.storeShare st) ((s.palOf 3 st).length + n) || Nat.blt (s.freeCells n).length n then
    (false, ((s.bump Fld.PAL_QUOTA_count).put Fld.PAL_QUOTA_stream st).raise (evMem 2))
  else
    let (s1, cs) := s.palAlloc 3 st n
    let x := s1.strm st
    if x.broken then (false, s1.setStrm st { x with lostCells := x.lostCells ++ cs })
    else (true, s1.setStrm st { x with store := x.store ++ [(F, L, cs)] })

/-- A line's first exposure takes the cells of all (R176); the others have its fate (R277). -/
def State.storeOnce (st F L : Nat) (s : State) : Bool × State :=
  let x := s.strm st
  if x.noCell.contains L then (false, s)
  else if x.store.any (fun e => e.1 == F && e.2.1 == L) then (true, s)
  else
    let (ok, s1) := s.storeLine st F L
    (ok, if ok then s1 else s1.setStrm st { s1.strm st with noCell := (s1.strm st).noCell ++ [L] })

/-- Whether a stored line is still to be read: by a released stroke, its overlap lines included, or by one to come. -/
def State.lineNeeded (s : State) (st F L : Nat) : Bool :=
  s.strokes.any (fun k => k.st == st && k.num == F && Nat.ble (k.a - 8) L && Nat.ble L k.b) ||
  (match s.openOf st with
   | some f => f.num == F && Nat.ble ((s.strm st).rel - 8) L
   | none => false)

/-- Free the cells of the lines that no stroke reads any more (R275). -/
def State.storeSweep (st : Nat) (s : State) : State :=
  let x := s.strm st
  let gone := (x.store.filter (fun e => !s.lineNeeded st e.1 e.2.1)).flatMap (fun e => e.2.2)
  (s.setStrm st { x with store := x.store.filter (fun e => s.lineNeeded st e.1 e.2.1) }).palFree gone

/-- Release the stroke of lines a to b of a frame (R172). -/
def State.strokeOut (f : Frame) (a b : Nat) (s : State) : State :=
  let tin := fldOf f.cfg.regs (Fld.STRM_TIN_t_in f.st)
  let slack := (fldOf f.cfg.regs (Fld.STRM_BUDGET_budget f.st) - tin - 1000) * 1000
  let dl := f.ref + tin * 1000 + slack - (f.H - 1 - b) * (s.frameProf f).lineTime
  let k : Stroke := ⟨f.st, f.num, a, b, dl, f.easel, false, false⟩
  let s1 := { s with strokes := s.strokes ++ [k] }
  s1.setStrm f.st { s1.strm f.st with rel := b + 1 }

/-- Release the whole strokes whose last line has arrived; the frame's last stroke takes what remains. -/
def State.strokeRel (st : Nat) : Nat → State → State
  | 0, s => s
  | n + 1, s =>
    match s.openOf st with
    | none => s
    | some f =>
      let a := (s.strm st).rel
      let b := Nat.min (a + f.ns) f.H
      if f.path == 1 && Nat.blt a b && Nat.ble b (s.linesIn st) then State.strokeRel st n (s.strokeOut f a (b - 1)) else s

/-- Lines of a stream have come in: in-line lines are ready at the easel, strokes are released. -/
def State.linesCame (st before : Nat) (s : State) : State :=
  match s.openOf st with
  | none => s
  | some f =>
    let n := s.linesIn st
    if f.path == 0 && Nat.blt f.easel 12 then
      let x := s.easel f.easel
      s.setEasel f.easel { x with ready := x.ready ++ List.replicate (n - before) (st, f.num, s.tm.loc) }
    else if f.path == 1 then State.strokeRel st f.H s
    else s

/-! ## Streams that close, and what happens at a target frame's boundary (R97, R164, R181) -/

/-- A stream closes, and opens anew where it has been enabled again (R164). -/
def State.strmEnd (st : Nat) (s : State) : State :=
  let again := (s.strm st).again
  let s1 := (((s.strmClose st).csoClosed st).applyPlace st).strmSweep st
  if again then s1.strmOpen st else s1

/-- The boundary at which a stream closes has come. DEDUCED (log 114): a frame that it has open then is completed first, as R181
lets it, and the stream closes with it. -/
def State.turnClose (st : Nat) (s : State) : State :=
  if !(s.strm st).opened then s
  else if s.frameOpen st then s.setStrm st { s.strm st with closing := true }
  else s.strmEnd st

/-- The target boundary of a commit: streams close, placement runs (R97, R164). -/
def State.turnNow (closes : List Nat) (run : Bool) (s : State) : State :=
  let s1 := { s with plc := { s.plc with degraded := s.plc.degraded.filter (fun st => !closes.contains st) } }
  let s2 := forEach closes State.turnClose s1
  if run then s2.plcRun else s2.applyIdle

/-- Frame F of a stream is about to open: the boundaries that wait for it, or for a stream that is not open any more, come. -/
def State.turnsAt (st F : Nat) (s : State) : State :=
  let due := s.cmt.turns.filter (fun t => (t.target.1 == st && serGE F t.target.2) || !(s.strm t.target.1).opened)
  forEach due (fun t s => { s with cmt := { s.cmt with turns := s.cmt.turns.erase t } }.turnNow t.closes t.run) s

/-! ## Close (R112, R120, R129, R186) -/

/-- The content of the frame is complete: its dynamic corrections are counted (R209), the transmit ports send its views and
metadata, views that a degrade action drops are dropped (R187), and the pour goes on. -/
def State.contentDone (st F : Nat) (s : State) : State :=
  match s.frame st F with
  | none => s
  | some f =>
    if f.isOpen || !s.workDone st F then s
    else
      let dpc := if f.path == 2 then 0 else (s.frontOf f).2
      let alarm := f.tset.alarm
      let s1 := (s.modFrame st F (fun f => { f with dpc := dpc })).cenWork st f.easel
      let s2 := if Nat.blt f.easel 12 then
          (s1.bumpBy (Fld.EAS_DPC_dpc f.easel) dpc).raiseIf (!(alarm == 0) && Nat.blt alarm dpc) (evEas f.easel 7) else s1
      let s3 := forEach (viewsOf f.cfg.regs st ++ (if f.sigBound then [5] else [])) (fun w s => (s.csoSend st F w).mirror st F w) s2
      let s4 := if f.path == 2 then forEach (viewsOf f.cfg.regs st) (fun w s => s.winDrop st F w .degraded) s3 else s3
      (s4.pourAll st).frameDone st F

/-- SIGNAL_BIND (R365): signals are bound to a frame; where the rest of its content is there already, its metadata block is complete now. -/
def State.sigBindAt (st F : Nat) (s : State) : State :=
  let s1 := s.sigBind st F
  let fresh := (s.frame st F).any (fun f => !f.sigBound) && (s1.frame st F).any (fun f => f.sigBound && !f.isOpen)
  if fresh && s1.workDone st F then ((s1.csoSend st F 5).mirror st F 5).pourAll st else s1

/-- The lines of a stream's exposures in their order, with repairs and counter. -/
def State.gather (s : State) (st : Nat) : List Entry :=
  (sortBy (fun e : Nat × Nat => s.entExp e.1 e.2) (s.streamEntries st)).map (fun e => s.ent e.1 e.2)

/-- A stream's open frame closes with what its entries hold; `cut` = the lines that had entered a retired easel. -/
def State.closeFrame (st : Nat) (cut : Option Nat) (s : State) : State :=
  match s.openOf st with
  | none => s
  | some f =>
    let es := s.gather st
    let n := s.linesIn st
    let trunc := cut.isSome || es.any (fun e => match e.ended with
      | some x => x.trunc
      | none => true)
    let V := match cut with
      | some E => Nat.min E n - 4
      | none => n
    let e0 := es.headD Entry.init
    let reps := es.filter (fun e => !(e.repaired == 0))
    let F := f.num
    let s1 := s.modFrame st F (fun f => { f with
      isOpen := false, trunc := trunc, cut := cut, valid := V, lines := es.map (fun e => e.lines.take n)
      capLast := if V == 0 then f.cap else nth e0.caps (V - 1) f.cap
      repaired := Nat.min 65535 (sumL (reps.map (fun e => e.repaired)))
      firstRep := ((leastBy (fun e : Entry => e.firstRep) reps).map (fun e => e.firstRep)).getD 0
      ctr := e0.ctr })
    let s1' := (s1.put (Fld.STRM_STAT_open st) 0).ldgClose st F f.edSeen trunc
    let s2 := s1'.modFrame st F (fun f => { f with own := some (s1'.ldgBytes st F, s1'.gridOf st F) })
    let s3 := s2.raiseIf trunc (evStrm st 1)
    let s4 := if f.path == 1 && Nat.blt (s3.strm st).rel V then s3.strokeOut f (s3.strm st).rel (V - 1) else s3
    let s5 := s4.storeSweep st
    let s6 := if f.sigBound then s5 else s5.sigBind st F
    let s7 := (s6.contentDone st F).trlRelease
    if (s7.strm st).closing then s7.strmEnd st else s7

/-- A map entry's frame closes; the stream's frame closes with its last entry (R112). -/
def State.entClose (p k : Nat) (trunc : Bool) (s : State) : State :=
  let st := s.entStream p k
  let e := s.ent p k
  let s1 := (s.setEnt p k { e with ended := some ⟨trunc, e.lines.length⟩ }).put (fOpen p k) 0
  if (s1.streamEntries st).all (fun x => (s1.ent x.1 x.2).ended.isSome) && s1.frameOpen st then s1.closeFrame st none else s1

/-- A stream's open in-line frame is cut at the retirement of its easel; its later packets are discarded (R186). -/
def State.cutFrame (st E : Nat) (s : State) : State :=
  let s1 := forEach (s.streamEntries st) (fun e s =>
    let x := s.ent e.1 e.2
    (s.setEnt e.1 e.2 { x with ended := some ⟨true, x.lines.length⟩, skip := true, held := [] }).put (fOpen e.1 e.2) 0) s
  s1.closeFrame st (some E)

/-- A closed in-line frame whose last lines never entered its easel is cut at its retirement, after E lines: it becomes a truncated one,
and its entry void (R120, R186). -/
def State.lateCut (st F E : Nat) (s : State) : State :=
  match s.frame st F with
  | none => s
  | some f =>
    let b := ((s.frameEntry f).mark efVoid).bytes (s.prof st).edConfirm
    let s1 := if f.prior then s else s.modEntry st F (fun e => e.mark efVoid)
    ((s1.modFrame st F (fun f => { f with
      trunc := true, cut := some E, valid := Nat.min E f.valid - 4, own := some (b, s.frameGrid f) })).raiseIf (!f.trunc)
      (evStrm st 1)).contentDone st F

/-- A frame that has just opened is cut with no line where its easel is retired, or takes a retired easel's slot and is not
powered yet (R186). -/
def State.takenCut (st : Nat) (s : State) : State :=
  match s.openOf st with
  | none => s
  | some f =>
    if (Nat.blt f.path 2 && thas s.plc.retired f.easel) || (f.path == 0 && s.plc.taking == some f.easel) then s.cutFrame st 0
    else s

/-! ## Work on the easels (R167, R168, R172 to R174) -/

/-- A stroke's name. -/
def Stroke.key (k : Stroke) : Nat × Nat × Nat := (k.st, k.num, k.a)

/-- The stroke of an easel with the earliest deadline, then the lowest stream (R172). -/
def State.bestStroke (s : State) (e : Nat) : Option Stroke :=
  leastBy (fun k : Stroke => k.dl * 32 + k.st) (s.strokes.filter (fun k => k.easel == e))

/-- A stroke that does not begin its frame reads the history of the one before (R170, R280). -/
def State.histLoad (k : Stroke) (s : State) : State :=
  if k.a == 0 then s
  else
    let cs := s.palOf 4 k.st
    let bad := (s.flipsIn cs).any (fun w => Nat.ble 2 (s.flips w))
    (s.palReads k.st k.num cs).readBad k.st k.num (if bad then span (k.a - 8) (k.b + 1) else [])

/-- EASEL_LINE_BOUNDARY: an in-line line that is ready goes first; else the stroke with the earliest deadline has the easel. An
easel whose domains are not on holds its lines and strokes (R44); the last line of a closed frame completes its content. -/
def State.lineBoundary (e : Nat) (s : State) : State :=
  let x := s.easel e
  match x.ready with
  | (st, F, t) :: rest =>
    if !s.easelUp e (s.frameBack st F) then s
    else
      let s1 := (s.setEasel e { x with ready := rest }).bump (Fld.EAS_LINES_lines e)
      let s2 := if x.slot.isSome then s1.peak (Fld.EAS_WAIT_max_wait e) ((s.tm.loc - t) / 10) else s1
      if s2.workDone st F then s2.contentDone st F else s2
  | [] =>
    match s.bestStroke e with
    | none => s
    | some k =>
      if x.slot == some k.key || !s.easelUp e (s.frameBack k.st k.num) then s
      else
        let s1 := ((s.setEasel e { x with slot := some k.key }).put (Fld.EAS_STAT_has_stroke e) 1).put (Fld.EAS_STAT_stroke e) k.st
        let s2 := ((s1.ctxLoad e k.st k.num).histLoad k).bumpBy (Fld.EAS_WAIT_reruns e) (b2n k.active)
        { s2 with strokes := s2.strokes.map (fun (j : Stroke) => if j.key == k.key then { j with active := true } else j) }

/-- STROKE_END: the stroke in hand finishes: the lines that it read leave the line store, and it saves its history (R170,
R275). -/
def State.strokeEnd (e : Nat) (s : State) : State :=
  let x := s.easel e
  match x.slot with
  | none => s
  | some (st, F, a) =>
    let b := (s.strokes.find? (fun (k : Stroke) => k.key == (st, F, a))).elim a (fun k => k.b)
    let lines := (s.strm st).store.filter (fun l => l.1 == F && Nat.ble (a - 8) l.2.1 && Nat.ble l.2.1 b)
    let bad := lines.filter (fun l => (s.flipsIn l.2.2).any (fun w => Nat.ble 2 (s.flips w)))
    let s0 := (s.palReads st F (lines.flatMap (fun l => l.2.2))).readBad st F (bad.map (fun l => l.2.1))
    let hist := s.palOf 4 st
    let s1 := { (s0.setEasel e { x with slot := none }) with
      strokes := s0.strokes.filter (fun (k : Stroke) => !(k.key == (st, F, a)))
      palFlip := s0.palFlip.filter (fun w => !hist.contains (w.1 / 512)) }
    (((s1.bump (Fld.EAS_STROKES_strokes e)).storeSweep st).contentDone st F).strmSweep st

/-- STROKE_DEADLINE_MISS: the stream's unfinished stroke with the earliest deadline passes it (R173). -/
def State.strokeMiss (st : Nat) (s : State) : State :=
  match leastBy (fun k : Stroke => k.dl) (s.strokes.filter (fun k => k.st == st && !k.missed)) with
  | none => s
  | some k =>
    let first := (s.frame st k.num).any (fun f => !f.missedDl)
    let s1 := { s with strokes := s.strokes.map (fun (j : Stroke) => if j.key == k.key then { j with missed := true } else j) }
    let s2 := (s1.markError st k.num).modFrame st k.num (fun f => { f with missedDl := true })
    let s3 := if first then s2.bump (Fld.STRM_DROP_deadline st) else s2
    (s3.raise (evStrm st 4)).raise (evEas k.easel 3)

/-! ## Statistics and laws (R243, R244, R260) -/

/-- A closed block joins those whose laws wait, behind the blocks that closed before it; blocks that close at one time stand in
ascending stream number (R260). -/
def lawInsert (x : Nat × Nat × Nat) : List (Nat × Nat × Nat) → List (Nat × Nat × Nat)
  | [] => [x]
  | y :: ys => if y.1 == x.1 && Nat.blt x.2.1 y.2.1 then x :: y :: ys else y :: lawInsert x ys

/-- STATS_BLOCK_CLOSE: the block of the stream's oldest closed frame that has none. An uncorrected word in the cells of that block
withdraws its full sections (R244, R280), as every other uncorrected error of R191 does, a missed write window of its entry
among them. DEDUCED (log 115): a frame cut by a retirement keeps the full sections that R186 gives it. -/
def State.statsClose (st : Nat) (s00 : State) : State :=
  match s00.frames.find? (fun f => f.st == st && !f.isOpen && f.stats.isNone && s00.workDone st f.num) with
  | none => s00
  | some f0 =>
    let ws := s00.flipsIn (s00.statBlockCells st f0.num)
    let bad := ws.any (fun w => Nat.ble 2 (s00.flips w)) || bit (s00.frameEntry f0).flags efMiss
    let f := { f0 with withdrawn := f0.withdrawn || bad }
    let s := (forEach ws (State.palTouch false) s00).modFrame st f.num (fun _ => f)
    let full := f.statFull
    let b := s.statBlock f
    let s0 := s.modFrame st f.num (fun f => { f with stats := some b })
    let s1 := { s0 with lawQ := lawInsert (s0.tm.loc, st, f.num) s0.lawQ }
    let s2 := if full then s1 else s1.bump (Fld.STAT_CNT_no_full st)
    let s3 := if f.trunc then s2.bump (Fld.STAT_CNT_incomplete st) else s2
    ((s3.csoSend st f.num 4).mirror st f.num 4).pourAll st

/-- The frame whose laws the control island runs: that of the block that closed first, where it is the stream's (R260), once the signals
that feed the laws are bound to it (R367). -/
def State.lawFrame (s : State) (st : Nat) : Option Frame :=
  match s.lawQ with
  | x :: _ => if x.2.1 == st then s.frames.find? (fun f => f.st == st && f.num == x.2.2 && f.stats.isSome && !f.lawed && f.sigBound) else none
  | [] => none

/-- The law state that the laws are about to read holds an uncorrected word: what it says of the flicker detection is a free value
(R280). -/
def State.lawsBad (st : Nat) (s : State) : State :=
  ((s.put (Fld.STAT_FLK_STAT_active st) (Config.openVal s.free 280 % 3)).put (Fld.STAT_FLK_STAT_run st)
    (Config.openVal s.free 281 % 64)).draw

/-- CONTROL_LAWS_END: the laws of the frame in hand end; they read and write the stream's law state, the last 4 of its statistics
cells (R243, R260). DESIGN CHOICE (log 161): the laws of a frame of an earlier opening of the stream leave the present one alone. -/
def State.lawsDone (st : Nat) (s : State) : State :=
  match s.lawFrame st with
  | none => s
  | some f =>
    let law := (s.strm st).statCells.drop 92
    let ws := s.flipsIn law
    let s00 := forEach ws (State.palTouch false) { s with lawQ := s.lawQ.tail }
    let s0 := if ws.any (fun w => Nat.ble 2 (s.flips w)) then (s00.lawsBad st).markError st f.num else s00
    let s0' := { s0 with palFlip := s0.palFlip.filter (fun w => !law.contains (w.1 / 512)) }
    let s1 := ((((if f.prior then s0' else s0'.lawsEnd f)).modFrame st f.num (fun f => { f with lawed := true })).frameGone st f.num).strmSweep st
    match (s1.strm st).last with
    | some L => (s1.windowTry st L).chanGo (s1.get (Fld.STRM_CFG_port st))
    | none => s1

end Sys2Proof.Machine
end

