-- ==== Sys2Proof/Machine/Easels.lean ====
section
/-! DEFINITION. Machine/Easels.lean: the resting easel and its rotation, retirement, degrade and readmission (R182 to
R188). -/

namespace Sys2Proof.Machine

/-- The domains that an easel's work needs start to wake, as many as may ramp (R41, R42); planning starts the others. -/
def State.easelWake (e : Nat) (s : State) : State := forEach (s.easelNeeds e) State.domWake s

/-- A retired easel's domains are off. -/
def State.easelSleep (e : Nat) (s : State) : State := forEach (easelDoms e) State.domCut s

/-- An easel forgets what its slots hold. -/
def State.easelClear (e : Nat) (s : State) : State :=
  (((s.setEasel e ⟨[], none⟩).put (Fld.EAS_STAT_has_inline e) 0).put (Fld.EAS_STAT_has_stroke e) 0)

/-- A retired easel's unfinished strokes and open through-palette frames go to another easel, by stream (R186): an uncorrected error
for those frames (R191); STRM_s_STAT shows where the open frame now is, and the change of easel counts (R181, R195). -/
def State.strokesMove (e : Nat) (to_ : Nat → Nat) (s : State) : State :=
  let shown := s.frames.filter (fun f => f.isOpen && f.easel == e && f.path == 1)
  let hurt := s.frames.filter (fun f => f.easel == e && f.path == 1 && (f.isOpen || s.strokes.any (fun k => k.st == f.st && k.num == f.num)))
  let s1 := { s with
    strokes := s.strokes.map (fun (k : Stroke) => if k.easel == e then { k with easel := to_ k.st } else k)
    frames := s.frames.map (fun (f : Frame) => if f.easel == e && f.path == 1 then { f with easel := to_ f.st } else f) }
  let s2 := forEach hurt (fun (f : Frame) s => s.markError f.st f.num) s1
  forEach shown (fun (f : Frame) s =>
    let s' := s.put (Fld.STRM_STAT_easel f.st) (to_ f.st)
    if to_ f.st == e then s' else s'.plcMoved f.st) s2

/-- Unfinished strokes and open through-palette frames of easel e go to easel r. -/
def State.strokesTo (e r : Nat) (s : State) : State := s.strokesMove e (fun _ => r)

/-- Unfinished strokes of easel e go to the easels that now carry their streams, or to the lowest one in service. -/
def State.strokesSpread (e : Nat) (s : State) : State :=
  s.strokesMove e (fun st =>
    let t := (s.placeTarget st).2
    if Nat.blt t 12 then t else s.plc.slotMap.headD 15)

/-- A resting easel has taken a retired easel's slot once the domains that its work needs are on (R186). -/
def State.takenOver (s : State) : State :=
  match s.plc.taking with
  | none => s
  | some r =>
    if s.easelUp r (s.backNeeded r) then { s with plc := { s.plc with taking := none } }.raise (evEas r 2) else s

/-- Easel r, which rests, takes the slot of easel e: its BIST is aborted, its domains are re-initialised where they are on, and
wake where they are not. -/
def State.takeOver (e r : Nat) (s : State) : State :=
  let s1 := { s with plc := { s.plc with
    resting := none, restOk := false, taking := some r, slotMap := s.plc.slotMap.map (fun x => if x == e then r else x) } }
  let s2 := forEach ((easelDoms r).filter s1.domOn) State.domRestore s1
  ((((s2.easelWake r).strokesTo e r).takenOver).bump Fld.PLC_STAT_runs).plcShow.applyIdle

/-- The in-line frames that easel e holds open are cut at what has entered it; its other lines are gone, and frames whose last
lines they were are cut as well (R186). -/
def State.easelCut (e : Nat) (s : State) : State :=
  let waiting := (s.easel e).ready
  let left (st F : Nat) : Nat := (waiting.filter (fun l => l.1 == st && l.2.1 == F)).length
  let opens := s.frames.filter (fun f => f.isOpen && f.path == 0 && f.easel == e)
  let closed := s.frames.filter (fun f => !f.isOpen && f.path == 0 && f.easel == e && !(left f.st f.num == 0))
  let s1 := (s.easelSleep e).easelClear e
  let s2 := forEach closed (fun (f : Frame) s => s.lateCut f.st f.num (f.valid - left f.st f.num)) s1
  forEach opens (fun (f : Frame) s => s.cutFrame f.st (s.linesIn f.st - left f.st f.num)) s2
/-- An easel is retired with a reason (R185 to R187). -/
def State.retire (e reason : Nat) (s : State) : State :=
  if thas s.plc.retired e then s
  else
    let s0 := { s with plc := { s.plc with
        retired := tset s.plc.retired e reason, readmit := s.plc.readmit.filter (fun x => !(x == e)) } }.raise (evEas e 0)
    if s0.plc.resting == some e then
      (({ s0 with plc := { s0.plc with resting := none, restOk := false } }.easelSleep e).easelClear e).bump
        Fld.PLC_STAT_runs |>.plcShow
    else
      let s1 := s0.easelCut e
      let s2 := if s1.plc.taking == some e then { s1 with plc := { s1.plc with taking := none } } else s1
      if s2.plc.leaving == some e then
        ({ s2 with plc := { s2.plc with leaving := none } }.strokesSpread e).bump Fld.PLC_STAT_runs |>.plcShow
      else
        match s2.plc.resting with
        | some r => s2.takeOver e r
        | none => ((s2.mapSlots.plcRun).strokesSpread e).plcShow

/-- Whether a stream still migrates under an earlier run (R180). -/
def State.migrating (s : State) : Bool :=
  (List.range 32).any (fun st => (s.strm st).opened && !s.asPlaced st)

/-- The next easel in service above one, wrapping. -/
def State.nextEasel (s : State) (r : Nat) : Option Nat :=
  ((List.range 12).map (fun i => (r + 1 + i) % 12)).find? (fun e => s.plc.slotMap.contains e)

/-- REST_ROTATION (R183): a rotation that falls due while a stream still migrates waits until none does (R180). -/
def State.rotate (s : State) : State :=
  match s.plc.resting with
  | none => s
  | some r =>
    if !(s.working && s.flag Fld.PLC_ROT_enable && s.plc.restOk && s.plc.retired.isEmpty && s.plc.leaving.isNone) then s
    else if s.migrating then { s with plc := { s.plc with rotDue := true } }
    else match s.nextEasel r with
      | none => s
      | some n =>
        let s1 := { s with plc := { s.plc with
          resting := none, restOk := false, leaving := some n, slotMap := s.plc.slotMap.map (fun x => if x == n then r else x) } }
        ((((s1.easelWake r).raise (evEas r 2)).bump Fld.PLC_STAT_runs).plcShow).applyIdle

/-- A rotation that waited takes place once no stream migrates (R180). -/
def State.rotateLate (s : State) : State :=
  if s.plc.rotDue && !s.migrating then { s with plc := { s.plc with rotDue := false } }.rotate else s

/-- Whether an easel has no frame open and no stroke left. -/
def State.easelIdle (s : State) (e : Nat) : Bool :=
  !s.frames.any (fun f => f.isOpen && f.easel == e) && !s.strokes.any (fun k => k.easel == e) && (s.easel e).ready.isEmpty

/-- ROTATION_DRAIN_DONE: the leaving easel begins to rest (R183). -/
def State.rotated (s : State) : State :=
  match s.plc.leaving with
  | none => s
  | some n =>
    if !s.easelIdle n || s.migrating then s
    else
      let s1 := { s with plc := { s.plc with leaving := none, resting := some n, restOk := false } }
      ((s1.easelClear n).raise (evEas n 1)).plcShow

/-- An easel that has passed BIST returns to service, its fence lifted (R416): it rests if none does, else placement runs with one slot more and
lifts degrades (R188). -/
def State.readmit (e : Nat) (s : State) : State :=
  let byItself := tget s.plc.retired e 0 == 3 && s.flag (Fld.CK_PLL_locked (e / 2))
  if !(thas s.plc.retired e && (s.plc.readmit.contains e || byItself)) then s
  else
    let s0 := forEach (easelDoms e) (fun d s => s.put (Fld.BIST_DOM_fenced d) 0) s
    let s1 := { s0 with plc := { s0.plc with
      retired := tdel s0.plc.retired e, readmit := s0.plc.readmit.filter (fun x => !(x == e)) } }
    if s1.plc.resting.isNone && s1.plc.leaving.isNone then
      ({ s1 with plc := { s1.plc with resting := some e, restOk := true } }.raise (evEas e 1)).bump Fld.PLC_STAT_runs |>.plcShow
    else
      let s2 := s1.mapSlots
      ((State.plcLift 33 s2).plcRun.easelWake e).plcShow

/-- EASEL_READMIT_COMMAND: readmission waits for the easel's BIST (R188). -/
def State.readmitAsk (e : Nat) (s : State) : State :=
  if thas s.plc.retired e && !s.plc.readmit.contains e then { s with plc := { s.plc with readmit := s.plc.readmit ++ [e] } } else s

end Sys2Proof.Machine
end

