-- ==== Sys2Proof/Machine/Ports.lean ====
section
/-! DEFINITION. Machine/Ports.lean: the sensor ports: links, packets, line repair, input loss and resumption (R100 to
R132). -/

namespace Sys2Proof.Machine

/-! ## Links -/

/-- Link A of each combo port in use comes up (R131). -/
def State.combosUp (s : State) : State :=
  forEach ((List.range 24).filter (fun p => Nat.ble 16 p && s.comboUp p false)) (fun p s => s.raise (evPort p 0)) s

/-- Whether an injector holds a port's link down (R423). -/
def State.forcedDown (s : State) (p : Nat) : Bool := Nat.blt s.tm.loc (tget s.forced p 0)

/-- An A-PHY link comes up where its port is powered (R41), or is held down for its gear (R101). DESIGN CHOICE (log 107): R132 gives lanes_now no count for an
AP port; the model shows the one lane of its link. -/
def State.linkUp (p gear : Nat) (s : State) : State :=
  if !(s.portOn p && s.portAwake p) || s.flag (Fld.PORT_LSTAT_link_up p) || s.forcedDown p then s
  else if gear == 0 || Nat.blt (s.get (Fld.PORT_LINK_gear p)) gear then
    if bit s.heldDown p then s else { s with heldDown := s.heldDown ||| (1 <<< p) }.raise (evPort p 1)
  else
    let s1 := { s with heldDown := s.heldDown &&& (2 ^ 24 - 1 - (1 <<< p)) }
    let s2 := ((s1.put (Fld.PORT_LSTAT_link_up p) 1).put (Fld.PORT_LSTAT_gear_now p) gear).put (Fld.PORT_LSTAT_back_ch p) 1
    ((s2.put (Fld.PORT_LSTAT_lanes_now p) 1).raise (evPort p 0)).chanLinkUp p

/-- Input loss is declared for a map entry, closing its open frame as truncated (R119 to R121). DESIGN CHOICE (log 160): a loss
during a re-initialisation keeps its mark, so the first frame start after step 5 of R124 opens without another check of R122. -/
def State.inputLoss (p k : Nat) (s : State) : State :=
  let st := s.entStream p k
  let e := s.ent p k
  let s1 := (s.put (fLoss p k) 1).raiseIf (!s.flag (fLoss p k)) (evPort p 10)
  let s2 := s1.setEnt p k { e with
    lossCtr := if s.flag (fLoss p k) then e.lossCtr else e.ctr, held := [], skip := false
    wasReset := e.wasReset && s.flag (fReinit p k) }
  if s.flag (fOpen p k) then s2.entClose p k true
  else if s.entExp p k == 0 then s2
  else if s.frameOpen st && (s.ent p k).ended.isNone then s2.entClose p k true
  else s2

/-- The link of an AP port goes down: a retrain request is done, input loss on every entry at once (R103, R119). -/
def State.linkDown (p : Nat) (s : State) : State :=
  let s1 := ((s.put (Fld.PORT_LINK_retrain p) 0).put (Fld.PORT_LSTAT_link_up p) 0).put (Fld.PORT_LSTAT_gear_now p) 0
  let s2 := ((s1.put (Fld.PORT_LSTAT_back_ch p) 0).put (Fld.PORT_LSTAT_lanes_now p) 0).raise (evPort p 1)
  forEach ((List.range 4).filter (fun k => s2.flag (Fld.PORT_VCMAP_enable p k)))
    (fun k s =>
      let s' := s.inputLoss p k
      s'.setEnt p k { s'.ent p k with downSince := true }) s2

/-- A retrain starts: counted once (R103). -/
def State.retrainCount (p : Nat) (s : State) : State :=
  ((s.bump (Fld.PORT_LSTAT_retrains p)).lifeItem (168 + p) 1).raise (evPort p 2)

/-- Link loss on an AP port: Falith retrains at once (R103). -/
def State.linkLoss (p : Nat) (s : State) : State :=
  if s.portOn p && s.flag (Fld.PORT_LSTAT_link_up p) then (s.linkDown p).retrainCount p else s

/-- Whether a map entry of the port has an open frame. -/
def State.portBusy (s : State) (p : Nat) : Bool := !(s.get (Fld.PORT_FSTAT_open p) == 0)

/-- The retrain that software asked for starts, with no frame open (R103). DESIGN CHOICE (log 157): with the link already down it
counts as a retrain of its own, with its event. -/
def State.retrainStart (p : Nat) (s : State) : State :=
  if s.portOn p && s.flag (Fld.PORT_LINK_retrain p) && !s.portBusy p then
    let s1 := s.put (Fld.PORT_LINK_retrain p) 0
    (if s1.flag (Fld.PORT_LSTAT_link_up p) then s1.linkDown p else s1).retrainCount p
  else s

/-- The receiver's eye margin while the link is up (R102). The first one since the image load has none before it to be below
warn or to be the lowest. -/
def State.eqMargin (p m : Nat) (s : State) : State :=
  if !(s.portOn p && (Nat.ble 16 p || s.flag (Fld.PORT_LSTAT_link_up p))) then s
  else
    let seen := bit s.eqSeen p
    let low := seen && Nat.blt (s.get (Fld.PORT_EQ_margin p)) (s.get (Fld.PORT_EQ_warn p))
    let least := if seen then Nat.min (s.get (Fld.PORT_EQ_min_margin p)) m else m
    let s1 := { s with eqSeen := s.eqSeen ||| (1 <<< p) }
    ((s1.put (Fld.PORT_EQ_margin p) m).put (Fld.PORT_EQ_min_margin p) least).raiseIf
      (Nat.blt m (s.get (Fld.PORT_EQ_warn p)) && !low) (evPort p 3)

/-! ## Packet headers and map entries -/

/-- The header check of a packet (R115). -/
def State.header (p : Nat) (h : HdrCheck) (s : State) : State :=
  match h with
  | .ok => s
  | .corrected => (s.bump (Fld.PORT_ERR_ECC_corr p)).raise (evPort p 5)
  | .uncorrectable => (s.bump (Fld.PORT_ERR_ECC_uncorr p)).raise (evPort p 6)

/-- Enabled entries of a port that match a link and a virtual channel (R110). -/
def State.vcEntries (s : State) (p : Nat) (link : Bool) (vc : Nat) : List Nat :=
  (List.range 4).filter (fun k => s.flag (Fld.PORT_VCMAP_enable p k) &&
    s.get (Fld.PORT_VCMAP_link p k) == b2n link && s.get (Fld.PORT_VCMAP_vc p k) == vc)

/-- The entry that takes a pixel packet (R110). -/
def State.pixelEntry (s : State) (p : Nat) (link : Bool) (vc dt : Nat) : Option Nat :=
  (s.vcEntries p link vc).find? (fun k => let d := s.get (Fld.PORT_VCMAP_dt p k); d == dt || (d == 0 && pixelDt dt))

/-- A packet that belongs to no entry (R111). -/
def State.unmapped (p : Nat) (s : State) : State := (s.bump (Fld.PORT_ERR_MISC_unmapped p)).raise (evPort p 15)

/-- One line or frame sequence error (R115). -/
def State.seqError (p : Nat) (s : State) : State := (s.bump (Fld.PORT_ERR_LINE_seq p)).raise (evPort p 9)

/-- Whether every packet of an entry is discarded for its stream or its sensor: stream closed or suspended, target not
initialised, re-initialisation in progress (R137, R124, R164, R187). -/
def State.entBlocked (s : State) (p k : Nat) : Bool :=
  let st := s.entStream p k
  s.flag (fReinit p k) || !s.strmTakes st || !s.targetReady p st

/-! ## Line repair (R116) -/

/-- The line that stands in for line L of an exposure. -/
def State.repairLine (s : State) (st : Nat) (lines : List (List Nat)) (L : Nat) : List Nat :=
  let v := s.curV st
  if Nat.ble v L then nth lines (L - v) []
  else (List.range (dtSamples (s.curDt st) (s.curW st))).map (fillCode (s.curDt st))

/-- One line is appended to an entry, received or (none) repaired, with the capture that it has. A line of a through-palette frame takes
its cells with the first exposure that arrives; where it finds none it is lost in every exposure and repaired (R277). -/
def State.addLine (p k : Nat) (codes : Option (List Nat)) (cap : Nat × Bool) (s : State) : State :=
  let st := s.entStream p k
  let L := (s.ent p k).lines.length
  let before := s.linesIn st
  let (stored, s1) := match s.openOf st with
    | some f => if f.path == 1 then s.storeOnce st f.num L else (true, s)
    | none => (true, s)
  let e := s1.ent p k
  let s2 := match (if stored then codes else none) with
    | some c => s1.setEnt p k { e with lines := e.lines ++ [c], caps := e.caps ++ [cap] }
    | none => (s1.setEnt p k { e with
        lines := e.lines ++ [s1.repairLine st e.lines L], caps := e.caps ++ [cap], repaired := e.repaired + 1
        firstRep := if e.repaired == 0 then L else e.firstRep }).bump (Fld.PORT_ERR_LINE_repaired p)
  (s2.raiseIf (!stored && codes.isSome) (evPort p 8)).linesCame st before

/-- The capture that a missing line repeats: that of the line before it, or of the frame start. -/
def Entry.lastCap (e : Entry) : Nat × Bool := (e.caps.getLast?).getD e.capFs

/-- Repair the positions up to a line number (missing lines). -/
def State.repairTo (p k upto : Nat) (s : State) : State :=
  forEach (List.range (upto - (s.ent p k).lines.length)) (fun _ s => (s.addLine p k none (s.ent p k).lastCap).raise (evPort p 8)) s

/-- Take one line of an open frame at the next position: used as it is, or repaired (R115). -/
def State.takeLine (p k : Nat) (cap : Nat × Bool) (codes : List Nat) (crcOk cseOk room : Bool) (s : State) : State :=
  let st := s.entStream p k
  let n := dtSamples (s.curDt st) (s.curW st)
  if !room then
    (((s.bump (Fld.PORT_ERR_MISC_overflow p)).raise (evPort p 14)).addLine p k none cap).raise (evPort p 8)
  else if !crcOk then ((s.bump (Fld.PORT_ERR_CRC_crc p)).raise (evPort p 7)).addLine p k none cap
  else if !cseOk && s.cseServed p then ((s.bump (Fld.PORT_ERR_CRC_cse p)).raise (evPort p 13)).addLine p k none cap
  else if Nat.blt codes.length n then (s.addLine p k none cap).raise (evPort p 8)
  else s.addLine p k (some (codes.take n)) cap

/-- A pixel line for an entry with an open frame: its position by its line number or by arrival (R117). DESIGN CHOICE (log 159): the
payload checks of a line that is discarded here count nothing. -/
def State.placeLine (p k : Nat) (cap : Nat × Bool) (line : Option Nat) (codes : List Nat) (crcOk cseOk room : Bool) (s : State) : State :=
  let st := s.entStream p k
  let e := s.ent p k
  let H := s.curH st
  let step := (s.curProf st).lineStep
  let beyond (s : State) : State :=
    if e.beyond then s else (s.setEnt p k { s.ent p k with beyond := true }).seqError p
  match (if s.flag (Fld.PORT_CFG_line_num p) then line else none) with
  | none => if Nat.ble H e.lines.length then beyond s else s.takeLine p k cap codes crcOk cseOk room
  | some n =>
    if n == 0 || !((n - 1) % step == 0) then s.seqError p
    else
      let pos := (n - 1) / step
      if Nat.ble H pos then beyond s
      else if Nat.blt pos e.lines.length then s.seqError p
      else (s.repairTo p k pos).takeLine p k cap codes crcOk cseOk room

/-! ## Frame start, and input that resumes (R115, R122 to R125) -/

/-- Whether the counter shows a sensor that was reset (R122). -/
def ctrReset (last now : Option Nat) : Bool :=
  match last, now with
  | some l, some n => n % 65536 == l % 65536 || Nat.ble 32768 ((n + 65536 - l % 65536) % 65536)
  | _, _ => true

/-- The sensor of a stream was found reset (R124). -/
def State.sensorReset (p st : Nat) (s : State) : State :=
  let s1 := forEach (s.streamEntries st) (fun e s =>
    (s.put (fReinit e.1 e.2) 1).setEnt e.1 e.2 { s.ent e.1 e.2 with held := [], wasReset := true, downSince := false }) s
  (s1.raise (evPort p 12)).chanReinit p st

/-- A frame-start packet opens the frame of an entry (R112, R115). The counters of a gap that the profile names none for, or
that never arrived, are free values (R125). -/
def State.entOpen (p k num : Nat) (cap : Nat × Bool) (s : State) : State :=
  let st := s.entStream p k
  let e := s.ent p k
  let src := (s.curProf st).ctrSrc
  let resumed := s.flag (fLoss p k)
  let ctr := if src == 1 then some num else none
  let first := if src == 1 then num else Config.openVal s.free 125 % 65536
  let last := e.lossCtr.getD (Config.openVal s.free 126 % 65536)
  let s1 := (if resumed then s.draw else s).setEnt p k { Entry.init with
    ctr := ctr, lossCtr := e.lossCtr, capFs := cap, gapNew := resumed }
  let s2 := (s1.put (fOpen p k) 1).put (fLoss p k) 0
  let s3 := if s.entExp p k == 0 then s2.openFrame st cap else s2
  let s6 := if resumed then
    let s4 := (s3.put (Fld.PORT_GAPA_last p k) last).put (Fld.PORT_GAPA_first p k) first
    let s5 := (s4.setReg (Reg.PORT_GAPB p k) (s4.reg (Reg.STRM_FRAME st))).raise (evPort p 11)
    if s.entExp p k == 0 then s5.markGap st last first else s5
  else s3
  if s.entExp p k == 0 then s6.takenCut st else s6

/-- A frame start of exposure 0 that opens the stream's next frame: the boundaries that wait for that frame come first (R97, R164,
R174), and the stream may then take no more packets. -/
def State.entOpen0 (p k num : Nat) (cap : Nat × Bool) (s : State) : State :=
  let st := s.entStream p k
  let s1 := (s.turnsAt st (s.strm st).next).applyPlace st
  if s1.strmTakes st then s1.entOpen p k num cap else s1

/-- The embedded-data packet of a frame of exposure 0 has not come by the frame's end: it is lost (R115). -/
def State.embLost (p k : Nat) (s : State) : State :=
  if s.entExp p k == 0 && !(s.curProf (s.entStream p k)).eds.isEmpty && !(s.ent p k).emb then s.seqError p else s

/-- What is left of a stream's frame closes when the next frame of its exposure 0 starts (R112, R115). -/
def State.closeRest (p st : Nat) (s : State) : State :=
  if s.frameOpen st then
    let s1 := s.seqError p
    forEach (s1.streamEntries st) (fun e s =>
      if (s.ent e.1 e.2).ended.isSome then s
      else (s.embLost e.1 e.2).entClose e.1 e.2 (Nat.blt (s.ent e.1 e.2).lines.length (s.curH st))) s1
  else s

/-- The map entry of a stream's exposure 0 holds packets until the sensor counter is checked (R122). -/
def State.strmHeld (s : State) (st : Nat) : Bool :=
  (s.streamEntries st).any (fun e => s.entExp e.1 e.2 == 0 && !(s.ent e.1 e.2).held.isEmpty)

/-- A frame-start packet of exposure 1, 2 or 3 opens the entry in the stream's open frame; while the check of R122 on exposure
0 is undecided it is held, and where that frame is not open, or is over for the entry, it opens nothing (R112, R122). -/
def State.laterStart (p num : Nat) (cap : Nat × Bool) (k : Nat) (s : State) : State :=
  let st := s.entStream p k
  let e := s.ent p k
  if s.strmHeld st then s.setEnt p k { e with held := e.held ++ [.start num cap] }
  else
    let s1 := if s.flag (fOpen p k) then (s.seqError p).entClose p k (Nat.blt e.lines.length (s.curH st)) else s
    if !s1.frameOpen st || (s1.ent p k).ended.isSome then s1
    else (s1.setEnt p k { s1.ent p k with strayRun := false, skip := false }).entOpen p k num cap

/-- A frame-start packet for one entry. -/
def State.frameStart1 (p num : Nat) (cap : Nat × Bool) (k : Nat) (s : State) : State :=
  let st := s.entStream p k
  if s.flag (fReinit p k) && s.strmTakes st then s.chanReinitAgain p st
  else if s.entBlocked p k then s
  else if s.phase == .entering && s.groupDone st then s.seqError p
  else
    if !(s.entExp p k == 0) then s.laterStart p num cap k
    else
      let s := s.setEnt p k { s.ent p k with strayRun := false, skip := false }
      let s1 := s.closeRest p st
      let src := (s.curProf st).ctrSrc
      let e := s1.ent p k
      if !s1.strmTakes st then s1
      else if !e.held.isEmpty then s1.setEnt p k { e with held := e.held ++ [.start num cap] }
      else if !s1.flag (fLoss p k) || e.wasReset then s1.entOpen0 p k num cap
      else if src == 2 then s1.setEnt p k { e with held := [.start num cap] }
      else if e.downSince || src == 0 || ctrReset e.lossCtr (some num) then s1.sensorReset p st
      else s1.entOpen0 p k num cap

/-- FRAME_START_PACKET (R115). -/
def State.frameStart (p : Nat) (link : Bool) (vc num : Nat) (cap : Nat × Bool) (s : State) : State :=
  match s.vcEntries p link vc with
  | [] => s.unmapped p
  | ks => forEach ks (State.frameStart1 p num cap) s

/-- LINE_PACKET (R115, R117). DESIGN CHOICE (log 159): the payload checks of a line that no open frame takes count nothing. -/
def State.pixelLine (p : Nat) (link : Bool) (vc dt : Nat) (cap : Nat × Bool) (line : Option Nat) (codes : List Nat)
    (crcOk : Bool) (cse : CseField) (room : Bool) (s : State) : State :=
  match s.pixelEntry p link vc dt with
  | none => s.unmapped p
  | some k =>
    let st := s.entStream p k
    let e := s.ent p k
    let (cseOk, s) := s.cseCheck p k cse
    if s.entBlocked p k || e.skip then s
    else if !e.held.isEmpty then s.sensorReset p st
    else if s.flag (fOpen p k) then s.placeLine p k cap line codes crcOk cseOk room
    else if s.flag (fLoss p k) then s
    else if e.strayRun then s
    else (s.setEnt p k { e with strayRun := true }).seqError p

/-- A frame-end packet for one entry: missing lines are repaired, the frame closes complete (R115). -/
def State.frameEnd1 (p k : Nat) (s : State) : State :=
  let st := s.entStream p k
  let e := s.ent p k
  if s.entBlocked p k then s
  else if !e.held.isEmpty then s.setEnt p k { e with held := e.held ++ [.stop] }
  else if s.flag (fOpen p k) then ((s.repairTo p k (s.curH st)).embLost p k).entClose p k false
  else s.setEnt p k { s.ent p k with skip := false }

/-- FRAME_END_PACKET (R115). -/
def State.frameEnd (p : Nat) (link : Bool) (vc : Nat) (s : State) : State :=
  match s.vcEntries p link vc with
  | [] => s.unmapped p
  | ks => forEach ks (State.frameEnd1 p) s

/-- The value of an embedded-data field (R141). -/
def edValue (f : MapField) (bytes : List Nat) : Option Nat :=
  if Nat.blt bytes.length (f.addr + f.width) then none
  else
    let b := slice bytes f.addr f.width
    some ((if f.msb then beVal b else leVal b) <<< f.shift)

/-- The sensor counter that embedded data carry (R141). -/
def Profile.edCtr (pr : Profile) (bytes : List Nat) : Option Nat :=
  match pr.eds.find? (fun f => f.setting == 0x10) with
  | some f => (edValue f bytes).map (fun v => v % 65536)
  | none => none

/-- A user-defined packet for an entry (R109); one that comes while packets are held is held with them (R122). -/
def State.user1 (p k vc kind : Nat) (bytes : List Nat) (s : State) : State :=
  let e := s.ent p k
  if s.entBlocked p k then s
  else if !e.held.isEmpty then s.setEnt p k { e with held := e.held ++ [.user vc kind bytes] }
  else if s.flag (fOpen p k) then s.frameUser (s.entStream p k) vc (s.entExp p k) (0x30 + kind) bytes
  else s

/-- Embedded data of an entry's open frame: kept for the metadata block, and the frame's sensor counter where the profile takes it
from them (R125, R252, R327). -/
def State.embTake (p k vc : Nat) (bytes : List Nat) (s : State) : State :=
  let st := s.entStream p k
  let pr := s.curProf st
  if !s.flag (fOpen p k) then s
  else
    let e := s.ent p k
    let first := !e.emb
    let s1 := s.setEnt p k { e with
      emb := true, gapNew := false, ctr := if pr.ctrSrc == 2 && first then pr.edCtr bytes else e.ctr }
    let s2 := if first && pr.ctrSrc == 2 && e.gapNew then
        let c := (pr.edCtr bytes).getD (s1.get (Fld.PORT_GAPA_first p k))
        let s' := s1.put (Fld.PORT_GAPA_first p k) c
        if s1.entExp p k == 0 then s'.markGap st (s1.get (Fld.PORT_GAPA_last p k)) c else s'
      else s1
    s2.frameEmbedded st vc (s.entExp p k) bytes first

/-- Held packets of an entry are handled in their order; embedded data among them decide nothing any more (R122). -/
def State.replay (p k : Nat) (pkts : List HeldPkt) (s : State) : State :=
  forEach pkts (fun x s => match x with
    | .start num cap => s.frameStart1 p num cap k
    | .embedded vc bytes => if s.entBlocked p k then s else s.embTake p k vc bytes
    | .user vc kind bytes => s.user1 p k vc kind bytes
    | .stop => s.frameEnd1 p k) s

/-- The sensor was not reset (R123): the held frame start of exposure 0 opens its frame at once, and the packets held after it,
and those of the stream's other entries, follow. -/
def State.release (p k : Nat) (s : State) : State :=
  let st := s.entStream p k
  let s1 := match (s.ent p k).held with
    | .start num cap :: rest => ((s.setEnt p k { s.ent p k with held := [] }).entOpen0 p k num cap).replay p k rest
    | _ => s.setEnt p k { s.ent p k with held := [] }
  forEach (s1.streamEntries st) (fun e s =>
    let h := (s.ent e.1 e.2).held
    (s.setEnt e.1 e.2 { s.ent e.1 e.2 with held := [] }).replay e.1 e.2 h) s1

/-- EMBEDDED_DATA_PACKET for an entry (R109, R122, R252). -/
def State.embedded1 (p k vc : Nat) (bytes : List Nat) (s : State) : State :=
  let st := s.entStream p k
  let pr := s.curProf st
  let e := s.ent p k
  if s.entBlocked p k then s
  else if !(s.entExp p k == 0) && !e.held.isEmpty then s.setEnt p k { e with held := e.held ++ [.embedded vc bytes] }
  else
    let s1 :=
      if e.held.isEmpty then s
      else if e.downSince || ctrReset e.lossCtr (pr.edCtr bytes) then s.sensorReset p st
      else s.release p k
    s1.embTake p k vc bytes

/-- A packet of embedded or user-defined data whose payload check fails. DESIGN CHOICE (log 108): R115's row speaks of lines
only; the packet is discarded, counted in ERR_CRC.crc and signalled. -/
def State.dataCrc (p : Nat) (s : State) : State := (s.bump (Fld.PORT_ERR_CRC_crc p)).raise (evPort p 7)

/-- A packet of embedded or user-defined data whose CSE check fails (R396). DESIGN CHOICE (log 174): R396 repairs a line; such a
packet is discarded, counted and signalled. -/
def State.dataCse (p : Nat) (s : State) : State := (s.bump (Fld.PORT_ERR_CRC_cse p)).raise (evPort p 13)

/-- A long packet of map entry k that carries data: its checks, then what takes it. -/
def State.dataPacket (p k : Nat) (crcOk : Bool) (cse : CseField) (take : State → State) (s : State) : State :=
  let (cseOk, s1) := s.cseCheck p k cse
  if !crcOk then s1.dataCrc p else if !cseOk then s1.dataCse p else take s1

/-- EMBEDDED_DATA_PACKET (R252). DESIGN CHOICE (log 158): where two entries match its link and virtual channel, the lowest takes it. -/
def State.embedded (p : Nat) (link : Bool) (vc : Nat) (bytes : List Nat) (crcOk : Bool) (cse : CseField) (s : State) : State :=
  match s.vcEntries p link vc with
  | [] => s.unmapped p
  | k :: _ => s.dataPacket p k crcOk cse (State.embedded1 p k vc bytes)

/-- USER_DEFINED_PACKET (R109). DESIGN CHOICE (log 158): where two entries match its link and virtual channel, the lowest takes it. -/
def State.userData (p : Nat) (link : Bool) (vc kind : Nat) (bytes : List Nat) (crcOk : Bool) (cse : CseField) (s : State) : State :=
  match s.vcEntries p link vc with
  | [] => s.unmapped p
  | k :: _ => s.dataPacket p k crcOk cse (State.user1 p k vc kind bytes)

/-- OTHER_LONG_PACKET (R109, R111): null and blanking are discarded and not counted, any other type is unmapped. -/
def State.otherLong (p dt : Nat) (s : State) : State := if dt == 0x10 || dt == 0x11 then s else s.unmapped p

/-- LINE_TIMEOUT (R115, R119, R122). -/
def State.lineTimeout (p k : Nat) (s : State) : State :=
  let st := s.entStream p k
  let e := s.ent p k
  if !s.flag (Fld.PORT_VCMAP_enable p k) then s
  else if !e.held.isEmpty then s.sensorReset p st
  else if !s.flag (fOpen p k) then s
  else if e.lines.length == s.curH st then ((s.seqError p).embLost p k).entClose p k false
  else s.inputLoss p k

/-- IDLE_TIMEOUT (R121): also of an entry whose sensor was initialised again and has sent nothing since. -/
def State.idleTimeout (p k : Nat) (s : State) : State :=
  if s.flag (Fld.PORT_VCMAP_enable p k) && !s.flag (fOpen p k) && (!s.flag (fLoss p k) || (s.ent p k).wasReset) then
    s.inputLoss p k
  else s

/-- APHY_PACKET_CHECK_FAIL (R104). -/
def State.retx (p n : Nat) (lost : Bool) (s : State) : State :=
  if !(s.portOn p && s.flag (Fld.PORT_LINK_retx_en p)) then s
  else
    let s1 := s.setReg (Reg.PORT_RETX p) (BitVec.ofNat 32 (satAdd lifeMax (s.reg (Reg.PORT_RETX p)).toNat n))
    if lost then (s1.bump (Fld.PORT_ERR_MISC_retx_fail p)).raise (evPort p 4) else s1

/-! ## From the PHY to the receiver (R115, R130, R423) -/

/-- The header as the receiver finds it. DEDUCED (log 109): a packet that is scrambled where its link is not set to descramble,
or the other way round, shows a header that no single-bit correction mends. -/
def State.hdrOf (s : State) (k : Packet) : HdrCheck :=
  if k.arr.scr == s.flag (if k.link then Fld.PORT_CFG_scr_b k.port else Fld.PORT_CFG_scr_a k.port) then k.arr.hdr else .uncorrectable

/-- The CSI-2 receiver of a port takes a packet: header check, then its handling. An LRTE packet is accepted with
PORT_p_CFG.lrte = 1 only; else it is missing (R108). -/
def State.receive (x : Ingr) (s : State) : State :=
  let k := x.pkt
  let p := k.port
  let s1 := s.header p (s.hdrOf k)
  if s.hdrOf k == .uncorrectable || (k.arr.lrte && !s.flag (Fld.PORT_CFG_lrte p)) then s1
  else match k.body with
    | .start num => s1.frameStart p k.link k.vc num x.cap
    | .line dt num codes crcOk cse room => s1.pixelLine p k.link k.vc dt x.cap num codes crcOk cse room
    | .stop => s1.frameEnd p k.link k.vc
    | .embedded bytes crcOk cse => s1.embedded p k.link k.vc bytes crcOk cse
    | .user kind bytes crcOk cse => s1.userData p k.link k.vc kind bytes crcOk cse
    | .other dt _ => s1.otherLong p dt

/-- Whether a packet is a frame start. -/
def Packet.starts (k : Packet) : Bool := match k.body with
  | .start _ => true
  | _ => false

/-- Whether a stream is open and waits for the bank groups of its first placement (R278). -/
def State.strmWaits (s : State) (st : Nat) : Bool :=
  (s.strm st).opened && !s.strmTakes st && Nat.blt (s.placeTarget st).1 2 && !s.palReady

/-- Whether a port must hold a packet: its own domains are not powered, the packets before it are held, or it starts a frame of a
stream whose domains are not ready (R41, R44). -/
def State.portHolds (s : State) (earlier : List Ingr) (k : Packet) : Bool :=
  !s.portAwake k.port || earlier.any (fun y => y.pkt.port == k.port && y.pkt.link == k.link && y.pkt.vc == k.vc) ||
    (k.starts && (s.vcEntries k.port k.link k.vc).any (fun e => s.strmWaits (s.entStream k.port e)))

/-- A packet reaches its port with its capture: the receiver takes it, or it waits in the ingress buffer, and a frame start that does
is counted in EV_PM_WAKE_LATE (R44). -/
def State.deliver (k : Packet) (s : State) : State :=
  let x : Ingr := ⟨k, (s.now, s.synced)⟩
  if s.portHolds s.ingress k then { s with ingress := s.ingress ++ [x] }.raiseIf k.starts (evPm 2) else s.receive x

/-- Ports work off what they hold, as far as its domains are ready (R44). -/
def State.ingressGo (s : State) : State :=
  if s.ingress.isEmpty then s
  else forEach s.ingress
    (fun x s => if s.portHolds s.ingress x.pkt then { s with ingress := s.ingress ++ [x] } else s.receive x) { s with ingress := [] }

/-- Items that injectors release: packets go to their receivers, transmitted items go out. -/
def State.deliverAll (items : List (Packet ⊕ Out)) (s : State) : State :=
  forEach items (fun i s => match i with
    | .inl k => s.deliver k
    | .inr o => s.emit o) s

/-- Whether the PHY of a port receives a packet: the port is in use, an A-PHY link is up, the burst of a combo port is within
PORT_p_LINK.rate, and a packet on link B comes in 2 × 2 mode (R101, R105, R107). -/
def State.phyTakes (s : State) (k : Packet) : Bool :=
  s.portOn k.port &&
  (if Nat.ble 16 k.port then Nat.ble k.arr.rate (s.get (Fld.PORT_LINK_rate k.port)) && s.comboLink k.port k.link
   else s.flag (Fld.PORT_LSTAT_link_up k.port) && !k.link)

/-- A packet leaves the PHY of a port and meets the fault injectors. -/
def State.packet (k : Packet) (s : State) : State :=
  let p := k.port
  if !(s.working && s.phyTakes k) then s
  else
    let (e, s0) := s.inject 1 p
    let s1 := match e.down with
      | some ms => if Nat.blt p 16 then { s0 with forced := tset s0.forced p (s0.tm.loc + ms * 1000000) }.linkLoss p else s0
      | none => s0
    let s2 := if e.drop || (e.down.isSome && Nat.blt p 16) then s1
      else match e.hold with
        | some (j, n) => { s1 with reord := s1.reord ++ [⟨j, n, .inl (e.flips.foldl Packet.flip k)⟩] }
        | none => s1.deliver (e.flips.foldl Packet.flip k)
    let (due, s3) := s2.fiDue
    s3.deliverAll due

end Sys2Proof.Machine
end

