-- ==== Sys2Proof/Machine/Power.lean ====
section
/-! DEFINITION. Machine/Power.lean: what ends every command, the switched domains (R36 to R49), their planning, Standby
(R50 to R54), PLLs (R58 to R61) and adaptive voltage scaling (R62 to R64). -/

namespace Sys2Proof.Machine

/-- What ends every command: output pins follow their wishes, and the cycle of R432 ends. -/
def State.settle (s : State) : State :=
  let s1 := ((s.gpioAll).fcAll).drivePins
  { s1 with hot := [] }

/-! ## What a domain is needed for (R39, R43) -/

/-- Whether a port is configured: it, or its sensor-control bus, is enabled. -/
def State.portCfgd (s : State) (p : Nat) : Bool := s.flag (Fld.PORT_CFG_enable p) || s.flag (Fld.SC_CFG_enable p)

/-- Whether a stream has no predicted frame start: its sensor runs free, or its group has no plan (R43). -/
def State.freeRuns (s : State) (st : Nat) : Bool :=
  !(s.prof st).triggered || s.grpP (s.get (Fld.STRM_CFG_group st)) == 0

/-- Whether easel e has work now: an open in-line frame, lines ready, strokes, a free-running in-line stream, a retired easel's
slot to take. -/
def State.easelBusy (s : State) (e : Nat) : Bool :=
  s.frames.any (fun f => f.isOpen && f.path == 0 && f.easel == e) || !(s.easel e).ready.isEmpty ||
  s.strokes.any (fun k => k.easel == e) || s.plc.taking == some e ||
  (s.strmsOn e).any (fun st => (s.placeTarget st).1 == 0 && s.freeRuns st)

/-- The bank groups that the palette sources of the transfers in hand lie in, by software channel (R39, R46). -/
def TxeCh.groups (x : TxeCh) : List Nat :=
  match x.desc with
  | none => []
  | some d =>
    if bit d.w0 5 && !(bits d.w0 3 1 == 1) && !(d.len == 0) && (x.phase == .running || x.phase == .waitUnit) then
      (List.range 48).filter (fun g => Nat.ble (d.src / 2097152) g && Nat.ble g ((d.src + d.len - 1) / 2097152))
    else []

/-- Whether the transfer engine has work: an output or a software channel that is enabled or unfinished (R39). -/
def State.txeNeed (s : State) : Bool :=
  (List.range 128).any (fun c => s.flag (Fld.TXE_CFG_enable c)) || s.txe.any (fun e => !(e.2.phase == .idle)) ||
  !s.frames.isEmpty || !s.erk.pours.isEmpty || !s.pour.jobs.isEmpty || (List.range 264).any s.ringOn

/-- Whether a flash operation is in flight or due (R39). -/
def State.norNeed (s : State) : Bool := s.norOp.isSome || s.life.op.isSome || s.life.parked.isSome || !s.life.due.isEmpty

/-- Whether a BIST runs: one on command, the key-on waves, or that of an easel that began to rest (R417). -/
def State.bistBusy (s : State) : Bool :=
  s.bist.isSome || s.flag Fld.BIST_STAT_keyon || (s.plc.resting.isSome && !s.plc.restOk && s.plc.retired.isEmpty)

/-- Whether the security domain has work: a session, link IDE, debug access (R39). -/
def State.secNeed (s : State) : Bool := s.spdm.sess.isSome || !(s.spdm.ide == 0) || s.debug

/-- Whether placement, a transfer, a queue or a kept function needs a domain now (R39): the BIST controller for a run, the security
domain for a session. The signal bridge, time and census domains serve functions that never rest (DESIGN CHOICE, log 139). -/
def State.domNeed (s : State) (d : Nat) : Bool :=
  if d < 48 then s.portCfgd (d / 2)
  else if d < 72 then s.easelBusy ((d - 48) / 2) && (d % 2 == 0 || s.backNeeded ((d - 48) / 2))
  else if d < 84 then s.easelBusy (d - 72)
  else if d < 132 then
    Nat.blt (d - 84) s.palG || !(s.groupLive (d - 84) == 0) || s.txe.any (fun e => e.2.groups.contains (d - 84))
  else if d < 134 then
    (List.range 48).any (fun i => s.flag (Fld.QUE_CFG_enable (48 * (d - 132) + i))) || !(s.halfUsed (d - 132) == 0)
  else if d < 138 then s.hlWant d
  else if d < 142 then s.flag (Fld.CSO_CFG_enable (d - 138))
  else if d < 144 then s.flag Fld.ERK_CFG_enable
  else if d < 146 then s.txeNeed
  else if d == 148 then s.norNeed
  else if d == 149 then s.bistBusy
  else if d == 150 then s.secNeed
  else true

/-- The number that the next frame of a stream takes. -/
def State.nextNum (s : State) (st : Nat) : Nat :=
  match (s.strm st).last with
  | none => 0
  | some L => add32 L 1

/-- The frame-start delay of a stream's next frame (R142). -/
def State.fsDelay (s : State) (st : Nat) : Nat :=
  let p := s.prof st
  if p.trigMode then p.fsDelay else s.tExp st (s.nextNum st) p.lineTime + p.tRo

/-- The edge that a stream's next frame follows: the last one issued, while the frame that it triggers has not opened, else the
next one of its group (R43). -/
def State.edgeDue (s : State) (st : Nat) : Option Nat :=
  let g := s.get (Fld.STRM_CFG_group st)
  match (s.grp g).last with
  | some (E, _) => if (s.strm st).edge == some E then
      (if s.flag (Fld.SYNC_CTRL_run g) then some (s.reg64 (Reg.SYNC_NEXT g)) else none) else some E
  | none => if s.flag (Fld.SYNC_CTRL_run g) then some (s.reg64 (Reg.SYNC_NEXT g)) else none

/-- The predicted next frame start of a stream in vehicle time, where it has one (R43). -/
def State.nextStart (s : State) (st : Nat) : Option Nat :=
  if s.freeRuns st then none
  else (s.edgeDue st).map (fun E => s.predStart (s.get (Fld.STRM_CFG_group st)) E (s.fsDelay st))

/-- The time of a domain's next predicted need (R42, R45). -/
def State.nextNeed (s : State) (d : Nat) : Option Nat :=
  match easelOf d with
  | none => none
  | some e =>
    if Nat.blt d 72 && d % 2 == 1 && !s.backNeeded e then none
    else
      let ts := (s.strmsOn e).filterMap s.nextStart
      if ts.isEmpty then none else leastBy id ts

/-- Whether a domain is needed now or less than t_PD_MIN from now (R45, R47). -/
def State.domSoon (s : State) (d : Nat) : Bool :=
  s.domNeed d ||
  match s.nextNeed d with
  | none => false
  | some t => Nat.blt t (s.now + 500000)

/-- Whether Standby keeps a domain (R51, R52). -/
def State.domKept (s : State) (d : Nat) : Bool :=
  (Nat.blt d 32 && s.portCfgd (d / 2)) || d == 146 || d == 147 || s.flag (Fld.PM_DCTRL_sb_keep d)

/-! ## Waking and powering down (R41, R46) -/

/-- The channels that a domain's power holds: all of them for the engines and the host link, those that read it for a bank group (R46). -/
def State.txeOf (s : State) (d : Nat) : List Nat :=
  if d == 144 || d == 145 || d == 134 || d == 136 then tkeys s.txe
  else if Nat.ble 84 d && Nat.blt d 132 then tkeys (s.txe.filter (fun e => e.2.groups.contains (d - 84)))
  else []

/-- A domain is powered and takes work (R41): held and paused transfers go on (R46), a takeover may be complete (R186), and
streams that waited for bank groups take their placement (R278). -/
def State.domUp (d : Nat) (s : State) : State :=
  let s1 := s.domPowered d
  let s2 := if s1.domOn 144 && s1.domOn 145 then s1.txeWake (s1.txeOf d) else s1
  let s3 := if (easelOf d).isSome then s2.takenOver else s2
  if Nat.ble 84 d && Nat.blt d 132 && s3.working then s3.applyIdle else s3

/-- A domain enters draining (R46). -/
def State.domDrain (d : Nat) (s : State) : State :=
  if !(s.dom d == .on) then s else (s.setDom d .draining).txeDrain (s.txeOf d)

/-! ## Planning (R39, R42) -/

/-- The latest 20 µs slot that starts at or before a time and meets fewer than 8 ramps. -/
def rampSlot (taken : List Nat) : Nat → Nat → Nat
  | 0, t => t
  | fuel + 1, t =>
    let busy := taken.filter (fun x => Nat.blt x (t + 20000) && Nat.blt t (x + 20000))
    if Nat.blt busy.length 8 then t else rampSlot taken fuel (t - 20000)

/-- The domains that have a deadline and sleep, in ascending deadline, then number. -/
def State.rampsDue (s : State) : List (Nat × Nat) :=
  let l := ((List.range 84).drop 48).filterMap (fun d =>
    if s.dom d == .off && !s.domBarred d then (s.nextNeed d).map (fun t => (t, d)) else none)
  sortBy (fun e => e.1) l

/-- Start times in vehicle time of the ramps that are under way. -/
def State.rampsNow (s : State) : List Nat :=
  (s.doms.filter (fun e => e.2 == .waking)).map (fun e => s.now - (s.tm.loc - tget s.rampAt e.1 0))

/-- Ramp slots of the sleeping domains (R42), beside the ramps under way. -/
def State.rampPlan (s : State) : State :=
  { s with ramps := s.rampsDue.foldl (fun t e => tset t e.2 (rampSlot (s.rampsNow ++ t.map (fun x => x.2)) 64 (e.1 - 50000))) [] }

/-- The domains that planning rules: all but those of the host link, whose link states rule them (R309). -/
def plannedDoms : List Nat := (List.range 152).filter (fun d => !(Nat.ble 134 d && Nat.blt d 138))

/-- Domains that nothing needs start to drain. -/
def State.planDown (s : State) : State :=
  forEach (plannedDoms.filter (fun d => s.dom d == .on && !s.domHeld d && !s.domBist d && !s.domSoon d)) State.domDrain s

/-- Domains that are needed now, or that DCTRL asks for, start to wake, as many as may ramp (R39, R42). -/
def State.planUp (s : State) : State :=
  forEach ((List.range 152).filter (fun d => s.dom d == .off && (s.domHeld d || s.domNeed d))) State.domWake s

/-- Whether no frame is unfinished (R50 step 4). -/
def State.quiet (s : State) : Bool := s.frames.all (fun f => !f.isOpen && f.wins.all (fun w => w.phase == .done)) && s.pour.jobs.isEmpty

/-- Bound targets of enabled streams' sensors: channel and target. -/
def State.boundTgts (s : State) : List (Nat × Nat) :=
  (List.range 24).flatMap (fun p =>
    ((List.range 4).filter (fun k => s.tgtOn p k && !s.tgtAux p k)).map (fun k => (p, k)))

/-- Standby entry goes on once every group has stopped and every frame is poured: standby sequences are sent, and
transfers drain (R50 steps 5 and 6). -/
def State.sbGo (s : State) : State :=
  if s.phase == .entering && !s.sbSent && s.quiet && (List.range 8).all (fun g => !s.flag (Fld.SYNC_CTRL_run g)) then
    let s1 := forEach s.boundTgts (fun pk (s : State) => s.chanAdd pk.1 (.standby pk.2 0)) { s with sbSent := true }
    s1.txeDrain (tkeys s1.txe)
  else s

/-- Whether a domain that a software channel's transfer needs is not powered, or drains (R46). -/
def State.txeBarred (s : State) (c : Nat) : Bool :=
  ([134, 136, 144, 145] ++ (s.txeCh c).groups.map (fun g => 84 + g)).any (fun d => !(s.dom d == DomSt.on))

/-- Transfers pause while the host link's domains drain, and go on once nothing holds them (R46, R354). -/
def State.linkTransfers (s : State) : State :=
  let s1 := if s.dom 134 == .draining || s.dom 136 == .draining then
    s.txeDrain ((tkeys s.txe).filter (fun c => !(s.txeCh c).drain)) else s
  s1.txeWake ((tkeys s1.txe).filter (fun c => (s1.txeCh c).drain && !s1.txeBarred c))

/-- The placement engine's power planning, after commands that change what domains are needed for or that let time pass. -/
def State.plan (s0 : State) : State :=
  let s := s0.domsOff
  match s.phase with
  | .active => (((s.hlGo.ingressGo).rotateLate.planDown.planUp).linkTransfers.rampPlan).engines
  | .entering => ((s.hlGo.ingressGo).sbGo).engines
  | .waking => s.planUp
  | _ => s

/-- What ends a command that changes needs. -/
def State.settlePlan (s : State) : State := s.plan.settle

/-- DOMAIN_RAMP_START (R42): the domain's slot, or the need that placement or hold_on has of it now. -/
def State.rampStart (d : Nat) (s : State) : State :=
  let ask := thas s.ramps d || s.domNeed d || s.domHeld d
  match s.phase with
  | .active => if ask then s.domWake d else s
  | .waking => if ask then s.domWake d else s
  | _ => s

/-- DOMAIN_WAKE_DONE (R41). -/
def State.wakeDone (d : Nat) (s : State) : State := if s.dom d == .waking then s.domUp d else s

/-- Whether a drip is in hand of a transfer that a domain holds: it runs to its boundary first (R46). -/
def State.dripHeld (s : State) (d : Nat) : Bool :=
  (s.txeOf d).any (fun c => (s.txeCh c).drip) ||
  ((d == 144 || d == 145 || d == 134 || d == 136) && s.pour.jobs.any (fun e => Nat.blt 0 e.2.moved))

/-- DOMAIN_DRAIN_DONE (R46): a need that arose meanwhile keeps the domain, in Active; a drip in hand ends first. -/
def State.drainDone (d : Nat) (s : State) : State :=
  if !(s.dom d == .draining) || s.dripHeld d then s
  else if (s.phase == .active && (s.domHeld d || s.domSoon d)) || (Nat.ble 134 d && Nat.blt d 138 && s.hlWant d) then
    let s1 := s.setDom d .on
    if s1.domOn 144 && s1.domOn 145 then s1.txeWake (s1.txeOf d) else s1
  else s.domDown d

/-! ## Power-down requests (R47 to R49) -/

/-- Record a refusal (R47, R66); `dom` = none where no domain is concerned, which leaves the domain field open. -/
def State.pmRefuse (reason gd : Nat) (dom : Option Nat) (s : State) : State :=
  let d := dom.getD (Config.openVal s.free 49 % 256)
  let s1 := (((s.put Fld.PM_REFUSE_valid 1).put Fld.PM_REFUSE_reason reason).put Fld.PM_REFUSE_requester gd).put
    Fld.PM_REFUSE_domain d
  let s2 := match dom with
    | some n => s1.put (Fld.PM_DSTAT_last_reason n) reason
    | none => s1.draw
  s2.raise (evPm 1)

/-- Why a power-down request of a domain is refused (R47, R49). The spec gives no precedence among its reasons: 0x06, 0x04,
0x01, 0x02 and 0x03 are tried in this order (DESIGN CHOICE, log 123). -/
def State.pdRefusal (s : State) (d : Nat) : Option Nat :=
  if s.phase == .entering || s.phase == .waking then some 6
  else if s.domBist d then some 4
  else if Nat.ble 84 d && Nat.blt d 132 && !(s.groupLive (d - 84) == 0) then some 1
  else if Nat.blt d 48 && s.portBusy (d / 2) then some 2
  else if s.domSoon d then some 3
  else none

/-- A write of PM_n_DCTRL by requester r (R47, R52, R66). -/
def State.dctrlWrite (r d v : Nat) (s : State) : State :=
  let keep := bit v 2 || d == 146 || d == 147
  let s1 := ((s.put (Fld.PM_DCTRL_sb_keep d) (b2n keep)).put (Fld.PM_DCTRL_hold_on d) (b2n (bit v 0))).put
    (Fld.PM_DCTRL_hold_off d) (b2n (bit v 1))
  if bit v 1 && !bit v 0 then
    match s1.pdRefusal d with
    | some c => (s1.put (Fld.PM_DCTRL_hold_off d) 0).pmRefuse c (s.reqDomain r) (some d)
    | none => s1.domDrain d
  else if bit v 0 && s1.phase == .active then s1.domWake d
  else s1

/-! ## Standby (R50 to R54) -/

/-- Set the device state that PM_STATE shows. -/
def State.setPhase (p : Phase) (s : State) : State :=
  let code := match p with
    | .active => 2
    | .standby => 3
    | .entering => 4
    | .waking => 5
    | _ => 1
  { s with phase := p }.put Fld.PM_STATE_state code

/-- PM_CTRL.cmd = enter by requester r (R50, R54). -/
def State.standbyEnter (r : Nat) (s : State) : State :=
  match s.phase with
  | .active =>
    State.sbGo { s.setPhase .entering with sbSent := false }
  | .waking => s.pmRefuse 6 (s.reqDomain r) none
  | _ => s

/-- STANDBY_ENTRY_COMPLETE (R50 steps 6 and 7, R21): every group has stopped, every domain not kept is off, the FSO pins
are low, and the device is in Standby. A host link whose domains are off is down. -/
def State.standbyDone (s0 : State) : State :=
  let s := (if s0.phase == .entering && s0.quiet then
    forEach (List.range 8) (fun g (s : State) => s.put (Fld.SYNC_CTRL_run g) 0) s0 else s0).sbGo
  if !(s.phase == .entering && s.sbSent) then s
  else
    let s1 := if s.domKept 134 && s.domKept 136 then s else s.hlDown
    let s2 := forEach ((List.range 152).filter (fun d => !(s1.dom d == .off) && !s1.domKept d))
      (fun d (s : State) => ((s.domDrain d).domDown d).domCut d) s1
    let s3 := forEach ((List.range 16).filter (fun n => bit s2.fsoHigh n)) (fun n (s : State) => s.fsoDrive n false) s2
    ({ s3 with ramps := [], ingress := [] }.setPhase .standby).raise (evPm 0)

/-- A wake source in Standby (R54): the domains that placement needs start to wake, 8 at a time. -/
def State.wake (s : State) : State := if s.phase == .standby then (s.setPhase .waking).planUp else s

/-- PM_CTRL.cmd = wake by requester r (R54). -/
def State.wakeCmd (r : Nat) (s : State) : State :=
  match s.phase with
  | .entering => s.pmRefuse 6 (s.reqDomain r) none
  | _ => s.wake

/-- Input that stopped in Standby resumes as after a loss (R54, R122). -/
def State.inputAsleep (s : State) : State :=
  forEach ((List.range 32).filter (fun st => (s.strm st).opened)) (fun st s =>
    forEach (s.streamEntries st) (fun pk s =>
      let e := s.ent pk.1 pk.2
      if s.flag (fLoss pk.1 pk.2) then s
      else (s.put (fLoss pk.1 pk.2) 1).setEnt pk.1 pk.2 { e with lossCtr := e.ctr, held := [], skip := false, wasReset := false }) s) s

/-- WAKE_COMPLETE (R54, R143): every needed domain has had its ramp and is restored, those that no other command reported
among them; placement runs on the retained set, edges resume, wake sequences are sent. -/
def State.wakeComplete (s : State) : State :=
  if !(s.phase == .waking) then s
  else
    let s1 := forEach ((List.range 152).filter (fun d =>
      s.dom d == .waking || ((s.dom d == .off || s.dom d == .powerdown) && (s.domNeed d || s.domHeld d)))) State.domBring s
    let s2 := (((s1.inputAsleep).setPhase .active).plcRun).raise (evPm 0)
    let s3 := if s2.syncOn then forEach (List.range 8) State.grpStart { s2 with sbSent := false } else { s2 with sbSent := false }
    (forEach s3.boundTgts (fun pk (s : State) => s.chanAdd pk.1 (.wake pk.2 0)) s3).txeWake (tkeys s3.txe)

/-- SYNC_EDGE (R155, R50, R329): the next edge of a running group is issued at its time; in Standby entry the group stops
there, where its pour period ends. -/
def State.syncEdge (g : Nat) (s : State) : State :=
  if !(s.working && s.flag (Fld.SYNC_CTRL_run g)) then s
  else
    let E := s.reg64 (Reg.SYNC_NEXT g)
    let s1 := { s with tm := s.tm.after (s.tm.until E) }
    if s1.phase == .entering then s1.put (Fld.SYNC_CTRL_run g) 0
    else
      let s2 := (s1.setReg64 (Reg.SYNC_NEXT g) (planAt (s1.grpP g) (s1.grpPhase g) ((E : Int) + 1))).setGrp g
        { s1.grp g with last := some (E, s1.tm.loc), prev := (s1.grp g).last.map (fun e => e.1) }
      s2.logEdge g E s2.synced

/-! ## PLLs that fail and return (R61) -/

/-- An easel PLL loses lock: both its easels are retired, one that rests first, so that it takes no slot. -/
def State.easelPllLost (n : Nat) (s : State) : State :=
  let s1 := ((s.put (Fld.CK_PLL_locked n) 0).bump (Fld.CK_PLL_unlocks n)).raise (evPm (8 + n))
  if s1.plc.resting == some (2 * n + 1) then (s1.retire (2 * n + 1) 3).retire (2 * n) 3
  else (s1.retire (2 * n) 3).retire (2 * n + 1) 3

/-- PLL_RELOCK: the domains that it clocks are restored and checked before they take work, those of a retired easel too. -/
def State.pllRelock (n t : Nat) (s : State) : State :=
  if !s.runs then s
  else
    let s1 := ((s.put (Fld.CK_PLL_running n) 1).put (Fld.CK_PLL_locked n) 1).put (Fld.CK_PLL_last_lock n) t
    if Nat.blt n 6 then
      forEach (easelDoms (2 * n) ++ easelDoms (2 * n + 1)) State.domRestore s1
    else s1

/-! ## Adaptive voltage scaling (R62 to R64) -/

/-- AVS_TICK (R63; PM_AVS_STAT.at_vmax is live and shown at a read): the worst margin in units of 0.25 %, and whether the transfer succeeds within its three attempts. -/
def State.avsTick (margin : Nat) (busOk : Bool) (s : State) : State :=
  if !(s.loaded && s.flag Fld.PM_AVS_CTRL_enable) then s
  else
    let code := s.get Fld.PM_AVS_STAT_code
    let vmax := s.get Fld.PM_AVS_CTRL_vmax
    let good := if Nat.blt 24 margin then s.avsGood + 1 else 0
    let lower := Nat.ble 100 good && Nat.blt (s.get Fld.PM_AVS_CTRL_vmin) code
    let next := if Nat.blt margin 12 && Nat.blt code vmax then code + 1 else if lower then code - 1 else code
    let s1 := { s with avsGood := if lower then 0 else Nat.min 100 good }.put Fld.PM_AVS_STAT_margin margin
    let s2 := (s1.raiseIf (Nat.blt margin 12 && code == vmax) (evPm 7)).emit (.pmbus next)
    if busOk then
        { (s2.put Fld.PM_AVS_STAT_code next).put Fld.PM_AVS_STAT_bus_fail 0 with
          life := { s2.life with maxCode := Nat.max s2.life.maxCode next, lastCode := some next } }
      else (s2.put Fld.PM_AVS_STAT_bus_fail 1).raise (evPm 6)

/-- AVS_ALERT (R62): the status word is read, and the event is raised, whether the loop runs or not; before the image load there
is no PMBus traffic (R63). -/
def State.avsAlert (s : State) : State := if s.loaded then (s.emit .pmbusStatus).raise (evPm 5) else s

end Sys2Proof.Machine
end

