-- ==== Sys2Proof/Machine/Bist.lean ====
section
/-! DEFINITION. Machine/Bist.lean: built-in self-test of the blocks, fences, soft and fused repairs (R414 to R420). -/

namespace Sys2Proof.Machine

/-- Whether a block has logic BIST (R414): a bank group has none. -/
def bistLogic (d : Nat) : Bool := !(Nat.ble 84 d && Nat.blt d 132)

/-- Whether the block of domain d is idle (R417, 0x60). -/
def State.bistIdle (s : State) (d : Nat) : Bool :=
  if d < 48 then
    !s.portCfgd (d / 2) && !(List.range 4).any (fun k => s.flag (Fld.PORT_VCMAP_enable (d / 2) k))
  else if d < 72 then
    let e := (d - 48) / 2
    !s.plc.slotMap.contains e && !(s.plc.leaving == some e) && s.easelIdle e
  else if d < 132 then s.groupLive (d - 84) == 0 && !s.domSoon d
  else if d < 134 then !s.domNeed d
  else if d == 134 then !s.flag Fld.HL_STAT_up
  else if d < 142 then !s.flag (Fld.CSO_CFG_enable (d - 138))
  else if d == 142 then !s.flag Fld.ERK_CFG_enable
  else if d == 144 then
    (List.range 128).all (fun c => !s.pourCh c && !s.flag (Fld.TXE_CFG_enable c)) && s.frames.isEmpty
  else true

/-- Set BIST_STAT's reason. -/
def State.bistRefuse (c : Nat) (s : State) : State := s.put Fld.BIST_STAT_reason c

/-- BIST_CTRL.op = 0b01 or 0b10 on domain d (R417 to R419). The spec gives no precedence among the reasons of R417: 0x60, 0x61 and 0x62
are tried in this order (DESIGN CHOICE, log 121). -/
def State.bistStart (op d : Nat) (s : State) : State :=
  if !(bistBlock d).isEmpty && !s.bistIdle d then s.bistRefuse 0x60
  else if s.bistBusy then s.bistRefuse 0x61
  else if (bistBlock d).isEmpty then s.bistRefuse 0x62
  else
    let s1 := if d == 134 || d == 150 then s.keysClear else s
    let s2 := ((s1.put Fld.BIST_STAT_busy 1).put Fld.BIST_STAT_reason 0).put Fld.BIST_STAT_domain d
    { s2 with bist := some (d, op) }

/-- BIST_CTRL.op = 0b11 on domain d, with VFUSE present or not (R417, R420). DESIGN CHOICE (log 121): 0x61, 0x62, 0x33 and 0x63 are tried
in this order. -/
def State.bistFuse (d : Nat) (vfuse : Bool) (s : State) : State :=
  let n := s.get (Fld.BIST_DOM_spares d)
  if s.bistBusy then s.bistRefuse 0x61
  else if (bistBlock d).isEmpty then s.bistRefuse 0x62
  else if !vfuse then s.bistRefuse 0x33
  else if n == 0 || Nat.blt (s.get Fld.BIST_FUSE_left) n then s.bistRefuse 0x63
  else
    let s1 := ((s.put Fld.BIST_FUSE_used (s.get Fld.BIST_FUSE_used + n)).put Fld.BIST_FUSE_left
      (s.get Fld.BIST_FUSE_left - n)).put (Fld.BIST_DOM_fused d) 1
    let s2 := ((s1.put (Fld.BIST_DOM_spares d) 0).put Fld.BIST_STAT_reason 0).put Fld.BIST_STAT_domain d
    { s2 with otp := { s2.otp with repairs := s2.otp.repairs ++ List.replicate n d } }.raise (evSafe 44)

/-- BIST_STAT.result and BIST_DOM_d.last of a run. -/
def bistCode (r : BistResult) : Nat := if r.logic || r.memory then 3 else if r.repairs == 0 then 1 else 2

/-- A block fails for good: its domains are fenced and stay off (R416). -/
def State.bistFence (d : Nat) (r : BistResult) (s : State) : State :=
  let s1 := forEach (bistBlock d) (fun x s => (s.put (Fld.BIST_DOM_fenced x) 1).domCut x) s
  let s2 := (s1.lifeItem 226 1).raise (evSafe 42)
  if Nat.ble 48 d && Nat.blt d 72 then s2.retire ((d - 48) / 2) (if r.logic then 1 else 2) else s2

/-- What the run of one block leaves: its record, its counts and events, its repairs or its fence (R416, R418). -/
def State.bistOne (d : Nat) (r : BistResult) (s : State) : State :=
  let s1 := forEach (bistBlock d) (fun x s => (s.put (Fld.BIST_DOM_last x) (bistCode r)).bump (Fld.BIST_DOM_runs x)) s
  let s2 := ((s1.lifeItem 225 1).bumpBy (Fld.BIST_DOM_spares d) r.repairs).raiseIf (!(r.repairs == 0)) (evSafe 43)
  let s3 := ((s2.put Fld.BIST_STAT_domain d).put Fld.BIST_STAT_result (bistCode r)).raise (evSafe 41)
  if r.logic || r.memory then s3.bistFence d r else s3

/-- A tested block is re-initialised: registers reset and restored, census set checked, a bank group's words zero (R278, R418). -/
def State.bistInit (d : Nat) (s : State) : State :=
  forEach (bistBlock d) (fun x s =>
    let s1 := (forEach (domRanges x) (fun g s => s.resetRange g.1 g.2) s).domRestore x
    if Nat.ble 84 x && Nat.blt x 132 then s1.groupClear (x - 84) else s1) s

/-- BIST_DONE (R418): the run on command ends. -/
def State.bistDone (r : BistResult) (s : State) : State :=
  match s.bist with
  | none => s
  | some (d, _) =>
    let r1 := { r with logic := r.logic && bistLogic d }
    let s1 := ({ s with bist := none }.put Fld.BIST_STAT_busy 0).bistOne d r1
    let s2 := if r1.logic || r1.memory then s1 else s1.bistInit d
    let s3 := if d == 134 || d == 150 then s2.keysDerive else s2
    if d == 134 then (s3.fnShow).hlDoms else s3

/-- A result with nothing found. -/
def bistPass : BistResult := ⟨0, false, false, 0⟩

/-- Blocks that a key-on wave held take up their work (R418): streams that waited for bank groups are placed, transfers go on, link A of
the combo ports is up again. -/
def State.waveBack (w : Nat) (s : State) : State :=
  if w == 1 then (if s.working then s.applyIdle else s)
  else if w == 5 then (if s.txeOn then s.txeWake (tkeys s.txe) else s)
  else if w == 6 then s.combosUp
  else s

/-- KEYON_BIST_WAVE_END: wave w ends; blocks with no result listed pass (R415). The channels whose ports it tested start,
and an easel that rests since the image load has passed. -/
def State.waveEnd (w : Nat) (rs : List BistResult) (s : State) : State :=
  if !(s.runs && s.flag Fld.BIST_STAT_keyon && s.get Fld.BIST_STAT_wave == w) then s
  else
    let resultOf (d : Nat) : BistResult :=
      let r := (rs.find? (fun r => r.dom.val == d)).getD bistPass
      { r with logic := r.logic && bistLogic d }
    let s1 := forEach (waveBlocks w) (fun d s =>
      let r := resultOf d
      let s' := s.bistOne d r
      if r.logic || r.memory then s' else s'.bistInit d) s
    let s2 := if w == 6 then (s1.put Fld.BIST_STAT_keyon 0).put Fld.BIST_STAT_wave 0 else s1.put Fld.BIST_STAT_wave (w + 1)
    let passed := match s2.plc.resting with
      | some e => (waveBlocks w).contains (48 + 2 * e)
      | none => false
    let s3 := if passed then { s2 with plc := { s2.plc with restOk := true } }.plcShow else s2
    let ports := if w == 5 then List.range 12 else if w == 6 then (List.range 24).drop 12 else []
    if s3.loaded then (forEach ports State.chanStart s3).waveBack w else s3

/-- RESTING_BIST_DONE (R183 step 6, R184): 0 passed, 1 logic failure, 2 memory failure. -/
def State.restDone (result repairs : Nat) (s : State) : State :=
  match s.plc.resting with
  | none => s
  | some e =>
    if s.plc.restOk then s
    else
      let r : BistResult := ⟨0, result == 1, result == 2, repairs⟩
      let d := 48 + 2 * e
      let s1 := s.bistOne d r
      if r.logic || r.memory then s1.plcShow
      else
        let s2 := forEach (bistBlock d) (fun x s => (s.domDrain x).domDown x) (s1.bistInit d)
        { s2 with plc := { s2.plc with restOk := true } }.plcShow

end Sys2Proof.Machine
end

