-- ==== Sys2Proof/Machine/Image.lean ====
section
/-! DEFINITION. Machine/Image.lean: the Rolaro image: header, records, register lists, operation sequences, and the checks
of a record on its own (R79 to R88). -/

namespace Sys2Proof.Machine

/-! ## The header (R79, R88 reasons 0x01 to 0x06) -/

/-- The header fields that later steps use. -/
structure Header where
  version : Nat
  base    : Nat
  enc     : Bool
  lab     : Bool
  length  : Nat
  count   : Nat
  keyId   : Nat
  secVer  : Nat
  iv      : List Nat
  tag     : List Nat
  digest  : List Nat
  sig     : List Nat
  deriving DecidableEq, Repr

/-- Read a header's fields. -/
def parseHeader (b : List Nat) : Header :=
  { version := leAt b 0x0C 4, base := leAt b 0x10 4, enc := bit (leAt b 0x14 4) 0, lab := bit (leAt b 0x14 4) 1
    length := leAt b 0x18 4, count := leAt b 0x1C 4, keyId := nth b 0x20 0, secVer := nth b 0x21 0, iv := slice b 0x30 12
    tag := slice b 0x40 16, digest := slice b 0x50 48, sig := slice b 0x80 96 }

/-- Whether the header's fields keep the ranges of R79 that reason 0x04 judges. -/
def headerRange (b : List Nat) (h : Header) : Bool :=
  leAt b 0x06 2 == 0x100 && Nat.blt h.base 0xFFFFFFFF && Nat.blt (leAt b 0x14 4) 4 && h.length % 8 == 0 &&
  Nat.ble 264 h.length && Nat.ble h.length 0x1000000 && Nat.ble 1 h.count && Nat.ble h.secVer 64 &&
  zeros b 0x22 14 && zeros b 0x3C 4 && zeros b 0xE0 28 && (h.enc || (zeros b 0x30 12 && zeros b 0x40 16))

/-- The first reason of 0x01 to 0x06 that a header meets. -/
def headerReason (o : Otp) (b : List Nat) : Option Nat :=
  let h := parseHeader b
  if !(slice b 0 4 == [0x41, 0x4C, 0x44, 0x52] && leAt b 0x08 4 == 0x2432) then some 1
  else if !(nth b 5 0 == 1) then some 2
  else if !(leAt b 0xFC 4 == crc32c (slice b 0 0xFC)) then some 3
  else if !headerRange b h then some 4
  else if Nat.blt 3 h.keyId || bit o.revoked h.keyId then some 5
  else if Nat.blt h.secVer o.floor then some 6
  else none

/-- Step 7 of R73: digest, signature, GCM tag of the stored bytes; the record area in clear, or the reason. -/
def storedCheck (o : Otp) (hdr area : List Nat) : Except Nat (List Nat) :=
  let h := parseHeader hdr
  if !(sha384 (slice hdr 0 0x50 ++ area) == h.digest) then .error 8
  else if !ecdsaVerify (nth o.keys h.keyId (0, 0)) h.digest h.sig then .error 9
  else if !h.enc then .ok area
  else
    let (plain, ok) := gcmOpen o.aesKey h.iv (slice hdr 0 0x30) area h.tag
    if ok then .ok plain else .error 10

/-! ## Records (R81, R82, R84) -/

/-- Whether a type code is one of R84. -/
def typKnown (t : Nat) : Bool := Nat.ble 1 t && Nat.ble t 0x12

/-- How many instances a type has (R84). -/
def typInsts (t : Nat) : Nat :=
  if t == 2 then 24
  else if t == 6 then 128
  else if t == 0xB then 8
  else if t == 3 || t == 4 || t == 5 || (Nat.ble 7 t && Nat.ble t 0xA) then 32
  else 1

/-- The types of which exactly one record must stand in an image. -/
def typMust : List Nat := [1, 0xC, 0xD, 0xF]

/-- Whether a type carries a register list. -/
def typRegs (t : Nat) : Bool := typKnown t && !(t == 3 || t == 4 || t == 7 || t == 8 || t == 9)

/-- Split a record area: the records with their padding and header right or not; none where one extends past the end. -/
def parseRecs : Nat → List Nat → Option (List (Rec × Bool))
  | 0, _ => none
  | n + 1, b =>
    if b.isEmpty then some []
    else
      let len := leAt b 4 4
      let pad := (len + 7) / 8 * 8
      let flags := leAt b 2 2
      if Nat.blt b.length 8 || Nat.blt (b.length - 8) pad then none
      else
        let r : Rec := ⟨leAt b 0 2, bits flags 15 8, bits flags 7 0, slice b 8 len⟩
        let ok := Nat.blt (bits flags 7 0) 4 && zeros b (8 + len) (pad - len)
        (parseRecs n (b.drop (8 + pad))).map (fun l => (r, ok) :: l)

/-- The payload of the DEVICE record of a record area, the first one if there are more, read before any check (R72). -/
def devicePart : Nat → List Nat → Option (List Nat)
  | 0, _ => none
  | n + 1, b =>
    let len := leAt b 4 4
    let pad := (len + 7) / 8 * 8
    if Nat.blt b.length 8 || Nat.blt (b.length - 8) pad then none
    else if leAt b 0 2 == 1 then some (slice b 8 len)
    else devicePart n (b.drop (8 + pad))

/-- Whether records ascend strictly by (type, instance). -/
def recsAscend : List Rec → Bool
  | a :: b :: rest => Nat.blt (256 * a.typ + a.inst) (256 * b.typ + b.inst) && recsAscend (b :: rest)
  | _ => true

/-! ## Register lists (R83) -/

/-- The entries of a register list. -/
def regEntries (p : List Nat) : List (Nat × Nat) :=
  (pieces p 0 8 (p.length / 8)).map (fun e => (leAt e 0 4, leAt e 4 4))

/-- Whether an offset lies in a range. -/
def within (off lo n : Nat) : Bool := Nat.ble lo off && Nat.blt off (lo + n)

/-- Whether a record type permits an offset for an instance (R84). The view registers lie within STRM_n_; a STREAM record may not set
them, which VIEW records do (DESIGN CHOICE, log 155). -/
def typAllows (t i off : Nat) : Bool :=
  if t == 1 then
    Nat.blt off 0x020000 || within off 0x070000 0x010000 || within off 0x300000 0x100000 || within off 0x600000 0x200000 ||
    within off 0x900000 0x200000
  else if t == 2 then within off (0x100000 + 0x1000 * i) 0x1000 || within off (0x120000 + 0x100 * i) 0x100
  else if t == 5 then within off (Reg.STRM_CFG i) 0x100
  else if t == 6 then within off (Reg.STRM_VIEW_CFG (i / 4) (i % 4)) 0x20
  else if t == 0xA then within off (Reg.STAT_CFG i) 0x800 || within off (Reg.LDG_CNT i) 0x2000
  else if t == 0xB then within off 0x800000 0x100000
  else if t == 0xC then within off 0x040000 0x010000
  else if t == 0xD then within off 0x030000 0x010000
  else if t == 0xE then within off 0x080000 0x010000
  else if t == 0xF then within off 0x050000 0x010000
  else if t == 0x10 then within off 0x060000 0x010000
  else if t == 0x11 then within off 0x0B0000 0x010000
  else if t == 0x12 then within off 0x090000 0x010000
  else false

/-- Whether one entry keeps R83 as far as it stands alone. PORT_p_CFG.combo has a live value and no reset value: it is judged as
0 on every port (DESIGN CHOICE, log 125). -/
def entryOk (e : Nat × Nat) : Bool :=
  let m := imgMask e.1
  e.1 % 4 == 0 && !(m == 0) && ((e.2 &&& (0xFFFFFFFF - m)) == (rstOf e.1 &&& (0xFFFFFFFF - m)))

/-- Whether a register list keeps R83 for its record. -/
def regListOk (r : Rec) : Bool :=
  let es := regEntries r.payload
  r.payload.length % 8 == 0 && ascending (es.map (fun e => e.1)) && es.all (fun e => typAllows r.typ r.inst e.1 && entryOk e)

/-! ## Each record on its own (R88 pass 2) -/

/-- Whether a table payload keeps its own layout, apart from the stream that it is for. -/
def tableOk (typ : Nat) (b : List Nat) : Bool :=
  if typ == 7 then
    let t := parseTabs b
    tabsOk b (t.obX + t.obW) t.X t.n &&
      (t.cfa == 0xFF || (Nat.ble 1 t.X && Nat.ble t.X 4 && [6, 7, 8, 10, 12, 14, 16, 20, 24].contains t.n))
  else if typ == 8 then meshOk b
  else dpcOk b 16384 16384

/-- The lowest reason of pass 2 that one record meets. -/
def recReason (lab : Bool) (x : Rec × Bool) : Option Nat :=
  let r := x.1
  if !x.2 then some 0x0B
  else if !typKnown r.typ then (if bit r.flags 0 then some 0x0D else none)
  else if typRegs r.typ && !regListOk r then some 0x0E
  else if r.typ == 0x11 && !lab then some 0x10
  else if r.typ == 4 && !(r.payload.length % 8 == 0 && Nat.ble r.payload.length 8192 &&
    (pieces r.payload 0 8 (r.payload.length / 8)).all opOk) then some 0x12
  else if r.typ == 3 && !profileOk r.payload then some 0x13
  else if (r.typ == 7 || r.typ == 8 || r.typ == 9) && !tableOk r.typ r.payload then some 0x13
  else none

/-- The least of a list of reasons. -/
def leastReason (l : List Nat) : Option Nat := leastBy id l

/-- Pass 2 over a record area: the records, or the lowest reason. -/
def recsCheck (h : Header) (area : List Nat) : Except Nat (List Rec) :=
  match parseRecs (area.length / 8 + 1) area with
  | none => .error 0x0B
  | some l =>
    let rs := l.map (fun x => x.1)
    if !(l.length == h.count) then .error 0x0B
    else
      let found := l.filterMap (recReason h.lab) ++ (if recsAscend rs then [] else [0x0C])
      match leastReason found with
      | some c => .error c
      | none => .ok (rs.filter (fun r => typKnown r.typ))

/-- The register entries of an image, in ascending offset. -/
def Image.entries (i : Image) : List (Nat × Nat) :=
  (i.recs.filter (fun r => typRegs r.typ)).flatMap (fun r => regEntries r.payload)

/-- Write register entries: the image fields take their values. -/
def State.applyEntries (es : List (Nat × Nat)) (s : State) : State :=
  forEach es (fun e s =>
    let m := imgMask e.1
    let v (w : Word) : Word := BitVec.ofNat 32 ((w.toNat &&& (0xFFFFFFFF - m)) ||| (e.2 &&& m))
    { s.setReg e.1 (v (s.reg e.1)) with shadow := cellPut 0#32 s.shadow e.1 (BitVec.ofNat 32 (e.2 &&& m)) }) s

end Sys2Proof.Machine
end

