-- ==== Sys2Proof/Machine/Rules.lean ====
section
/-! DEFINITION. Machine/Rules.lean: the rules that relate the records and register values of a configuration to each other
(R85, R86, R503 and the chapters' own), judged on a state that holds them. -/

namespace Sys2Proof.Machine

/-- Whether the loaded image has a record. -/
def Image.has (i : Image) (typ inst : Nat) : Bool := (i.find typ inst).isSome

/-- The instances of a record type. -/
def Image.insts (i : Image) (typ : Nat) : List Nat := (i.recs.filter (fun r => r.typ == typ)).map (fun r => r.inst)

/-- The enabled streams. -/
def State.strmsEn (s : State) : List Nat := (List.range 32).filter (fun st => s.flag (Fld.STRM_CFG_enable st))

/-- The enabled map entries: port, entry. -/
def State.entsEn (s : State) : List (Nat × Nat) :=
  ((List.range 24).flatMap (fun p => (List.range 4).map (fun k => (p, k)))).filter (fun e => s.flag (Fld.PORT_VCMAP_enable e.1 e.2))

/-- The enabled targets: channel, target. -/
def State.tgtsEn (s : State) : List (Nat × Nat) :=
  ((List.range 24).flatMap (fun p => (List.range 4).map (fun k => (p, k)))).filter (fun e => s.tgtOn e.1 e.2)

/-- No value occurs twice. -/
def distinct {α : Type} [DecidableEq α] : List α → Bool
  | [] => true
  | x :: xs => !xs.contains x && distinct xs

/-- A number between two bounds. -/
def inR (lo hi v : Nat) : Bool := Nat.ble lo v && Nat.ble v hi

/-- Counts and instances of records (R84). -/
def Image.countsOk (i : Image) : Bool :=
  typMust.all (fun t => (i.insts t).length == 1) && i.recs.all (fun r => Nat.blt r.inst (typInsts r.typ))

/-- Consistency of the records and the map entries (R85). -/
def State.recsOk (s : State) : Bool :=
  (s.img.insts 5).all (fun st =>
    s.img.has 2 (s.get (Fld.STRM_CFG_port st)) && s.img.has 3 (s.get (Fld.STRM_CFG_profile st)) &&
    (List.range 4).any (fun v => s.img.has 6 (4 * st + v)) && s.img.has 7 st) &&
  (s.img.insts 6).all (fun i => s.img.has 5 (i / 4)) &&
  [7, 8, 9, 0xA].all (fun t => (s.img.insts t).all (fun st => s.img.has 5 st)) &&
  (s.img.insts 4).all (fun i => s.img.has 3 i) &&
  s.entsEn.all (fun e => s.get (Fld.STRM_CFG_port (s.entStream e.1 e.2)) == e.1 &&
    s.entsEn.all (fun f => !(e.1 == f.1 &&
      s.get (Fld.PORT_VCMAP_vc e.1 e.2) == s.get (Fld.PORT_VCMAP_vc f.1 f.2)) || s.entStream e.1 e.2 == s.entStream f.1 f.2))

/-- A view of a stream (R165, R225). -/
def viewOk (v : ViewCfg) (W H : Nat) : Bool :=
  v.x0 % 2 == 0 && v.cw % 2 == 0 && Nat.ble 1 v.cw && Nat.ble 1 v.ch && Nat.ble (v.x0 + v.cw) W && Nat.ble (v.y0 + v.ch) H &&
  (if v.src == 1 then v.ow == v.cw && v.oh == v.ch
   else Nat.ble v.ow v.cw && Nat.ble v.cw (16 * v.ow) && Nat.ble v.oh v.ch && Nat.ble v.ch (16 * v.oh) &&
     (Nat.blt 3 v.fmt || v.ow % 2 == 0))

/-- The declaration of one enabled stream (R112, R126, R155, R162, R165). -/
def State.strmOk (s : State) (st : Nat) : Bool :=
  let W := s.strmW st
  let H := s.strmH st
  let budget := s.get (Fld.STRM_BUDGET_budget st)
  let tin := s.get (Fld.STRM_TIN_t_in st)
  let per := cfaPer (nth (s.tabPayload 7 st) 2 0)
  let es := s.entsEn.filter (fun e => s.entStream e.1 e.2 == st)
  let X := (s.prof st).exps
  let vs := viewsOf s.regs st
  Nat.ble (s.get (Fld.STRM_CFG_port st)) 23 && pixelDt (s.strmDt st) && !(s.get (Fld.STRM_CFG_path st) == 3) &&
  Nat.ble (s.get (Fld.STRM_CFG_degrade st)) 1 && W % 2 == 0 && inR 16 8192 W && inR 2 16383 H && H % Nat.max per 1 == 0 &&
  inR 1000 1000000 budget && inR 1 (budget - 1000) tin && !vs.isEmpty &&
  vs.all (fun v => viewOk (viewCfg s.regs st v) W H) && s.tabsFit st &&
  (!(s.grpP (s.get (Fld.STRM_CFG_group st)) == 0) || !(s.prof st).triggered) &&
  es.length == X && (List.range X).all (fun k => es.any (fun e => s.entExp e.1 e.2 == k)) &&
  (es.filter (fun e => s.flag (Fld.PORT_SKETCH_use e.1 e.2))).length == 1

/-- The law parameters and the initial ledger values of one enabled stream (R249, R262, R265, R271). -/
def State.lawsOk (s : State) (st : Nat) : Bool :=
  let on := s.get (Fld.STAT_AE_CONV_conv_on st)
  let e := (LEntry.blank 0).setFields (s.cmdWords st) 0xFFFFFFFF
  let X := (s.prof st).exps
  (!s.flag (Fld.STAT_CFG_ae_en st) ||
    (Nat.ble 256 (s.get (Fld.STAT_AE_LIM_g_max st)) && (on == 0 || Nat.blt (s.get (Fld.STAT_AE_CONV_conv_off st)) on) &&
     (List.range 48).any (fun n => !(s.get (Fld.STAT_AE_W_weights st n) == 0)))) &&
  (!s.flag (Fld.STAT_CFG_awb_en st) ||
    (inR 1 3072 (s.get (Fld.STAT_AWB_CTRL_min_zones st)) &&
     Nat.blt (s.get (Fld.STAT_LSC_Q_qa st)) (s.get (Fld.STAT_LSC_Q_qb st)))) &&
  Nat.ble (s.get (Fld.STAT_TONE_lce_alpha st)) 256 &&
  (List.range X).all (fun k => Nat.ble 1 (nth e.exp k 0) && Nat.ble 256 (nth e.gain k 0)) &&
  Nat.ble e.lscW 256 && Nat.ble e.alpha 256

/-- Control channels and their targets (R135, R161). -/
def State.tgtsOk (s : State) : Bool :=
  (List.range 24).all (fun p =>
    let ks := (List.range 4).filter (s.tgtOn p)
    distinct (ks.map (fun k => s.get (Fld.SC_TGT_addr p k))) &&
    (s.flag (Fld.SC_CFG_enable p) || ks.isEmpty) &&
    (!s.flag (Fld.SC_CFG_enable p) || inR 1 4 (s.get (Fld.SC_CFG_speed p))) &&
    ks.all (fun k => !s.tgtAux p k || s.img.has 3 (s.get (Fld.SC_TGT_profile p k)))) &&
  distinct ((s.tgtsEn.filter (fun e => !s.tgtAux e.1 e.2)).map (fun e => s.get (Fld.SC_TGT_stream e.1 e.2))) &&
  s.strmsEn.all (fun st => (s.boundTgt (s.get (Fld.STRM_CFG_port st)) st).isSome)

/-- Ports (R105, R132). -/
def State.portsOk (s : State) : Bool :=
  (List.range 24).all (fun p =>
    if !s.flag (Fld.PORT_CFG_enable p) then true
    else
      let m := s.get (Fld.PORT_CFG_phy_mode p)
      let a := s.get (Fld.PORT_CFG_lanes_a p)
      let b := s.get (Fld.PORT_CFG_lanes_b p)
      let rate := s.get (Fld.PORT_LINK_rate p)
      let prof := s.get (Fld.PORT_LINK_profile p)
      if p < 16 then m == 0 && a == 0 && inR 1 5 (s.get (Fld.PORT_LINK_gear p)) && inR 1 2 prof
      else if m == 0 then (a == 1 || a == 2 || a == 4) && Nat.ble rate 45
      else if m == 1 then inR 1 2 a && inR 1 2 b && Nat.ble rate 45
      else m == 2 && inR 1 3 a && Nat.ble rate 60)

/-- Time, groups and their outputs (R155, R156, R161). -/
def State.timeOk (s : State) : Bool :=
  Nat.ble (s.get Fld.TIME_CFG_gptp_domain) 127 && Nat.ble (s.get Fld.TIME_CFG_ptm_log) 10 &&
  (List.range 8).all (fun g =>
    let P := s.grpP g
    P == 0 || (inR 1000000 1000000000 P && Nat.blt (s.grpPhase g) P &&
      (s.grpOffsets g).all (fun o => Nat.blt (mag o) P)))

/-- Power, placement, palette, queues (R52, R151, R196, R283, R298). -/
def State.storesOk (s : State) : Bool :=
  s.flag (Fld.PM_DCTRL_sb_keep 146) && s.flag (Fld.PM_DCTRL_sb_keep 147) &&
  (!s.flag Fld.PLC_ROT_enable || Nat.ble 1 (s.get Fld.PLC_ROT_period)) &&
  (!s.flag Fld.PAL_SCRUB_CTRL_enable ||
    (let i := s.get Fld.PAL_SCRUB_CTRL_interval
     i == 0 || Nat.ble 16 i)) &&
  (let qs := (List.range 96).filter (fun q => s.flag (Fld.QUE_CFG_enable q))
   Nat.ble (sumL (qs.map s.queCells)) 32768 &&
   qs.all (fun q => !(s.queCells q == 1) && Nat.ble (s.queCells q) 32768 && Nat.ble (s.get (Fld.QUE_CFG_producer q)) 5 &&
     Nat.ble (s.get (Fld.QUE_WMH_high q)) (s.queCap q) && Nat.blt (s.get (Fld.QUE_WML_low q)) (s.get (Fld.QUE_WMH_high q))))

/-- The rings that exist: windows 0 to 5 of every stream, and the pour logs (R312). -/
def ringNums : List Nat := (List.range 256).filter (fun r => Nat.blt (r % 8) 6) ++ (List.range 8).map (fun g => 256 + g)

/-- Payload bytes of a window of a stream (R335); a window that is not produced has none. -/
def State.winBytes (s : State) (st w : Nat) : Nat :=
  if !s.flag (Fld.STRM_CFG_enable st) then 0
  else if w < 4 then (if viewOn s.regs st w then let c := viewCfg s.regs st w; viewBytes c c.oh else 0)
  else if w == 4 then statBytes
  else metaBytes

/-- Enabled transmit map entries of a port. -/
def State.csoEnts (s : State) (n : Nat) : List Nat :=
  (List.range 128).filter (fun m => s.flag (Fld.CSO_MAP_enable m) && s.get (Fld.CSO_MAP_port m) == n)

/-- Host link, rings, transmit ports and software channels (R307, R312, R333 to R335, R338, R340, R358). -/
def State.linksOk (s : State) : Bool :=
  inR 3 6 (s.get Fld.HL_CFG_max_rate) && [1, 2, 4, 8].contains (s.get Fld.HL_CFG_max_width) &&
  ringNums.all (fun r => !s.flag (Fld.OUT_CFG_enable r) || inR 1 10 (s.get (Fld.OUT_CFG_depth r))) &&
  (List.range 128).all (fun c => !s.flag (Fld.TXE_CFG_enable c) || inR 1 10 (s.get (Fld.TXE_CFG_depth c))) &&
  (List.range 128).all (fun m => !s.flag (Fld.CSO_MAP_enable m) || Nat.ble (s.get (Fld.CSO_MAP_window m)) 5) &&
  (List.range 4).all (fun n =>
    let es := s.csoEnts n
    distinct (es.map (fun m => s.get (Fld.CSO_MAP_vc m))) &&
    distinct (es.map (fun m => 8 * s.get (Fld.CSO_MAP_stream m) + s.get (Fld.CSO_MAP_window m))) &&
    let cphy := s.get (Fld.CSO_CFG_phy_mode n) == 2
    let rate := s.get (Fld.CSO_CFG_rate n)
    let lc := s.get (Fld.CSO_CFG_lanes n)
    let need : Frac := es.foldl (fun a m =>
      let st := s.get (Fld.CSO_MAP_stream m)
      let b := s.winBytes st (s.get (Fld.CSO_MAP_window m))
      if b == 0 then a else fAdd a ((b + 32) * 8 * 1000000000, s.strmP st)) (0, 1)
    let raw : Frac := if cphy then ((lc + 1) * rate * 100000000 * 16, 7) else (2 ^ lc * rate * 100000000, 1)
    (!s.flag (Fld.CSO_CFG_enable n) ||
      (cphy || s.get (Fld.CSO_CFG_phy_mode n) == 0) && Nat.ble lc 2 && Nat.ble rate (if cphy then 60 else 45)) &&
    fLe need (17 * raw.1, 20 * raw.2))

/-- Whether a register of a width meets the registers of a list of (address, width). -/
def regMeets (a w : Nat) (l : List (Nat × Nat)) : Bool := l.any (fun e => Nat.blt a (e.1 + e.2) && Nat.blt e.1 (a + w))

/-- The sensor registers of a profile's setting map. -/
def Profile.setRegs (p : Profile) : List (Nat × Nat) := p.sets.map (fun f => (f.addr, f.width))

/-- Payload lengths that a CAN kind allows, up to 64 (R359). -/
def canLenOk (kind n : Nat) : Bool :=
  if kind == 0 then Nat.ble n 8
  else if kind == 1 then Nat.ble n 8 || [12, 16, 20, 24, 32, 48, 64].contains n
  else inR 1 64 n

/-- One signal definition in use (R363, R364, R367). -/
def State.sigOk (s : State) (k : Nat) : Bool :=
  let len := s.get (Fld.SIG_DEF_POS_len k)
  let ps := bitPositions (s.flag (Fld.SIG_DEF_POS_order k)) (s.get (Fld.SIG_DEF_POS_start k)) len
  let lim := Nat.min 64 (s.get (Fld.SIG_MSG_CFG_min_len (s.get (Fld.SIG_DEF_POS_msg k))))
  let st := s.get (Fld.SIG_DEF_ROUTE_stream k)
  let pr := s.prof st
  inR 1 64 len && ps.all (fun b => Nat.blt (b / 8) lim) && !(s.get (Fld.SIG_DEF_FACTOR_factor k) == 0) &&
  !(s.get (Fld.SIG_DEF_ROUTE_law k) == 3) &&
  (!s.flag (Fld.SIG_DEF_ROUTE_gpio_en k) || s.get (Fld.SIG_GPIO_CFG_func (s.get (Fld.SIG_DEF_ROUTE_gpio k))) == 1) &&
  (!s.flag (Fld.SIG_DEF_ROUTE_swr_en k) ||
    !regMeets (s.get (Fld.SIG_DEF_ROUTE_swr_reg k)) (s.get (Fld.SIG_DEF_ROUTE_swr_wide k) + 1) (pr.setRegs ++ pr.census))

/-- One outgoing definition that is sent (R368). -/
def State.txOk (s : State) (j : Nat) : Bool :=
  let kind := s.get (Fld.SIG_TX_CFG_kind j)
  !(kind == 3) && canLenOk kind (s.get (Fld.SIG_TX_CFG_length j)) && Nat.ble 1 (s.get (Fld.SIG_TX_CFG_period j)) &&
  (List.range 4).all (fun i =>
    let src := s.get (Fld.SIG_TX_F_src j i)
    let idx := s.get (Fld.SIG_TX_F_idx j i)
    src == 0 ||
    (Nat.ble src 5 && inR 1 32 (s.get (Fld.SIG_TX_F_len j i)) &&
     (!(src == 1) || decide (0 < s.sigFactor idx)) && (!(src == 3) || Nat.ble idx 3) && (!(src == 5) || Nat.ble idx 31)))

/-- The vehicle and glue interfaces (R359 to R368, R387). -/
def State.sigsOk (s : State) : Bool :=
  let on := s.sigs (fun _ => true)
  (List.range 4).all (fun n => !s.flag (Fld.SIG_CAN_CFG_enable n) ||
    (let m := s.get (Fld.SIG_CAN_CFG_mode n)
     let d := s.get (Fld.SIG_CAN_CFG_drate n)
     !(m == 3) && inR 1 4 (s.get (Fld.SIG_CAN_CFG_nrate n)) && (m == 0 || inR 1 (if m == 1 then 5 else 4) d))) &&
  (List.range 4).all (fun n => !s.flag (Fld.SIG_GM_CFG_enable n) || inR 1 3 (s.get (Fld.SIG_GM_CFG_speed n))) &&
  (List.range 64).all (fun m => !s.flag (Fld.SIG_MSG_ID_enable m) ||
    (Nat.ble (s.get (Fld.SIG_MSG_CFG_min_len m)) 64 &&
     (!s.flag (Fld.SIG_MSG_CFG_q_en m) ||
       (let q := s.get (Fld.SIG_MSG_CFG_queue m)
        Nat.blt q 96 && s.flag (Fld.QUE_CFG_packet q) && s.get (Fld.QUE_CFG_producer q) == 1)))) &&
  (List.range 16).all (fun j => !s.flag (Fld.SIG_TX_ID_enable j) || s.txOk j) &&
  on.all s.sigOk &&
  Nat.ble (on.filter (fun k => s.flag (Fld.SIG_DEF_ROUTE_meta_en k))).length 64 &&
  distinct ((on.filter (fun k => inR 1 2 (s.get (Fld.SIG_DEF_ROUTE_law k)))).map
    (fun k => 4 * s.get (Fld.SIG_DEF_ROUTE_stream k) + s.get (Fld.SIG_DEF_ROUTE_law k)))

/-- Output share of the windows of a mask of a stream, in bytes per second (R176, R381). -/
def State.maskShare (s : State) (st mask : Nat) : Frac :=
  (sumL (((onesOf 6 mask).map (s.winBytes st)).map (fun b => if b == 0 then 0 else b + trailerBytes)) * 1000000000, s.strmP st)

/-- Share of a receive mirror in bytes per second (R381): the image does not hold the peer's stream, so it is a free value. -/
def State.mirrorShare (s : State) (m : Nat) : Nat :=
  Config.openVal (s.get (Fld.ERK_MIR_CFG_stream m) + 32 * s.get (Fld.ERK_MIR_CFG_windows m)) 381

/-- Mirrors (R381): receive mirrors take no local stream, send mirrors fit the link, and own demand with the receive mirrors'
shares fits the declared host link. -/
def State.mirsOk (s : State) : Bool :=
  let on := (List.range 8).filter (fun m => s.flag (Fld.ERK_MIR_CFG_enable m))
  let rx (m : Nat) : Bool := s.flag (Fld.ERK_MIR_CFG_dir m)
  on.all (fun m => !rx m || !s.img.has 5 (s.get (Fld.ERK_MIR_CFG_local m))) &&
  fLe ((on.filter (fun m => !rx m)).foldl
    (fun a m => fAdd a (s.maskShare (s.get (Fld.ERK_MIR_CFG_stream m)) (s.get (Fld.ERK_MIR_CFG_windows m)))) (0, 1))
    (3500 * 1000000, 1) &&
  (!on.any rx ||
    fLe (fAdd (shareSum s.pstreams) (sumL ((on.filter rx).map s.mirrorShare), 1)) (s.declaredBudget * 10000000, 1))

/-- Check units (R389, R396): no domain owns unit 15, which the GUARD record's write bits would say. -/
def State.unitsOk (s : State) : Bool :=
  let cse := (List.range 15).filter (fun n => s.get (Fld.CHK_CTRL_mode n) == 1)
  (List.range 15).all (fun n => Nat.ble (s.get (Fld.CHK_CTRL_mode n)) 1) && s.get (Fld.CHK_CTRL_mode 15) == 0 &&
  s.reg (Reg.GRD_CHK 15) == 0 &&
  distinct (cse.map (fun n => s.get (Fld.CHK_CTRL_port n))) &&
  cse.all (fun n => Nat.blt (s.get (Fld.CHK_CTRL_port n)) 24 && !(s.get (Fld.CHK_CTRL_alive_bits n) == 0))

/-- Injectors (R422). -/
def State.injsOk (s : State) : Bool :=
  (List.range 8).all (fun k => !s.flag (Fld.FI_CFG_arm k) ||
    (let c := s.get (Fld.FI_CFG_class k)
     let a := s.get (Fld.FI_CFG_action k)
     let i := s.get (Fld.FI_CFG_index k)
     if c == 1 then inR 1 4 a && Nat.blt i (if a == 4 then 16 else 24)
     else if c == 2 then inR 1 3 a && Nat.blt i 4
     else if c == 3 then inR 1 3 a && i == 0
     else c == 4 && inR 5 6 a && ringNums.contains i))

/-- The vectors that routes name, with their intervals. -/
def State.vecMods (s : State) : List (Nat × Nat) :=
  ((List.range 1536).filter (fun n => s.get (Fld.EVT_ROUTE_kind n) == 1)).map
    (fun n => (vecKey (s.get (Fld.EVT_ROUTE_fn n)) (s.get (Fld.EVT_ROUTE_vector n)), s.get (Fld.EVT_ROUTE_mod n)))

/-- One route (R451, R429). -/
def State.routeOk (s : State) (n : Nat) : Bool :=
  let k := s.get (Fld.EVT_ROUTE_kind n)
  if srcReserved n then (s.reg (Reg.EVT_ROUTE n)) == 0#32
  else
    (k == 1 || s.get (Fld.EVT_ROUTE_mod n) == 0) &&
    (!(k == 3) || !(s.get (Fld.EVT_ROUTE_pin n) == 0)) &&
    (!(k == 1) || s.get (Fld.EVT_ROUTE_fn n) == 0 || Nat.blt (s.get (Fld.EVT_ROUTE_vector n)) 64)

/-- Routes together (R438). -/
def State.routesOk (s : State) : Bool :=
  (List.range 1536).all s.routeOk &&
  (List.range 48).all (fun w => (s.reg (Reg.EVT_EN w)).toNat &&& enReserved w == 0) &&
  (let l := s.vecMods
   l.all (fun a => l.all (fun b => !(a.1 == b.1) || a.2 == b.2)))

/-- The GUARD record's mapping of requesters, and the journal interval (R441, R467). -/
def State.guardOk (s : State) : Bool :=
  let zero := (List.range 20).filter (fun r => s.flag (Fld.GRD_REQ_enable r) && s.get (Fld.GRD_REQ_domain r) == 0)
  (zero == [0] || zero == [16]) &&
  (let i := s.get Fld.LIFE_CFG_interval
   i == 0 || inR 10 60 i)

/-- Every rule whose breach is reason 0x0F. -/
def State.rules0F (s : State) : Bool :=
  s.img.countsOk && s.recsOk && s.strmsEn.all (fun st => s.strmOk st && s.lawsOk st) && s.tgtsOk && s.portsOk &&
  s.timeOk && s.storesOk && s.linksOk && s.sigsOk && s.mirsOk && s.unitsOk && s.injsOk && s.routesOk && s.guardOk

/-- Targets on SC channels use no profile with a GPIO operation (R86), reason 0x12. -/
def State.rules12 (s : State) : Bool :=
  s.tgtsEn.all (fun e => Nat.blt e.1 16 ||
    (let n := s.tgtProf e.1 e.2
     let p := s.profile n
     !(s.initOps n ++ p.standby ++ p.wake).any opGpio))

/-- A profile's census list against its sequence and its setting map (R400). -/
def State.censusOk (s : State) (n : Nat) : Bool :=
  let p := s.profile n
  p.census.all (fun c =>
    (s.initOps n).any (fun o => nth o 0 0 == 1 && leAt o 2 2 == c.1 && nth o 1 0 % 8 == c.2) &&
    !regMeets c.1 c.2 p.setRegs)

/-- The rules that relate a payload to a record or a register, reason 0x13 (R146, R201, R208, R400). -/
def State.rules13 (s : State) : Bool :=
  s.tgtsEn.all (fun e => !s.img.has 3 (s.tgtProf e.1 e.2) || (s.profile (s.tgtProf e.1 e.2)).winOk (s.get (Fld.SC_CFG_speed e.1)) && s.censusOk (s.tgtProf e.1 e.2)) &&
  s.strmsEn.all (fun st => [7, 8, 9].all (fun t =>
    match s.img.find t st with
    | some r => s.payloadOk t st r.payload
    | none => true))

/-- The lowest reason of pass 3 of R88. -/
def State.ruleReason (s : State) : Option Nat :=
  if !s.rules0F then some 0x0F
  else if !s.rules12 then some 0x12
  else if !s.rules13 then some 0x13
  else none

end Sys2Proof.Machine
end

