-- ==== Sys2Proof/Machine/Boot.lean ====
section
/-! DEFINITION. Machine/Boot.lean: power states, resets and their scope, and Boot: from reset release to the loaded image
(R17 to R25, R37, R38, R57, R61, R67 to R77, R88 to R93). -/

namespace Sys2Proof.Machine

/-! ## Resets (R67, R68, R70) -/

/-- A flash operation of BOOT_NOR_CTRL or of the journal is cut short: its bytes are open (R30). A supply-warning record
that did not get into the flash is late (R465); a periodic or calendar-set record is owed to the next Boot (R37). -/
def State.norCut (s : State) : State :=
  let s1 := match s.norOp with
    | some o => if o.op == 1 then s.norOpen o.addr 65536 else if o.op == 2 then s.norOpen o.addr 256 else s
    | none => s
  let s2 := match s1.life.op with
    | some o =>
      (match o.kind with
       | .erase _ => s1.norOpen o.addr 65536
       | .record _ => s1.norOpen o.addr 64)
    | none => s1
  let s3 := match s2.life.parked with
    | some o => s2.norOpen o.addr 65536
    | none => s2
  let kept := (s.life.due ++ (s.life.op.map (fun o => o.kind)).toList).filter (fun k => k == .record 1 || k == .record 4)
  { s3 with warm := { s3.warm with owed := (s3.warm.owed.filter (fun k => !kept.contains k)) ++ kept,
                                   late := s3.warm.late + b2n s.warnDue } }

/-- The blocks of the main domains lose what they hold: everything but the warmer, the flash, the fuses, the pins' levels and
the model's own fields is as after a full reset. Flow-control pins are released. -/
def State.mainGone (s : State) : State :=
  let s1 := s.norCut
  let s2 := forEach ((List.range 8).filter (fun n => (nth s1.fcPin n ⟨false, false⟩).low))
    (fun n (s : State) => s.emit (.pull (.fc n) false)) s1
  let s3 := if s2.debug then s2.emit (.debug false) else s2
  { State.reset with
    pending := s3.pending, out := s3.out, free := s3.free, pw := s3.pw, otp := s3.otp, warm := s3.warm, nor := s3.nor
    faultPin := s3.faultPin, intLow := s3.intLow, hot := s3.hot, phase := .reset, life := Life.init }

/-- A full reset with its cause bit and whether the fault latch is set (R22, R67, R70). Counts of the control island are
folded first, so that the counters read the same after it (R477). -/
def State.fullReset (cause : Nat) (latch : Bool) (s : State) : State :=
  let s1 := if s.runs then s.lifeFold else s
  let kept := nth s.life.core 1 0
  let s2 := s1.mainGone
  let por := cause == 1
  { s2 with
    pw := { s2.pw with latch := latch || (s2.pw.latch && !por) }
    faultPin := s2.faultPin.map (fun p => { p with hold := p.hold && (latch || (s2.pw.latch && !por)) })
    warm := { s2.warm with causes := s2.warm.causes ||| cause }
    life := { s2.life with core := [0, (if s.runs then 0 else kept) + b2n por, 0, 0] } }

/-- POWER_ON_RESET: PORST_N falls (R67). -/
def State.porstFall (s : State) : State :=
  let s1 := { s with pw := { s.pw with porst := true, latch := false } }
  match s1.phase with
  | .off | .warm => s1
  | _ => s1.fullReset 1 false

/-- VDD_CORE_LOSS: Warm (R38). What the control island had not folded is lost (R35, R457). -/
def State.coreLoss (s : State) : State :=
  match s.phase with
  | .off => { s with pw := { s.pw with core := false } }
  | _ => { s.mainGone with phase := .warm, pw := { s.pw with core := false } }

/-- VDD_CORE is back while the warmer is powered: Reset, as at a power-on, with PORST_N low (R32, R37). -/
def State.coreBack (out absent : List Rail) (s : State) : State :=
  match s.phase with
  | .warm => { s with phase := .reset, pw := { s.pw with core := true, out := out, absent := absent, porst := true } }.fullReset 1 false
  | _ => { s with pw := { s.pw with core := true, out := out, absent := absent } }

/-- WARMER_POWER_LOSS: Off, with the warmer's registers and the calendar gone (R37, R478). -/
def State.warmerOff (s : State) : State :=
  { s.mainGone with phase := .off, warm := Warm.init, pw := { s.pw with latch := false } }

/-- SUPPLY_OUT_OF_RANGE (R34, R38): a main supply other than VDD_CORE leaves its range, or is absent. The loss of VDDIO_33
also clears the fault latch (R22), and where the internal regulator feeds the warmer from it, its absence is Off. -/
def State.supplyOut (rail : Rail) (absent : Bool) (s : State) : State :=
  let s1 := { s with pw := { s.pw with
    out := if s.pw.out.contains rail then s.pw.out else s.pw.out ++ [rail]
    absent := if absent && !s.pw.absent.contains rail then s.pw.absent ++ [rail] else s.pw.absent
    latch := s.pw.latch && !(rail == Rail.io33) } }
  if rail == Rail.io33 && absent && s.pw.internal && !(s.phase == .off) then s1.warmerOff
  else match s1.phase with
  | .off | .warm => s1
  | _ => s1.fullReset 1 s1.pw.latch

/-- WARMER_POWER_UP (R34, R37, R456, R478): what WARM_SRC selects; the calendar restarts; Falith is in Warm, or in Reset as at a
power-on. Without VDDIO_33 the internal regulator feeds nothing. -/
def State.warmerUp (coreOk : Bool) (out absent : List Rail) (internal : Bool) (s : State) : State :=
  if !(s.phase == .off) || (internal && absent.contains Rail.io33) then s
  else
    let s1 := { s with warm := Warm.init, phase := .warm, pw := { s.pw with
      core := coreOk, out := out, absent := absent, internal := internal, porst := true } }.calRestart
    if coreOk then { s1 with phase := .reset }.fullReset 1 false else s1

/-- A fault that resets the device: FAULT_N is latched low (R22, R57, R61, R67). With PORST_N low there is none. -/
def State.faultReset (cause : Nat) (s : State) : State :=
  match s.phase with
  | .off | .warm => s
  | .reset => if s.pw.porst then s else s.fullReset cause true
  | _ => s.fullReset cause true

/-- PLL_UNLOCK (R61). -/
def State.pllUnlock (n : Nat) (s : State) : State :=
  if Nat.blt n 6 then (if s.flag (Fld.CK_PLL_running n) then s.easelPllLost n else s)
  else if n == 7 || s.flag (Fld.CK_PLL_running n) then
    (if s.runs then ((s.put (Fld.CK_PLL_locked n) 0).bump (Fld.CK_PLL_unlocks n)).raise (evPm (8 + n)) else s).faultReset 4
  else s

/-- REFERENCE_LOSS (R57): its event, and a clock-fault reset. -/
def State.refLost (s : State) : State := (s.raiseIf s.runs (evPm 16)).faultReset 2

/-! ## The start of Boot (R19, R23, R73 steps 1 to 3, R76, R77) -/

/-- Fields that are read from OTP, straps and the warmer at reset release (R477). -/
def State.otpFields (s : State) : State :=
  let s1 := ((s.put Fld.GLB_REV_rom s.otp.rom).setReg64 Reg.GLB_UID s.otp.uid).put Fld.CK_SRC_ref_external s.pw.strapClk
  let s2 := (s1.put Fld.BOOT_SEC_floor s.otp.floor).put Fld.BOOT_SEC_revoked s.otp.revoked
  let s3 := forEach s.otp.repairs (fun d s => s.put (Fld.BIST_DOM_fused d) 1) s2
  (s3.put Fld.BIST_FUSE_used s.otp.repairs.length).put Fld.BIST_FUSE_left (1024 - s.otp.repairs.length)

/-- The fastest mode that strap and SFDP table allow: 0 single, 1 quad, 2 octal DDR (R77). -/
def xspiTop (strap sfdp : Nat) : Nat := Nat.min (if strap == 3 then 0 else strap) sfdp

/-- The mode in which the slot headers can be read: the fastest that is not bad, falling back one mode at a time. -/
def xspiMode (bad : Nat) : Nat → Option Nat
  | 0 => if bit bad 0 then none else some 0
  | m + 1 => if bit bad (m + 1) then xspiMode bad m else some (m + 1)

/-- The slots that a Boot cannot read: both where no mode reads them, as a mask. -/
def unreadOf (env : BootEnv) (strap : Nat) : Nat :=
  if (xspiMode env.badModes.val (xspiTop strap env.sfdp.val)).isNone then 3 else env.readFail.val

/-- RESET_RELEASE up to the first flash access: straps, OTP fields, control-island PLL, flash reset pulse, key-on waves, the
journal scan. -/
def State.bootBegin (env : BootEnv) (s : State) : State :=
  let rose := s.pw.porst || !s.pw.main
  let pw := { s.pw with
    porst := false, out := [], absent := []
    strapClk := if rose then b2n env.clk else s.pw.strapClk, strapXspi := if rose then env.xspi.val else s.pw.strapXspi
    unread := unreadOf env (if rose then env.xspi.val else s.pw.strapXspi) }
  let s1 := { s with pw := pw, regs := resetRegs, hlReset := pw.perst, phase := .boot, tm := TimeSt.init }
  let s2 := (s1.otpFields.put Fld.CK_SRC_ref_ok 1).put Fld.BOOT_STATUS_xspi_mode (if pw.strapXspi == 3 then 0 else pw.strapXspi)
  let s3 := ((s2.put Fld.CK_SRC_xtal32k_ok (b2n s.warm.xtalOk)).put Fld.CK_SRC_warm_on_rc (b2n s.warm.onRc)).put
    Fld.PM_STATE_supw (b2n s.pw.supw)
  let s4 := (((s3.put (Fld.CK_PLL_running 7) 1).put (Fld.CK_PLL_locked 7) 1).put (Fld.CK_PLL_last_lock 7)
    (Config.openVal s3.free 66 % 201)).draw
  let s5 := (s4.put Fld.BIST_STAT_keyon 1).put Fld.BIST_STAT_wave 1
  let s6 := (s5.emit (.pin .xspiRstN false)).emit (.pin .xspiRstN true)
  ((s6.lifeBoot).hlDoms).keysDerive

/-! ## Slots (R73 steps 5 to 9, R88, R89) -/

/-- Start of a slot in the flash (R78). -/
def slotBase (k : Nat) : Nat := 0x1000000 * k

/-- A slot's header, with the reason of pass 1 that it meets as a header. -/
def State.slotHeader (s : State) (unread : Bool) (k : Nat) : Header × Option Nat :=
  let b := s.norRead (slotBase k) 256
  (parseHeader b, if unread then some 7 else headerReason s.otp b)

/-- The state whose registers hold an image's values, and that has the image (the candidate configuration). -/
def State.withImage (i : Image) (s : State) : State := { s.applyEntries i.entries with img := i }

/-- The image that a slot holds, after passes 1 and 2 of R88, or the reason. -/
def State.slotImage (s : State) (h : Header) (k : Nat) : Except Nat Image :=
  let hdr := s.norRead (slotBase k) 256
  match storedCheck s.otp hdr (s.norRead (slotBase k + 256) (h.length - 256)) with
  | .error c => .error c
  | .ok plain =>
    match recsCheck h plain with
    | .error c => .error c
    | .ok rs => .ok ⟨k + 1, h.version, h.base, h.secVer, h.keyId, h.lab, h.digest, rs⟩

/-- Passes 3 and 4 on an image: its placement with the candidate state, or the reason and, for placement, the refusal. -/
def State.imagePlaced (s : State) (i : Image) : Except (Nat × Option PRefusal) (PAcc × State) :=
  let c := (s.withImage i).mapSlots
  match c.ruleReason with
  | some r => .error (r, none)
  | none =>
    match c.placeWith c.slotsK with
    | .error e => .error (0x11, some e)
    | .ok a => .ok (a, c)

/-! ## Loading (R73 steps 10 and 11, R92) -/

/-- The identity of the loaded image in the BOOT_ registers. -/
def State.showImage (s : State) : State :=
  let i := s.img
  let s1 := (s.setReg Reg.BOOT_IMAGE (BitVec.ofNat 32 i.version)).setReg Reg.BOOT_EPOCH_BASE (BitVec.ofNat 32 i.base)
  let s2 := (s1.put Fld.BOOT_SEC_sec_version i.secVer).put Fld.BOOT_SEC_key_id i.keyId
  let s3 := forEach (List.range 12) (fun n s => s.setReg (Reg.BOOT_DIGEST n) (BitVec.ofNat 32 (leAt i.digest (4 * n) 4))) s2
  ((s3.put (Fld.BOOT_SLOT_loaded (i.slot - 1)) 1).put Fld.BOOT_STATUS_slot i.slot).put Fld.BOOT_STATUS_result 1

/-- The derived fields (R502), once the guard table is live. -/
def State.derive (s : State) : State :=
  (((s.put Fld.GRD_STAT_holder s.mapHolder).setReg Reg.CEN_EPOCH (BitVec.ofNat 32 s.img.base)).hlDeclared).put
    Fld.FI_CTRL_lab (b2n s.img.lab)

/-- The counters since the image load that Boot itself may have moved, back at their Reset column (R477): denials, wakes and losses of
lock, writes dropped under R471, placement runs. -/
def State.countersRestart (s : State) : State :=
  let s1 := forEach (List.range 152) (fun d s => s.put (Fld.PM_DSTAT_wakes d) 0) s
  let s2 := forEach (List.range 8) (fun n s => s.put (Fld.CK_PLL_unlocks n) 0) s1
  ((s2.put Fld.GRD_LOG_CNT_total 0).put Fld.GLB_OFFWR_count 0).put Fld.PLC_STAT_runs 0

/-- The GUARD record's table is live (R92, R448). -/
def State.guardLoad (s : State) : State := { s with grdLive := regsIn s.regs grdLo grdHi }

/-- Domains that the loaded image needs at once are powered; the host link's follow its state. -/
def State.domsLoad (s : State) : State :=
  (forEach ((List.range 152).filter (fun d => !(Nat.ble 134 d && Nat.blt d 138) && (s.domNeed d || s.domHeld d)))
    State.domBring s).hlDoms

/-- The golden values, the digest and the epoch, published as the first pair (R92, R401, R408). -/
def State.censusLoad (s : State) : State :=
  let s1 := s.cenGolden
  let s2 := { s1 with cen := { s1.cen with pub := (s1.get Fld.CEN_EPOCH_epoch, s1.cenDigest) } }
  (s2.setReg Reg.CEN_PUB (BitVec.ofNat 32 s2.cen.pub.1)).raise (evSafe 6)

/-- FSO pins and CAN transmit pins take their levels (R20). -/
def State.pinsLoad (s : State) : State :=
  forEach (List.range 4) (fun n s => s.emit (.pin (.canTxd n) true))
    (forEach (List.range 16) (fun n s => s.emit (.pin (.fso n) false)) s)

/-- The control channels whose ports' key-on wave has ended start (R75, R415). -/
def State.chansLoad (s : State) : State :=
  let w := if s.flag Fld.BIST_STAT_keyon then s.get Fld.BIST_STAT_wave else 7
  forEach (if w < 6 then [] else if w == 6 then List.range 12 else List.range 24) State.chanStart s

/-- A stream that opens at load, with its windows' rings. -/
def State.strmsLoad (s : State) : State := forEach s.strmsEn State.strmOpen s

/-- Steps 10 and 11 of R73 on a candidate state that has its image and its registers. -/
def State.loadImage (a : PAcc) (c : State) : State :=
  let s1 := (((c.showImage).countersRestart).guardLoad).derive
  let s2 := (s1.plcAccept a).domsLoad
  let s3 := (s2.strmsLoad).censusLoad
  let s4 := forEach ((List.range 8).filter (fun k => s3.flag (Fld.FI_CFG_arm k))) State.fiArm s3
  let s5 := forEach (List.range 4) State.canEnable s4
  let s6 := ((s5.put Fld.BOOT_STATUS_phase 0xB).lifeCore 2 1).routesOn
  let s7 := ((s6.setPhase .active).raise (evPm 0)).pinsLoad
  let s8 := ((s7.combosUp).applyIdle).erkTrain
  let s9 := if s8.flag Fld.HL_STAT_up then
    forEach ((List.range 16).filter s8.fnOk) State.fnResume s8.chooseDrops else s8
  s9.chansLoad

/-- No slot loads: Falith stays in Boot with the view of R90. -/
def State.bootFailed (s : State) : State := ({ s with phase := .failed }.put Fld.BOOT_STATUS_result 2).fnShow

/-- The step of R73 that ends with a reason of R88. -/
def rejectStep (c : Nat) : Nat := if Nat.ble c 0x07 then 6 else if Nat.ble c 0x0A then 7 else if c == 0x11 then 9 else 8

/-- A candidate is rejected: its reason is recorded, and a placement refusal stands. -/
def State.reject (k c : Nat) (e : Option PRefusal) (s : State) : State :=
  let s1 := ((s.put (Fld.BOOT_SLOT_reason k) c).put Fld.BOOT_STATUS_reason c).put Fld.BOOT_STATUS_phase (rejectStep c)
  match e with
  | some e => s1.plcRefuse e
  | none => s1

/-- Try the candidates in order (R89). -/
def State.tryCandidates : List (Nat × Header) → State → State
  | [], s => s.bootFailed
  | (k, h) :: rest, s =>
    match s.slotImage h k with
    | .error c => State.tryCandidates rest (s.reject k c none)
    | .ok i =>
      match s.imagePlaced i with
      | .error (c, e) => State.tryCandidates rest (s.reject k c e)
      | .ok (a, c) => c.loadImage a

/-- Steps 4 to 11 of R73. -/
def State.bootEnd (env : BootEnv) (s : State) : State :=
  let mode := xspiMode env.badModes.val (xspiTop s.pw.strapXspi env.sfdp.val)
  let s1 := { s with
    life := { s.life with suspend := env.suspend }
    pw := { s.pw with unread := unreadOf env s.pw.strapXspi } }.put Fld.BOOT_STATUS_xspi_mode (mode.getD 0)
  let heads := [0, 1].map (fun k => (k, s1.slotHeader (bit s1.pw.unread k) k))
  let s2 := forEach heads (fun x s =>
    match x.2.2 with
    | some c => (s.put (Fld.BOOT_SLOT_reason x.1) c).put (Fld.BOOT_SLOT_sec_version x.1) (if c == 7 then 0 else x.2.1.secVer)
    | none => (s.put (Fld.BOOT_SLOT_candidate x.1) 1).put (Fld.BOOT_SLOT_sec_version x.1) x.2.1.secVer) s1
  let cands := (heads.filter (fun x => x.2.2.isNone)).map (fun x => (x.1, x.2.1))
  let order := match cands with
    | [a, b] => if Nat.blt a.2.version b.2.version then [b, a] else [a, b]
    | l => l
  State.tryCandidates order (s2.put Fld.BOOT_STATUS_phase 5)

/-- RESET_RELEASE (R73): Boot starts; with `finish` it runs to its end, else it stands before step 11. A further one in
Boot lets it go on. -/
def State.resetRelease (env : BootEnv) (s : State) : State :=
  match s.phase with
  | .reset => let b := s.bootBegin env; if env.finish then b.bootEnd env else b
  | .boot => if env.finish then s.bootEnd env else s
  | _ => s

/-! ## The host link in Boot (R24, R71, R72) -/

/-- HL_CFG as the DEVICE record of a slot gives it, read before any check (R72). -/
def State.slotHlCfg (s : State) (k : Nat) (h : Header) : Option Nat :=
  let stored := s.norRead (slotBase k + 256) (h.length - 256)
  let area := if h.enc then (gcmOpen s.otp.aesKey h.iv (slice (s.norRead (slotBase k) 256) 0 48) stored h.tag).1 else stored
  (devicePart (area.length / 8 + 1) area).bind (fun p => ((regEntries p).find? (fun e => e.1 == Reg.HL_CFG)).map (fun e => e.2))

/-- HL_CFG as the first candidate that provides it gives it, in the order of R89; a slot that cannot be read is none (R72). -/
def State.earlyHlCfg (s : State) : Option Nat :=
  let heads := [0, 1].map (fun k => (k, s.slotHeader (bit s.pw.unread k) k))
  let cands := (heads.filter (fun x => x.2.2.isNone)).map (fun x => (x.1, x.2.1))
  let order := match cands with
    | [a, b] => if Nat.blt a.2.version b.2.version then [b, a] else [a, b]
    | l => l
  order.findSome? (fun x => s.slotHlCfg x.1 x.2)

/-- The link trains with the loaded image's parameters, before a load with those of R72. -/
def State.hlTrainNow (s : State) : State :=
  if s.loaded then s.hlTrain (s.get Fld.HL_CFG_max_rate) (s.get Fld.HL_CFG_max_width) (s.flag Fld.HL_CFG_sris)
  else match s.earlyHlCfg with
  | some w => s.hlTrain (bits w 19 16) (bits w 11 8) (bit w 24)
  | none => s.hlTrain 6 8 false

/-- HOST_LINK_RESET_END: registers come back from the shadow copy and the link trains (R69). -/
def State.hlResetEnd (s : State) : State :=
  if !s.hlReset || s.pw.perst || !s.runs then s
  else (({ s with hlReset := false }.restore 0x900000 0x910000).hlDeclared).hlTrainNow

/-- LINK_TRAINING_START (R71, R72): with PERST_N high. -/
def State.trainStart (s : State) : State :=
  if s.pw.perst || !s.runs then s
  else if s.loaded && s.hlReset then s.hlResetEnd
  else { s with hlReset := false }.hlTrainNow

/-- PERST_RELEASE (R24). -/
def State.perstRise (s : State) : State := { s with pw := { s.pw with perst := false } }

/-- PERST_ASSERT or D3cold (R56, R67). -/
def State.perstFall (s : State) : State := ({ s with pw := { s.pw with perst := true } }).hlResetCause

/-- A configuration request: Request Retry Status before step 11, unless Boot has failed (R71, R90). -/
def State.configRequest (fn : Nat) (s : State) : State :=
  if s.phase == .boot && s.flag Fld.HL_STAT_up then s.emit (.retryStatus fn) else s

/-! ## Clock sources (R57, R60, R454) -/

/-- XTAL32K_STOP (R60); the event needs the main supplies. -/
def State.xtalStop (s : State) : State :=
  if s.phase == .off then s
  else
    let s1 := { s with warm := { s.warm with onRc := true, xtalOk := false } }
    if s1.runs then ((s1.put Fld.CK_SRC_warm_on_rc 1).put Fld.CK_SRC_xtal32k_ok 0).raise (evPm 17) else s1

/-- XTAL32K_RETURN (R454). -/
def State.xtalBack (s : State) : State :=
  if s.phase == .off then s
  else
    let s1 := { s with warm := { s.warm with onRc := false, xtalOk := true } }
    if s1.runs then (s1.put Fld.CK_SRC_warm_on_rc 0).put Fld.CK_SRC_xtal32k_ok 1 else s1

/-- RC_TRIM (R454): while the crystal runs. -/
def State.rcTrim (ppm : Int) (s : State) : State :=
  if s.phase == .off || s.warm.onRc then s else { s with warm := { s.warm with trim := ppm } }

/-! ## Software commands of BOOT_CMD (R67, R93) -/

/-- BOOT_CMD.op = 0x3 (R93, R91). EV_SEC_FLOOR is raised also where the floor is the security version already and no fuse changes
(DESIGN CHOICE, log 156). -/
def State.raiseFloor (vfuse : Bool) (s : State) : State :=
  if !s.loaded then s
  else if !vfuse then s.put Fld.BOOT_SEC_cmd_reason 0x33
  else
    let f := Nat.max s.otp.floor s.img.secVer
    ((({ s with otp := { s.otp with floor := f } }.put Fld.BOOT_SEC_floor f).put Fld.BOOT_SEC_cmd_reason 0)).raise (evSec 5)

end Sys2Proof.Machine
end

