-- ==== Sys2Proof/Machine/Commit.lean ====
section
/-! DEFINITION. Machine/Commit.lean: what a changed configuration register sets going, runtime commits (R94 to R97), the
checks of a table reload (R230), and the flash commands (R98). -/

namespace Sys2Proof.Machine

/-! ## What follows a change of an image field outside a load -/

/-- An image register has changed from an old word: groups are planned anew (R158), derived fields follow (R502), units
that the register enables or arms start (R136, R378, R387, R423), a queue's live bit follows its marks (R294). -/
def State.imgHook (off : Nat) (old : Word) (s : State) : State :=
  let w := s.reg off
  if w == old then s
  else if within off 0x071000 0x100 then s.grpReplan ((off - 0x071000) / 0x20)
  else if within off 0x071200 0x40 then
    (let n := (off - 0x071200) / 4
     if bit w.toNat 31 then s.edgeRecheck n else s.fsoEnd n)
  else if within off 0x071300 0x40 then s.edgeRecheck (16 + (off - 0x071300) / 4)
  else if within off 0x100000 0x18000 && off % 0x1000 == 0 then
    (let p := (off - 0x100000) / 0x1000
     if Nat.ble 16 p then s.raiseIf (bit w.toNat 0 && !bit old.toNat 0 && s.comboUp p false) (evPort p 0)
     else if !bit w.toNat 0 && s.flag (Fld.PORT_LSTAT_link_up p) then s.linkDown p
     else s)
  else if within off 0x080000 0x100 then s.canEnable ((off - 0x080000) / 0x40)
  else if off == Reg.ERK_CFG then
    (if bit w.toNat 31 && !bit old.toNat 31 then s.erkTrain else if !bit w.toNat 31 && bit old.toNat 31 then s.erkDown else s)
  else if within off 0x0B0100 0x80 && (off - 0x0B0100) % 0x10 == 0 then
    (if bit w.toNat 31 && !bit old.toNat 31 then s.fiArm ((off - 0x0B0100) / 0x10) else s)
  else if within off 0x120000 0x1800 then
    (let p := (off - 0x120000) / 0x100
     let o := off % 0x100
     if o == 0 then (if bit w.toNat 0 then s.chanStart p else s.chanStop p)
     else if Nat.ble 0x10 o && Nat.blt o 0x20 && bit w.toNat 31 && !bit old.toNat 31 then s.chanLinkUp p else s)
  else if within off 0x620000 0x1800 then s.queEnd ((off - 0x620000) / 0x40)
  else if off == Reg.HL_CFG then s.hlDeclared
  else s

/-- The word of an EVT_EN register, if an offset is one. -/
def enWord (off : Nat) : Option Nat :=
  if Nat.ble (Reg.EVT_EN 0) off && Nat.blt off (Reg.EVT_EN 48) && off % 4 == 0 then some ((off - Reg.EVT_EN 0) / 4) else none

/-- A register that a repair has rewritten takes effect as a written one does (R405). -/
def State.rewritten (s old : State) (off : Nat) : State :=
  if s.reg off == old.reg off then s
  else match enWord off with
    | some w => (s.setReg off (old.reg off)).writeEnable w 0xFFFFFFFF (s.reg off).toNat
    | none => s.imgHook off (old.reg off)

/-- The members of the set of registers that the next drip repairs, if it is a repair drip (R405). -/
def State.cenMends (s : State) : List (Nat × Nat) :=
  match s.cen.re, s.cen.fix with
  | [], (m, _) :: _ => if s.loaded && !s.cenSkip m then setMembers m else []
  | _, _ => []

/-- CENSUS_DRIP (R402): a drip of the census, with what the registers that a repair rewrites set going (R405). -/
def State.cenStep (s : State) : State := forEach s.cenMends (fun e t => t.rewritten s e.1) s.cenDrip

/-! ## Commits (R94 to R97) -/

/-- A requester owns the claim of the commit buffer. -/
def State.cmtMine (s : State) (r : Nat) : Bool := s.cmt.claim == some r

/-- BOOT_CMT_CTRL.cmd = open (R94). The rule names count and has_target; the open also clears BOOT_CMT_STAT.reason and state
(DESIGN CHOICE, log 124). -/
def State.cmtOpen (r : Nat) (s : State) : State :=
  if s.cmt.claim.isSome && !s.cmtMine r then s.put Fld.BOOT_CMT_STAT_reason 0x20
  else
    (((({ s with cmt := { s.cmt with claim := some r } }.put Fld.BOOT_CMT_CTRL_owner (s.reqDomain r)).put
      Fld.BOOT_CMT_TARGET_has_target 0).setReg Reg.BOOT_CMT_STAT 0))

/-- The claim ends. -/
def State.cmtFree (s : State) : State := { s with cmt := { s.cmt with claim := none } }.put Fld.BOOT_CMT_CTRL_owner 0

/-- BOOT_CMT_CTRL.cmd = abort (R94). -/
def State.cmtAbort (r : Nat) (s : State) : State := if s.cmtMine r then s.cmtFree else s

/-- The entries in the commit buffer (R94). -/
def State.cmtEntries (s : State) : List (Nat × Nat) :=
  (List.range (Nat.min (s.get Fld.BOOT_CMT_STAT_count) 512)).map (fun i =>
    ((s.reg (Reg.BOOT_CMT_DATA (2 * i))).toNat, (s.reg (Reg.BOOT_CMT_DATA (2 * i + 1))).toNat))

/-- The commit's target stream and frame. -/
def State.cmtTarget (s : State) : Option (Nat × Nat) :=
  if s.flag Fld.BOOT_CMT_TARGET_has_target then
    some (s.get Fld.BOOT_CMT_TARGET_stream, s.get Fld.BOOT_CMT_FRAME_frame)
  else none

/-- Whether the object of an entry is the requester's, the route bit included (R444). An offset in no window touches none: such an
entry is turned away by its record (0x23). -/
def State.ownsEntry (s : State) (r : Nat) (e : Nat × Nat) : Bool :=
  let d := s.reqDomain r
  (match accessObj e.1 with
   | some obj => s.mayWrite obj d
   | none => true) &&
  (!(within e.1 0x031000 0x3000 && e.1 % 8 == 0) || s.mayRoute d e.2)

/-- Whether an entry changes what no commit may change: the guard table (R448), a queue's cells, packets or producer (R283). -/
def State.fixedEntry (s : State) (e : Nat × Nat) : Bool :=
  within e.1 0x040000 0x10000 ||
  (within e.1 0x620000 0x1800 && e.1 % 0x40 == 0 &&
    (let q := (e.1 - 0x620000) / 0x40
     let new := s.setReg e.1 (BitVec.ofNat 32 e.2)
     let old := s.setReg e.1 (s.shad e.1)
     !(new.get (Fld.QUE_CFG_cap_cells q) == old.get (Fld.QUE_CFG_cap_cells q) &&
       new.get (Fld.QUE_CFG_packet q) == old.get (Fld.QUE_CFG_packet q) &&
       new.get (Fld.QUE_CFG_producer q) == old.get (Fld.QUE_CFG_producer q))))

/-- Whether the entries keep R83 and lie in records that may change at runtime (R95, 0x23). -/
def State.entriesOk (s : State) (es : List (Nat × Nat)) : Bool :=
  ascending (es.map (fun e => e.1)) && es.all (fun e => entryOk e && !s.fixedEntry e &&
    s.img.recs.any (fun c => bit c.flags 1 && typRegs c.typ && typAllows c.typ c.inst e.1))

/-- The configuration after a list of entries. -/
def State.candidate (es : List (Nat × Nat)) (s : State) : State := s.applyEntries es

/-- The inputs of placement that registers give (R175): streams, group periods, the declared link. -/
def State.plcInputs (s : State) : List (Nat × Word) × List Nat :=
  ((List.range 32).flatMap (fun st =>
    regsIn s.regs (Reg.STRM_CFG st) (Reg.STRM_CFG st + 0x10) ++ regsIn s.regs (Reg.STRM_VIEW_CFG st 0) (Reg.STRM_VIEW_CFG st 4)),
   s.declaredBudget :: (List.range 8).map s.grpP)

/-- Whether going from one configuration to another runs placement (R97, R180). -/
def plcChanged (a b : State) : Bool := !(a.plcInputs == b.plcInputs)

/-- The first reason of R95 that a commit meets, with its placement refusal; 0 = accepted. -/
def State.cmtReason (s : State) (r : Nat) : Nat × Option PRefusal :=
  let es := s.cmtEntries
  let now := s.candidate (s.cmt.waiting.flatMap (fun c => c.entries))
  let c := now.candidate es
  if !(s.get Fld.BOOT_CMT_EPOCH_epoch == s.get Fld.CEN_EPOCH_epoch) then (0x21, none)
  else if !es.all (s.ownsEntry r) then (0x22, none)
  else if !s.entriesOk es then (0x23, none)
  else if (match s.cmtTarget with
    | some (st, F) => !(s.strm st).opened || s.passed st F
    | none => false) then (0x24, none)
  else if s.get Fld.CEN_EPOCH_epoch == 0xFFFFFFFF then (0x25, none)
  else if !inR 1 512 (s.get Fld.BOOT_CMT_STAT_count) then (0x26, none)
  else if (s.trl.waiting.isSome || s.trl.held.isSome) && plcChanged now c then (0x27, none)
  else if c.ruleReason.isSome then (0x0F, none)
  else if plcChanged now c then
    match { c with cmt := { c.cmt with turns := [] } }.placeWith c.slotsK with
    | .error e => (0x11, some e)
    | .ok _ => (0, none)
  else (0, none)

/-- Of each enable word that a commit writes, the bits that its requester may write (R444). -/
def State.cmtMasks (s : State) (r : Nat) : Tbl Nat :=
  s.cmtEntries.filterMap (fun e => (enWord e.1).map (fun w => (w, s.srcWriteMask r w)))

/-- BOOT_CMT_CTRL.cmd = go (R95). -/
def State.cmtGo (r : Nat) (s : State) : State :=
  if !s.cmtMine r then s
  else
    let (why, ref) := s.cmtReason r
    let s1 := (s.cmtFree).put Fld.BOOT_CMT_STAT_reason why
    if why == 0 then
      { s1 with cmt := { s1.cmt with waiting := s1.cmt.waiting ++ [Commit.mk s.cmtEntries s.cmtTarget (s.cmtMasks r)] } }.put Fld.BOOT_CMT_STAT_state 1
    else
      let s2 := s1.put Fld.BOOT_CMT_STAT_state 3
      match ref with
      | some e => (s2.plcRefuse e).bump Fld.PLC_STAT_runs
      | none => s2

/-- One entry takes effect: the shadow copy, and the register with what it sets going; of a domain that is off, what it sets going
follows at its wake (R471). Of an enable word, bits whose sources the requester may not write are ignored (R444). -/
def State.cmtEntry (ens : Tbl Nat) (e : Nat × Nat) (s : State) : State :=
  match enWord e.1 with
  | some w =>
    let m := tget ens w 0
    let v := ((s.shad e.1).toNat &&& (0xFFFFFFFF - m)) ||| (e.2 &&& m)
    { s with shadow := cellPut 0#32 s.shadow e.1 (BitVec.ofNat 32 v) }.writeEnable w m e.2
  | none =>
    let old := s.reg e.1
    let s1 := s.applyEntries [e]
    if within e.1 0x071000 0x100 then s1
    else if s.domOff e.1 then
      { s1 with cmt := { s1.cmt with asleep := if thas s1.cmt.asleep e.1 then s1.cmt.asleep else tset s1.cmt.asleep e.1 old } }
    else s1.imgHook e.1 old

/-- Registers that commits changed while their domains slept take their effect once those are awake (R471). -/
def State.awoken (s : State) : State :=
  let due := s.cmt.asleep.filter (fun e => !s.domOff e.1)
  if due.isEmpty then s
  else
    forEach due (fun e (s : State) => s.imgHook e.1 e.2)
      { s with cmt := { s.cmt with asleep := s.cmt.asleep.filter (fun e => s.domOff e.1) } }

/-- A commit enables a stream: it opens, or opens anew once it has closed where that waits (R164). -/
def State.turnOpen (st : Nat) (s : State) : State :=
  if (s.strm st).opened then s.setStrm st { s.strm st with again := true } else s.strmOpen st

/-- The groups whose period or phase a commit has changed are planned anew, each once (R158). -/
def State.grpsTurn (old : State) (s : State) : State :=
  forEach ((List.range 8).filter (fun g => !(s.grpP g == old.grpP g && s.grpPhase g == old.grpPhase g))) State.grpReplan s

/-- The boundary of one accepted commit (R96): streams that it enables open; placement runs and streams that it disables close at
the target frame's boundary, at once where there is no open target stream (R97, R164). -/
def State.cmtApply (c : Commit) (s : State) : State :=
  let before := s.strmsEn
  let s1 := ((forEach c.entries (State.cmtEntry c.ens) s).grpsTurn s).epochStep (c.entries.flatMap (fun e => setsTouched e.1))
  let closes := before.filter (fun st => !s1.strmsEn.contains st)
  let run := plcChanged s s1
  let s2 := forEach (s1.strmsEn.filter (fun st => !before.contains st)) State.turnOpen s1
  let s3 := match c.target with
    | some (st, F) =>
      if (s2.strm st).opened then { s2 with cmt := { s2.cmt with turns := s2.cmt.turns ++ [Turn.mk (st, F) closes run] } }
      else s2.turnNow closes run
    | none => s2.turnNow closes run
  (s3.recfg c.target).put Fld.BOOT_CMT_STAT_state 2

/-- COMMIT_EXECUTE (R96): the first accepted commit whose boundary has come. -/
def State.cmtExecute (s : State) : State :=
  if !s.loaded then s
  else
    match s.cmt.waiting.find? (fun c => s.deadlineFell c.target) with
    | none => s
    | some c => { s with cmt := { s.cmt with waiting := s.cmt.waiting.erase c } }.cmtApply c

/-! ## Table reload: go (R230) -/

/-- Why a reload is refused, 0 = accepted (R230). -/
def State.trlReason (s : State) (r : Nat) : Nat :=
  let st := s.get Fld.EAS_TRL_TARGET_stream
  let typ := trlType (s.get Fld.EAS_TRL_TARGET_kind)
  let p := s.trlPayload
  let F := s.get Fld.EAS_TRL_FRAME_frame
  let new := { s with img := s.img.withPayload typ st p }
  if !(typ == 0) && (s.img.find typ st).isSome && !s.payloadOk typ st p then 0x13
  else if !(s.get Fld.EAS_TRL_EPOCH_epoch == s.get Fld.CEN_EPOCH_epoch) then 0x21
  else if !s.mayWrite (Reg.GRD_STRM st) (s.reqDomain r) then 0x22
  else if !(match s.img.find typ st with
    | some c => !(typ == 0) && bit c.flags 1
    | none => false) then 0x23
  else if s.flag Fld.EAS_TRL_TARGET_has_target && (!(s.strm st).opened || s.passed st F) then 0x24
  else if s.get Fld.CEN_EPOCH_epoch == 0xFFFFFFFF then 0x25
  else if !(cellsFor p.length == cellsFor (s.tabPayload typ st).length) then 0x40
  else if Nat.blt (s.get Fld.PLC_CELLS_free) (cellsFor p.length) then 0x41
  else if !new.rules0F then 0x0F
  else 0

/-- EAS_TRL_CTRL.cmd = go (R230, R231). -/
def State.trlGo (r : Nat) (s : State) : State :=
  if !(s.trl.claim == some r) || s.trl.waiting.isSome || s.trl.held.isSome then s
  else
    let why := s.trlReason r
    if !(why == 0) then
      let s1 := { s with trl := { s.trl with claim := none } }
      ((s1.put Fld.EAS_TRL_STAT_reason why).put Fld.EAS_TRL_STAT_state 3).put Fld.EAS_TRL_CTRL_owner 0
    else
      let st := s.get Fld.EAS_TRL_TARGET_stream
      let p := s.trlPayload
      let n := cellsFor p.length
      let (s0, cs) := s.palAlloc 7 st n
      let w : Reload := ⟨trlType (s.get Fld.EAS_TRL_TARGET_kind), st, p,
        if s.flag Fld.EAS_TRL_TARGET_has_target then some (s.get Fld.EAS_TRL_FRAME_frame) else none, cs⟩
      let s1 := { s0 with trl := { s.trl with waiting := some w } }
      ((((s1.palWrite cs p).put Fld.EAS_TRL_STAT_reason 0).put Fld.EAS_TRL_STAT_state 1).put Fld.EAS_TRL_STAT_cells n).cellsShow

/-! ## The flash commands (R98) -/

/-- Whether flash commands are taken: in Active or in a failed Boot. -/
def State.norServed (s : State) : Bool := s.phase == .active || s.phase == .failed

/-- Whether an address lies where no erase or program may go: the loaded slot, the journal, the reserved areas (R98, R78). -/
def State.norKept (s : State) (a : Nat) : Bool :=
  Nat.ble 0x02000000 a || (!(s.img.slot == 0) && a / 0x1000000 == s.img.slot - 1)

/-- The page buffer's bytes. -/
def State.norBuf (s : State) : List Nat := (List.range 64).flatMap (fun n => leBytes 4 (s.reg (Reg.BOOT_NOR_BUF n)).toNat)

/-- A write of BOOT_NOR_CTRL.op (R98): 1 erase, 2 program, 3 read. -/
def State.norCmd (op : Nat) (s : State) : State :=
  if !s.norServed || s.norOp.isSome then s
  else
    let s1 := s.put Fld.BOOT_NOR_CTRL_op op
    let a := s.get Fld.BOOT_NOR_ADDR_addr
    if op == 0 then s1
    else if !(op == 3) && s.norKept a then s1.put Fld.BOOT_NOR_CTRL_reason 0x30
    else if !(a % (if op == 1 then 0x10000 else 256) == 0) then s1.put Fld.BOOT_NOR_CTRL_reason 0x32
    else
      let s2 := (s1.put Fld.BOOT_NOR_CTRL_reason 0).put Fld.BOOT_NOR_CTRL_busy 1
      let s3 := { s2 with norOp := some ⟨op, a, if op == 2 then s.norBuf else [], s.life.op.isNone⟩ }
      if op == 1 then s3.lifeItem 227 1 else s3

/-- NOR_OP_DONE (R98): the flash has ended the operation, unless a journal write takes precedence, which goes first (R462); one that
waited for it starts. An erase or program that the flash reports as failed leaves its bytes open. -/
def State.norDone (failed : Bool) (s : State) : State :=
  match s.norOp with
  | none => s
  | some o =>
    if s.life.op.isSome then s
    else
    let s1 := { s with norOp := none }.put Fld.BOOT_NOR_CTRL_busy 0
    State.jrStart (if o.op == 3 then
      forEach (List.range 64) (fun n s => s.setReg (Reg.BOOT_NOR_BUF n) (BitVec.ofNat 32 (leVal (s.norRead (o.addr + 4 * n) 4)))) s1
    else if failed then
      (s1.norOpen o.addr (if o.op == 1 then 65536 else 256)).put Fld.BOOT_NOR_CTRL_reason 0x31
    else if o.op == 1 then s1.norErase o.addr
    else s1.norProg o.addr o.data)

end Sys2Proof.Machine
end

