-- ==== Sys2Proof/Machine/Access.lean ====
section
/-! DEFINITION. Machine/Access.lean: register reads and writes of the requesters: the guard check, the values that a read
returns, and the effect of a write on each register (R4 to R7, R304 to R306, R441 to R446, R468 to R475). -/

namespace Sys2Proof.Machine

/-! ## The value of a register (R469, R471, R477) -/

/-- The stored word of a register; of a domain that is off, the image fields come from the shadow copy (R471). -/
def State.stored (s : State) (off : Nat) : Nat :=
  if s.domOff off then
    let m := imgMask off
    ((s.reg off).toNat &&& (0xFFFFFFFF - m)) ||| ((s.shad off).toNat &&& m)
  else (s.reg off).toNat

/-- Whether a domain holds a live cell, an open frame or a queue item (R66). -/
def State.domLive (s : State) (d : Nat) : Bool :=
  if d < 48 then !(s.get ⟨Reg.PORT_FSTAT (d / 2), 3, 0⟩ == 0)
  else if d < 84 then
    (match easelOf d with
     | some e => s.frames.any (fun f => f.isOpen && f.easel == e)
     | none => false)
  else if d < 132 then !(s.groupLive (d - 84) == 0)
  else if d < 134 then !(s.halfUsed (d - 132) == 0)
  else false

/-- The oldest output of a ring that is neither published nor dropped: its number, and whether writes or a flush read of it
are in flight (R339). -/
def State.ringHead (s : State) (r : Nat) : Nat × Bool :=
  match s.erkPourOf r with
  | some p => (p.num, p.phase == .bound || p.phase == .written)
  | none =>
    if Nat.ble 256 r then
      match (s.grp (r - 256)).periods with
      | p :: _ => (p.num, p.due.isSome)
      | [] => ((s.grp (r - 256)).periodNo, false)
    else
      match s.winHead (r / 8) (r % 8) with
      | some (f, x) => (f.num, x.phase == .bound || x.phase == .written)
      | none => (s.nextNum (r / 8), false)

/-- OUT_r_STAT (R339). -/
def State.ringStat (s : State) (r : Nat) : Nat :=
  let (num, busy) := s.ringHead r
  match s.fetchOf r num with
  | some f => b2n f.got.isSome * 2 ^ 31 + b2n (f.got.isNone && Nat.ble 16 f.tries) * 2 ^ 30 + b2n busy * 2 ^ 29 + Nat.min 16 f.tries * 2 ^ 24
  | none => b2n (busy || thas (s.ring r).kept (s.slotOf r num)) * 2 ^ 31 + b2n busy * 2 ^ 29

/-- EVT_SUM_n for requester r: the words that hold an active source that r can read (R444, R451). -/
def State.evSum (s : State) (r n : Nat) : Nat :=
  maskOf ((List.range 32).filter (fun j => (List.range 32).any (fun b =>
    let src := 32 * (32 * n + j) + b
    Nat.blt src 1536 && s.srcActive src && s.srcRead r src)))

/-- Half of a 64-bit value. -/
def halfWord (v : Nat) (high : Bool) : Nat := if high then v / 2 ^ 32 % 2 ^ 32 else v % 2 ^ 32

/-- The LIFE_ registers, which the warmer and the control island hold (R467); none = a stored register. -/
def State.peekLife (s : State) (off : Nat) : Option Nat :=
  let w := s.warm
  if off == Reg.LIFE_STAT then
    some (putBits (putBits (putBits (s.reg off).toNat 31 31 (b2n w.calValid)) 29 29 (b2n (s.life.op.isSome || s.life.parked.isSome))) 28 28 (b2n s.jrStopped))
  else if off == Reg.LIFE_CAL then some (halfWord w.cal false)
  else if off == Reg.LIFE_CAL + 4 then some (halfWord w.cal true)
  else if off == Reg.LIFE_SEQ then some w.seq
  else if off == Reg.LIFE_NOR then some (w.failures * 2 ^ 24 + w.supwLate * 2 ^ 16 + s.badCount)
  else if off == Reg.LIFE_BAD then some (halfWord w.bad false)
  else if off == Reg.LIFE_BAD + 4 then some (halfWord w.bad true)
  else if within off (Reg.LIFE_CORE 0) 16 then some (s.coreNow ((off - Reg.LIFE_CORE 0) / 4))
  else if within off (Reg.LIFE_ITEM 0) (4 * 231) then some (s.itemNow ((off - Reg.LIFE_ITEM 0) / 4))
  else none

/-- The registers of the control blocks that show live state to requester r; none = a stored register. -/
def State.peekCtl (s : State) (r off : Nat) : Option Nat :=
  if off == Reg.GLB_SELF then some (r * 2 ^ 16 + s.reqDomain r * 2 ^ 8 + b2n (r == s.holder))
  else if off == Reg.PM_STATE then some (b2n s.pw.supw * 2 ^ 8 + s.get Fld.PM_STATE_state)
  else if within off (Reg.PM_DSTAT 0) 0x980 && (off - Reg.PM_DSTAT 0) % 16 == 0 then
    (let d := (off - Reg.PM_DSTAT 0) / 16
     some (putBits (putBits (s.reg off).toNat 4 4 (b2n (s.domLive d))) 3 3 (b2n (s.domBist d))))
  else if off == Reg.PM_AVS_STAT then
    some (putBits (s.reg off).toNat 25 25 (b2n (s.get Fld.PM_AVS_STAT_code == s.get Fld.PM_AVS_CTRL_vmax)))
  else if off == Reg.BIST_STAT then
    some (match s.plc.resting with
      | some e => if s.restTested e then putBits (putBits (s.reg off).toNat 31 31 1) 15 8 (48 + 2 * e) else (s.reg off).toNat
      | none => (s.reg off).toNat)
  else if within off (Reg.CHK_CTRL 0) 0x400 && (off - Reg.CHK_CTRL 0) % 0x40 == 0x28 && s.loaded then
    (let t := s.chkTaker ((off - Reg.CHK_CTRL 0) / 0x40)
     some (putBits (putBits (s.reg off).toNat 31 31 (b2n (!(t == 0)))) 30 28 t))
  else if off == Reg.BOOT_RST_CAUSE then some s.warm.causes
  else if within off (Reg.EVT_SUM 0) 8 then some (s.evSum r ((off - Reg.EVT_SUM 0) / 4))
  else if within off (Reg.EVT_STAT 0) 0xC0 then some ((s.reg off).toNat &&& s.srcReadMask r ((off - Reg.EVT_STAT 0) / 4))
  else if within off (Reg.EVT_EN 0) 0xC0 then some ((s.reg off).toNat &&& s.srcReadMask r ((off - Reg.EVT_EN 0) / 4))
  else if off == Reg.GRD_STAT then some (putBits (s.reg off).toNat 14 14 (b2n s.grdDirty))
  else if within off (Reg.CEN_DIGEST 0) 16 then some (s.cenDigestWord (s.reqDomain r) ((off - Reg.CEN_DIGEST 0) / 4))
  else if within off 0x060000 0x10000 then s.peekLife off
  else if off == Reg.TIME_NOW then some (halfWord s.now false)
  else if off == Reg.TIME_NOW + 4 then some (halfWord s.now true)
  else none

/-- The registers of the pixel and output blocks that show live state; none = a stored register. -/
def State.peekPix (s : State) (r off : Nat) : Option Nat :=
  if within off (Reg.PORT_CFG 16) 0x8000 && off % 0x1000 == 0 then some (putBits (s.stored off) 1 1 1)
  else if within off (Reg.PORT_CFG 16) 0x8000 && off % 0x1000 == 8 then
    (let p := (off - Reg.PORT_CFG 0) / 0x1000
     let a := s.comboUp p false
     some (putBits (putBits (s.reg off).toNat 7 4 (if a then s.get (Fld.PORT_CFG_lanes_a p) else 0)) 1 0
       (b2n a + 2 * b2n (s.comboUp p true))))
  else if within off (Reg.STRM_STAT 0) 0x40000 && (off - Reg.STRM_STAT 0) % 0x2000 == 0 then
    (let st := (off - Reg.STRM_STAT 0) / 0x2000
     some (if s.flag (Fld.STRM_STAT_open st) || !(s.strm st).opened then (s.reg off).toNat
       else putBits (s.reg off).toNat 27 24 (s.placeTarget st).2))
  else if within off (Reg.EAS_STAT 0) 0xC0000 && off % 0x10000 == 0 then
    (let e := (off - Reg.EAS_STAT 0) / 0x10000
     some (putBits (s.reg off).toNat 31 30 (2 * b2n (s.dom (48 + 2 * e) == .on || s.dom (48 + 2 * e) == .draining) +
       b2n (s.dom (49 + 2 * e) == .on || s.dom (49 + 2 * e) == .draining))))
  else if within off 0x500000 0x10000 && Nat.ble 0x204 (off % 0x800) && Nat.blt (off % 0x800) 0x400 then
    some (s.resWord ((off - 0x500000) / 0x800) (s.reqDomain r) ((off % 0x800 - 0x204) / 4))
  else if within off (Reg.CSO_CFG 0) 0x400 && off % 0x100 == 4 then
    (let n := (off - Reg.CSO_CFG 0) / 0x100
     some (putBits (putBits (s.stored off) 15 0 (Nat.min 0xFFFF (s.stored off % 2 ^ 16 + s.csoEnded n))) 31 31
       (b2n (s.csoBusy n || !(tget s.outHeld n []).isEmpty))))
  else if off == Reg.PAL_CELLS then some (s.cells.length * 2 ^ 16 + (palCells - s.cells.length))
  else if within off (Reg.PAL_GROUP 0) 192 then
    (let g := (off - Reg.PAL_GROUP 0) / 4
     some (b2n (s.groupOn g) * 2 ^ 31 + s.groupLive g))
  else if off == Reg.QUE_POOL then some (s.quePool.1 * 2 ^ 16 + s.quePool.2)
  else if within off 0x700000 0x8000 && off % 0x100 == 0 then
    some (putBits (s.stored off) 30 30 (b2n (s.pourCh ((off - 0x700000) / 0x100))))
  else if within off 0x800000 0x4200 && off % 0x40 == 0x10 then some (s.ringHead ((off - 0x800000) / 0x40)).1
  else if within off 0x800000 0x4200 && off % 0x40 == 0x14 then some (s.ringStat ((off - 0x800000) / 0x40))
  else none

/-- The word of a register as requester r reads it, without the effects of a read. -/
def State.peek (s : State) (r off : Nat) : Nat :=
  ((if off < 0x100000 then s.peekCtl r off else s.peekPix r off).getD (s.stored off)) % 2 ^ 32

/-- A register word as a scan feeds it: 0 where the register has RS or WO access or does not exist (R395). -/
def State.scanReg (s : State) (off : Nat) : Nat :=
  match rowOf off with
  | none => 0
  | some row => if row.rs == 0 && row.wo == 0 then s.peek 19 off else 0

/-! ## Reads -/

/-- A read with its effect (RS access) of a register that has one; none = a read without effect. A register of a domain
that is off answers from what was saved and changes nothing (R471). -/
def State.readEffect (s : State) (r off : Nat) : Option (Nat × State) :=
  if s.domOff off then none
  else if off == Reg.PM_REFUSE then some (s.peek r off, s.put Fld.PM_REFUSE_valid 0)
  else if off == Reg.PLC_REF then some (s.peek r off, s.put Fld.PLC_REF_valid 0)
  else if off == Reg.CEN_PUB then some (s.cenPubRead (s.reqDomain r))
  else if off == Reg.HL_TAGS then some (s.peek r off, s.put Fld.HL_TAGS_peak (s.get Fld.HL_TAGS_now))
  else if off == Reg.TXE_BUF then
    some (s.get Fld.TXE_BUF_peak * 2 ^ 16 + s.txeLive, s.put Fld.TXE_BUF_peak s.txeLive)
  else if within off 0x100000 0x18000 && off % 0x1000 == 0x0C then
    (let p := (off - 0x100000) / 0x1000
     some (s.peek r off, s.put (Fld.PORT_EQ_min_margin p) (s.get (Fld.PORT_EQ_margin p))))
  else if within off 0x400000 0xC0000 && off % 0x10000 == 0x10 then
    some (s.peek r off, s.put (Fld.EAS_WAIT_max_wait ((off - 0x400000) / 0x10000)) 0)
  else if within off 0x500000 0x10000 && off % 0x800 == 0x200 then
    some (s.resHead ((off - 0x500000) / 0x800) (s.reqDomain r))
  else none

/-- A read of the low half of a 64-bit register, or of the whole of it: its value, and the state after a pop (R4, R288). -/
def State.read64 (s : State) (r off : Nat) : Nat × State :=
  if within off 0x620000 0x1800 && off % 0x40 == 0x20 && !s.domOff off then s.quePop ((off - 0x620000) / 0x40)
  else (s.peek r off + 2 ^ 32 * s.peek r (off + 4), s)

/-- One 32-bit read that has passed its check (R4, R5, R6). -/
def State.regRead (r off : Nat) (s : State) : Nat × State :=
  match rowOf off with
  | none => (0, s)
  | some row =>
    match row.width with
    | .low =>
      let (v, s1) := s.read64 r off
      (halfWord v false, { s1 with latch := tset s1.latch off (halfWord v true) })
    | .high => ((tget? s.latch (off - 4)).getD (s.peek r off), s)
    | _ => (s.readEffect r off).getD (s.peek r off, s)

/-- A word of a function's MSI-X table or pending-bit array (R306). -/
def State.msixRead (s : State) (fn o : Nat) : Nat :=
  let n := if fn == 0 then 2048 else 64
  if Nat.blt o (16 * n) then s.msixWord fn o
  else if Nat.ble 0x8000 o && Nat.blt (8 * (o - 0x8000)) n then
    maskOf ((List.range 32).filter (fun b => s.msixPend.contains (vecKey fn (8 * (o - 0x8000) + b))))
  else 0

/-! ## Writes -/

/-- A write to a function's MSI-X table; of the vector control word the mask bit alone is kept (R306, R437). -/
def State.msixWrite (fn o v : Nat) (s : State) : State :=
  let n := if fn == 0 then 2048 else 64
  if !(Nat.blt o (16 * n)) then s
  else if o % 16 == 12 then (s.setMsixWord fn o (BitVec.ofNat 32 (v % 2))).msiUnmasked fn (o / 16)
  else s.setMsixWord fn o (BitVec.ofNat 32 v)

/-- A written value with the W1C bits left out whose condition occurs in the same cycle: setting wins over the clear (R6, R7). A status
word is cleared as written, and the sources that occur in the cycle then set it again, so that they rise (R433). -/
def setWins (off v now : Nat) : Nat :=
  if within off (Reg.EVT_STAT 0) 0xC0 then v
  else
    match rowOf off with
    | some row => v - (v &&& now &&& row.w1c)
    | none => v

/-- The sources whose status bits a word names. -/
def srcsOf (off now : Nat) : List Nat :=
  if within off (Reg.EVT_STAT 0) 0xC0 then (onesOf 32 now).map (fun b => 32 * ((off - Reg.EVT_STAT 0) / 4) + b) else []

/-- A write to the fields of a register by their access: RW fields take the value, W1C bits clear, W1S bits set (R6, R470). -/
def State.plainWrite (off v : Nat) (s : State) : State :=
  match rowOf off with
  | none => s
  | some row =>
    let old := (s.reg off).toNat
    let kept := (old &&& (0xFFFFFFFF - row.rw)) ||| (v &&& row.rw)
    let new := (kept - (kept &&& v &&& row.w1c)) ||| (v &&& row.w1s)
    (s.setReg off (BitVec.ofNat 32 new)).imgHook off (BitVec.ofNat 32 old)

/-- Both halves of a 64-bit register take effect together (R4). -/
def State.write64 (off v : Nat) (s : State) : State :=
  if off == Reg.LIFE_CAL_SET then { s with warm := { s.warm with calSet := some (v % 2 ^ 48) } }
  else if off == Reg.TIME_TOD then { s with tm := { s.tm with tod := some v } }
  else if off == Reg.OUT_FAULT_MBOX then s.faultMail (v / 4096) (v % 16)
  else (s.plainWrite off (halfWord v false)).plainWrite (off + 4) (halfWord v true)

/-- BOOT_CMD (R99): the key, then a software reset, a host-link reset, or the raising of the rollback floor. -/
def State.bootCmd (v : Nat) (s : State) : State :=
  if !(v / 2 ^ 16 == 0x5A3C) then s
  else if v % 16 == 1 then s.fullReset 8 false
  else if v % 16 == 2 then s.hlResetCause
  else if v % 16 == 3 then s.raiseFloor s.pw.vfuse
  else s

/-- PLC_EASEL_CTRL (R185, R188, R196). -/
def State.easelCmd (v : Nat) (s : State) : State :=
  if !(v / 2 ^ 16 == 0x5A3C) || Nat.ble 12 (v % 16) then s
  else if bits v 9 8 == 1 then s.retire (v % 16) 5
  else if bits v 9 8 == 2 then s.readmitAsk (v % 16)
  else s

/-- BIST_CTRL (R417, R427). -/
def State.bistCmd (v : Nat) (s : State) : State :=
  if !(v / 2 ^ 16 == 0x5A3C) then s
  else if bits v 9 8 == 3 then s.bistFuse (v % 256) s.pw.vfuse
  else if bits v 9 8 == 0 then s
  else s.bistStart (bits v 9 8) (v % 256)

/-- EVT_CNT_CLR (R434). -/
def State.cntClear (r v : Nat) (s : State) : State :=
  if bit v 31 then
    forEach (List.range 1536) (fun n s => if s.srcWrite r n then s.setReg (Reg.EVT_CNT n) 0 else s) s
  else
    let n := v % 2048
    if Nat.blt n 1536 && s.srcWrite r n then s.setReg (Reg.EVT_CNT n) 0 else s

/-- CHK_n_CTRL (R390 to R395): the fields are written, then the commands act in the order close, start, scan, abort. The spec does
not say when these W1S bits clear again: the model never holds them, so they read 0 (DESIGN CHOICE, log 93). -/
def State.chkCtrl (r n v : Nat) (s : State) : State :=
  let s0 := if bit v 30 then s.chkClose r n else s
  let s1 := (s0.plainWrite (Reg.CHK_CTRL n) (v % 2 ^ 28)).chkShow n
  let s2 := if bit v 31 then s1.chkStart r n else s1
  let s3 := if bit v 29 then s2.chkScan r n else s2
  if bit v 28 then s3.chkAbort n else s3

/-- SC_p_XFER (R161): fields are taken at the write of go; a go while one is in flight is ignored. DESIGN CHOICE (log 164): a width to
which the table gives no meaning acts as one byte. -/
def State.scXfer (p v : Nat) (s : State) : State :=
  let old := (s.reg (Reg.SC_XFER p)).toNat
  let s1 := s.setReg (Reg.SC_XFER p) (BitVec.ofNat 32 ((v &&& 0x4F80FFFF) ||| (old &&& 0xB0000000)))
  if !bit v 31 || bit old 31 then s1
  else
    s1.mailGo p ⟨bit v 30, if bits v 27 26 == 2 then 2 else 1, bits v 25 24, bit v 23, v % 2 ^ 16, s.get (Fld.SC_XDATA_data p)⟩

/-- The commit buffer's registers (R94): only the claiming requester writes them. -/
def State.cmtWrite (r off v : Nat) (s : State) : State := if s.cmtMine r then s.plainWrite off v else s

/-- The reload buffer's registers (R229, R235): only the claiming requester writes them. -/
def State.trlWrite (r off v : Nat) (s : State) : State := if s.trl.claim == some r then s.plainWrite off v else s

/-- TXE_c_CTRL (R353 to R355). -/
def State.txeCtrl (c v : Nat) (s : State) : State :=
  let s1 := if !(bit v 0 == s.flag (Fld.TXE_CTRL_pause c)) then s.txePause c (bit v 0) else s
  let s2 := if bit v 1 then s1.txeResume c else s1
  if bit v 2 then s2.txeAbort c else s2

/-- Writes with an effect of their own, of the control blocks; none = a plain write. -/
def State.writeCtl (r off v : Nat) (s : State) : Option State :=
  if off == Reg.PM_CTRL then
    some (if v % 4 == 1 then s.standbyEnter r else if v % 4 == 2 then s.wakeCmd r else s)
  else if within off (Reg.PM_DCTRL 0) 0x980 && off % 16 == 0 then some (s.dctrlWrite r ((off - Reg.PM_DCTRL 0) / 16) v)
  else if off == Reg.BOOT_RST_CAUSE then
    some { s with warm := { s.warm with causes := s.warm.causes - (s.warm.causes &&& v) } }
  else if off == Reg.BOOT_CMD then some (s.bootCmd v)
  else if off == Reg.BOOT_CMT_CTRL then
    some (if v % 4 == 1 then s.cmtOpen r else if v % 4 == 2 then s.cmtGo r else if v % 4 == 3 then s.cmtAbort r else s)
  else if within off Reg.BOOT_CMT_TARGET 0x10 || within off (Reg.BOOT_CMT_DATA 0) 0x1000 then some (s.cmtWrite r off v)
  else if off == Reg.BOOT_NOR_CTRL then some (s.norCmd (v % 4))
  else if off == Reg.EVT_CNT_CLR then some (s.cntClear r v)
  else if within off (Reg.EVT_STAT 0) 0xC0 then
    some (s.clearStatus ((off - Reg.EVT_STAT 0) / 4) (v &&& s.srcWriteMask r ((off - Reg.EVT_STAT 0) / 4)))
  else if within off (Reg.EVT_EN 0) 0xC0 then
    some (s.writeEnable ((off - Reg.EVT_EN 0) / 4) (s.srcWriteMask r ((off - Reg.EVT_EN 0) / 4)) v)
  else if off == Reg.GRD_CTRL then
    some (let s1 := if bit v 0 then s.grdApply else s
          if bit v 1 then s1.grdDiscard else s1)
  else if within off 0x058000 0x400 then
    (let n := (off - 0x058000) / 0x40
     if off % 0x40 == 0 then some (s.chkCtrl r n v)
     else if off % 0x40 == 4 then some (s.chkRunWrite r n v)
     else if off % 0x40 == 8 then some (s.chkFeed r n v)
     else if off % 0x40 == 0x14 then some (s.chkAlive n (v % 2 ^ 16))
     else none)
  else if within off 0x080300 0x20 && off % 16 == 4 then some (s.glueGo ((off - 0x080300) / 16) v)
  else if off == Reg.ERK_PCTL then some (s.erkCtl v)
  else if off == Reg.BIST_CTRL then some (s.bistCmd v)
  else if off == Reg.FI_CTRL then some (s.fiEnable (bit v 31))
  else none

/-- Writes with an effect of their own, of the other blocks; none = a plain write. -/
def State.writePix (r off v : Nat) (s : State) : Option State :=
  if within off 0x120000 0x1800 && off % 0x100 == 8 then some (s.scXfer ((off - 0x120000) / 0x100) v)
  else if off == Reg.PLC_EASEL_CTRL then some (s.easelCmd v)
  else if off == Reg.PLC_ROT then
    some (if r == s.holder then s.plainWrite off v else s.plainWrite off ((v &&& 0xFFFF0000) + s.get Fld.PLC_ROT_period))
  else if off == Reg.EAS_TRL_CTRL then
    some (if v % 4 == 1 then s.trlOpen r else if v % 4 == 2 then s.trlGo r else if v % 4 == 3 then s.trlAbort r else s)
  else if within off Reg.EAS_TRL_TARGET 0x10 || within off (Reg.EAS_TRL_BUF 0) 0x20000 then some (s.trlWrite r off v)
  else if within off 0x510000 0x40000 && off % 0x2000 == 4 then
    (let st := (off - 0x510000) / 0x2000
     some (if v % 4 == 1 then s.ldgCmd true st false else if v % 4 == 2 then s.ldgCmd true st true else s))
  else if within off 0x620000 0x1800 && off % 0x40 == 0x18 then some (s.quePushBy r ((off - 0x620000) / 0x40) v)
  else if within off 0x620000 0x1800 && off % 0x40 == 0x1C then
    some (if bit v 0 then s.queReset ((off - 0x620000) / 0x40) else s)
  else if within off 0x700000 0x8000 && off % 0x100 == 0x10 then some (s.txeDoorbell ((off - 0x700000) / 0x100))
  else if within off 0x700000 0x8000 && off % 0x100 == 0x14 then some (s.txeCtrl ((off - 0x700000) / 0x100) v)
  else if within off 0x800000 0x4200 && off % 0x40 == 0x0C then some (s.doorbell ((off - 0x800000) / 0x40))
  else none

/-- One 32-bit write that has passed its check. -/
def State.regWrite (r off v : Nat) (s : State) : State :=
  match rowOf off with
  | none => s
  | some row =>
    match row.width with
    | .low => { s with held := tset s.held off v }
    | .high =>
      let low := (tget? s.held (off - 4)).getD (s.reg (off - 4)).toNat
      { s with held := tdel s.held (off - 4) }.write64 (off - 4) (low + 2 ^ 32 * v)
    | _ => ((if off < 0x100000 then s.writeCtl r off v else s.writePix r off v)).getD (s.plainWrite off v)

/-- A write to a register whose domain is off is dropped and counted (R471). -/
def State.offWrite (off : Nat) (s : State) : State :=
  (s.bump Fld.GLB_OFFWR_count).put Fld.GLB_OFFWR_domain ((domainOf off).getD 0)

/-- Whether a requester reaches Falith at all: Falith runs, and of the functions, that it exists (R303, R475). -/
def State.reqReaches (s : State) (r : Nat) : Bool :=
  s.runs && (!(Nat.blt r 16) || (s.fn r).present)

/-- What a denied write leaves beside the guard's log: a host command of a requester that does not own the stream is refused with
0x22 (R259), a write of QUE_q_PUSH by one that does not own the queue counts as a protocol error (R286). -/
def State.denyMark (off v c : Nat) (s : State) : State :=
  if !(c == 2) then s
  else if within off 0x510000 0x40000 && off % 0x2000 == 4 && (v % 4 == 1 || v % 4 == 2) then
    s.put (Fld.LDG_CMD_CTRL_reason ((off - 0x510000) / 0x2000)) 0x22
  else if within off 0x620000 0x1800 && off % 0x40 == 0x18 then s.bump (Fld.QUE_STAT_proto ((off - 0x620000) / 0x40))
  else s

/-- A checked write: denied and logged, or carried out (R443, R446, R471). -/
def State.busWrite (r off v : Nat) (s : State) : State :=
  if !s.reqReaches r then s
  else
    match s.denyReason r off (some v) with
    | some c => (s.denyMark off v c).logDeny r off true false c
    | none =>
      if inMsix off then s.msixWrite r (off - 0x910000) v
      else if s.domOff off && (rowOf off).isSome then s.offWrite off
      else s.regWrite r off v

/-- A checked access with an effect of its own: denied and logged, dropped for a domain that is off, or carried out. -/
def State.busDo (r off v : Nat) (f : State → State) (s : State) : State :=
  if !s.reqReaches r then s
  else
    match s.denyReason r off (some v) with
    | some c => (s.denyMark off v c).logDeny r off true false c
    | none => if s.domOff off then s.offWrite off else f s

/-- A checked 4-byte write with the bits of the register whose conditions occur in the same cycle (R6, R7, R433). -/
def State.busWriteNow (r off v now : Nat) (s : State) : State :=
  (s.busWrite r off (setWins off v now)).occurAll (srcsOf off now)

/-- The reason for which an 8-byte write is denied: that of its first half, else that of its second, which only the holder may write
though the first is open to others (R445, R446). -/
def State.denyReason64 (s : State) (r off v : Nat) : Option Nat :=
  match s.denyReason r off (some (halfWord v false)) with
  | some c => some c
  | none => s.denyReason r (off + 4) (some (halfWord v true))

/-- A 64-bit access writes a 64-bit register as a whole, or two registers in ascending offset (R4, R304). A low half held for a later
write of the high half alone stays held (DESIGN CHOICE, log 92). -/
def State.busWrite64 (r off v : Nat) (s : State) : State :=
  if !s.reqReaches r then s
  else
    match s.denyReason64 r off v with
    | some c => ((s.denyMark off (halfWord v false) c).denyMark (off + 4) (halfWord v true) c).logDeny r off true false c
    | none =>
      if inMsix off then (s.msixWrite r (off - 0x910000) (halfWord v false)).msixWrite r (off - 0x910000 + 4) (halfWord v true)
      else if s.domOff off && (rowOf off).isSome then s.offWrite off
      else
        match rowOf off with
        | some row => if row.width == .low then s.write64 off v else
            (s.regWrite r off (halfWord v false)).regWrite r (off + 4) (halfWord v true)
        | none => s.regWrite r (off + 4) (halfWord v true)

/-- A checked 32-bit read: the value and the state after it. -/
def State.busRead (r off : Nat) (s : State) : Nat × State :=
  match s.denyReason r off none with
  | some c => (denyWord c, s.logDeny r off false false c)
  | none => if inMsix off then (s.msixRead r (off - 0x910000), s) else s.regRead r off

/-- A 64-bit read (R4, R304); one of QUE_q_POP latches its word (R288). -/
def State.busRead64 (r off : Nat) (s : State) : Nat × State :=
  match s.denyReason r off none with
  | some c => (denyWord c + 2 ^ 32 * denyWord c, s.logDeny r off false false c)
  | none =>
    if inMsix off then (s.msixRead r (off - 0x910000) + 2 ^ 32 * s.msixRead r (off - 0x910000 + 4), s)
    else
      match rowOf off with
      | some row =>
        if row.width == .low then
          (let (v, s1) := s.read64 r off
           (v, if within off 0x620000 0x1800 then { s1 with latch := tset s1.latch off (halfWord v true) } else s1))
        else
          let (a, s1) := s.regRead r off
          let (b, s2) := s1.regRead r (off + 4)
          (a + 2 ^ 32 * b, s2)
      | none =>
        let (b, s2) := s.regRead r (off + 4)
        (2 ^ 32 * b, s2)

/-- A read by a requester, with the answer sent. -/
def State.readBy (r off : Nat) (s : State) : State :=
  if !s.reqReaches r then s
  else
    let (v, s1) := s.busRead r off
    s1.emit (.read r off v)

/-- A 64-bit read by a requester, with the answer sent. -/
def State.readBy64 (r off : Nat) (s : State) : State :=
  if !s.reqReaches r then s
  else
    let (v, s1) := s.busRead64 r off
    s1.emit (.read r off v)

/-! ## The palette view and accesses of a wrong form (R304, R305) -/

/-- Why an access to the palette view is denied (R446), window 44 of the guard table (R443); `write` = a write, which is denied in every case. -/
def State.palDeny (s : State) (r : Nat) (write : Bool) : Option Nat :=
  if !s.reqEnabled r then some 7
  else if !s.loaded then some 5
  else if write then some 6
  else if s.mayRead (Reg.GRD_WIN 44) (s.reqDomain r) then none
  else some 1

/-- PALETTE_VIEW_READ (R305): n bytes from an offset of BAR2. -/
def State.palBarRead (off n : Nat) (s : State) : State :=
  if !s.reqReaches 0 then s
  else
    match s.palDeny 0 false with
    | some c => (s.logDeny 0 off false true c).emit (.palRead 0 off (((List.range ((n + 3) / 4)).flatMap (fun _ => leBytes 4 (denyWord c))).take n))
    | none => s.palView 0 off n

/-- PALETTE_VIEW_WRITE (R305). -/
def State.palBarWrite (off : Nat) (s : State) : State :=
  if !s.reqReaches 0 then s else s.logDeny 0 off true true ((s.palDeny 0 true).getD 6)

/-- A correctable or an uncorrectable error is logged in AER (R338). -/
def State.aer (uncorr : Bool) (s : State) : State :=
  if uncorr then (s.bump Fld.HL_ERR_aer_uncorr).raise (evHl 5) else (s.bump Fld.HL_ERR_aer_corr).raise (evHl 4)

/-- MISALIGNED_ACCESS (R304): over PCIe a wrong width or alignment ends in Completer Abort or a dropped write, logged in
AER; from a target or the Erkuhar peer it is denied with 0x0009. -/
def State.misaligned (r off : Nat) (write : Bool) (s : State) : State :=
  if !s.reqReaches r then s
  else if Nat.blt r 16 then if write then s.aer true else (s.aer true).emit (.abort r off)
  else
    let c := if s.reqEnabled r then 9 else 7
    let s1 := s.logDeny r off write false c
    if write then s1 else s1.emit (.read r off (denyWord c))

end Sys2Proof.Machine
end

