-- ==== Sys2Proof/Machine/Targets.lean ====
section
/-! DEFINITION. Machine/Targets.lean: the SPI target, the I2C target and the accesses of the Erkuhar peer (R373 to R377,
R384). -/

namespace Sys2Proof.Machine

/-! ## The SPI target -/

/-- Whether the targets answer: not in Boot, not without an image (R25), not while the signal bridge is fenced or under
BIST (R416, R418). -/
def State.targetsOn (s : State) : Bool := s.loaded && !s.domHurt 146

/-- The frame that Falith sends while it receives one (R373): the outcome of the last accepted command. `busy` = that
command is still in progress. -/
def State.spiAnswer (s : State) (busy : Bool) : List Nat :=
  let x := s.sig.spi
  let low (k : Nat) : Nat := b2n ((nth s.faultPin k ⟨true, false⟩).low)
  let b := [if busy then 3 else x.status, x.seq] ++ beBytes 2 (s.get Fld.SIG_SPIT_STAT_alive) ++
    [b2n x.crcBad + 2 * b2n x.drop + 4 * low 0 + 8 * low 1] ++ beBytes 4 x.data ++ beBytes 4 (s.get Fld.CEN_EPOCH_epoch) ++ [0, 0]
  b ++ [crc8j b]

/-- Replace what the target keeps. -/
def State.setSpi (x : Spi) (s : State) : State := { s with sig := { s.sig with spi := x } }

/-- A read through a target: the denial reason's value and status 0x02, or the value (R373, R446). -/
def State.tgtRead (r off : Nat) (s : State) : Nat × Nat × State :=
  if !(off % 4 == 0) then
    let c := if s.reqEnabled r then 9 else 7
    (2, denyWord c, s.logDeny r off false false c)
  else
    match s.denyReason r off none with
    | some c => (2, denyWord c, s.logDeny r off false false c)
    | none =>
      let (v, s1) := s.busRead r off
      (0, v, s1)

/-- A write through a target, with the bits of the register whose conditions occur in the same cycle (R7). What the data bytes of
the answer hold after a write that was not denied is not stated. -/
def State.tgtWrite (r off v now : Nat) (s : State) : Nat × Nat × State :=
  if !(off % 4 == 0) then
    let c := if s.reqEnabled r then 9 else 7
    (2, denyWord c, s.logDeny r off true false c)
  else
    match s.denyReason r off (some v) with
    | some c => (2, denyWord c, ((s.denyMark off v c).logDeny r off true false c).occurAll (srcsOf off now))
    | none => (0, Config.openVal s.free 373 % 2 ^ 32, (s.busWriteNow r off v now).draw)

/-- Whether a frame on the SPI target has its 16 bytes, the last of which is the CRC-8 of the others (R373). -/
def spiWhole (b : List Nat) : Bool := b.length == 16 && crc8j (b.take 15) == nth b 15 0

/-- What an accepted frame asks for, by its bytes: status, data, and the state after it (R373). What the data bytes of the answer hold
after a wake or an unknown command is not stated. Bytes that the command does not use are not looked at (DESIGN CHOICE, log 153). -/
def State.spiCommand (b : List Nat) (now : Nat) (s : State) : Nat × Nat × State :=
  let op := nth b 0 0
  let off := beVal ((b.drop 2).take 3)
  if op == 1 then s.tgtRead 16 off
  else if op == 2 then s.tgtWrite 16 off (beVal ((b.drop 5).take 4)) now
  else if op == 3 then (0, Config.openVal s.free 373 % 2 ^ 32, (s.wakeCmd 16).draw)
  else (4, Config.openVal s.free 373 % 2 ^ 32, s.draw)

/-- A frame on the SPI target (R373, R374): the bytes between the fall and the rise of SPIT_CS_N; `busy` = the last accepted command is
still in progress; `now` = the bits of a written register whose conditions occur in the same cycle. -/
def State.spiFrame (b : List Nat) (now : Nat) (busy : Bool) (s : State) : State :=
  if !s.targetsOn then s
  else
    let s1 := s.emit (.spi (s.spiAnswer busy))
    let x := s1.sig.spi
    if !spiWhole b then (((s1.setSpi { x with crcBad := true, drop := false }).bump Fld.SIG_SPIT_STAT_crc_err)).raise (evSig 16)
    else if nth b 0 0 == 0 then s1.setSpi { x with crcBad := false, drop := false }
    else if busy then (((s1.setSpi { x with crcBad := false, drop := true }).bump Fld.SIG_SPIT_STAT_dropped)).raise (evSig 17)
    else
      let (status, data, s2) := s1.spiCommand b now
      s2.setSpi ⟨status, nth b 1 0, data, false, false⟩

/-- SAFETY_CYCLE (R375): the alive counter steps while the control island runs. -/
def State.safetyCycle (s : State) : State := if s.runs then s.wrapInc Fld.SIG_SPIT_STAT_alive else s

/-! ## The I2C target (R376) -/

/-- Whether the I2C target answers an address. -/
def State.i2ctOn (s : State) (addr : Nat) : Bool :=
  s.targetsOn && s.flag Fld.SIG_I2CT_CFG_enable && s.get Fld.SIG_I2CT_CFG_addr == addr

/-- A message with a wrong CRC: not acknowledged, discarded, counted. -/
def State.i2ctBad (s : State) : State := ((s.bump Fld.SIG_I2CT_CFG_errors).raise (evSig 18)).emit .i2ctNack

/-- I2CT_WRITE: the message's CRC is that over its address byte, three offset bytes and four data bytes. -/
def State.i2ctWrite (addr off v now crc : Nat) (s : State) : State :=
  if !s.i2ctOn addr then s
  else if !(crc8j ((2 * addr) :: (beBytes 3 off ++ beBytes 4 v)) == crc) then s.i2ctBad
  else (s.tgtWrite 17 off v now).2.2

/-- I2CT_READ: the CRC of the offset bytes, then four data bytes and the CRC over every byte of the message. -/
def State.i2ctRead (addr off crc : Nat) (s : State) : State :=
  if !s.i2ctOn addr then s
  else if !(crc8j ((2 * addr) :: beBytes 3 off) == crc) then s.i2ctBad
  else
    let (_, v, s1) := s.tgtRead 17 off
    let head := (2 * addr) :: beBytes 3 off
    let msg := head ++ [crc8j head, 2 * addr + 1] ++ beBytes 4 v
    s1.emit (.i2ct (beBytes 4 v ++ [crc8j msg]))

/-! ## The Erkuhar peer (R384) -/

/-- Answer the peer's request with its result and data; its transaction has ended here. -/
def State.ctlReply (result data : Nat) (s : State) : State :=
  (s.erkSend ⟨5, 0, 0, 0, 0, 0, leBytes 4 result ++ leBytes 4 data⟩).raise (evTime 24)

/-- ERK_CONTROL_REQUEST: the access is checked as one of the Erkuhar peer's domain. The leader does not answer while its own
request is open; the follower gives its own up. -/
def State.ctlAsked (rd : Bool) (off v now : Nat) (s : State) : State :=
  let own := s.erk.ctl.isSome
  if own && !s.flag Fld.ERK_CFG_role then s
  else
    let (status, data, s1) := if rd then s.tgtRead 18 off else s.tgtWrite 18 off v now
    let s2 := s1.ctlReply (if status == 0 then 0 else 1) (if rd then data else 0)
    if own then s2.ctlBack else s2

end Sys2Proof.Machine
end

