-- ==== Sys2Proof/Machine/Events.lean ====
section
/-! DEFINITION. Machine/Events.lean: conditions inside Falith that no command of their own reports: memory errors, errors
of the host link, and the bare occurrence of a source (R232, R279 to R281, R291, R338, R432). -/

namespace Sys2Proof.Machine

/-- An error in the line buffers or context slots of an easel (R232), of which some half has power. -/
def State.easelMem (e : Nat) (uncorr : Bool) (s : State) : State :=
  if !(easelDoms e).any s.domPower then s
  else if uncorr then ((s.bump (Fld.EAS_ECC_uncorr e)).raise (evEas e 5)).retire e 4
  else ((s.bump (Fld.EAS_ECC_corr e)).lifeCore 3 1).raise (evEas e 4)

/-- Code bits of a palette word flip (R279): what that does shows when the word is read or scrubbed. -/
def State.palUpset (word mask : Nat) (s : State) : State :=
  if !s.groupOn (word / 512 / 1024) then s
  else
    let m := tget s.palFlip word 0 ^^^ (mask % 2 ^ 39)
    { s with palFlip := if m == 0 then tdel s.palFlip word else tset s.palFlip word m }

/-- The cells of an owner's list behind a cell: those that an error in that cell's link entry loses (R281). -/
def State.cellsAfter (s : State) (kind st c : Nat) : List Nat := ((s.palList kind st).dropWhile (fun x => !(x == c))).drop 1

/-- The stored lines that have a cell among some: frame, line, cells. -/
def State.linesWith (s : State) (st : Nat) (cs : List Nat) : List (Nat × Nat × List Nat) :=
  (s.strm st).store.filter (fun e => e.2.2.any (fun c => cs.contains c))

/-- One repaired line of a port is counted and signalled (R115). -/
def State.lineRepaired (p : Nat) (s : State) : State := (s.bump (Fld.PORT_ERR_LINE_repaired p)).raise (evPort p 8)

/-- A stored line of a frame is lost, and is repaired in every exposure as a missing line is (R115, R116, R281): in those that have
it at once, in the others of an open frame as they come. -/
def State.lineLost (st F L : Nat) (s : State) : State :=
  if (s.openOf st).any (fun f => f.num == F) then
    forEach (s.streamEntries st) (fun e s =>
      let x := s.ent e.1 e.2
      if Nat.blt L x.lines.length then
        (s.setEnt e.1 e.2 { x with
          lines := setAt x.lines L (s.repairLine st x.lines L)
          repaired := x.repaired + 1, firstRep := if x.repaired == 0 then L else Nat.min x.firstRep L }).lineRepaired e.1
      else s) (s.setStrm st { s.strm st with noCell := (s.strm st).noCell ++ [L] })
  else
    let n := ((s.frame st F).elim [] (fun f => f.lines)).countP (fun l => Nat.blt L l.length)
    let s1 := s.modFrame st F (fun f => { f with
      lines := f.lines.map (fun l => if Nat.blt L l.length then setAt l L (s.repairLine st l L) else l)
      repaired := f.repaired + n, firstRep := if f.repaired == 0 then L else Nat.min f.firstRep L })
    forEach (List.range n) (fun _ s => s.lineRepaired (s.get (Fld.STRM_CFG_port st))) s1

/-- A line store cannot be followed behind a cell: the lines that have a cell there are lost; their cells are freed when the store is
rebuilt at the stream's next frame boundary, and lines that come before that join a broken list (R281). -/
def State.storeBreak (st c : Nat) (s : State) : State :=
  let gone := s.linesWith st (s.cellsAfter 3 st c)
  let x := s.strm st
  let s1 := s.setStrm st { x with
    store := x.store.filter (fun e => !gone.contains e), broken := true, lostCells := x.lostCells ++ gone.flatMap (fun e => e.2.2) }
  forEach gone (fun e s => (s.lineLost st e.1 e.2.1).markError st e.1) s1

/-- The control island rebuilds a list of another owner from free cells: those behind the cell are freed, as many are taken, and
tables are written again from its copy (R281). -/
def State.listRebuild (kind st c : Nat) (s : State) : State :=
  let gone := s.cellsAfter kind st c
  let (s1, new) := (s.palFree gone).palAlloc kind st gone.length
  let swap (cs : List Nat) : List Nat := cs.map (fun a => ((List.zip gone new).find? (fun e => e.1 == a)).elim a (fun e => e.2))
  let x := s1.strm st
  let s2 := s1.setStrm st { x with tabCells := x.tabCells.map (fun e => (e.1, swap e.2)), statCells := swap x.statCells }
  let s3 := { s2 with trl := { s2.trl with
    waiting := s2.trl.waiting.map (fun (w : Reload) => { w with cells := swap w.cells }), held := s2.trl.held.map (fun (h : HeldTab) => { h with cells := swap h.cells }) } }
  match kind, s3.trl.waiting with
  | 5, _ => s3.tabRewrite st
  | 7, some w => s3.palWrite w.cells w.payload
  | 7, none => s3.tabRewrite st
  | _, _ => s3

/-- An error in the link entry of a live cell (R279, R281): the stream's open frame counts as having an uncorrected error. -/
def State.palLink (c : Nat) (uncorr : Bool) (s : State) : State :=
  match tget? s.cells c with
  | none => s
  | some x =>
    if !uncorr then s.palCorr
    else
      let s1 := (s.bump Fld.PAL_ECC_uncorr).raise (evMem 1)
      let s2 := if s1.flag Fld.PAL_ERR_valid then s1 else
        (s1.setReg Reg.PAL_ERR (BitVec.ofNat 32 (2 ^ 31 + c * 512))).setReg Reg.PAL_ERR_OWN
          (BitVec.ofNat 32 (2 ^ 31 + x.kind * 2 ^ 16 + x.st))
      let s3 := if Nat.ble 3 x.kind then (match s2.openOf x.st with
        | some f => s2.markError x.st f.num
        | none => s2) else s2
      if x.kind == 3 then s3.storeBreak x.st c
      else if Nat.ble 4 x.kind then s3.listRebuild x.kind x.st c
      else s3

/-- The parity of the stored word that holds item n of a queue is wrong (R291), counted from the head, length slots included: both
halves of the word are (R283). -/
def State.queUpset (q n : Nat) (s : State) : State :=
  let x := s.que q
  let hit (i : Nat) : Bool := (x.off + i) / 2 == (x.off + n) / 2
  let go := x.pkts.foldl (fun (a : Nat × List QPkt) p =>
    let at_ := a.1 + (if p.head then 1 else 0)
    (a.1 + p.size, a.2 ++ [{ p with
      slotBad := p.slotBad || (p.head && hit a.1)
      items := (List.zip (List.range p.items.length) p.items).map (fun e => if hit (at_ + e.1) then { e.2 with bad := true } else e.2) }])) (0, [])
  s.setQue q { x with pkts := go.2 }

/-- A reset of a queue is forced in a cycle in which a pop and a push of it may stand as well: the pop returns not-valid, the item
pushed is counted lost (R291, R293). -/
def State.queForcedWith (q cause : Nat) (pop : Option Nat) (push : Option (Nat × Nat)) (s : State) : State :=
  let s1 := match pop with
    | none => s
    | some r =>
      if !s.reqReaches r then s
      else match s.denyReason r (Reg.QUE_POP q) none with
        | some c => (s.logDeny r (Reg.QUE_POP q) false false c).emit (.read r (Reg.QUE_POP q) (denyWord c))
        | none =>
          let w := popWord [] false false (s.get (Fld.QUE_POPS_pops q))
          { s with latch := tset s.latch (Reg.QUE_POP q) (halfWord w true) }.emit (.read r (Reg.QUE_POP q) (halfWord w false))
  let s2 := match push with
    | none => s1
    | some (r, v) => s1.busDo r (Reg.QUE_PUSH q) v (fun s =>
        if !s.queMayPush r q then s.bump (Fld.QUE_STAT_proto q)
        else if s.flag (Fld.QUE_CFG_enable q) && !bit v 18 then s.bumpBy (Fld.QUE_LOST_lost q) 1 else s)
  s2.queForced q cause

/-- CXL.cache has become usable or unusable (EV_HL_CXL), in CXL mode. -/
def State.cxlCache (on : Bool) (s : State) : State :=
  if !(s.flag Fld.HL_STAT_up && s.flag Fld.HL_STAT_cxl) || s.flag Fld.HL_STAT_cache_on == on then s
  else ((s.put Fld.HL_STAT_cache_on (b2n on)).raise (evHl 9)).hlDoms

/-- EVENT_OCCURRENCE (R432): a condition occurs. -/
def State.happen (h : Happening) (s : State) : State :=
  if !s.runs then s
  else
    match h with
    | .source n => if srcReserved n then s else s.raise n
    | .aer uncorr => s.aer uncorr
    | .easelMem e uncorr => s.easelMem e uncorr
    | .palUpset word mask => s.palUpset word mask
    | .palLink c uncorr => s.palLink c uncorr
    | .sramCorrected => s.lifeCore 3 1
    | .queUpset q n => s.queUpset q n
    | .queForced q cause pop push => s.queForcedWith q (cause.val + 1) (pop.map Fin.val) (push.map (fun x => (x.1.val, x.2.toNat)))
    | .pourBuffer c word mask => s.palUpset (8192 * c.val + word % 8192) mask.toNat
    | .ideFail => s.ideFail
    | .cxlCache on => s.cxlCache on

/-- A requester's write of an EVT_ register, with the sources that occur in the same cycle, each of which counts once (R433, R434). -/
def State.evtWrite (r off v : Nat) (now : List Nat) (s : State) : State := (s.busWrite r off v).occurAll now

end Sys2Proof.Machine
end

