-- ==== Sys2Proof/Machine/Timers.lean ====
section
/-! DEFINITION. Machine/Timers.lean: the timers of the control channels, the measurements that discipline vehicle time, and
the losses of its references (R86, R134, R139, R148, R152 to R154). -/

namespace Sys2Proof.Machine

/-- SEQUENCE_DELAY_EXPIRY (R86): the sequence goes on with its next operation. -/
def State.delayDone (p : Nat) (s : State) : State :=
  match (s.chan p).job with
  | none => s
  | some j =>
    if (s.chan p).wait == .delay then
      let (s1, r) := State.seqFrom p j 1100 (j.opNo + 1) s
      match r with
      | some _ => s1
      | none => (s1.jobEnd p j).chanGo p
    else s

/-- A channel's transfer is launched again when what it waits for has come (R148). -/
def State.retryAfter (p : Nat) (w : JobWait) (s : State) : State :=
  if (s.chan p).job.isSome && (s.chan p).wait == w then s.xferAgain p else s

/-- TUNNEL_ANSWER_TIMEOUT (R148): no answer counts as a NACK. -/
def State.tunnelLate (p : Nat) (s : State) : State :=
  if (s.chan p).job.isSome && (s.chan p).wait == .transfer then s.xferNack p else s

/-- CLOCK_STRETCH_TIMEOUT (R134): of a transfer in flight. -/
def State.stretchLate (p : Nat) (s : State) : State :=
  if (s.chan p).job.isSome && (s.chan p).wait == .transfer then s.stretch p else s

/-- SYNC_GROUP_START (R139): once every channel has ended its first attempt, the groups that do not run start. -/
def State.syncStart (s : State) : State :=
  if s.phase == .active && s.firstDone then
    forEach ((List.range 8).filter (fun g => !s.flag (Fld.SYNC_CTRL_run g))) State.grpStart { s with syncOn := true }
  else s

/-- The time at which a frame came, by the MAC's 8 ns timestamp and the PHY's receive latency (R152). -/
def State.macTime (s : State) : Int := (s.now / 8 * 8 : Nat) - (s.get Fld.TIME_PHY_rx_dly : Int)

/-- A Sync that came at a time carries the master's time `origin` (R152, R153). -/
def State.gptpTime (origin : Nat) (at_ : Int) (s : State) : State :=
  if s.get Fld.TIME_CFG_source == 0 then s.timeOffset ((origin : Int) + s.tm.linkDelay - at_) else s

/-- Whether a sender's Sync is taken: that of the master that the announcements give, of any while none has come. -/
def State.fromMaster (s : State) (who : Nat) : Bool := s.tm.master.all (fun m => m.2 == who)

/-- An announcement: Falith is slave-only, and the best vector, the last one of the master itself, names its master. -/
def State.announced (vector who : Nat) (s : State) : State :=
  if s.tm.master.all (fun m => Nat.blt vector m.1 || m.2 == who) then { s with tm := { s.tm with master := some (vector, who) } } else s

/-- GPTP_MESSAGE (R152, R153): Sync, Follow_Up and announcements of the one gPTP domain that the image names are taken, peer-delay
messages of any, by the common mean link delay service; all other frames are discarded. How the best master follows from the
vectors is 802.1AS's (PRESUMED, log 166). Ethernet takes none while its domain is fenced or under BIST (R416, R418). -/
def State.gptpCame (domain : Nat) (msg : GptpMsg) (s : State) : State :=
  let ours := s.get Fld.TIME_CFG_gptp_domain == domain
  if s.domHurt 147 then s
  else match msg with
  | .sync (some o) who => if ours && s.fromMaster who then s.gptpTime o s.macTime else s
  | .sync none who => if ours && s.fromMaster who then { s with tm := { s.tm with syncRx := some s.macTime } } else s
  | .followUp o who =>
    match (if ours && s.fromMaster who then s.tm.syncRx else none) with
    | none => s
    | some t => State.gptpTime o t { s with tm := { s.tm with syncRx := none } }
  | .peerDelay trip turn =>
    { s.emit .peerRequest with tm := { s.tm with linkDelay :=
        ((trip : Int) - s.get Fld.TIME_PHY_rx_dly - s.get Fld.TIME_PHY_tx_dly - turn) / 2 } }
  | .peerRequest => s.emit .peerResponse
  | .announce v who => if ours then s.announced v who else s
  | .other => s

/-- PTM_DIALOGUE (R152): Falith asks and the host answers; TIME_PTM shows the offset, which disciplines vehicle time where the
host's PTM time is the source. -/
def State.ptmCame (offset : Int) (s : State) : State :=
  let s1 := (s.emit .ptmRequest).setReg64 Reg.TIME_PTM (unsgn 64 offset)
  if s1.get Fld.TIME_CFG_source == 1 then s1.timeOffset offset else s1

/-- PPS_TIMEOUT (R153): no PPS edge came within 1.1 s, while PPS is used. -/
def State.ppsLate (s : State) : State :=
  if s.get Fld.TIME_CFG_source == 2 then (s.raise (evTime 4)).timeLost
  else s.raiseIf (s.flag Fld.TIME_CFG_pps_check) (evTime 4)

/-- HOLDOVER_TIMEOUT (R153): the state is local, with the last frequency correction kept. -/
def State.holdoverLate (s : State) : State :=
  if s.get Fld.TIME_STAT_state == 3 then
    ({ s with tm := { s.tm with hold := none } }.put Fld.TIME_STAT_state 0).raise (evTime 2)
  else s

/-- MDIO_POLL (R152): the PHY's basic status register is read, and a change of its link bit is signalled. -/
def State.mdioPoll (up : Bool) (s : State) : State :=
  let s1 := s.emit .mdio
  if s.domHurt 147 then s else ({ s1 with tm := { s1.tm with eth := up } }).raiseIf (!(up == s.tm.eth)) (evTime 14)

end Sys2Proof.Machine
end

