-- ==== Sys2Proof/Machine/Meaning.lean ====
section
/-! DEFINITION. Machine/Meaning.lean: what the meanings of the commands share: how a command of the outside world, a
timer and a register access reach the block, and how reads of host memory end. -/

namespace Sys2Proof.Machine

/-- What a command answers. -/
abbrev Answer := Host.Outcome State Fault Refusal

/-! ## How commands reach the block -/

/-- What happens to the device in any of its states, at its own conditions. -/
def State.chip (ns : Nat) (f : State → State) (s : State) : State := (f (s.advance ns)).settle

/-- What happens while Falith runs; otherwise nothing does. -/
def State.running (ns : Nat) (f : State → State) (s : State) : State :=
  if s.runs then (f (s.advance ns)).settle else s

/-- What happens while an image is loaded, with the power planning that follows; otherwise only time passes. -/
def State.event (ns : Nat) (f : State → State) (s : State) : State :=
  if s.loaded then (f (s.advance ns)).settlePlan else (s.advance ns).settle

/-- An access of a requester. -/
def State.ask (f : State → State) (s : State) : State := (f s).settle

/-- An access of a requester that can change what domains are needed for. -/
def State.askPlan (f : State → State) (s : State) : State := (f s).settlePlan

/-- A requester sets bits of a register and leaves its other fields. -/
def State.setBits (r off m : Nat) (s : State) : State := s.busWrite r off ((s.reg off).toNat ||| m)

/-- A register write of 4 bytes, or of 8 with a high half; of a wrong alignment it is R304's. The targets and the peer
write 4 bytes. -/
def State.writeAny (r off v : Nat) (hi : Option Nat) (s : State) : State :=
  match hi with
  | some h =>
    if Nat.blt r 16 then if off % 8 == 0 then s.busWrite64 r off (v + 2 ^ 32 * h) else s.misaligned r off true
    else if off % 4 == 0 then s.busWrite r off v else s.misaligned r off true
  | none => if off % 4 == 0 then s.busWrite r off v else s.misaligned r off true

/-- REGISTER_WRITE with the bits whose conditions occur in the same cycle, of the register at the offset and, of an 8-byte access, of
the one behind it: they stay set over a W1C clear (R6, R7), and of a status word the sources occur (R433). -/
def State.writeNow (r off v : Nat) (hi : Option Nat) (now : Nat) (s : State) : State :=
  (s.writeAny r off (setWins off v (halfWord now false)) (hi.map (fun h => setWins (off + 4) h (halfWord now true)))).occurAll
    (srcsOf off (halfWord now false) ++ (if hi.isSome && Nat.blt r 16 then srcsOf (off + 4) (halfWord now true) else []))

/-- A 4-byte register read; of a wrong alignment it is R304's. -/
def State.readAny (r off : Nat) (s : State) : State :=
  if off % 4 == 0 then s.readBy r off else s.misaligned r off false

/-- Bytes as numbers. -/
def byteVals (l : List Byte) : List Nat := l.map BitVec.toNat

/-- Ageing readings as numbers. -/
def ageVals (l : List (Fin 32 × Fin 65536)) : List (Nat × Nat) := l.map (fun e => (e.1.val, e.2.val))

/-- The word of SC_p_XFER that starts a mailbox transfer (R161). -/
def mailWord (rd : Bool) (tgt reg : Nat) (two lsb : Bool) : Nat :=
  2 ^ 31 + b2n rd * 2 ^ 30 + (if two then 2 else 1) * 2 ^ 26 + tgt * 2 ^ 24 + b2n lsb * 2 ^ 23 + reg

/-! ## Reads of host memory -/

/-- The bytes that a host read delivers; none = it has failed. -/
def hostData : HostRead → Option (List Nat)
  | .data b => some (byteVals b)
  | _ => none

/-- A host read's end as a drip meets it. -/
def dripOf : HostRead → DripRead
  | .data b => .ok (byteVals b)
  | .unsupported => .failed
  | .poisoned => .failed
  | .untranslated => .noXlat
  | .bufferError _ => .bufErr

/-- A completion with Unsupported Request or Completer Abort is counted (R338), as is an uncorrected word of the cells that hold a
completion's bytes (R280). -/
def State.hostErr (res : HostRead) (s : State) : State :=
  match res with
  | .unsupported => (s.bump Fld.HL_ERR_ur_ca).raise (evHl 7)
  | .bufferError w => s.palUncorr w.val false
  | _ => s

/-- DESCRIPTOR_FETCH_COMPLETE: how the oldest outstanding fetch of a ring ends. -/
def State.fetchEnd (r : Nat) (res : HostRead) (s : State) : State :=
  if (s.ring r).fetches.any (fun f => f.busy) then (s.hostErr res).fetchDone r (hostData res) else s

/-- Whether the flush read of a ring's output is outstanding: of a received output, or of a frame's. -/
def State.flushing (s : State) (r : Nat) : Bool × Bool :=
  match s.erkPourOf r with
  | some x => (true, x.phase == .written)
  | none => (false, match s.winHead (r / 8) (r % 8) with
    | some (_, x) => x.phase == .written
    | none => false)

/-- FLUSH_READ_COMPLETE: how the flush read of a ring ends. -/
def State.flushEnd (r : Nat) (res : HostRead) (s : State) : State :=
  match s.flushing r with
  | (_, false) => s
  | (true, true) => (s.hostErr res).erkFlushed r (hostData res).isSome
  | (false, true) => (s.hostErr res).flushDone r (hostData res).isSome

/-- OUTPUT_READY: of a received output first, else of a frame's. -/
def State.readyAt (r : Nat) (xlatOk : Bool) (s : State) : State :=
  if (s.erkPourOf r).isSome then s.erkReady r xlatOk else s.outputReady r xlatOk

/-- TXE_DESCRIPTOR_FETCH: how a channel's fetch ends. -/
def State.txeFetchEnd (c : Nat) (res : HostRead) (s : State) : State :=
  if (s.txeCh c).phase == .fetching then (s.hostErr res).txeFetched c (hostData res) else s

/-- TXE_FLUSH_COMPLETE: how a channel's flush read ends. -/
def State.txeFlushEnd (c : Nat) (res : HostRead) (s : State) : State :=
  if (s.txeCh c).phase == .flushing then (s.hostErr res).txeFlushed c (hostData res).isSome else s

/-- Whether channel c has the drip in hand, and reads its source from the host, or meets an error in its buffer as it reads. -/
def State.txeHosted (s : State) (c : Nat) (res : HostRead) : Bool :=
  s.txeNow == some c && (match (s.txeCh c).desc with
    | some d => !bit d.w0 5 || dripOf res == .bufErr
    | none => false)

/-- A drip of a copy or a check-fed copy: how its source's read ends. -/
def State.txeRead (op c : Nat) (src : HostRead) (dstXlat : Bool) (s : State) : State :=
  (if s.txeHosted c src then s.hostErr src else s).txeDrip op c (dripOf src) dstXlat

/-- A drip of a compare: how its two reads end. -/
def State.txeReads (c : Nat) (src dst : HostRead) (s : State) : State :=
  let s1 := if s.txeHosted c src then s.hostErr src else s
  (if s1.txeNow == some c then s1.hostErr dst else s1).txeCompare c (dripOf src) (dripOf dst)

/-- A data read of the drip in hand reaches its timeout: the read has failed (R321, R349). -/
def State.txeDataLate (c : Nat) (s : State) : State :=
  match (s.txeCh c).desc with
  | none => s
  | some d =>
    if !(s.txeNow == some c) || bits d.w0 3 1 == 1 || (bit d.w0 5 && !(bits d.w0 3 1 == 2)) then s
    else
      let s1 := (s.bump Fld.HL_ERR_cto).raise (evHl 6)
      if bits d.w0 3 1 == 2 then s1.txeCompare c .failed .failed else s1.txeDrip (bits d.w0 3 1) c .failed true

/-- COMPLETION_TIMEOUT (R321). -/
def State.readLate (which : LateRead) (s : State) : State :=
  match which with
  | .ringFetch r => s.fetchTimeout r.val
  | .ringFlush r =>
    (match s.flushing r.val with
     | (true, true) => ((s.bump Fld.HL_ERR_cto).raise (evHl 6)).erkFlushed r.val false
     | _ => s.flushTimeout r.val)
  | .txeFetch c => s.txeFetchLate c.val
  | .txeFlush c => s.txeFlushLate c.val
  | .txeData c => s.txeDataLate c.val

/-! ## Vehicle inputs and the Erkuhar link -/

/-- CAN_FRAME_RECEIVED (R361, R369): received, and the wake of Falith from Standby. -/
def State.canCame (c kind : Nat) (ext : Bool) (ident : Nat) (bytes : List Nat) (s : State) : State :=
  let wakes := s.phase == .standby && s.canWakes c kind ext ident bytes
  let s1 := s.canReceive c kind ext ident bytes
  if wakes then s1.wake.raise (evSig 12) else s1

/-- Frames received in the same clock cycle as a binding or a sending: they come first (R370). -/
def State.cansCame (fs : List CanFrame) (s : State) : State :=
  forEach fs (fun f s => s.canCame f.c.val f.kind.val f.ext f.ident.val (byteVals f.bytes)) s

/-- GPIO_EDGE (R371): the input's level, and the wake of Falith from Standby. -/
def State.gpioCame (n : Nat) (high : Bool) (s : State) : State :=
  let wakes := s.phase == .standby && s.gpioWakes n high
  let s1 := s.gpioEdge n high
  if wakes then s1.wake.raise (evSig 12) else s1

/-- BUS_CLEAR_RETRY: of a control channel, or of a glue bus. -/
def State.clearAgain (p : Nat) (sdaLow : Bool) (s : State) : State :=
  if Nat.blt p 24 then s.busRetry p sdaLow else s.glueRetry (p - 24) sdaLow

/-- GLUE_READ and GLUE_WRITE (R372): a requester's write starts the transfer, which ends as the bus lets it. -/
def State.glueBy (r n v : Nat) (res : GlueRes) (sdaLow : Bool) (s : State) : State :=
  (s.busWrite r (Reg.SIG_GM_XFER n) v).glueEnd n res sdaLow

/-- BACKOFF_TIMER (R148): a back-off is over. -/
def State.backOver (who : BackWho) (s : State) : State :=
  match who with
  | .channel p => s.retryAfter p.val .backoff
  | .glue n res sdaLow => s.glueAgain n.val res sdaLow
  | .erkuhar => s.ctlAgain

/-- A frame of the Erkuhar peer: what it brings, once it is taken (R380). -/
def State.erkFrame (seq ack : Nat) (gap crcOk : Bool) (f : State → State) (s : State) : State :=
  let (taken, s1) := s.erkTake seq ack gap crcOk
  if taken then f s1 else s1

/-- ERK_IDLE_FRAME: it takes no sequence number of its own (R379). -/
def State.erkIdleCame (ack : Nat) (gap crcOk : Bool) (s : State) : State :=
  if !s.flag Fld.ERK_STAT_up then s else if crcOk then s.erkAck ack gap else s.erkIdle

/-! ## Events and guard -/

/-- MSIX_UNMASK (R437): a vector's mask bit, or (none) the function mask, is cleared. -/
def State.unmask (fn : Nat) (vec : Option Nat) (s : State) : State :=
  if !s.reqReaches fn then s
  else
    match vec with
    | some v => s.msixWrite fn (16 * v + 12) 0
    | none =>
      forEach (List.range (if fn == 0 then 2048 else 64)) (fun v s => s.msiUnmasked fn v)
        (s.setFn fn { s.fn fn with fmask := false })

/-- FAULT_MIN_WIDTH_EXPIRY (R439): the pin follows its sources again. -/
def State.faultExpire (k : Nat) (s : State) : State :=
  { s with faultPin := setAt s.faultPin k { nth s.faultPin k ⟨false, false⟩ with hold := false } }

/-- GUARD_TABLE_SWITCH (R448): the drip boundary at which the pending table goes live. -/
def State.grdSwitch (s : State) : State := if s.grdWait.isEmpty then s else s.grdGoLive.epochStep [152]

/-- TEMPERATURE_SAMPLE (R458): every sensor. -/
def State.tempsSample (temps : List Int) (s : State) : State := forEach temps State.tempSample s

end Sys2Proof.Machine
end

