-- ==== Sys2Proof/Machine/CheckCmds.lean ====
section
/-! DEFINITION. Machine/CheckCmds.lean: the meanings of the commands of check units, census, BIST and fault injection. -/

namespace Sys2Proof.Machine

/-- CHK_START (R390): requester r writes CHK_n_CTRL with start and the fields of w. -/
def execChkStart (r : Fin 19) (n : Fin 16) (w : Word) (s : State) : Answer :=
  .next (s.ask (State.busWrite r.val (Reg.CHK_CTRL n.val) (w.toNat % 2 ^ 28 + 2 ^ 31)))

/-- CHK_CLOSE (R392). -/
def execChkClose (r : Fin 19) (n : Fin 16) (s : State) : Answer :=
  .next (s.ask (State.setBits r.val (Reg.CHK_CTRL n.val) 0x40000000))

/-- CHK_SCAN (R394). -/
def execChkScan (r : Fin 19) (n : Fin 16) (s : State) : Answer :=
  .next (s.ask (State.setBits r.val (Reg.CHK_CTRL n.val) 0x20000000))

/-- CHK_SCAN_ABORT (R395). -/
def execChkScanAbort (r : Fin 19) (n : Fin 16) (s : State) : Answer :=
  .next (s.ask (State.setBits r.val (Reg.CHK_CTRL n.val) 0x10000000))

/-- CHK_SCAN_DRIP (R395). -/
def execChkScanDrip (ns : Nat) (s : State) : Answer :=
  .next (s.event ns (State.scanDrip State.scanReg))

/-- CHK_FEED (R391). -/
def execChkFeed (r : Fin 19) (n : Fin 16) (v : Word) (s : State) : Answer :=
  .next (s.ask (State.busWrite r.val (Reg.CHK_FEED n.val) v.toNat))

/-- CHK_RUN_WRITE (R391). -/
def execChkRunWrite (r : Fin 19) (n : Fin 16) (v : Word) (s : State) : Answer :=
  .next (s.ask (State.busWrite r.val (Reg.CHK_RUN n.val) v.toNat))

/-- CHK_ALIVE_WRITE (R393). -/
def execChkAliveWrite (r : Fin 19) (n : Fin 16) (v : Word) (s : State) : Answer :=
  .next (s.ask (State.busWrite r.val (Reg.CHK_ALIVE n.val) v.toNat))

/-- CENSUS_PASS (R402): whether the known-answer test of the check units passes. -/
def execCensusPass (katOk : Bool) (ns : Nat) (s : State) : Answer :=
  .next (s.event ns (State.cenPass katOk))

/-- CENSUS_DRIP (R402). -/
def execCensusDrip (ns : Nat) (s : State) : Answer :=
  .next (s.event ns State.cenStep)

/-- DIGEST_PUBLISH (R408). -/
def execDigestPublish (ns : Nat) (s : State) : Answer :=
  .next (s.event ns State.cenPublish)

/-- CEN_PUB_READ (R409). -/
def execCenPubRead (r : Fin 19) (s : State) : Answer :=
  .next (s.ask (State.readBy r.val Reg.CEN_PUB))

/-- BIST_LOGIC_MEMORY (R417). -/
def execBistLogicMemory (r : Fin 19) (d : Fin 152) (s : State) : Answer :=
  .next (s.ask (State.busWrite r.val Reg.BIST_CTRL (0x5A3C0100 + d.val)))

/-- BIST_MEMORY_ONLY (R417). -/
def execBistMemoryOnly (r : Fin 19) (d : Fin 152) (s : State) : Answer :=
  .next (s.ask (State.busWrite r.val Reg.BIST_CTRL (0x5A3C0200 + d.val)))

/-- BIST_FUSE_REPAIR (R420): whether VFUSE is present. -/
def execBistFuseRepair (r : Fin 19) (d : Fin 152) (vfuse : Bool) (s : State) : Answer :=
  .next (({ s with pw := { s.pw with vfuse := vfuse } }).ask (State.busWrite r.val Reg.BIST_CTRL (0x5A3C0300 + d.val)))

/-- BIST_DONE (R418). -/
def execBistDone (result : BistResult) (ns : Nat) (s : State) : Answer :=
  .next (s.event ns (fun s => (s.bistDone result).awoken))

/-- FI_ENABLE (R421). -/
def execFiEnable (r : Fin 19) (s : State) : Answer :=
  .next (s.ask (State.busWrite r.val Reg.FI_CTRL 0x80000000))

end Sys2Proof.Machine
end

