-- ==== Sys2Proof/Machine/CommitCmds.lean ====
section
/-! DEFINITION. Machine/CommitCmds.lean: the meanings of the commands of commits, flash operations and table reloads. -/

namespace Sys2Proof.Machine

/-- COMMIT_OPEN (R94). -/
def execCommitOpen (r : Fin 19) (s : State) : Answer :=
  .next (s.ask (State.busWrite r.val Reg.BOOT_CMT_CTRL 1))

/-- COMMIT_GO (R95). -/
def execCommitGo (r : Fin 19) (s : State) : Answer :=
  .next (s.ask (State.busWrite r.val Reg.BOOT_CMT_CTRL 2))

/-- COMMIT_ABORT (R94). -/
def execCommitAbort (r : Fin 19) (s : State) : Answer :=
  .next (s.ask (State.busWrite r.val Reg.BOOT_CMT_CTRL 3))

/-- COMMIT_EXECUTE (R96): the drip boundary of the accepted commit. -/
def execCommitExecute (ns : Nat) (s : State) : Answer :=
  .next (s.event ns State.cmtExecute)

/-- NOR_ERASE (R98). -/
def execNorErase (r : Fin 19) (s : State) : Answer :=
  .next (s.ask (State.busWrite r.val Reg.BOOT_NOR_CTRL 1))

/-- NOR_PROGRAM (R98). -/
def execNorProgram (r : Fin 19) (s : State) : Answer :=
  .next (s.ask (State.busWrite r.val Reg.BOOT_NOR_CTRL 2))

/-- NOR_READ (R98). -/
def execNorRead (r : Fin 19) (s : State) : Answer :=
  .next (s.ask (State.busWrite r.val Reg.BOOT_NOR_CTRL 3))

/-- NOR_OP_DONE (R98): whether the flash reports a failure. -/
def execNorOpDone (failed : Bool) (ns : Nat) (s : State) : Answer :=
  .next (s.running ns (State.norDone failed))

/-- TABLE_RELOAD_OPEN (R229). -/
def execTableReloadOpen (r : Fin 19) (s : State) : Answer :=
  .next (s.ask (State.busWrite r.val Reg.EAS_TRL_CTRL 1))

/-- TABLE_RELOAD_GO (R230). -/
def execTableReloadGo (r : Fin 19) (s : State) : Answer :=
  .next (s.ask (State.busWrite r.val Reg.EAS_TRL_CTRL 2))

/-- TABLE_RELOAD_ABORT (R229). -/
def execTableReloadAbort (r : Fin 19) (s : State) : Answer :=
  .next (s.ask (State.busWrite r.val Reg.EAS_TRL_CTRL 3))

/-- TABLE_RELOAD_EXECUTE (R231): the drip boundary of the accepted reload. -/
def execTableReloadExecute (ns : Nat) (s : State) : Answer :=
  .next (s.event ns State.trlExecute)

end Sys2Proof.Machine
end

