-- ==== Sys2Proof/Machine/EaselCmds.lean ====
section
/-! DEFINITION. Machine/EaselCmds.lean: the meanings of the commands of the easels and placement. -/

namespace Sys2Proof.Machine

/-- EASEL_LINE_BOUNDARY (R168): easel e reaches a line boundary. -/
def execEaselLineBoundary (e : Fin 12) (ns : Nat) (s : State) : Answer :=
  .next (s.event ns (State.lineBoundary e.val))

/-- STROKE_END (R170): the stroke in hand of easel e finishes. -/
def execStrokeEnd (e : Fin 12) (ns : Nat) (s : State) : Answer :=
  .next (s.event ns (State.strokeEnd e.val))

/-- STROKE_DEADLINE_MISS (R173): a stroke of stream s passes its deadline. -/
def execStrokeDeadlineMiss (st : Fin 32) (ns : Nat) (s : State) : Answer :=
  .next (s.event ns (State.strokeMiss st.val))

/-- REST_ROTATION (R183). -/
def execRestRotation (ns : Nat) (s : State) : Answer :=
  .next (s.event ns State.rotate)

/-- ROTATION_DRAIN_DONE (R183). -/
def execRotationDrainDone (ns : Nat) (s : State) : Answer :=
  .next (s.event ns State.rotated)

/-- RESTING_BIST_DONE (R184): 0 passed, 1 logic failure, 2 memory failure. -/
def execRestingBistDone (result : Fin 3) (repairs : Nat) (ns : Nat) (s : State) : Answer :=
  .next (s.event ns (State.restDone result.val repairs))

/-- EASEL_RETIRE_COMMAND (R185). -/
def execEaselRetireCommand (r : Fin 19) (e : Fin 12) (s : State) : Answer :=
  .next (s.askPlan (State.busWrite r.val Reg.PLC_EASEL_CTRL (0x5A3C0100 + e.val)))

/-- EASEL_READMIT_COMMAND (R188). -/
def execEaselReadmitCommand (r : Fin 19) (e : Fin 12) (s : State) : Answer :=
  .next (s.askPlan (State.busWrite r.val Reg.PLC_EASEL_CTRL (0x5A3C0200 + e.val)))

/-- EASEL_READMIT (R188): the BIST of easel e has passed. -/
def execEaselReadmit (e : Fin 12) (ns : Nat) (s : State) : Answer :=
  .next (s.event ns (State.readmit e.val))

/-- EAS_WAIT_READ (R235). -/
def execEasWaitRead (r : Fin 19) (e : Fin 12) (s : State) : Answer :=
  .next (s.ask (State.readBy r.val (Reg.EAS_WAIT e.val)))

/-- PLACEMENT_REFUSAL_READ (R196). -/
def execPlacementRefusalRead (r : Fin 19) (s : State) : Answer :=
  .next (s.ask (State.readBy r.val Reg.PLC_REF))

end Sys2Proof.Machine
end

