-- ==== Sys2Proof/Machine/ErkCmds.lean ====
section
/-! DEFINITION. Machine/ErkCmds.lean: the meanings of the commands of the Erkuhar link. -/

namespace Sys2Proof.Machine

/-- ERK_LINK_UP (R378): the role that the peer claims, true = follower. -/
def execErkLinkUp (peer : Bool) (ns : Nat) (s : State) : Answer :=
  .next (s.event ns (State.erkUp peer))

/-- ERK_LINK_LOSS (R378). -/
def execErkLinkLoss (ns : Nat) (s : State) : Answer :=
  .next (s.event ns State.erkDown)

/-- ERK_DATA_FRAME (R381): header fields, payload. `gap` = its acknowledgement shows a gap. -/
def execErkDataFrame (seq : Word) (ack : Word) (gap : Bool) (crcOk : Bool) (flags : Fin 4) (st : Fin 32) (w : Fin 8)
    (num : Word) (off : Word) (data : List Byte) (ns : Nat) (s : State) : Answer :=
  .next (s.event ns (State.erkFrame seq.toNat ack.toNat gap crcOk (fun s => s.mirData seq.toNat flags.val st.val w.val num.toNat off.toNat (byteVals data))))

/-- ERK_TIME_FRAME (R383): the peer's send time, and this end's last send time with its reception time at the peer. -/
def execErkTimeFrame (seq : Word) (ack : Word) (gap : Bool) (crcOk : Bool) (sent : Word64) (echo : Option
    (Word64 × Word64)) (ns : Nat) (s : State) : Answer :=
  .next (s.event ns (State.erkFrame seq.toNat ack.toNat gap crcOk (State.erkTimeCame sent.toNat (echo.map (fun e => (e.1.toNat, e.2.toNat))))))

/-- ERK_CENSUS_FRAME (R411). -/
def execErkCensusFrame (seq : Word) (ack : Word) (gap : Bool) (crcOk : Bool) (epoch : Word) (digest : List Byte)
    (ns : Nat) (s : State) : Answer :=
  .next (s.event ns (State.erkFrame seq.toNat ack.toNat gap crcOk (State.erkCensusCame epoch.toNat (byteVals digest))))

/-- ERK_CONTROL_REQUEST (R384): read, offset, data. -/
def execErkControlRequest (seq : Word) (ack : Word) (gap : Bool) (crcOk : Bool) (rd : Bool) (off : Fin 16777216)
    (d : WriteWord) (ns : Nat) (s : State) : Answer :=
  .next (s.event ns (State.erkFrame seq.toNat ack.toNat gap crcOk (State.ctlAsked rd off.val d.v.toNat d.now.toNat)))

/-- ERK_CONTROL_ANSWER (R384): whether the peer denied it, data. -/
def execErkControlAnswer (seq : Word) (ack : Word) (gap : Bool) (crcOk : Bool) (denied : Bool) (v : Word) (ns : Nat)
    (s : State) : Answer :=
  .next (s.event ns (State.erkFrame seq.toNat ack.toNat gap crcOk (State.ctlAnswered (b2n denied) v.toNat)))

/-- ERK_NOTICE_RECEIVED (R382): the output's first sequence number, the cause: 1 delivery-failed, 2 not handed over, 3
incomplete. -/
def execErkNoticeReceived (seq : Word) (ack : Word) (gap : Bool) (crcOk : Bool) (first : Word) (cause : Fin 4)
    (ns : Nat) (s : State) : Answer :=
  .next (s.event ns (State.erkFrame seq.toNat ack.toNat gap crcOk (State.noticeCame first.toNat cause.val)))

/-- ERK_IDLE_FRAME (R379). -/
def execErkIdleFrame (ack : Word) (gap : Bool) (crcOk : Bool) (ns : Nat) (s : State) : Answer :=
  .next (s.event ns (State.erkIdleCame ack.toNat gap crcOk))

/-- ERK_REPLAY_TIMEOUT (R380). -/
def execErkReplayTimeout (ns : Nat) (s : State) : Answer :=
  .next (s.event ns State.erkReplay)

/-- ERK_TIME_SEND (R383). -/
def execErkTimeSend (ns : Nat) (s : State) : Answer :=
  .next (s.event ns State.erkTimeSend)

/-- ERK_CENSUS_SEND (R383). -/
def execErkCensusSend (ns : Nat) (s : State) : Answer :=
  .next (s.event ns State.erkCensusSend)

/-- ERK_PEER_READ (R384): requester r writes ERK_PCTL with go and rd = 1. -/
def execErkPeerRead (r : Fin 19) (off : Fin 16777216) (s : State) : Answer :=
  .next (s.ask (State.busWrite r.val Reg.ERK_PCTL (0xC0000000 + off.val)))

/-- ERK_PEER_WRITE (R384): the same with rd = 0; the data are those of ERK_PCTL_DATA. -/
def execErkPeerWrite (r : Fin 19) (off : Fin 16777216) (s : State) : Answer :=
  .next (s.ask (State.busWrite r.val Reg.ERK_PCTL (0x80000000 + off.val)))

end Sys2Proof.Machine
end

