-- ==== Sys2Proof/Machine/EventCmds.lean ====
section
/-! DEFINITION. Machine/EventCmds.lean: the meanings of the commands of events and the guard table. -/

namespace Sys2Proof.Machine

/-- EVENT_OCCURRENCE (R432). -/
def execEventOccurrence (h : Happening) (ns : Nat) (s : State) : Answer :=
  .next (s.running ns (State.happen h))

/-- EVENT_STATUS_CLEAR (R433): requester r writes v to EVT_STAT_w; the sources that occur in the same cycle. -/
def execEventStatusClear (r : Fin 19) (w : Fin 48) (v : Word) (now : List (Fin 1536)) (s : State) : Answer :=
  .next (s.ask (State.evtWrite r.val (Reg.EVT_STAT w.val) v.toNat (now.map Fin.val)))

/-- EVENT_COUNTER_CLEAR_ALL (R434); the sources that occur in the same cycle. -/
def execEventCounterClearAll (c : Clearing) (s : State) : Answer :=
  .next (s.ask (State.evtWrite c.r.val Reg.EVT_CNT_CLR 0x80000000 (c.now.map Fin.val)))

/-- EVENT_COUNTER_CLEAR_ONE (R434); the sources that occur in the same cycle. -/
def execEventCounterClearOne (c : Clearing) (n : Fin 1536) (s : State) : Answer :=
  .next (s.ask (State.evtWrite c.r.val Reg.EVT_CNT_CLR n.val (c.now.map Fin.val)))

/-- EVENT_ENABLE_WRITE (R435): requester r writes v to EVT_EN_w. -/
def execEventEnableWrite (r : Fin 19) (w : Fin 48) (v : Word) (s : State) : Answer :=
  .next (s.ask (State.busWrite r.val (Reg.EVT_EN w.val) v.toNat))

/-- EVENT_ROUTE_WRITE (R444): requester r writes v to EVT_n_ROUTE. -/
def execEventRouteWrite (r : Fin 19) (n : Fin 1536) (v : Word) (s : State) : Answer :=
  .next (s.ask (State.busWrite r.val (Reg.EVT_ROUTE n.val) v.toNat))

/-- MSIX_MODERATION_EXPIRY (R438). -/
def execMsixModerationExpiry (fn : Fin 16) (vec : Fin 2048) (ns : Nat) (s : State) : Answer :=
  .next (s.event ns (State.modExpire fn.val vec.val))

/-- MSIX_UNMASK (R437): function fn clears the mask of a vector in its table, or (none) its function mask. -/
def execMsixUnmask (fn : Fin 16) (vec : Option (Fin 2048)) (s : State) : Answer :=
  .next (s.ask (State.unmask fn.val (vec.map Fin.val)))

/-- FAULT_MIN_WIDTH_EXPIRY (R439): pin FAULT_N[k]. -/
def execFaultMinWidthExpiry (k : Fin 2) (ns : Nat) (s : State) : Answer :=
  .next (s.chip ns (State.faultExpire k.val))

/-- GUARD_APPLY (R448). -/
def execGuardApply (r : Fin 19) (s : State) : Answer :=
  .next (s.ask (State.busWrite r.val Reg.GRD_CTRL 1))

/-- GUARD_DISCARD (R448). -/
def execGuardDiscard (r : Fin 19) (s : State) : Answer :=
  .next (s.ask (State.busWrite r.val Reg.GRD_CTRL 2))

/-- GUARD_TABLE_SWITCH (R448). -/
def execGuardTableSwitch (ns : Nat) (s : State) : Answer :=
  .next (s.event ns State.grdSwitch)

end Sys2Proof.Machine
end

