-- ==== Sys2Proof/Machine/HostCmds.lean ====
section
/-! DEFINITION. Machine/HostCmds.lean: the meanings of the commands of the host link, its functions and rings. -/

namespace Sys2Proof.Machine

/-- FUNCTION_D3HOT_ENTRY (R55): the host puts function fn into D3hot. -/
def execFunctionD3hotEntry (fn : Fin 16) (ns : Nat) (s : State) : Answer :=
  .next (s.running ns (State.fnD3 fn.val))

/-- FUNCTION_D0_ENTRY (R332): function fn is in D0; its MSI-X Enable and Function Mask bits, its Device Control. -/
def execFunctionD0Entry (fn : Fin 16) (msix : MsixCtl) (dc : DevCtl) (ns : Nat) (s : State) : Answer :=
  .next (s.running ns (State.fnD0 fn.val msix.en msix.fmask dc))

/-- FUNCTION_LEVEL_RESET (R332). -/
def execFunctionLevelReset (fn : Fin 16) (ns : Nat) (s : State) : Answer :=
  .next (s.running ns (State.fnReset fn.val))

/-- VF_REMOVAL (R332). -/
def execVfRemoval (vf : Fin 15) (ns : Nat) (s : State) : Answer :=
  .next (s.running ns (State.vfGone (vf.val + 1)))

/-- L1_EXIT (R309). -/
def execL1Exit (ns : Nat) (s : State) : Answer :=
  .next (s.running ns State.hlExit)

/-- HOST_LINK_UP (R308): rate and width codes trained, CXL or PCIe. -/
def execHostLinkUp (rate : Fin 16) (width : Fin 16) (cxl : Bool) (ns : Nat) (s : State) : Answer :=
  .next (s.running ns (fun s => (s.hlUp rate.val width.val cxl).awoken))

/-- HOST_LINK_DOWN (R56, R67): hot reset or the loss of the link, which resets the host-link domains. -/
def execHostLinkDown (ns : Nat) (s : State) : Answer :=
  .next (s.running ns State.hlLost)

/-- OUTPUT_DOORBELL (R311). -/
def execOutputDoorbell (r : Fin 19) (ring : Fin 264) (s : State) : Answer :=
  .next (s.ask (State.busWrite r.val (Reg.OUT_DB ring.val) 0))

/-- DESCRIPTOR_FETCH_COMPLETE (R315): how the oldest outstanding fetch of a ring ends. -/
def execDescriptorFetchComplete (ring : Fin 264) (res : HostRead) (ns : Nat) (s : State) : Answer :=
  .next (s.event ns (State.fetchEnd ring.val res))

/-- DESCRIPTOR_RETRY_TIMER (R315). -/
def execDescriptorRetryTimer (ring : Fin 264) (ns : Nat) (s : State) : Answer :=
  .next (s.event ns (State.fetchRetry ring.val))

/-- OUTPUT_READY (R316): whether the buffer's address translates. -/
def execOutputReady (ring : Fin 264) (xlatOk : Bool) (ns : Nat) (s : State) : Answer :=
  .next (s.event ns (State.readyAt ring.val xlatOk))

/-- FLUSH_READ_COMPLETE (R321): how the flush read of a ring ends. -/
def execFlushReadComplete (ring : Fin 264) (res : HostRead) (ns : Nat) (s : State) : Answer :=
  .next (s.event ns (State.flushEnd ring.val res))

/-- COMPLETION_TIMEOUT (R321). -/
def execCompletionTimeout (which : LateRead) (ns : Nat) (s : State) : Answer :=
  .next (s.event ns (State.readLate which))

/-- FAULT_MAILBOX_WRITE (R323). -/
def execFaultMailboxWrite (r : Fin 19) (v : Word64) (s : State) : Answer :=
  .next (s.ask (State.busWrite64 r.val Reg.OUT_FAULT_MBOX v.toNat))

/-- MEMBER_BUDGET_EXPIRY (R11): of stream s. -/
def execMemberBudgetExpiry (st : Fin 32) (ns : Nat) (s : State) : Answer :=
  .next (s.event ns (State.logMissing st.val))

/-- PALETTE_VIEW_READ (R305): n bytes from an offset of BAR2. -/
def execPaletteViewRead (off : Fin 134217728) (n : Fin 4097) (s : State) : Answer :=
  .next (s.ask (State.palBarRead off.val n.val))

/-- PALETTE_VIEW_WRITE (R305). -/
def execPaletteViewWrite (off : Fin 134217728) (s : State) : Answer :=
  .next (s.ask (State.palBarWrite off.val))

/-- MISALIGNED_ACCESS (R304): a register access of a wrong width or alignment. -/
def execMisalignedAccess (r : Fin 19) (off : Fin 16777216) (write : Bool) (s : State) : Answer :=
  .next (s.ask (State.misaligned r.val off.val write))

/-- HL_TAGS_READ (R338). -/
def execHlTagsRead (r : Fin 19) (s : State) : Answer :=
  .next (s.ask (State.readBy r.val Reg.HL_TAGS))

/-- ATS_INVALIDATION (R301). -/
def execAtsInvalidation (fn : Fin 16) (ns : Nat) (s : State) : Answer :=
  .next (s.running ns (State.atsInval fn.val))

/-- LINK_LOW_POWER_ENTRY (R309): 1 L0p, 2 L1, 3 L1.1, 4 L1.2, 5 L2, 0 from L0p to L0; the width. -/
def execLinkLowPowerEntry (state : Fin 6) (width : Fin 16) (ns : Nat) (s : State) : Answer :=
  .next (s.running ns (State.hlSleep state.val width.val))

/-- CXL_SNOOP (R302): the address asked for. -/
def execCxlSnoop (addr : Word64) (ns : Nat) (s : State) : Answer :=
  .next (s.running ns (State.cxlSnoop addr.toNat))

end Sys2Proof.Machine
end

