-- ==== Sys2Proof/Machine/LawCmds.lean ====
section
/-! DEFINITION. Machine/LawCmds.lean: the meanings of the commands of statistics, laws and the ledger. -/

namespace Sys2Proof.Machine

/-- STATS_BLOCK_CLOSE (R243): of stream s. -/
def execStatsBlockClose (st : Fin 32) (ns : Nat) (s : State) : Answer :=
  .next (s.event ns (State.statsClose st.val))

/-- CONTROL_LAWS_END (R260): of stream s. -/
def execControlLawsEnd (st : Fin 32) (ns : Nat) (s : State) : Answer :=
  .next (s.event ns (State.lawsDone st.val))

/-- LEDGER_CMD_SET (R258). -/
def execLedgerCmdSet (r : Fin 19) (st : Fin 32) (s : State) : Answer :=
  .next (s.ask (State.busWrite r.val (Reg.LDG_CMD_CTRL st.val) 1))

/-- LEDGER_CMD_RELEASE (R258). -/
def execLedgerCmdRelease (r : Fin 19) (st : Fin 32) (s : State) : Answer :=
  .next (s.ask (State.busWrite r.val (Reg.LDG_CMD_CTRL st.val) 2))

/-- RESULT_HEAD_READ (R269). -/
def execResultHeadRead (r : Fin 19) (st : Fin 32) (s : State) : Answer :=
  .next (s.ask (State.readBy r.val (Reg.STAT_RES_HEAD st.val)))

end Sys2Proof.Machine
end

