-- ==== Sys2Proof/Machine/LifeCmds.lean ====
section
/-! DEFINITION. Machine/LifeCmds.lean: the meanings of the commands of the calendar, the life counters and the journal. -/

namespace Sys2Proof.Machine

/-- CALENDAR_TICK (R453); the ageing readings of a calendar-set record. -/
def execCalendarTick (ages : List (Fin 32 × Fin 65536)) (ns : Nat) (s : State) : Answer :=
  .next (s.chip ns (State.calTick (ageVals ages)))

/-- CALENDAR_SET (R455): requester r writes LIFE_CAL_SET as one 64-bit access. -/
def execCalendarSet (r : Fin 19) (v : Word64) (s : State) : Answer :=
  .next (s.ask (State.busWrite64 r.val Reg.LIFE_CAL_SET v.toNat))

/-- TEMPERATURE_SAMPLE (R458): the sensors' readings in degrees Celsius. -/
def execTemperatureSample (temps : List Int) (ns : Nat) (s : State) : Answer :=
  .next (s.running ns (State.tempsSample temps))

/-- POWERED_MINUTE (R457). -/
def execPoweredMinute (ns : Nat) (s : State) : Answer :=
  .next (s.running ns State.poweredMinute)

/-- WARM_MINUTE (R457). -/
def execWarmMinute (s : State) : Answer :=
  .next (s.chip 0 State.warmMinute)

/-- JOURNAL_PERIODIC (R462); the ageing readings of the record. -/
def execJournalPeriodic (ages : List (Fin 32 × Fin 65536)) (ns : Nat) (s : State) : Answer :=
  .next (s.running ns (State.jrPeriodic (ageVals ages)))

/-- JOURNAL_BOOT_RECORD (R462); the ageing readings of the record. -/
def execJournalBootRecord (ages : List (Fin 32 × Fin 65536)) (ns : Nat) (s : State) : Answer :=
  .next (s.running ns (State.jrBootRecord (ageVals ages)))

/-- JOURNAL_OP_DONE (R463): whether the flash reports a failure. -/
def execJournalOpDone (failed : Bool) (ns : Nat) (s : State) : Answer :=
  .next (s.running ns (State.jrOpDone failed))

end Sys2Proof.Machine
end

