-- ==== Sys2Proof/Machine/PortCmds.lean ====
section
/-! DEFINITION. Machine/PortCmds.lean: the meanings of the commands of the sensor ports and their packets. -/

namespace Sys2Proof.Machine

/-- APHY_LINK_UP (R101): port p, the gear the serializer requests, lanes. -/
def execAphyLinkUp (p : Fin 16) (gear : Fin 8) (ns : Nat) (s : State) : Answer :=
  .next (s.event ns (State.linkUp p.val gear.val))

/-- APHY_LINK_LOSS (R103). -/
def execAphyLinkLoss (p : Fin 16) (ns : Nat) (s : State) : Answer :=
  .next (s.event ns (State.linkLoss p.val))

/-- RETRAIN_REQUEST (R103): requester r writes PORT_p_LINK.retrain = 1. -/
def execRetrainRequest (r : Fin 19) (p : Fin 24) (s : State) : Answer :=
  .next (s.ask (State.setBits r.val (Reg.PORT_LINK p.val) 0x80000000))

/-- RETRAIN_START (R103). -/
def execRetrainStart (p : Fin 16) (ns : Nat) (s : State) : Answer :=
  .next (s.event ns (State.retrainStart p.val))

/-- EQ_MARGIN_UPDATE (R102). -/
def execEqMarginUpdate (p : Fin 24) (margin : Fin 256) (s : State) : Answer :=
  .next (s.event 0 (State.eqMargin p.val margin.val))

/-- EQ_MARGIN_READ (R132). -/
def execEqMarginRead (r : Fin 19) (p : Fin 24) (s : State) : Answer :=
  .next (s.ask (State.readBy r.val (Reg.PORT_EQ p.val)))

/-- APHY_PACKET_CHECK_FAIL (R104): resends, and whether the packet is lost. -/
def execAphyPacketCheckFail (p : Fin 16) (resends : Nat) (lost : Bool) (s : State) : Answer :=
  .next (s.event 0 (State.retx p.val resends lost))

/-- FRAME_START_PACKET (R115): link, virtual channel, CSI-2 frame number. -/
def execFrameStartPacket (p : Fin 24) (link : Bool) (vc : Fin 32) (num : Fin 65536) (arr : Arrival) (ns : Nat)
    (s : State) : Answer :=
  .next (s.event ns (State.packet ⟨p.val, link, vc.val, arr, .start num.val⟩))

/-- LINE_PACKET (R115): data type, line number, decoded sample codes, payload check, CSE field, room in the
ingress buffer. -/
def execLinePacket (p : Fin 24) (link : Bool) (vc : Fin 32) (dt : Fin 64) (line : Option (Fin 65536))
    (codes : List Nat) (crcOk : Bool) (cse : CseField) (room : Bool) (arr : Arrival) (ns : Nat) (s : State) : Answer :=
  .next (s.event ns (State.packet ⟨p.val, link, vc.val, arr, .line dt.val (line.map Fin.val) codes crcOk cse room⟩))

/-- FRAME_END_PACKET (R115). -/
def execFrameEndPacket (p : Fin 24) (link : Bool) (vc : Fin 32) (arr : Arrival) (ns : Nat) (s : State) : Answer :=
  .next (s.event ns (State.packet ⟨p.val, link, vc.val, arr, .stop⟩))

/-- EMBEDDED_DATA_PACKET (R252): the payload bytes. -/
def execEmbeddedDataPacket (p : Fin 24) (link : Bool) (vc : Fin 32) (bytes : List Byte) (arr : Arrival)
    (chk : PktCheck) (ns : Nat) (s : State) : Answer :=
  .next (s.event ns (State.packet ⟨p.val, link, vc.val, arr, .embedded (byteVals bytes) chk.crcOk chk.cse⟩))

/-- USER_DEFINED_PACKET (R109): data type 0x30 + kind, the payload bytes and their check. -/
def execUserDefinedPacket (p : Fin 24) (link : Bool) (vc : Fin 32) (data : UserData)
    (arr : Arrival) (chk : PktCheck) (ns : Nat) (s : State) : Answer :=
  .next (s.event ns (State.packet ⟨p.val, link, vc.val, arr, .user data.kind.val (byteVals data.bytes) chk.crcOk chk.cse⟩))

/-- OTHER_LONG_PACKET (R111): data type and payload bytes. -/
def execOtherLongPacket (p : Fin 24) (link : Bool) (vc : Fin 32) (data : OtherData) (arr : Arrival) (ns : Nat)
    (s : State) : Answer :=
  .next (s.event ns (State.packet ⟨p.val, link, vc.val, arr, .other data.dt.val data.len⟩))

/-- LINE_TIMEOUT (R119): map entry k of port p. -/
def execLineTimeout (p : Fin 24) (k : Fin 4) (ns : Nat) (s : State) : Answer :=
  .next (s.event ns (State.lineTimeout p.val k.val))

/-- IDLE_TIMEOUT (R121). -/
def execIdleTimeout (p : Fin 24) (k : Fin 4) (ns : Nat) (s : State) : Answer :=
  .next (s.event ns (State.idleTimeout p.val k.val))

/-- SENSOR_REINIT_COMPLETE (R124). -/
def execSensorReinitComplete (p : Fin 24) (k : Fin 4) (ns : Nat) (s : State) : Answer :=
  .next (s.event ns (State.reinitDone p.val k.val))

end Sys2Proof.Machine
end

