-- ==== Sys2Proof/Machine/PowerCmds.lean ====
section
/-! DEFINITION. Machine/PowerCmds.lean: the meanings of the commands of Standby, power domains and voltage scaling. -/

namespace Sys2Proof.Machine

/-- STANDBY_ENTER (R50): requester r writes PM_CTRL.cmd = 0b01. -/
def execStandbyEnter (r : Fin 19) (s : State) : Answer :=
  .next (s.askPlan (State.busWrite r.val Reg.PM_CTRL 1))

/-- STANDBY_ENTRY_COMPLETE (R50). -/
def execStandbyEntryComplete (ns : Nat) (s : State) : Answer :=
  .next (s.event ns State.standbyDone)

/-- WAKE_COMMAND (R54): requester r writes PM_CTRL.cmd = 0b10. -/
def execWakeCommand (r : Fin 19) (s : State) : Answer :=
  .next (s.askPlan (State.busWrite r.val Reg.PM_CTRL 2))

/-- WAKE_COMPLETE (R54). -/
def execWakeComplete (ns : Nat) (s : State) : Answer :=
  .next (s.event ns (fun s => s.wakeComplete.awoken))

/-- PM_DCTRL_HOLD_OFF (R47): requester r sets hold_off of domain n. -/
def execPmDctrlHoldOff (r : Fin 19) (n : Fin 152) (s : State) : Answer :=
  .next (s.askPlan (State.setBits r.val (Reg.PM_DCTRL n.val) 2))

/-- PM_DCTRL_HOLD_ON (R66): requester r sets hold_on of domain n. -/
def execPmDctrlHoldOn (r : Fin 19) (n : Fin 152) (s : State) : Answer :=
  .next (s.askPlan (State.setBits r.val (Reg.PM_DCTRL n.val) 1))

/-- DOMAIN_RAMP_START (R42): the ramp slot of domain n begins. -/
def execDomainRampStart (n : Fin 152) (ns : Nat) (s : State) : Answer :=
  .next (s.event ns (State.rampStart n.val))

/-- DOMAIN_WAKE_DONE (R41): the three wake steps of domain n have ended. -/
def execDomainWakeDone (n : Fin 152) (ns : Nat) (s : State) : Answer :=
  .next (s.event ns (fun s => (s.wakeDone n.val).awoken))

/-- DOMAIN_DRAIN_DONE (R46): every transfer of domain n has paused. -/
def execDomainDrainDone (n : Fin 152) (ns : Nat) (s : State) : Answer :=
  .next (s.event ns (State.drainDone n.val))

/-- AVS_TICK (R63): the worst margin in 0.25 %, whether the PMBus transfer succeeds within its three attempts. -/
def execAvsTick (margin : Fin 256) (busOk : Bool) (ns : Nat) (s : State) : Answer :=
  .next (s.running ns (State.avsTick margin.val busOk))

/-- AVS_ALERT (R62). -/
def execAvsAlert (ns : Nat) (s : State) : Answer :=
  .next (s.running ns State.avsAlert)

/-- PM_REFUSE_READ (R66). -/
def execPmRefuseRead (r : Fin 19) (s : State) : Answer :=
  .next (s.ask (State.readBy r.val Reg.PM_REFUSE))

end Sys2Proof.Machine
end

