-- ==== Sys2Proof/Machine/Resets.lean ====
section
/-! DEFINITION. Machine/Resets.lean: the meanings of the commands of supplies, resets, Boot, oscillators and PLLs. -/

namespace Sys2Proof.Machine

/-- POWER_ON_RESET (R67): PORST_N falls. -/
def execPowerOnReset (ns : Nat) (s : State) : Answer :=
  .next (s.chip ns State.porstFall)

/-- SUPPLY_OUT_OF_RANGE (R38): a main supply other than VDD_CORE leaves its range; which, and whether it is absent. -/
def execSupplyOutOfRange (loss : RailLoss) (ns : Nat) (s : State) : Answer :=
  .next (s.chip ns (State.supplyOut loss.rail loss.absent))

/-- VDD_CORE_LOSS (R38). -/
def execVddCoreLoss (ns : Nat) (s : State) : Answer :=
  .next (s.chip ns State.coreLoss)

/-- VDD_CORE_RETURN (R37): VDD_CORE is within its range; the other main supplies that are outside theirs, or absent. -/
def execVddCoreReturn (mains : Mains) (s : State) : Answer :=
  .next (s.chip 0 (State.coreBack mains.out mains.absent))

/-- WARMER_POWER_LOSS (R37). -/
def execWarmerPowerLoss (s : State) : Answer :=
  .next (s.chip 0 State.warmerOff)

/-- WARMER_POWER_UP (R456): the warmer is powered again; whether VDD_CORE is within its range then, which other main supplies
are outside theirs or absent, and what WARM_SRC selects. -/
def execWarmerPowerUp (coreOk : Bool) (sup : Supplies) (s : State) : Answer :=
  .next (s.chip 0 (State.warmerUp coreOk sup.mains.out sup.mains.absent sup.internal))

/-- RESET_RELEASE (R73): the strap levels, what the flash answers, and how far Boot runs. -/
def execResetRelease (env : BootEnv) (s : State) : Answer :=
  .next (s.chip 0 (State.resetRelease env))

/-- SUPPLY_WARNING (R465): SUPW_N falls; the ageing readings of the record (region, normalised count). -/
def execSupplyWarning (ages : List (Fin 32 × Fin 65536)) (ns : Nat) (s : State) : Answer :=
  .next (s.chip ns (State.supplyWarning (ageVals ages)))

/-- SUPPLY_WARNING_RELEASE (R465): SUPW_N rises. -/
def execSupplyWarningRelease (ns : Nat) (s : State) : Answer :=
  .next (s.chip ns State.supplyRelease)

/-- REFERENCE_LOSS (R57). -/
def execReferenceLoss (ns : Nat) (s : State) : Answer :=
  .next (s.chip ns State.refLost)

/-- PLL_UNLOCK (R61): PLL CK_n loses lock. -/
def execPllUnlock (n : Fin 8) (ns : Nat) (s : State) : Answer :=
  .next (s.chip ns (State.pllUnlock n.val))

/-- PLL_RELOCK (R61): PLL CK_n locks again; the lock time in 0.1 us. -/
def execPllRelock (n : Fin 8) (lockTime : Fin 256) (ns : Nat) (s : State) : Answer :=
  .next (s.event ns (State.pllRelock n.val lockTime.val))

/-- LOCKSTEP_MISMATCH (R67). -/
def execLockstepMismatch (ns : Nat) (s : State) : Answer :=
  .next (s.chip ns (State.faultReset 4))

/-- WATCHDOG_EXPIRY (R67). -/
def execWatchdogExpiry (ns : Nat) (s : State) : Answer :=
  .next (s.chip ns (State.faultReset 4))

/-- SOFTWARE_RESET (R67): requester r writes BOOT_CMD with op 0x1. -/
def execSoftwareReset (r : Fin 19) (s : State) : Answer :=
  .next (s.ask (State.busWrite r.val Reg.BOOT_CMD 0x5A3C0001))

/-- HOST_LINK_RESET_COMMAND (R67): requester r writes BOOT_CMD with op 0x2. -/
def execHostLinkResetCommand (r : Fin 19) (s : State) : Answer :=
  .next (s.ask (State.busWrite r.val Reg.BOOT_CMD 0x5A3C0002))

/-- RAISE_ROLLBACK_FLOOR (R93): requester r writes BOOT_CMD with op 0x3; whether VFUSE is present. -/
def execRaiseRollbackFloor (r : Fin 19) (vfuse : Bool) (s : State) : Answer :=
  .next (({ s with pw := { s.pw with vfuse := vfuse } }).ask (State.busWrite r.val Reg.BOOT_CMD 0x5A3C0003))

/-- PERST_ASSERT (R56). -/
def execPerstAssert (ns : Nat) (s : State) : Answer :=
  .next (s.chip ns State.perstFall)

/-- PERST_RELEASE (R24). -/
def execPerstRelease (ns : Nat) (s : State) : Answer :=
  .next (s.chip ns State.perstRise)

/-- HOST_LINK_RESET_END (R69). -/
def execHostLinkResetEnd (ns : Nat) (s : State) : Answer :=
  .next (s.running ns State.hlResetEnd)

/-- LINK_TRAINING_START (R71). -/
def execLinkTrainingStart (ns : Nat) (s : State) : Answer :=
  .next (s.running ns State.trainStart)

/-- CONFIG_REQUEST_DURING_BOOT (R71): a configuration request to function fn. -/
def execConfigRequestDuringBoot (fn : Fin 16) (s : State) : Answer :=
  .next (s.ask (State.configRequest fn.val))

/-- XTAL32K_STOP (R60). -/
def execXtal32kStop (ns : Nat) (s : State) : Answer :=
  .next (s.chip ns State.xtalStop)

/-- XTAL32K_RETURN (R454). -/
def execXtal32kReturn (ns : Nat) (s : State) : Answer :=
  .next (s.chip ns State.xtalBack)

/-- RC_TRIM (R454): the measured deviation in ppm. -/
def execRcTrim (ppm : Int) (s : State) : Answer :=
  .next (s.chip 0 (State.rcTrim ppm))

/-- KEYON_BIST_WAVE_END (R415): wave number and the domains of it that failed. -/
def execKeyonBistWaveEnd (wave : Fin 6) (results : List BistResult) (s : State) : Answer :=
  .next (s.running 0 (fun s => (s.waveEnd (wave.val + 1) results).awoken))

end Sys2Proof.Machine
end

