-- ==== Sys2Proof/Machine/SensorCmds.lean ====
section
/-! DEFINITION. Machine/SensorCmds.lean: the meanings of the commands of the control channels. -/

namespace Sys2Proof.Machine

/-- CONTROL_TRANSFER_DONE (R87): how the transfer of channel p ended. -/
def execControlTransferDone (p : Fin 24) (res : XferRes) (ns : Nat) (s : State) : Answer :=
  .next (s.event ns (State.xferDone p.val res))

/-- SEQUENCE_DELAY_EXPIRY (R86). -/
def execSequenceDelayExpiry (p : Fin 24) (ns : Nat) (s : State) : Answer :=
  .next (s.event ns (State.delayDone p.val))

/-- NACK_RETRY_TIMER (R148). -/
def execNackRetryTimer (p : Fin 24) (ns : Nat) (s : State) : Answer :=
  .next (s.event ns (State.retryAfter p.val .nack))

/-- BACKOFF_TIMER (R148): whose back-off is over. -/
def execBackoffTimer (who : BackWho) (ns : Nat) (s : State) : Answer :=
  .next (s.event ns (State.backOver who))

/-- TUNNEL_ANSWER_TIMEOUT (R148). -/
def execTunnelAnswerTimeout (p : Fin 16) (ns : Nat) (s : State) : Answer :=
  .next (s.event ns (State.tunnelLate p.val))

/-- CLOCK_STRETCH_TIMEOUT (R134). -/
def execClockStretchTimeout (p : Fin 24) (ns : Nat) (s : State) : Answer :=
  .next (s.event ns (State.stretchLate p.val))

/-- INIT_RETRY_TIMER (R137). -/
def execInitRetryTimer (p : Fin 24) (k : Fin 4) (ns : Nat) (s : State) : Answer :=
  .next (s.event ns (State.initRetry p.val k.val))

/-- BUS_CLEAR_RETRY (R138, R372): channel p, or glue bus p − 24; whether SDA is still low after the STOP. -/
def execBusClearRetry (p : Fin 26) (sdaLow : Bool) (ns : Nat) (s : State) : Answer :=
  .next (s.event ns (State.clearAgain p.val sdaLow))

/-- FIRST_ATTEMPT_TIMEOUT (R139). -/
def execFirstAttemptTimeout (p : Fin 16) (ns : Nat) (s : State) : Answer :=
  .next (s.event ns (State.firstTimeout p.val))

/-- WRITE_WINDOW_CLOSE (R145). -/
def execWriteWindowClose (p : Fin 24) (k : Fin 4) (ns : Nat) (s : State) : Answer :=
  .next (s.event ns (State.windowClose p.val k.val))

/-- IN_BAND_INTERRUPT (R147): address and payload. -/
def execInBandInterrupt (p : Fin 24) (addr : Fin 128) (_payload : List Byte) (ns : Nat) (s : State) : Answer :=
  .next (s.event ns (State.ibi p.val addr.val))

/-- SC_MAILBOX_READ (R161): requester, channel, target, register, two bytes or one, byte order. -/
def execScMailboxRead (r : Fin 19) (p : Fin 24) (tgt : Fin 4) (reg : Fin 65536) (two : Bool) (lsb : Bool)
    (s : State) : Answer :=
  .next (s.ask (State.busWrite r.val (Reg.SC_XFER p.val) (mailWord true tgt.val reg.val two lsb)))

/-- SC_MAILBOX_WRITE (R161): the data are SC_p_XDATA. -/
def execScMailboxWrite (r : Fin 19) (p : Fin 24) (tgt : Fin 4) (reg : Fin 65536) (two : Bool) (lsb : Bool)
    (s : State) : Answer :=
  .next (s.ask (State.busWrite r.val (Reg.SC_XFER p.val) (mailWord false tgt.val reg.val two lsb)))

/-- SENSOR_READBACK (R403): target k of channel p. -/
def execSensorReadback (p : Fin 24) (k : Fin 4) (ns : Nat) (s : State) : Answer :=
  .next (s.event ns (State.readBack p.val k.val))

end Sys2Proof.Machine
end

