-- ==== Sys2Proof/Machine/SignalCmds.lean ====
section
/-! DEFINITION. Machine/SignalCmds.lean: the meanings of the commands of the vehicle buses, GPIOs, glue interfaces and targets. -/

namespace Sys2Proof.Machine

/-- CAN_FRAME_RECEIVED (R361): controller, frame kind (0 classic, 1 FD, 2 XL, 3 a remote frame), extended
identifier, identifier, payload. -/
def execCanFrameReceived (c : Fin 4) (kind : Fin 4) (ext : Bool) (ident : Fin 536870912) (bytes : List Byte)
    (ns : Nat) (s : State) : Answer :=
  .next (s.event ns (State.canCame c.val kind.val ext ident.val (byteVals bytes)))

/-- CAN_MESSAGE_TIMEOUT (R361): definition m. -/
def execCanMessageTimeout (m : Fin 64) (ns : Nat) (s : State) : Answer :=
  .next (s.event ns (State.msgTimeout m.val))

/-- SIGNAL_BIND (R365): for a frame of stream s, after the receptions of the same cycle (R370). -/
def execSignalBind (st : Fin 32) (frame : BindAt) (ns : Nat) (s : State) : Answer :=
  .next (s.event ns (fun s => (s.cansCame frame.now).sigBindAt st.val frame.num.val))

/-- CAN_TX_PERIOD (R368): definition j; whether the new frame wins arbitration before its next period, and the receptions of the same
cycle, which come first (R370). -/
def execCanTxPeriod (j : Fin 16) (send : CanSend) (ns : Nat) (s : State) : Answer :=
  .next (s.event ns (fun s => (s.cansCame send.now).canTx j.val send.wins))

/-- CAN_BUS_OFF (R360). -/
def execCanBusOff (c : Fin 4) (ns : Nat) (s : State) : Answer :=
  .next (s.event ns (State.canBusOff c.val))

/-- CAN_BUSOFF_RECOVERY (R359). -/
def execCanBusoffRecovery (c : Fin 4) (ns : Nat) (s : State) : Answer :=
  .next (s.event ns (State.canRecover c.val))

/-- GPIO_EDGE (R371): a debounced input has taken a level. -/
def execGpioEdge (n : Fin 32) (high : Bool) (ns : Nat) (s : State) : Answer :=
  .next (s.event ns (State.gpioCame n.val high))

/-- GLUE_READ (R372): requester r writes SIG_GM_n_XFER with go and rd = 1, the other fields as in w; how the first
attempt ends, and whether SDA is still low after a bus clear. -/
def execGlueRead (r : Fin 19) (n : Fin 2) (w : Word) (res : GlueRes) (sdaLow : Bool) (s : State) : Answer :=
  .next (s.ask (State.glueBy r.val n.val (w.toNat % 2 ^ 30 + 0xC0000000) res sdaLow))

/-- GLUE_WRITE (R372): the same with rd = 0. -/
def execGlueWrite (r : Fin 19) (n : Fin 2) (w : Word) (res : GlueRes) (sdaLow : Bool) (s : State) : Answer :=
  .next (s.ask (State.glueBy r.val n.val (w.toNat % 2 ^ 30 + 0x80000000) res sdaLow))

/-- The bytes of a frame of the SPI controller: those that its command uses, the others, the CRC (R373). -/
def sdiBytes (used : List Nat) (e : SdiEnd) : List Nat := used ++ byteVals e.rest ++ [e.crc.toNat]

/-- SPI_CMD_NONE (R373, R374): command 0x00; whether the last command is still in progress. -/
def execSpiCmdNone (sdi : SdiEnd) (busy : Bool) (ns : Nat) (s : State) : Answer :=
  .next (s.running ns (State.spiFrame (sdiBytes [0] sdi) 0 busy))

/-- SPI_CMD_READ (R374): sequence number and offset. -/
def execSpiCmdRead (seq : Fin 256) (off : Fin 16777216) (sdi : SdiEnd) (busy : Bool) (ns : Nat) (s : State) : Answer :=
  .next (s.running ns (State.spiFrame (sdiBytes (1 :: seq.val :: beBytes 3 off.val) sdi) 0 busy))

/-- SPI_CMD_WRITE (R374). -/
def execSpiCmdWrite (seq : Fin 256) (off : Fin 16777216) (d : WriteWord) (sdi : SdiEnd) (busy : Bool) (ns : Nat)
    (s : State) : Answer :=
  .next (s.running ns (State.spiFrame (sdiBytes (2 :: seq.val :: (beBytes 3 off.val ++ beBytes 4 d.v.toNat)) sdi) d.now.toNat busy))

/-- SPI_CMD_WAKE (R54). -/
def execSpiCmdWake (seq : Fin 256) (sdi : SdiEnd) (busy : Bool) (ns : Nat) (s : State) : Answer :=
  .next (s.running ns (State.spiFrame (sdiBytes [3, seq.val] sdi) 0 busy))

/-- SAFETY_CYCLE (R375). -/
def execSafetyCycle (ns : Nat) (s : State) : Answer :=
  .next (s.running ns State.safetyCycle)

/-- I2CT_WRITE (R376): the address sent, offset, data, the CRC sent. -/
def execI2ctWrite (addr : Fin 128) (off : Fin 16777216) (d : WriteWord) (crc : Byte) (ns : Nat) (s : State) : Answer :=
  .next (s.running ns (State.i2ctWrite addr.val off.val d.v.toNat d.now.toNat crc.toNat))

/-- I2CT_READ (R376): the address sent, offset, the CRC sent. -/
def execI2ctRead (addr : Fin 128) (off : Fin 16777216) (crc : Byte) (ns : Nat) (s : State) : Answer :=
  .next (s.running ns (State.i2ctRead addr.val off.val crc.toNat))

/-- CAN_ERROR_PASSIVE (R386): the receive and transmit error counts. -/
def execCanErrorPassive (c : Fin 4) (rec : Fin 256) (tec : Fin 256) (ns : Nat) (s : State) : Answer :=
  .next (s.event ns (State.canPassive c.val rec.val tec.val))

/-- SPI_UNKNOWN_COMMAND (R373): a command code from 0x04 up. -/
def execSpiUnknownCommand (cmd : Fin 256) (seq : Fin 256) (sdi : SdiEnd) (busy : Bool) (ns : Nat)
    (s : State) : Answer :=
  .next (s.running ns (State.spiFrame (sdiBytes [cmd.val, seq.val] sdi) 0 busy))

end Sys2Proof.Machine
end

