-- ==== Sys2Proof/Machine/SpdmCmds.lean ====
section
/-! DEFINITION. Machine/SpdmCmds.lean: the meanings of the commands of SPDM, IDE_KM and debug authorisation. -/

namespace Sys2Proof.Machine

/-- GET_VERSION (R412). -/
def execGetVersion (s : State) : Answer :=
  .next (s.ask State.spdmVersion)

/-- GET_CAPABILITIES (R412): the requester's bytes. -/
def execGetCapabilities (req : List Byte) (s : State) : Answer :=
  .next (s.ask (State.spdmCapabilities (byteVals req)))

/-- NEGOTIATE_ALGORITHMS (R412): what the requester offers: bit 0 ECDSA P-384, 1 SHA-384, 2 secp384r1, 3 AES-256-GCM. -/
def execNegotiateAlgorithms (offered : Fin 16) (s : State) : Answer :=
  .next (s.ask (State.spdmAlgorithms offered.val))

/-- GET_DIGESTS (R412). -/
def execGetDigests (s : State) : Answer :=
  .next (s.ask State.spdmDigests)

/-- GET_CERTIFICATE (R412): slot, offset, length. -/
def execGetCertificate (slot : Fin 8) (off : Fin 65536) (len : Fin 65536) (s : State) : Answer :=
  .next (s.ask (State.spdmCertificate slot.val off.val len.val))

/-- CHALLENGE (R412). -/
def execChallenge (slot : Fin 8) (nonce : List Byte) (s : State) : Answer :=
  .next (s.ask (State.spdmChallenge slot.val (byteVals nonce)))

/-- GET_MEASUREMENTS (R413): index 0 for the number of blocks, 255 for all; whether a signature is asked for. -/
def execGetMeasurements (index : Fin 256) (signed : Bool) (nonce : List Byte) (s : State) : Answer :=
  .next (s.ask (State.spdmMeasurements index.val signed (byteVals nonce)))

/-- KEY_EXCHANGE (R412): the session's number and the requester's key share. -/
def execKeyExchange (session : Fin 65536) (share : List Byte) (s : State) : Answer :=
  .next (s.ask (State.spdmKeyExchange session.val (byteVals share)))

/-- FINISH (R412): whether the requester's check value is right. -/
def execFinish (ok : Bool) (s : State) : Answer :=
  .next (s.ask (State.spdmFinish ok))

/-- END_SESSION (R412). -/
def execEndSession (s : State) : Answer :=
  .next (s.ask State.spdmEnd)

/-- HEARTBEAT (R412). -/
def execHeartbeat (s : State) : Answer :=
  .next (s.ask State.spdmHeartbeat)

/-- KEY_UPDATE (R412). -/
def execKeyUpdate (s : State) : Answer :=
  .next (s.ask State.spdmKeyUpdate)

/-- IDE_KM_REQUEST (R301). -/
def execIdeKmRequest (m : IdeMsg) (s : State) : Answer :=
  .next (s.ask (State.ideKm m))

/-- DEBUG_AUTHORISATION (R431): authorised or withdrawn. -/
def execDebugAuthorisation (on : Bool) (ns : Nat) (s : State) : Answer :=
  .next (s.running ns (State.debugAuth on))

end Sys2Proof.Machine
end

