-- ==== Sys2Proof/Machine/StoreCmds.lean ====
section
/-! DEFINITION. Machine/StoreCmds.lean: the meanings of the commands of the palette, queues and plain register accesses. -/

namespace Sys2Proof.Machine

/-- SCRUB_DRIP (R282). -/
def execScrubDrip (ns : Nat) (s : State) : Answer :=
  .next (s.event ns State.scrubDrip)

/-- QUEUE_PUSH (R287): requester r writes w to QUE_q_PUSH. -/
def execQueuePush (r : Fin 19) (q : Fin 96) (w : Word) (s : State) : Answer :=
  .next (s.ask (State.busWrite r.val (Reg.QUE_PUSH q.val) w.toNat))

/-- QUEUE_POP (R289): a read of the low half of QUE_q_POP, or (wide) of both halves at once. -/
def execQueuePop (r : Fin 19) (q : Fin 96) (wide : Bool) (s : State) : Answer :=
  .next (s.ask (if wide then State.readBy64 r.val (Reg.QUE_POP q.val) else State.readBy r.val (Reg.QUE_POP q.val)))

/-- QUEUE_RESET (R292). -/
def execQueueReset (r : Fin 19) (q : Fin 96) (s : State) : Answer :=
  .next (s.ask (State.busWrite r.val (Reg.QUE_CTRL q.val) 1))

/-- FC_MIN_WIDTH_EXPIRY (R295): pin n. -/
def execFcMinWidthExpiry (n : Fin 8) (ns : Nat) (s : State) : Answer :=
  .next (s.running ns (State.fcExpire n.val))

/-- REG64_LOW_HALF_READ (R4): the register whose low half stands at an offset. -/
def execReg64LowHalfRead (r : Fin 19) (off : Fin 16777216) (s : State) : Answer :=
  .next (s.ask (State.readAny r.val off.val))

/-- REG64_HIGH_HALF_WRITE (R4): the register whose high half stands at an offset. -/
def execReg64HighHalfWrite (r : Fin 19) (off : Fin 16777216) (v : Word) (s : State) : Answer :=
  .next (s.askPlan (State.writeAny r.val off.val v.toNat none))

/-- REGISTER_WRITE (R471): requester r writes d; with a high half, an 8-byte access. A W1C bit whose condition
occurs in the same cycle stays set (R6, R7). -/
def execRegisterWrite (r : Fin 19) (off : Fin 16777216) (d : WriteData) (now : Word64) (s : State) : Answer :=
  .next (s.askPlan (State.writeNow r.val off.val d.v.toNat (d.hi.map BitVec.toNat) now.toNat))

end Sys2Proof.Machine
end

