-- ==== Sys2Proof/Machine/TimeCmds.lean ====
section
/-! DEFINITION. Machine/TimeCmds.lean: the meanings of the commands of vehicle time, sync groups and FSYNC. -/

namespace Sys2Proof.Machine

/-- SYNC_GROUP_START (R139). -/
def execSyncGroupStart (ns : Nat) (s : State) : Answer :=
  .next (s.event ns State.syncStart)

/-- GPTP_MESSAGE (R152, R153): the frame's gPTP domain, and what it is. -/
def execGptpMessage (domain : Fin 256) (msg : GptpMsg) (ns : Nat) (s : State) : Answer :=
  .next (s.event ns (State.gptpCame domain.val msg))

/-- PTM_DIALOGUE (R152): host PTM time minus vehicle time. -/
def execPtmDialogue (offset : Int) (ns : Nat) (s : State) : Answer :=
  .next (s.event ns (State.ptmCame offset))

/-- PPS_EDGE (R154). -/
def execPpsEdge (ns : Nat) (s : State) : Answer :=
  .next (s.event ns State.ppsEdge)

/-- PPS_TIMEOUT (R153). -/
def execPpsTimeout (ns : Nat) (s : State) : Answer :=
  .next (s.event ns State.ppsLate)

/-- HOLDOVER_TIMEOUT (R153). -/
def execHoldoverTimeout (ns : Nat) (s : State) : Answer :=
  .next (s.event ns State.holdoverLate)

/-- TIME_TOD_WRITE (R154): requester r writes TIME_TOD as one 64-bit access. -/
def execTimeTodWrite (r : Fin 19) (v : Word64) (s : State) : Answer :=
  .next (s.ask (State.busWrite64 r.val Reg.TIME_TOD v.toNat))

/-- MDIO_POLL (R152): the link bit of the PHY's basic status register. -/
def execMdioPoll (linkUp : Bool) (ns : Nat) (s : State) : Answer :=
  .next (s.event ns (State.mdioPoll linkUp))

/-- SYNC_EDGE (R155): the next edge of group g falls due. -/
def execSyncEdge (g : Fin 8) (s : State) : Answer :=
  .next (s.event 0 (State.syncEdge g.val))

/-- FSO_OUTPUT_EDGE (R156): output n, 0 to 15 = FSO0 to FSO15, 16 + p = the tunnelled line of AP port p. -/
def execFsoOutputEdge (n : Fin 32) (ns : Nat) (s : State) : Answer :=
  .next (s.event ns (State.fsoEdge n.val))

/-- FSO_PULSE_END (R156). -/
def execFsoPulseEnd (n : Fin 32) (ns : Nat) (s : State) : Answer :=
  .next (s.event ns (State.fsoEnd n.val))

/-- TIME_REFERENCE_LOST (R153). -/
def execTimeReferenceLost (ns : Nat) (s : State) : Answer :=
  .next (s.event ns State.timeLost)

end Sys2Proof.Machine
end

