-- ==== Sys2Proof/Machine/TransferCmds.lean ====
section
/-! DEFINITION. Machine/TransferCmds.lean: the meanings of the commands of the software channels of the transfer engine. -/

namespace Sys2Proof.Machine

/-- TXE_DOORBELL (R343). -/
def execTxeDoorbell (r : Fin 19) (c : Fin 128) (s : State) : Answer :=
  .next (s.ask (State.busWrite r.val (Reg.TXE_DB c.val) 0))

/-- TXE_DESCRIPTOR_FETCH (R343): how the fetch of channel c ends. -/
def execTxeDescriptorFetch (c : Fin 128) (res : HostRead) (ns : Nat) (s : State) : Answer :=
  .next (s.event ns (State.txeFetchEnd c.val res))

/-- TXE_RETRY_TIMER (R343). -/
def execTxeRetryTimer (c : Fin 128) (ns : Nat) (s : State) : Answer :=
  .next (s.event ns (State.txeRetry c.val))

/-- TXE_COPY (R345): a drip of a copy: how its reads end, and whether its destination translates. -/
def execTxeCopy (c : Fin 128) (src : HostRead) (dstXlat : Bool) (ns : Nat) (s : State) : Answer :=
  .next (s.event ns (State.txeRead 0 c.val src dstXlat))

/-- TXE_FILL (R345): a drip of a fill. -/
def execTxeFill (c : Fin 128) (dstXlat : Bool) (ns : Nat) (s : State) : Answer :=
  .next (s.event ns (State.txeDrip 1 c.val (.ok []) dstXlat))

/-- TXE_COMPARE (R345): a drip of a compare. -/
def execTxeCompare (c : Fin 128) (src : HostRead) (dst : HostRead) (ns : Nat) (s : State) : Answer :=
  .next (s.event ns (State.txeReads c.val src dst))

/-- TXE_CHECK_FED_COPY (R345): a drip of a check-fed copy. -/
def execTxeCheckFedCopy (c : Fin 128) (src : HostRead) (dstXlat : Bool) (ns : Nat) (s : State) : Answer :=
  .next (s.event ns (State.txeRead 3 c.val src dstXlat))

/-- TXE_UNKNOWN_OP (R351): the write-back of a refused descriptor. -/
def execTxeUnknownOp (c : Fin 128) (ns : Nat) (s : State) : Answer :=
  .next (s.event ns (State.txeRefused c.val))

/-- TXE_DRIP_BOUNDARY (R348). -/
def execTxeDripBoundary (c : Fin 128) (ns : Nat) (s : State) : Answer :=
  .next (s.event ns (State.txeBoundary c.val))

/-- DRIP_TIME_LIMIT (R347). -/
def execDripTimeLimit (c : Fin 128) (ns : Nat) (s : State) : Answer :=
  .next (s.event ns (State.txeLimit c.val))

/-- TXE_FLUSH_COMPLETE (R350). -/
def execTxeFlushComplete (c : Fin 128) (res : HostRead) (ns : Nat) (s : State) : Answer :=
  .next (s.event ns (State.txeFlushEnd c.val res))

/-- TXE_PAUSE (R353). -/
def execTxePause (r : Fin 19) (c : Fin 128) (s : State) : Answer :=
  .next (s.ask (State.setBits r.val (Reg.TXE_CTRL c.val) 1))

/-- TXE_UNPAUSE (R353). -/
def execTxeUnpause (r : Fin 19) (c : Fin 128) (s : State) : Answer :=
  .next (s.ask (State.busWrite r.val (Reg.TXE_CTRL c.val) 0))

/-- TXE_RESUME (R354). -/
def execTxeResume (r : Fin 19) (c : Fin 128) (s : State) : Answer :=
  .next (s.ask (State.setBits r.val (Reg.TXE_CTRL c.val) 2))

/-- TXE_ABORT (R355). -/
def execTxeAbort (r : Fin 19) (c : Fin 128) (s : State) : Answer :=
  .next (s.ask (State.setBits r.val (Reg.TXE_CTRL c.val) 4))

/-- TXE_UNIT_AVAILABLE (R356): the unit that channel c waits for is free. -/
def execTxeUnitAvailable (c : Fin 128) (ns : Nat) (s : State) : Answer :=
  .next (s.event ns (State.txeUnit c.val))

/-- TXE_BUF_READ (R358). -/
def execTxeBufRead (r : Fin 19) (s : State) : Answer :=
  .next (s.ask (State.readBy r.val Reg.TXE_BUF))

end Sys2Proof.Machine
end

