-- ==== Sys2Proof/Machine/Dispatch.lean ====
section
/-! DEFINITION. Machine/Dispatch.lean: the meaning of every command. -/

namespace Sys2Proof.Machine

/-- The effect of a command on everything but the queue. -/
def exec (i : Instr) (s : State) : Host.Outcome State Fault Refusal :=
  match i with
  | .powerOnReset ns => Sys2Proof.Machine.execPowerOnReset ns s
  | .supplyOutOfRange loss ns => Sys2Proof.Machine.execSupplyOutOfRange loss ns s
  | .vddCoreLoss ns => Sys2Proof.Machine.execVddCoreLoss ns s
  | .vddCoreReturn mains => Sys2Proof.Machine.execVddCoreReturn mains s
  | .warmerPowerLoss => Sys2Proof.Machine.execWarmerPowerLoss s
  | .warmerPowerUp coreOk sup => Sys2Proof.Machine.execWarmerPowerUp coreOk sup s
  | .resetRelease env => Sys2Proof.Machine.execResetRelease env s
  | .supplyWarning ages ns => Sys2Proof.Machine.execSupplyWarning ages ns s
  | .supplyWarningRelease ns => Sys2Proof.Machine.execSupplyWarningRelease ns s
  | .referenceLoss ns => Sys2Proof.Machine.execReferenceLoss ns s
  | .pllUnlock n ns => Sys2Proof.Machine.execPllUnlock n ns s
  | .pllRelock n lockTime ns => Sys2Proof.Machine.execPllRelock n lockTime ns s
  | .lockstepMismatch ns => Sys2Proof.Machine.execLockstepMismatch ns s
  | .watchdogExpiry ns => Sys2Proof.Machine.execWatchdogExpiry ns s
  | .softwareReset r => Sys2Proof.Machine.execSoftwareReset r s
  | .hostLinkResetCommand r => Sys2Proof.Machine.execHostLinkResetCommand r s
  | .raiseRollbackFloor r vfuse => Sys2Proof.Machine.execRaiseRollbackFloor r vfuse s
  | .perstAssert ns => Sys2Proof.Machine.execPerstAssert ns s
  | .perstRelease ns => Sys2Proof.Machine.execPerstRelease ns s
  | .hostLinkResetEnd ns => Sys2Proof.Machine.execHostLinkResetEnd ns s
  | .linkTrainingStart ns => Sys2Proof.Machine.execLinkTrainingStart ns s
  | .configRequestDuringBoot fn => Sys2Proof.Machine.execConfigRequestDuringBoot fn s
  | .xtal32kStop ns => Sys2Proof.Machine.execXtal32kStop ns s
  | .xtal32kReturn ns => Sys2Proof.Machine.execXtal32kReturn ns s
  | .rcTrim ppm => Sys2Proof.Machine.execRcTrim ppm s
  | .keyonBistWaveEnd wave results => Sys2Proof.Machine.execKeyonBistWaveEnd wave results s
  | .standbyEnter r => Sys2Proof.Machine.execStandbyEnter r s
  | .standbyEntryComplete ns => Sys2Proof.Machine.execStandbyEntryComplete ns s
  | .wakeCommand r => Sys2Proof.Machine.execWakeCommand r s
  | .wakeComplete ns => Sys2Proof.Machine.execWakeComplete ns s
  | .pmDctrlHoldOff r n => Sys2Proof.Machine.execPmDctrlHoldOff r n s
  | .pmDctrlHoldOn r n => Sys2Proof.Machine.execPmDctrlHoldOn r n s
  | .domainRampStart n ns => Sys2Proof.Machine.execDomainRampStart n ns s
  | .domainWakeDone n ns => Sys2Proof.Machine.execDomainWakeDone n ns s
  | .domainDrainDone n ns => Sys2Proof.Machine.execDomainDrainDone n ns s
  | .avsTick margin busOk ns => Sys2Proof.Machine.execAvsTick margin busOk ns s
  | .avsAlert ns => Sys2Proof.Machine.execAvsAlert ns s
  | .pmRefuseRead r => Sys2Proof.Machine.execPmRefuseRead r s
  | .functionD3hotEntry fn ns => Sys2Proof.Machine.execFunctionD3hotEntry fn ns s
  | .functionD0Entry fn msix dc ns => Sys2Proof.Machine.execFunctionD0Entry fn msix dc ns s
  | .functionLevelReset fn ns => Sys2Proof.Machine.execFunctionLevelReset fn ns s
  | .vfRemoval vf ns => Sys2Proof.Machine.execVfRemoval vf ns s
  | .l1Exit ns => Sys2Proof.Machine.execL1Exit ns s
  | .hostLinkUp rate width cxl ns => Sys2Proof.Machine.execHostLinkUp rate width cxl ns s
  | .hostLinkDown ns => Sys2Proof.Machine.execHostLinkDown ns s
  | .commitOpen r => Sys2Proof.Machine.execCommitOpen r s
  | .commitGo r => Sys2Proof.Machine.execCommitGo r s
  | .commitAbort r => Sys2Proof.Machine.execCommitAbort r s
  | .commitExecute ns => Sys2Proof.Machine.execCommitExecute ns s
  | .norErase r => Sys2Proof.Machine.execNorErase r s
  | .norProgram r => Sys2Proof.Machine.execNorProgram r s
  | .norRead r => Sys2Proof.Machine.execNorRead r s
  | .norOpDone failed ns => Sys2Proof.Machine.execNorOpDone failed ns s
  | .aphyLinkUp p gear ns => Sys2Proof.Machine.execAphyLinkUp p gear ns s
  | .aphyLinkLoss p ns => Sys2Proof.Machine.execAphyLinkLoss p ns s
  | .retrainRequest r p => Sys2Proof.Machine.execRetrainRequest r p s
  | .retrainStart p ns => Sys2Proof.Machine.execRetrainStart p ns s
  | .eqMarginUpdate p margin => Sys2Proof.Machine.execEqMarginUpdate p margin s
  | .eqMarginRead r p => Sys2Proof.Machine.execEqMarginRead r p s
  | .aphyPacketCheckFail p resends lost => Sys2Proof.Machine.execAphyPacketCheckFail p resends lost s
  | .frameStartPacket p link vc num arr ns => Sys2Proof.Machine.execFrameStartPacket p link vc num arr ns s
  | .linePacket p link vc dt line codes crcOk cse room arr ns => Sys2Proof.Machine.execLinePacket p link vc dt line codes crcOk cse room arr ns s
  | .frameEndPacket p link vc arr ns => Sys2Proof.Machine.execFrameEndPacket p link vc arr ns s
  | .embeddedDataPacket p link vc bytes arr chk ns => Sys2Proof.Machine.execEmbeddedDataPacket p link vc bytes arr chk ns s
  | .userDefinedPacket p link vc data arr chk ns => Sys2Proof.Machine.execUserDefinedPacket p link vc data arr chk ns s
  | .otherLongPacket p link vc data arr ns => Sys2Proof.Machine.execOtherLongPacket p link vc data arr ns s
  | .lineTimeout p k ns => Sys2Proof.Machine.execLineTimeout p k ns s
  | .idleTimeout p k ns => Sys2Proof.Machine.execIdleTimeout p k ns s
  | .sensorReinitComplete p k ns => Sys2Proof.Machine.execSensorReinitComplete p k ns s
  | .controlTransferDone p res ns => Sys2Proof.Machine.execControlTransferDone p res ns s
  | .sequenceDelayExpiry p ns => Sys2Proof.Machine.execSequenceDelayExpiry p ns s
  | .nackRetryTimer p ns => Sys2Proof.Machine.execNackRetryTimer p ns s
  | .backoffTimer who ns => Sys2Proof.Machine.execBackoffTimer who ns s
  | .tunnelAnswerTimeout p ns => Sys2Proof.Machine.execTunnelAnswerTimeout p ns s
  | .clockStretchTimeout p ns => Sys2Proof.Machine.execClockStretchTimeout p ns s
  | .initRetryTimer p k ns => Sys2Proof.Machine.execInitRetryTimer p k ns s
  | .busClearRetry p sdaLow ns => Sys2Proof.Machine.execBusClearRetry p sdaLow ns s
  | .firstAttemptTimeout p ns => Sys2Proof.Machine.execFirstAttemptTimeout p ns s
  | .syncGroupStart ns => Sys2Proof.Machine.execSyncGroupStart ns s
  | .writeWindowClose p k ns => Sys2Proof.Machine.execWriteWindowClose p k ns s
  | .inBandInterrupt p addr payload ns => Sys2Proof.Machine.execInBandInterrupt p addr payload ns s
  | .scMailboxRead r p tgt reg two lsb => Sys2Proof.Machine.execScMailboxRead r p tgt reg two lsb s
  | .scMailboxWrite r p tgt reg two lsb => Sys2Proof.Machine.execScMailboxWrite r p tgt reg two lsb s
  | .gptpMessage domain msg ns => Sys2Proof.Machine.execGptpMessage domain msg ns s
  | .ptmDialogue offset ns => Sys2Proof.Machine.execPtmDialogue offset ns s
  | .ppsEdge ns => Sys2Proof.Machine.execPpsEdge ns s
  | .ppsTimeout ns => Sys2Proof.Machine.execPpsTimeout ns s
  | .holdoverTimeout ns => Sys2Proof.Machine.execHoldoverTimeout ns s
  | .timeTodWrite r v => Sys2Proof.Machine.execTimeTodWrite r v s
  | .mdioPoll linkUp ns => Sys2Proof.Machine.execMdioPoll linkUp ns s
  | .syncEdge g => Sys2Proof.Machine.execSyncEdge g s
  | .fsoOutputEdge n ns => Sys2Proof.Machine.execFsoOutputEdge n ns s
  | .fsoPulseEnd n ns => Sys2Proof.Machine.execFsoPulseEnd n ns s
  | .easelLineBoundary e ns => Sys2Proof.Machine.execEaselLineBoundary e ns s
  | .strokeEnd e ns => Sys2Proof.Machine.execStrokeEnd e ns s
  | .strokeDeadlineMiss st ns => Sys2Proof.Machine.execStrokeDeadlineMiss st ns s
  | .restRotation ns => Sys2Proof.Machine.execRestRotation ns s
  | .rotationDrainDone ns => Sys2Proof.Machine.execRotationDrainDone ns s
  | .restingBistDone result repairs ns => Sys2Proof.Machine.execRestingBistDone result repairs ns s
  | .easelRetireCommand r e => Sys2Proof.Machine.execEaselRetireCommand r e s
  | .easelReadmitCommand r e => Sys2Proof.Machine.execEaselReadmitCommand r e s
  | .easelReadmit e ns => Sys2Proof.Machine.execEaselReadmit e ns s
  | .tableReloadOpen r => Sys2Proof.Machine.execTableReloadOpen r s
  | .tableReloadGo r => Sys2Proof.Machine.execTableReloadGo r s
  | .tableReloadAbort r => Sys2Proof.Machine.execTableReloadAbort r s
  | .tableReloadExecute ns => Sys2Proof.Machine.execTableReloadExecute ns s
  | .easWaitRead r e => Sys2Proof.Machine.execEasWaitRead r e s
  | .placementRefusalRead r => Sys2Proof.Machine.execPlacementRefusalRead r s
  | .statsBlockClose st ns => Sys2Proof.Machine.execStatsBlockClose st ns s
  | .controlLawsEnd st ns => Sys2Proof.Machine.execControlLawsEnd st ns s
  | .ledgerCmdSet r st => Sys2Proof.Machine.execLedgerCmdSet r st s
  | .ledgerCmdRelease r st => Sys2Proof.Machine.execLedgerCmdRelease r st s
  | .resultHeadRead r st => Sys2Proof.Machine.execResultHeadRead r st s
  | .scrubDrip ns => Sys2Proof.Machine.execScrubDrip ns s
  | .queuePush r q w => Sys2Proof.Machine.execQueuePush r q w s
  | .queuePop r q wide => Sys2Proof.Machine.execQueuePop r q wide s
  | .queueReset r q => Sys2Proof.Machine.execQueueReset r q s
  | .fcMinWidthExpiry n ns => Sys2Proof.Machine.execFcMinWidthExpiry n ns s
  | .reg64LowHalfRead r off => Sys2Proof.Machine.execReg64LowHalfRead r off s
  | .reg64HighHalfWrite r off v => Sys2Proof.Machine.execReg64HighHalfWrite r off v s
  | .outputDoorbell r ring => Sys2Proof.Machine.execOutputDoorbell r ring s
  | .descriptorFetchComplete ring res ns => Sys2Proof.Machine.execDescriptorFetchComplete ring res ns s
  | .descriptorRetryTimer ring ns => Sys2Proof.Machine.execDescriptorRetryTimer ring ns s
  | .outputReady ring xlatOk ns => Sys2Proof.Machine.execOutputReady ring xlatOk ns s
  | .flushReadComplete ring res ns => Sys2Proof.Machine.execFlushReadComplete ring res ns s
  | .completionTimeout which ns => Sys2Proof.Machine.execCompletionTimeout which ns s
  | .faultMailboxWrite r v => Sys2Proof.Machine.execFaultMailboxWrite r v s
  | .memberBudgetExpiry st ns => Sys2Proof.Machine.execMemberBudgetExpiry st ns s
  | .paletteViewRead off n => Sys2Proof.Machine.execPaletteViewRead off n s
  | .paletteViewWrite off => Sys2Proof.Machine.execPaletteViewWrite off s
  | .misalignedAccess r off write => Sys2Proof.Machine.execMisalignedAccess r off write s
  | .hlTagsRead r => Sys2Proof.Machine.execHlTagsRead r s
  | .atsInvalidation fn ns => Sys2Proof.Machine.execAtsInvalidation fn ns s
  | .getVersion => Sys2Proof.Machine.execGetVersion s
  | .getCapabilities req => Sys2Proof.Machine.execGetCapabilities req s
  | .negotiateAlgorithms offered => Sys2Proof.Machine.execNegotiateAlgorithms offered s
  | .getDigests => Sys2Proof.Machine.execGetDigests s
  | .getCertificate slot off len => Sys2Proof.Machine.execGetCertificate slot off len s
  | .challenge slot nonce => Sys2Proof.Machine.execChallenge slot nonce s
  | .getMeasurements index signed nonce => Sys2Proof.Machine.execGetMeasurements index signed nonce s
  | .keyExchange session share => Sys2Proof.Machine.execKeyExchange session share s
  | .finish ok => Sys2Proof.Machine.execFinish ok s
  | .endSession => Sys2Proof.Machine.execEndSession s
  | .heartbeat => Sys2Proof.Machine.execHeartbeat s
  | .keyUpdate => Sys2Proof.Machine.execKeyUpdate s
  | .txeDoorbell r c => Sys2Proof.Machine.execTxeDoorbell r c s
  | .txeDescriptorFetch c res ns => Sys2Proof.Machine.execTxeDescriptorFetch c res ns s
  | .txeRetryTimer c ns => Sys2Proof.Machine.execTxeRetryTimer c ns s
  | .txeCopy c src dstXlat ns => Sys2Proof.Machine.execTxeCopy c src dstXlat ns s
  | .txeFill c dstXlat ns => Sys2Proof.Machine.execTxeFill c dstXlat ns s
  | .txeCompare c src dst ns => Sys2Proof.Machine.execTxeCompare c src dst ns s
  | .txeCheckFedCopy c src dstXlat ns => Sys2Proof.Machine.execTxeCheckFedCopy c src dstXlat ns s
  | .txeUnknownOp c ns => Sys2Proof.Machine.execTxeUnknownOp c ns s
  | .txeDripBoundary c ns => Sys2Proof.Machine.execTxeDripBoundary c ns s
  | .dripTimeLimit c ns => Sys2Proof.Machine.execDripTimeLimit c ns s
  | .txeFlushComplete c res ns => Sys2Proof.Machine.execTxeFlushComplete c res ns s
  | .txePause r c => Sys2Proof.Machine.execTxePause r c s
  | .txeUnpause r c => Sys2Proof.Machine.execTxeUnpause r c s
  | .txeResume r c => Sys2Proof.Machine.execTxeResume r c s
  | .txeAbort r c => Sys2Proof.Machine.execTxeAbort r c s
  | .txeUnitAvailable c ns => Sys2Proof.Machine.execTxeUnitAvailable c ns s
  | .txeBufRead r => Sys2Proof.Machine.execTxeBufRead r s
  | .canFrameReceived c kind ext ident bytes ns => Sys2Proof.Machine.execCanFrameReceived c kind ext ident bytes ns s
  | .canMessageTimeout m ns => Sys2Proof.Machine.execCanMessageTimeout m ns s
  | .signalBind st frame ns => Sys2Proof.Machine.execSignalBind st frame ns s
  | .canTxPeriod j send ns => Sys2Proof.Machine.execCanTxPeriod j send ns s
  | .canBusOff c ns => Sys2Proof.Machine.execCanBusOff c ns s
  | .canBusoffRecovery c ns => Sys2Proof.Machine.execCanBusoffRecovery c ns s
  | .gpioEdge n high ns => Sys2Proof.Machine.execGpioEdge n high ns s
  | .glueRead r n w res sdaLow => Sys2Proof.Machine.execGlueRead r n w res sdaLow s
  | .glueWrite r n w res sdaLow => Sys2Proof.Machine.execGlueWrite r n w res sdaLow s
  | .spiCmdNone sdi busy ns => Sys2Proof.Machine.execSpiCmdNone sdi busy ns s
  | .spiCmdRead seq off sdi busy ns => Sys2Proof.Machine.execSpiCmdRead seq off sdi busy ns s
  | .spiCmdWrite seq off d sdi busy ns => Sys2Proof.Machine.execSpiCmdWrite seq off d sdi busy ns s
  | .spiCmdWake seq sdi busy ns => Sys2Proof.Machine.execSpiCmdWake seq sdi busy ns s
  | .safetyCycle ns => Sys2Proof.Machine.execSafetyCycle ns s
  | .i2ctWrite addr off d crc ns => Sys2Proof.Machine.execI2ctWrite addr off d crc ns s
  | .i2ctRead addr off crc ns => Sys2Proof.Machine.execI2ctRead addr off crc ns s
  | .erkLinkUp peer ns => Sys2Proof.Machine.execErkLinkUp peer ns s
  | .erkLinkLoss ns => Sys2Proof.Machine.execErkLinkLoss ns s
  | .erkDataFrame seq ack gap crcOk flags st w num off data ns => Sys2Proof.Machine.execErkDataFrame seq ack gap crcOk flags st w num off data ns s
  | .erkTimeFrame seq ack gap crcOk sent echo ns => Sys2Proof.Machine.execErkTimeFrame seq ack gap crcOk sent echo ns s
  | .erkCensusFrame seq ack gap crcOk epoch digest ns => Sys2Proof.Machine.execErkCensusFrame seq ack gap crcOk epoch digest ns s
  | .erkControlRequest seq ack gap crcOk rd off d ns => Sys2Proof.Machine.execErkControlRequest seq ack gap crcOk rd off d ns s
  | .erkControlAnswer seq ack gap crcOk denied v ns => Sys2Proof.Machine.execErkControlAnswer seq ack gap crcOk denied v ns s
  | .erkNoticeReceived seq ack gap crcOk first cause ns => Sys2Proof.Machine.execErkNoticeReceived seq ack gap crcOk first cause ns s
  | .erkIdleFrame ack gap crcOk ns => Sys2Proof.Machine.execErkIdleFrame ack gap crcOk ns s
  | .erkReplayTimeout ns => Sys2Proof.Machine.execErkReplayTimeout ns s
  | .erkTimeSend ns => Sys2Proof.Machine.execErkTimeSend ns s
  | .erkCensusSend ns => Sys2Proof.Machine.execErkCensusSend ns s
  | .erkPeerRead r off => Sys2Proof.Machine.execErkPeerRead r off s
  | .erkPeerWrite r off => Sys2Proof.Machine.execErkPeerWrite r off s
  | .chkStart r n w => Sys2Proof.Machine.execChkStart r n w s
  | .chkClose r n => Sys2Proof.Machine.execChkClose r n s
  | .chkScan r n => Sys2Proof.Machine.execChkScan r n s
  | .chkScanAbort r n => Sys2Proof.Machine.execChkScanAbort r n s
  | .chkScanDrip ns => Sys2Proof.Machine.execChkScanDrip ns s
  | .chkFeed r n v => Sys2Proof.Machine.execChkFeed r n v s
  | .chkRunWrite r n v => Sys2Proof.Machine.execChkRunWrite r n v s
  | .chkAliveWrite r n v => Sys2Proof.Machine.execChkAliveWrite r n v s
  | .censusPass katOk ns => Sys2Proof.Machine.execCensusPass katOk ns s
  | .censusDrip ns => Sys2Proof.Machine.execCensusDrip ns s
  | .sensorReadback p k ns => Sys2Proof.Machine.execSensorReadback p k ns s
  | .digestPublish ns => Sys2Proof.Machine.execDigestPublish ns s
  | .cenPubRead r => Sys2Proof.Machine.execCenPubRead r s
  | .bistLogicMemory r d => Sys2Proof.Machine.execBistLogicMemory r d s
  | .bistMemoryOnly r d => Sys2Proof.Machine.execBistMemoryOnly r d s
  | .bistFuseRepair r d vfuse => Sys2Proof.Machine.execBistFuseRepair r d vfuse s
  | .bistDone result ns => Sys2Proof.Machine.execBistDone result ns s
  | .fiEnable r => Sys2Proof.Machine.execFiEnable r s
  | .eventOccurrence h ns => Sys2Proof.Machine.execEventOccurrence h ns s
  | .eventStatusClear r w v now => Sys2Proof.Machine.execEventStatusClear r w v now s
  | .eventCounterClearAll c => Sys2Proof.Machine.execEventCounterClearAll c s
  | .eventCounterClearOne c n => Sys2Proof.Machine.execEventCounterClearOne c n s
  | .eventEnableWrite r w v => Sys2Proof.Machine.execEventEnableWrite r w v s
  | .eventRouteWrite r n v => Sys2Proof.Machine.execEventRouteWrite r n v s
  | .msixModerationExpiry fn vec ns => Sys2Proof.Machine.execMsixModerationExpiry fn vec ns s
  | .msixUnmask fn vec => Sys2Proof.Machine.execMsixUnmask fn vec s
  | .faultMinWidthExpiry k ns => Sys2Proof.Machine.execFaultMinWidthExpiry k ns s
  | .guardApply r => Sys2Proof.Machine.execGuardApply r s
  | .guardDiscard r => Sys2Proof.Machine.execGuardDiscard r s
  | .guardTableSwitch ns => Sys2Proof.Machine.execGuardTableSwitch ns s
  | .calendarTick ages ns => Sys2Proof.Machine.execCalendarTick ages ns s
  | .calendarSet r v => Sys2Proof.Machine.execCalendarSet r v s
  | .temperatureSample temps ns => Sys2Proof.Machine.execTemperatureSample temps ns s
  | .poweredMinute ns => Sys2Proof.Machine.execPoweredMinute ns s
  | .warmMinute => Sys2Proof.Machine.execWarmMinute s
  | .journalPeriodic ages ns => Sys2Proof.Machine.execJournalPeriodic ages ns s
  | .journalBootRecord ages ns => Sys2Proof.Machine.execJournalBootRecord ages ns s
  | .journalOpDone failed ns => Sys2Proof.Machine.execJournalOpDone failed ns s
  | .registerWrite r off d now => Sys2Proof.Machine.execRegisterWrite r off d now s
  | .timeReferenceLost ns => Sys2Proof.Machine.execTimeReferenceLost ns s
  | .linkLowPowerEntry state width ns => Sys2Proof.Machine.execLinkLowPowerEntry state width ns s
  | .cxlSnoop addr ns => Sys2Proof.Machine.execCxlSnoop addr ns s
  | .ideKmRequest m => Sys2Proof.Machine.execIdeKmRequest m s
  | .canErrorPassive c rec tec ns => Sys2Proof.Machine.execCanErrorPassive c rec tec ns s
  | .spiUnknownCommand cmd seq sdi busy ns => Sys2Proof.Machine.execSpiUnknownCommand cmd seq sdi busy ns s
  | .debugAuthorisation on ns => Sys2Proof.Machine.execDebugAuthorisation on ns s

end Sys2Proof.Machine
end

