-- ==== Sys2Proof/Machine/Pins.lean ====
section
/-! DEFINITION. Machine/Pins.lean: the state of every pin in each device state, read off the state of the block (R20,
R21, R25). The board pulls of R28 and the electrical levels are outside the model. -/

namespace Sys2Proof.Machine

/-- The pins of R20's table, one entry per group or numbered pin. -/
inductive PinGroup where
  | apRx (p : Nat) | cpIo (p i : Nat) | csIo (n i : Nat)
  | pcieTx | pcieRx | perstN | peRefclk | clkreqN | wakeN
  | erkTx | erkRx | sgmiiTx | sgmiiRx | sgMdc | sgMdio
  | xspiCsN | xspiSck | xspiDq | xspiDqs | xspiRstN
  | scLine (p : Nat) | gmLine (n : Nat) | avs | i2ct
  | fso (n : Nat) | canTxd (n : Nat) | canRxd (n : Nat) | ppsIn | spitIn | spitSdo
  | gpio (n : Nat) | fc (n : Nat) | intN (k : Nat) | faultN (k : Nat)
  | strapClk | strapXspi (b : Nat)
  | tdo | tck | trstN | tms | tdi | xtal32k | xtal38 | porstN | supwN
  deriving DecidableEq, Repr

/-- What a pin does (R20). -/
inductive PinState where
  /-- high-impedance, no termination, no pull -/
  | z
  | input
  | pullDown
  | pullUp
  /-- an open-drain output that is off -/
  | released
  /-- an open-drain output that pulls low -/
  | low
  /-- a driven output at a level -/
  | level (high : Bool)
  /-- an open-drain bus that Falith takes part in -/
  | bus
  /-- an I3C bus with a transfer on it: open-drain, but push-pull in the data phases of SDR -/
  | sdr
  /-- a link or memory bus driven as its own protocol says -/
  | driven
  /-- driven only while SPIT_CS_N is low -/
  | onSelect
  | electricalIdle
  | terminated
  /-- terminated, with the upstream G1 back channel on -/
  | backChannel
  /-- terminated in the high-speed state only -/
  | hsTerminated
  /-- LP-11 between bursts -/
  | lp11
  /-- ultra-low-power state -/
  | ulps
  | oscillating
  | stopped
  deriving DecidableEq, Repr

/-- Whether the host link's pins are in Reset: by the device state or a host-link reset (R20, R69). -/
def State.hlPinsReset (s : State) : Bool := s.phase == .reset || s.hlReset

/-- An open-drain pin at its level. -/
def pulled (low : Bool) : PinState := if low then .low else .released

/-- The pins that are in the same state in Off and in Warm. The straps are high-impedance in both: their pull-downs come
with Reset, though PORST_N may be low in Warm with VDDIO_18 present; R20 has no row for them (DESIGN CHOICE, log 168). -/
def unpowered : PinGroup → PinState
  | .perstN => .input
  | .peRefclk => .input
  | .canRxd _ => .input
  | .ppsIn => .input
  | .spitIn => .input
  | .porstN => .input
  | .supwN => .input
  | .clkreqN => .released
  | .wakeN => .released
  | .scLine _ => .released
  | .gmLine _ => .released
  | .avs => .released
  | .i2ct => .released
  | .fc _ => .released
  | .intN _ => .released
  | .faultN _ => .released
  | .xtal32k => .stopped
  | .xtal38 => .stopped
  | _ => .z

/-- The I/O supplies of a pin, without VDD_WARM (R13). -/
def pinRails : PinGroup → List Rail
  | .apRx _ => [.phy, .phyH]
  | .cpIo _ _ => [.phy, .phyH]
  | .csIo _ _ => [.phy, .phyH]
  | .pcieTx => [.phy, .phyH]
  | .pcieRx => [.phy, .phyH]
  | .peRefclk => [.phy, .phyH]
  | .erkTx => [.phy, .phyH]
  | .erkRx => [.phy, .phyH]
  | .sgmiiTx => [.phy]
  | .sgmiiRx => [.phy]
  | .sgMdc => [.io18]
  | .sgMdio => [.io18]
  | .xspiCsN => [.io18]
  | .xspiSck => [.io18]
  | .xspiDq => [.io18]
  | .xspiDqs => [.io18]
  | .xspiRstN => [.io18]
  | .scLine _ => [.io18]
  | .gmLine _ => [.io18]
  | .avs => [.io18]
  | .fso _ => [.io18]
  | .strapClk => [.io18]
  | .strapXspi _ => [.io18]
  | .tdo => [.io18]
  | .tck => [.io18]
  | .trstN => [.io18]
  | .tms => [.io18]
  | .tdi => [.io18]
  | .gpio n => if n < 16 then [.io33] else [.io18]
  | .xtal32k => []
  | .xtal38 => []
  | .porstN => []
  | .supwN => []
  | _ => [.io33]

/-- Whether an I/O supply of a pin is absent (R38). -/
def State.pinDead (s : State) (p : PinGroup) : Bool := (pinRails p).any (fun r => s.pw.absent.contains r)

/-- Whether a combo pin carries a lane, a trio or a clock in a mode with lanes on links A and B (R15, R105). -/
def comboUses (mode la lb i : Nat) : Bool :=
  if mode == 2 then Nat.blt i (Nat.min 9 (3 * la))
  else if i < 4 then Nat.blt (i / 2) la
  else if i < 6 then true
  else if mode == 1 then (if i < 10 then Nat.blt ((i - 6) / 2) lb else Nat.blt i 12)
  else Nat.blt i 10 && Nat.blt ((i - 2) / 2) la

/-- Whether pin i of port CPp is one that the port's configuration uses. -/
def State.cpUses (s : State) (p i : Nat) : Bool :=
  s.flag (Fld.PORT_CFG_enable p) &&
    comboUses (s.get (Fld.PORT_CFG_phy_mode p)) (s.get (Fld.PORT_CFG_lanes_a p)) (s.get (Fld.PORT_CFG_lanes_b p)) i

/-- Whether pin i of port CSn is one that the port's configuration uses. -/
def State.csUses (s : State) (n i : Nat) : Bool :=
  let c := s.get (Fld.CSO_CFG_phy_mode n) == 2
  let l := s.get (Fld.CSO_CFG_lanes n)
  s.flag (Fld.CSO_CFG_enable n) &&
    comboUses (if c then 2 else 0) (if c then l + 1 else if l == 0 then 1 else if l == 1 then 2 else 4) 0 i

/-- Whether link training has started since the last reset of the link's pins (R20, R71). -/
def State.hlTrained (s : State) : Bool := s.flag Fld.HL_STAT_up || s.get Fld.HL_STAT_lstate == 5

/-- The pins in Reset. A strap's pull-down is there while PORST_N is low (R19). -/
def State.pinInReset (s : State) : PinGroup → PinState
  | .strapClk => if s.pw.porst then .pullDown else .input
  | .strapXspi _ => if s.pw.porst then .pullDown else .input
  | .pcieTx => .electricalIdle
  | .erkTx => .electricalIdle
  | .sgmiiTx => .electricalIdle
  | .faultN k => pulled (nth s.faultPin k ⟨false, false⟩).low
  | .tck => .pullDown
  | .trstN => .pullDown
  | .tms => .pullUp
  | .tdi => .pullUp
  | .xtal32k => .oscillating
  | .xtal38 => .oscillating
  | p => unpowered p

/-- The pins in Boot, a failed Boot among them (R20, R25). -/
def State.pinInBoot (s : State) : PinGroup → PinState
  | .pcieTx => if s.hlPinsReset || !s.hlTrained then .electricalIdle else .driven
  | .pcieRx => if s.hlPinsReset || !s.hlTrained then .z else .terminated
  | .sgMdc => .z
  | .xspiCsN => .driven
  | .xspiSck => .driven
  | .xspiDq => .driven
  | .xspiDqs => .driven
  | .xspiRstN => .level true
  | p => s.pinInReset p

/-- Whether a domain of a serial link keeps its transmitter in the device state: Active, or kept by Standby (R21, R51). -/
def State.txKept (s : State) (d : Nat) : Bool := !(s.phase == .standby) || s.domKept d

/-- CLKREQ_N by the state of the host link: pulled low while the link needs its clock, released in L1.2 until Falith has
something to issue (R20, R309, and as PCI Express has it: PRESUMED, log 169). -/
def State.clkreqPin (s : State) : PinState := pulled (!(s.get Fld.HL_STAT_lstate == 4) || !(tget s.outHeld 4 []).isEmpty)

/-- Whether the xSPI bus carries an operation on the flash. -/
def State.xspiBusy (s : State) : Bool := s.norOp.any (fun o => o.on)

/-- A bus of a control channel: open-drain, push-pull in the SDR data phases of I3C (R20). -/
def State.scPin (s : State) (p : Nat) : PinState := if s.busI3c p && (s.chan p).job.isSome then .sdr else .bus

/-- The pins while an image is loaded: Active and Standby with the transitions between them (R20, R21). No register enables
SGMII: its pins work once an image is loaded, whatever TIME_CFG.source says (DESIGN CHOICE, log 126). -/
def State.pinLoaded (s : State) : PinGroup → PinState
  | .apRx p => if s.flag (Fld.PORT_CFG_enable p) then .backChannel else .z
  | .cpIo p i => if s.cpUses p i then .hsTerminated else .z
  | .csIo n i => if s.csUses n i then (if s.phase == .standby then .ulps else .lp11) else .z
  | .pcieTx => if s.hlPinsReset then .electricalIdle else .driven
  | .pcieRx => if s.hlPinsReset then .z else .terminated
  | .clkreqN => if s.hlPinsReset then .released else s.clkreqPin
  | .wakeN => if s.hlPinsReset then .released else .bus
  | .erkTx => if s.flag Fld.ERK_CFG_enable && s.txKept 142 then .driven else .electricalIdle
  | .erkRx => if s.flag Fld.ERK_CFG_enable then .terminated else .z
  | .sgmiiTx => .driven
  | .sgmiiRx => .terminated
  | .sgMdc => .driven
  | .sgMdio => .driven
  | .xspiCsN => if s.xspiBusy then .driven else .level true
  | .xspiSck => if s.xspiBusy then .driven else .level false
  | .xspiDq => .driven
  | .xspiDqs => .driven
  | .xspiRstN => .level true
  | .scLine p => s.scPin p
  | .gmLine _ => .bus
  | .avs => .bus
  | .i2ct => .bus
  | .fso n => .level (s.phase != .standby && s.fsoOn n && bit s.fsoHigh n)
  | .canTxd n => if s.get (Fld.SIG_CAN_STAT_state n) == 2 || !s.flag (Fld.SIG_CAN_CFG_enable n) then .level true else .driven
  | .spitSdo => .onSelect
  | .gpio n => match s.gpioWant n with
    | some v => .level v
    | none => .input
  | .fc n => pulled (nth s.fcPin n ⟨false, false⟩).low
  | .intN k => pulled (nth s.intLow k false)
  | .tdo => if s.debug then .driven else .z
  | p => s.pinInReset p

/-- The state of a pin (R20, R21); in Warm and in Reset a pin whose I/O supply is absent is high-impedance (R38). -/
def State.pin (s : State) (p : PinGroup) : PinState :=
  match s.phase with
  | .off => unpowered p
  | .warm => if p = .xtal32k then .oscillating else if s.pinDead p then .z else unpowered p
  | .reset => if s.pinDead p then .z else s.pinInReset p
  | .boot => s.pinInBoot p
  | .failed => s.pinInBoot p
  | _ => s.pinLoaded p

end Sys2Proof.Machine
end

