-- ==== Sys2Proof/Safety.lean ====
section
/-! DEFINITION. Safety.lean: what the statements call a sound state and a safe step. -/

namespace Sys2Proof.Machine

/-- A step that does not stop. -/
def Completes (s : State) : Prop := ∃ t, step s = .next t

/-- The stores of a state are in their canonical form: flash, palette words, MSI-X words, registers, shadow copy. -/
def State.storesOrdered (s : State) : Bool :=
  cellsWf 0xFF#8 s.nor && cellsWf 0#32 s.pal && cellsWf 0#32 s.regs && cellsWf 0#32 s.shadow

/-- INT_N[k] is driven low exactly while an enabled source that is active routes to it and an image is loaded (R435, R20). -/
def State.intFollows (s : State) : Prop := ∀ k < 4, nth s.intLow k false = (s.loaded && s.intWant s.activeSrcs k)

/-- FAULT_N[k] is driven low whenever the device state or an active source asks for it while a supply holds it (R22, R439). -/
def State.faultFollows (s : State) : Prop :=
  ∀ k < 2, s.phase ≠ .off → s.phase ≠ .warm → s.faultWant s.activeSrcs k = true →
    (nth s.faultPin k ⟨false, false⟩).low = true

/-- A FAULT_N pin that nothing asks for is released, unless its minimum width still runs (R439). -/
def State.faultReleases (s : State) : Prop :=
  ∀ k < 2, s.phase ≠ .off → s.phase ≠ .warm → s.faultWant s.activeSrcs k = false →
    (nth s.faultPin k ⟨false, false⟩).hold = false → (nth s.faultPin k ⟨false, false⟩).low = false

/-- The flow-control pin FC[n] is low while its mask asks for it, and released where nothing asks for it, unless its minimum
width still runs, and wherever it is disabled or no image is loaded (R20, R295). -/
def State.flowFollows (s : State) : Prop :=
  ∀ n < 8,
    (s.loaded = true → s.fcWant n = true → (nth s.fcPin n ⟨false, false⟩).low = true) ∧
    (s.fcWant n = false → (nth s.fcPin n ⟨false, false⟩).hold = false → (nth s.fcPin n ⟨false, false⟩).low = false) ∧
    (s.loaded = false → (nth s.fcPin n ⟨false, false⟩).low = false)

/-- The interrupt, fault and flow-control pins are as their rules say. -/
def State.pinsFollow (s : State) : Prop := s.intFollows ∧ s.faultFollows ∧ s.faultReleases ∧ s.flowFollows

/-! ## Words of the statements -/

/-- What a requester's read of a register brings: nothing where the requester does not reach Falith, the word of R446 and a
log entry where it is denied, else the value, with the state that the read leaves. -/
def State.sees (s : State) (r off v : Nat) (t : State) : State :=
  if !s.reqReaches r then s
  else
    match s.denyReason r off none with
    | some c => (s.logDeny r off false false c).emit (.read r off (denyWord c))
    | none => t.emit (.read r off v)

/-- Nothing but the denial log, its counters and the event EV_SEC_DENY has changed (R446, R447). -/
def DenialOnly (s t : State) : Prop :=
  t.phase = s.phase ∧ t.nor = s.nor ∧ t.grdLive = s.grdLive ∧ t.grdWait = s.grdWait ∧ t.shadow = s.shadow ∧ t.pal = s.pal ∧
  t.ques = s.ques ∧ t.frames = s.frames ∧ t.strms = s.strms ∧ t.chans = s.chans ∧ t.txe = s.txe ∧ t.cmt = s.cmt ∧
  t.trl = s.trl ∧ t.warm = s.warm ∧ t.life = s.life ∧ t.tm = s.tm ∧ t.img = s.img ∧ t.doms = s.doms ∧ t.held = s.held ∧
  t.latch = s.latch ∧ t.msix = s.msix ∧ t.pending = s.pending ∧
  ∀ off, (off < 0x030000 ∨ 0x040000 ≤ off) → off ≠ Reg.GRD_LOG_CNT →
    (∀ n < 32, off ≠ Reg.GRD_LOG_INFO n ∧ off ≠ Reg.GRD_LOG_ADDR n ∧ off ≠ Reg.GRD_LOG_GEN n) → t.reg off = s.reg off

/-- What every full reset leaves (R67, R68, R70, R477): Reset, no image, registers at their Reset column, the host link held
in reset, its cause bit added; OTP, the calendar, the queue of commands and a flash that was not in use stay. -/
def FullReset (cause : Nat) (latch : Bool) (s t : State) : Prop :=
  t.phase = .reset ∧ t.regs = resetRegs ∧ t.img = Image.init ∧ t.grdLive = [] ∧ t.frames = [] ∧ t.strokes = [] ∧
  t.doms = [] ∧ t.pal = [] ∧ t.ques = [] ∧ t.fns = [(0, FnSt.init true)] ∧ t.hlReset = true ∧ t.routes = false ∧
  t.spdm = Spdm.init ∧ t.debug = false ∧ t.warm.causes = s.warm.causes ||| cause ∧ t.pw.latch = latch ∧
  t.otp = s.otp ∧ t.warm.cal = s.warm.cal ∧ t.warm.calValid = s.warm.calValid ∧ t.pending = s.pending ∧
  (s.norOp = none → s.life.op = none → s.life.parked = none → t.nor = s.nor) ∧
  (∀ k < 4, nth t.intLow k false = false) ∧ (∀ k < 2, (nth t.faultPin k ⟨false, false⟩).hold = false →
    (nth t.faultPin k ⟨false, false⟩).low = latch)

/-! ## Commands by what they need -/

/-- The commands that act only while an image is loaded: what happens in the pixel path, on its links and in its engines
(R37). The time that passes with each; none = another command. -/
def imageTime (i : Instr) : Option Nat :=
  match i with
  | .pllRelock _ _ ns => some ns
  | .standbyEntryComplete ns => some ns
  | .wakeComplete ns => some ns
  | .domainRampStart _ ns => some ns
  | .domainWakeDone _ ns => some ns
  | .domainDrainDone _ ns => some ns
  | .commitExecute ns => some ns
  | .aphyLinkUp _ _ ns => some ns
  | .aphyLinkLoss _ ns => some ns
  | .retrainStart _ ns => some ns
  | .eqMarginUpdate _ _ => some 0
  | .aphyPacketCheckFail _ _ _ => some 0
  | .frameStartPacket _ _ _ _ _ ns => some ns
  | .linePacket _ _ _ _ _ _ _ _ _ _ ns => some ns
  | .frameEndPacket _ _ _ _ ns => some ns
  | .embeddedDataPacket _ _ _ _ _ _ ns => some ns
  | .userDefinedPacket _ _ _ _ _ _ ns => some ns
  | .otherLongPacket _ _ _ _ _ ns => some ns
  | .lineTimeout _ _ ns => some ns
  | .idleTimeout _ _ ns => some ns
  | .sensorReinitComplete _ _ ns => some ns
  | .controlTransferDone _ _ ns => some ns
  | .sequenceDelayExpiry _ ns => some ns
  | .nackRetryTimer _ ns => some ns
  | .backoffTimer _ ns => some ns
  | .tunnelAnswerTimeout _ ns => some ns
  | .clockStretchTimeout _ ns => some ns
  | .initRetryTimer _ _ ns => some ns
  | .busClearRetry _ _ ns => some ns
  | .firstAttemptTimeout _ ns => some ns
  | .syncGroupStart ns => some ns
  | .writeWindowClose _ _ ns => some ns
  | .inBandInterrupt _ _ _ ns => some ns
  | .gptpMessage _ _ ns => some ns
  | .ptmDialogue _ ns => some ns
  | .ppsEdge ns => some ns
  | .ppsTimeout ns => some ns
  | .holdoverTimeout ns => some ns
  | .mdioPoll _ ns => some ns
  | .syncEdge _ => some 0
  | .fsoOutputEdge _ ns => some ns
  | .fsoPulseEnd _ ns => some ns
  | .easelLineBoundary _ ns => some ns
  | .strokeEnd _ ns => some ns
  | .strokeDeadlineMiss _ ns => some ns
  | .restRotation ns => some ns
  | .rotationDrainDone ns => some ns
  | .restingBistDone _ _ ns => some ns
  | .easelReadmit _ ns => some ns
  | .tableReloadExecute ns => some ns
  | .statsBlockClose _ ns => some ns
  | .controlLawsEnd _ ns => some ns
  | .scrubDrip ns => some ns
  | .descriptorFetchComplete _ _ ns => some ns
  | .descriptorRetryTimer _ ns => some ns
  | .outputReady _ _ ns => some ns
  | .flushReadComplete _ _ ns => some ns
  | .completionTimeout _ ns => some ns
  | .memberBudgetExpiry _ ns => some ns
  | .txeDescriptorFetch _ _ ns => some ns
  | .txeRetryTimer _ ns => some ns
  | .txeCopy _ _ _ ns => some ns
  | .txeFill _ _ ns => some ns
  | .txeCompare _ _ _ ns => some ns
  | .txeCheckFedCopy _ _ _ ns => some ns
  | .txeUnknownOp _ ns => some ns
  | .txeDripBoundary _ ns => some ns
  | .dripTimeLimit _ ns => some ns
  | .txeFlushComplete _ _ ns => some ns
  | .txeUnitAvailable _ ns => some ns
  | .canFrameReceived _ _ _ _ _ ns => some ns
  | .canMessageTimeout _ ns => some ns
  | .signalBind _ _ ns => some ns
  | .canTxPeriod _ _ ns => some ns
  | .canBusOff _ ns => some ns
  | .canBusoffRecovery _ ns => some ns
  | .gpioEdge _ _ ns => some ns
  | .erkLinkUp _ ns => some ns
  | .erkLinkLoss ns => some ns
  | .erkDataFrame _ _ _ _ _ _ _ _ _ _ ns => some ns
  | .erkTimeFrame _ _ _ _ _ _ ns => some ns
  | .erkCensusFrame _ _ _ _ _ _ ns => some ns
  | .erkControlRequest _ _ _ _ _ _ _ ns => some ns
  | .erkControlAnswer _ _ _ _ _ _ ns => some ns
  | .erkNoticeReceived _ _ _ _ _ _ ns => some ns
  | .erkIdleFrame _ _ _ ns => some ns
  | .erkReplayTimeout ns => some ns
  | .erkTimeSend ns => some ns
  | .erkCensusSend ns => some ns
  | .chkScanDrip ns => some ns
  | .censusPass _ ns => some ns
  | .censusDrip ns => some ns
  | .sensorReadback _ _ ns => some ns
  | .digestPublish ns => some ns
  | .bistDone _ ns => some ns
  | .msixModerationExpiry _ _ ns => some ns
  | .guardTableSwitch ns => some ns
  | .timeReferenceLost ns => some ns
  | .canErrorPassive _ _ _ ns => some ns
  | _ => none

/-- The commands that act only while Falith runs: Boot, Active, Standby and the transitions between them. The time that
passes with each; none = another command. -/
def runTime (i : Instr) : Option Nat :=
  match i with
  | .hostLinkResetEnd ns => some ns
  | .linkTrainingStart ns => some ns
  | .keyonBistWaveEnd _ _ => some 0
  | .avsTick _ _ ns => some ns
  | .avsAlert ns => some ns
  | .functionD3hotEntry _ ns => some ns
  | .functionD0Entry _ _ _ ns => some ns
  | .functionLevelReset _ ns => some ns
  | .vfRemoval _ ns => some ns
  | .l1Exit ns => some ns
  | .hostLinkUp _ _ _ ns => some ns
  | .hostLinkDown ns => some ns
  | .norOpDone _ ns => some ns
  | .fcMinWidthExpiry _ ns => some ns
  | .atsInvalidation _ ns => some ns
  | .spiCmdNone _ _ ns => some ns
  | .spiCmdRead _ _ _ _ ns => some ns
  | .spiCmdWrite _ _ _ _ _ ns => some ns
  | .spiCmdWake _ _ _ ns => some ns
  | .safetyCycle ns => some ns
  | .i2ctWrite _ _ _ _ ns => some ns
  | .i2ctRead _ _ _ ns => some ns
  | .eventOccurrence _ ns => some ns
  | .temperatureSample _ ns => some ns
  | .poweredMinute ns => some ns
  | .journalPeriodic _ ns => some ns
  | .journalBootRecord _ ns => some ns
  | .journalOpDone _ ns => some ns
  | .linkLowPowerEntry _ _ ns => some ns
  | .cxlSnoop _ ns => some ns
  | .spiUnknownCommand _ _ _ _ ns => some ns
  | .debugAuthorisation _ ns => some ns
  | _ => none

end Sys2Proof.Machine
end

