-- ==== Sys2Proof/WellFormed.lean ====
section
/-! DEFINITION. WellFormed.lean: the operands that the outside world and the requesters can give a command. The types of
Instr bound most operands; what is left is checked here. -/

namespace Sys2Proof

open Sys2Proof.Machine

/-- The most payload bytes of a CAN frame of a kind: classical, FD, XL; a remote frame has none (R359). -/
def canMost (kind : Nat) : Nat := if kind == 0 then 8 else if kind == 1 then 64 else if kind == 2 then 2048 else 0

/-- A CAN frame's payload fits its kind, a base identifier has 11 bits. -/
def canFits (kind : Nat) (ext : Bool) (ident len : Nat) : Bool := Nat.ble len (canMost kind) && (ext || Nat.blt ident 2048)

/-- A CAN frame that can be received. -/
def CanFrame.wf (f : CanFrame) : Bool := canFits f.kind.val f.ext f.ident.val f.bytes.length

/-- Whether a row of the register map at an offset has a width. -/
def widthAt (off : Nat) (w : RegWidth) : Bool :=
  match rowOf off with
  | some r => r.width == w
  | none => false

/-- What occurs inside Falith: a palette word has 39 code bits. -/
def Happening.wf : Happening → Bool
  | .palUpset _ mask => Nat.blt mask (2 ^ 39)
  | _ => true

/-- Whether a command's operands are ones that can be given. -/
def Instr.wf : Instr → Bool
  | .reg64LowHalfRead _ off => widthAt off.val .low
  | .reg64HighHalfWrite _ off _ => widthAt off.val .high
  | .registerWrite r off d _ => off.val % 4 == 0 && (d.hi.isNone || (Nat.blt r.val 16 && off.val % 8 == 0))
  | .linkLowPowerEntry st width _ => [2, 4, 8].contains width.val || (st.val == 0 && width.val == 1)
  | .hostLinkUp rate width _ _ => Nat.ble 1 rate.val && Nat.ble rate.val 6 && [1, 2, 4, 8].contains width.val
  | .canFrameReceived _ kind ext ident bytes _ => canFits kind.val ext ident.val bytes.length
  | .canTxPeriod _ send _ => send.now.all CanFrame.wf
  | .signalBind _ frame _ => frame.now.all CanFrame.wf
  | .inBandInterrupt _ _ payload _ => Nat.ble payload.length 8
  | .spiUnknownCommand cmd _ _ _ _ => Nat.ble 4 cmd.val
  | .temperatureSample temps _ => !temps.isEmpty
  | .erkDataFrame _ _ _ _ _ _ _ _ _ data _ => Nat.ble data.length 2048
  | .erkCensusFrame _ _ _ _ _ digest _ => digest.length == 16
  | .erkNoticeReceived _ _ _ _ _ cause _ => !(cause.val == 0)
  | .msixUnmask fn vec => fn.val == 0 || (match vec with
    | some v => Nat.blt v.val 64
    | none => true)
  | .msixModerationExpiry fn vec _ => fn.val == 0 || Nat.blt vec.val 64
  | .eventOccurrence h _ => h.wf
  | .challenge _ nonce => nonce.length == 32
  | .getMeasurements index _ nonce => (Nat.ble index.val 5 || index.val == 255) && nonce.length == 32
  | _ => true

end Sys2Proof
end

