-- ==== Sys2Proof/Certificates/Slice0/Obligations.lean ====
section
/-! DEFINITION. Certificates/Slice0/Obligations.lean: the statements about the block, from the rules of its spec. -/

section

open Sys2Proof Sys2Proof.Machine

/-- For every command c, queue rest and state s: step of s with c in front of rest is exec of c on s with rest as its
queue. The queue is the model's own (log entry 1). A step on an empty queue answers the same state: the model's choice
(log entry 1), since no row of the table is a tick of a clock. -/
def Obligations.StepRunsFront : Prop :=
  (∀ (c : Instr) (rest : List Instr) (s : State), step { s with pending := c :: rest } = exec c { s with pending := rest }) ∧
  (∀ s : State, s.pending = [] → step s = .next s)

/-- For every command and every state exec answers a next state, so a step never faults and is never refused. What each
command does is said by the other statements. -/
def Obligations.NoCommandStopsTheBlock : Prop :=
  (∀ (c : Instr) (s : State), ∃ t, exec c s = .next t) ∧ ∀ s : State, ∃ t, step s = .next t

/-- If the interrupt, fault and flow-control pins are as R20, R22, R295, R435 and R439 say (State.pinsFollow), they are so
after every step, whatever the command: INT_N[k] is low exactly while an image is loaded and an active source routes
to it; FAULT_N[k] and FC[n] are low while asked for, and released when nothing asks and no minimum width runs. No
occurrence is left over from one step for the next (hot is empty again). The invariants speak of all states, not only
reachable ones. -/
def Obligations.EveryStepKeepsPins : Prop :=
  (∀ s t : State, s.pinsFollow → step s = .next t → t.pinsFollow) ∧
  ∀ s t : State, s.hot = [] → step s = .next t → t.hot = []

/-- State.reset meets the pin invariant, its stores list no cell that reads as its default, its queue is empty, Falith is
in Reset with no image and the host link is held in reset. GLB_ID is 0x4E4D2432, GLB_CAPS 0x20180C08, PM_STATE.state
Boot or Reset (1), PM_AVS_STAT.code 0x28, CK_SRC 4, BOOT_STATUS.phase 1, the four CAN status registers show bus state
3 (0b11), GLB_SCRATCH and every event register are 0. -/
def Obligations.ResetState : Prop :=
  (State.reset.pinsFollow ∧ State.reset.storesOrdered = true ∧ State.reset.pending = [] ∧ State.reset.phase = .reset ∧
   State.reset.img = Image.init ∧ State.reset.hlReset = true ∧ State.reset.loaded = false ∧ State.reset.hot = []) ∧
  (State.reset.reg Reg.GLB_ID = 0x4E4D2432 ∧ State.reset.reg Reg.GLB_CAPS = 0x20180C08 ∧
   State.reset.get Fld.PM_STATE_state = 1 ∧ State.reset.get Fld.PM_AVS_STAT_code = 0x28 ∧ State.reset.reg Reg.CK_SRC = 4 ∧
   State.reset.get Fld.BOOT_STATUS_phase = 1 ∧ (∀ c < 4, State.reset.get (Fld.SIG_CAN_STAT_state c) = 3) ∧
   State.reset.reg Reg.GLB_SCRATCH = 0 ∧ (∀ w < 48, State.reset.reg (Reg.EVT_STAT w) = 0 ∧ State.reset.reg (Reg.EVT_EN w) = 0))

/-- Of every sparse store (registers, flash bytes, palette words, MSI-X words): a cell reads as the value written last, a
write leaves every other cell alone, a write keeps the canonical form (addresses strictly rising, no cell listed that
reads as its default), and two stores in that form whose cells all read alike are equal data. norErase a: a byte of
the sector of a reads 0xFF, every other byte reads as before. norProg a bs: byte a + i reads as its old value and
bs[i] bit by bit, every byte outside a .. a + length bs reads as before. Both change nothing but the flash and keep
its canonical form. The erase size is R98's, the rule that a program clears bits is log entry 9's part of the flash
model. -/
def Obligations.StoresReadBack : Prop :=
  ((∀ (n : Nat) (d : BitVec n) (m : List (Nat × BitVec n)) (a b : Nat) (v : BitVec n),
     cellGet d (cellPut d m a v) b = if b = a then v else cellGet d m b) ∧
   (∀ (n : Nat) (d : BitVec n) (m : List (Nat × BitVec n)) (a : Nat) (v : BitVec n),
     cellsWf d m = true → cellsWf d (cellPut d m a v) = true) ∧
   (∀ (n : Nat) (d : BitVec n) (m m' : List (Nat × BitVec n)), cellsWf d m = true → cellsWf d m' = true →
     (∀ a, cellGet d m a = cellGet d m' a) → m = m')) ∧
  ((∀ (s : State) (a b : Nat), (s.norErase a).norGet b = if b / 65536 = a / 65536 then 0xFF else s.norGet b) ∧
   (∀ (s : State) (a b : Nat) (bs : List Nat), (s.norProg a bs).norGet b =
     if a ≤ b ∧ b < a + bs.length then s.norGet b &&& (nth bs (b - a) 0 % 256) else s.norGet b) ∧
   (∀ (s : State) (a : Nat), ∃ m, s.norErase a = { s with nor := m } ∧ (cellsWf 0xFF#8 s.nor = true → cellsWf 0xFF#8 m = true)) ∧
   (∀ (s : State) (a : Nat) (bs : List Nat), ∃ m, s.norProg a bs = { s with nor := m } ∧
     (cellsWf 0xFF#8 s.nor = true → cellsWf 0xFF#8 m = true)))

/-- For every source n below 1536 and every state: raise leaves the status bit set; the 16-bit counter goes up by one and
stays at 0xFFFF, unless the source has already occurred in the same cycle, in which case it counts once. The enable
plays no part. The status and counter of every other source, the enables, the routes and every register outside EVT_
stay. -/
def Obligations.OccurrenceRecords : Prop :=
  ∀ (s : State) (n : Nat), n < 1536 →
    (s.raise n).get (fStat n) = 1 ∧
    (s.raise n).get (Fld.EVT_CNT_count n) =
      (if s.hot.contains n then s.get (Fld.EVT_CNT_count n) else Nat.min 0xFFFF (s.get (Fld.EVT_CNT_count n) + 1)) ∧
    (∀ m < 1536, m ≠ n → (s.raise n).get (fStat m) = s.get (fStat m) ∧
      (s.raise n).get (Fld.EVT_CNT_count m) = s.get (Fld.EVT_CNT_count m)) ∧
    (∀ m < 1536, (s.raise n).get (fEn m) = s.get (fEn m) ∧ (s.raise n).reg (Reg.EVT_ROUTE m) = s.reg (Reg.EVT_ROUTE m)) ∧
    (∀ off, off < 0x030000 ∨ 0x040000 ≤ off → (s.raise n).reg off = s.reg off)

/-- With the routes in effect and an unmoderated vector route (kind 1, mod 0): an occurrence of an enabled source whose
status bit was 0 is one msiSend on the route's function and vector after the record; with the status bit already 1 and
enabled, with the enable 0, or with another kind, it is the record alone (R435). -/
def Obligations.RoutesRise : Prop :=
  ∀ (s : State) (n : Nat), n < 1536 → s.hot.contains n = false →
    let rec1 := ({ s with hot := n :: s.hot }.put (fStat n) 1).bump (Fld.EVT_CNT_count n)
    (s.flag (fStat n) = false → s.flag (fEn n) = true → s.routes = true → s.get (Fld.EVT_ROUTE_kind n) = 1 →
      s.get (Fld.EVT_ROUTE_mod n) = 0 →
      s.raise n = rec1.msiSend (s.get (Fld.EVT_ROUTE_fn n)) (s.get (Fld.EVT_ROUTE_vector n))) ∧
    (s.flag (fEn n) = false ∨ (s.flag (fStat n) = true ∧ s.flag (fEn n) = true) ∨ s.routes = false ∨
      s.get (Fld.EVT_ROUTE_kind n) ≠ 1 → s.raise n = rec1)

/-- For every function, vector and state: where the function is absent, not in D0, in reset, or has MSI-X Enable clear, or
the link is down, EVT_MSI_DROP counts up (saturating) and nothing is sent; where the function or the vector is masked,
its pending bit is set and nothing is sent; else the address and data of the vector go to the host: at once where the
link is in no state of L1, its controller (domain 134) is on and nothing waits before it, else the message waits in
its order behind what waits already, and the exit from L1 is called (R309, R436). No status bit changes. Clearing the
mask of a pending vector clears the bit and lets the message fall due; without moderation it is then sent at once. -/
def Obligations.MessagesByFunctionState : Prop :=
  (∀ (s : State) (fn vec : Nat),
    let f := s.fn fn
    let may := s.flag Fld.HL_STAT_up && f.present && f.d0 && !f.inReset && f.msixEn
    let masked := f.fmask || bit (s.msixWord fn (16 * vec + 12)) 0
    let t := s.msiSend fn vec
    (∀ n < 1536, t.get (fStat n) = s.get (fStat n)) ∧
    (may = false → t = s.bump Fld.EVT_MSI_DROP_count) ∧
    (may = true → masked = true → t = { s with msixPend := t.msixPend } ∧ t.msixPend.contains (vecKey fn vec) = true) ∧
    (may = true → masked = false →
      let m := Out.msix fn (s.msixWord fn (16 * vec) + 2 ^ 32 * s.msixWord fn (16 * vec + 4)) (s.msixWord fn (16 * vec + 8))
      let low := s.flag Fld.HL_STAT_up && Nat.ble 2 (s.get Fld.HL_STAT_lstate) && Nat.ble (s.get Fld.HL_STAT_lstate) 4
      (low = false → s.dom 134 = .on → tget s.outHeld 4 [] = [] → t = s.emit m) ∧
      (low = true ∨ s.dom 134 ≠ .on ∨ tget s.outHeld 4 [] ≠ [] →
        t = { s with out := t.out, outHeld := t.outHeld } ∧ tget t.outHeld 4 [] = tget s.outHeld 4 [] ++ [m] ∧
        (t.out = s.out ∨ low = true ∧ tget s.outHeld 4 [] = [] ∧ .linkExit ∈ t.out)))) ∧
  (∀ (s : State) (fn vec : Nat), s.msixPend.contains (vecKey fn vec) = true → (s.fn fn).fmask = false →
    bit (s.msixWord fn (16 * vec + 12)) 0 = false →
    let u := { s with msixPend := s.msixPend.filter (fun k => !(k == vecKey fn vec)) }
    s.msiUnmasked fn vec = u.msiDue fn vec (s.vecMod fn vec) ∧
    (s.modInterval (s.vecMod fn vec) = 0 → s.msiUnmasked fn vec = u.msiSend fn vec))

/-- EVENT_STATUS_CLEAR by a requester that passes the check of EVT_STAT_w answers a next state in which, for every source
n: one that occurs in the same cycle (named in `now`, be it once or more, not reserved) has its bit set and its
counter one up (at most 0xFFFF); any other whose bit is of word w, is written 1 and whose object the requester may
write has its bit 0; every other bit, and the counter of every source that does not occur, is as before. Where one
source occurs, is enabled and is written 1, and its route is an unmoderated vector with the routes in effect, the
message of a rise is sent although the bit was set. -/
def Obligations.StatusClearSetWins : Prop :=
  (∀ (r : Fin 19) (w : Fin 48) (v : Word) (now : List (Fin 1536)) (s : State),
    s.reqReaches r.val = true → s.denyReason r.val (Reg.EVT_STAT w.val) (some v.toNat) = none → s.hot = [] →
    ∃ t, exec (.eventStatusClear r w v now) s = .next t ∧ ∀ n : Fin 1536,
      (n ∈ now → srcReserved n.val = false →
        t.get (fStat n.val) = 1 ∧
        t.get (Fld.EVT_CNT_count n.val) = Nat.min 0xFFFF (s.get (Fld.EVT_CNT_count n.val) + 1)) ∧
      ((n ∉ now ∨ srcReserved n.val = true) →
        t.get (fStat n.val) = (if n.val / 32 = w.val ∧ bit v.toNat (n.val % 32) = true ∧ s.srcWrite r.val n.val = true then 0 else s.get (fStat n.val)) ∧
        t.get (Fld.EVT_CNT_count n.val) = s.get (Fld.EVT_CNT_count n.val))) ∧
  (∀ (r : Fin 19) (n : Fin 1536) (s : State),
    let w : Fin 48 := ⟨n.val / 32, by omega⟩
    let cleared := s.setReg (Reg.EVT_STAT w.val)
      (s.reg (Reg.EVT_STAT w.val) &&& ~~~(BitVec.ofNat 32 ((1 <<< (n.val % 32)) &&& s.srcWriteMask r.val w.val)))
    s.reqReaches r.val = true → s.denyReason r.val (Reg.EVT_STAT w.val) (some (1 <<< (n.val % 32))) = none →
    srcReserved n.val = false → s.srcWrite r.val n.val = true → s.flag (fEn n.val) = true → s.routes = true →
    s.get (Fld.EVT_ROUTE_kind n.val) = 1 → s.get (Fld.EVT_ROUTE_mod n.val) = 0 → s.hot = [] →
    exec (.eventStatusClear r w (BitVec.ofNat 32 (1 <<< (n.val % 32))) [n]) s =
      .next (State.msiSend (s.get (Fld.EVT_ROUTE_fn n.val)) (s.get (Fld.EVT_ROUTE_vector n.val))
        ((cleared.put (fStat n.val) 1).bump (Fld.EVT_CNT_count n.val))).settle)

/-- EVENT_COUNTER_CLEAR_ALL and EVENT_COUNTER_CLEAR_ONE by a requester that passes the check of EVT_CNT_CLR (R434): the
register EVT_n_CNT of every source whose object the requester may write (of the named source alone) becomes 0; every
other register is as before and nothing else changes; then the sources that occur in the same cycle are recorded, so
that a cleared counter of one reads 1, and the command ends as every command does. A requester that may not write the
object is ignored without a denial. -/
def Obligations.CounterClears : Prop :=
  (∀ (r : Fin 19) (s : State), s.reqReaches r.val = true →
    (s.denyReason r.val Reg.EVT_CNT_CLR (some 0x80000000) = none →
      ∃ u : State, (∀ now : List (Fin 1536), exec (.eventCounterClearAll ⟨r, now⟩) s = .next (u.occurAll (now.map Fin.val)).settle) ∧
        u = { s with regs := u.regs } ∧
        (∀ n < 1536, u.reg (Reg.EVT_CNT n) = if s.srcWrite r.val n then 0 else s.reg (Reg.EVT_CNT n)) ∧
        ∀ off, (∀ n < 1536, off ≠ Reg.EVT_CNT n) → u.reg off = s.reg off) ∧
    (∀ (n : Fin 1536) (now : List (Fin 1536)), s.denyReason r.val Reg.EVT_CNT_CLR (some n.val) = none →
      exec (.eventCounterClearOne ⟨r, now⟩ n) s =
        .next (State.occurAll (now.map Fin.val)
          (if s.srcWrite r.val n.val then s.setReg (Reg.EVT_CNT n.val) 0 else s)).settle)) ∧
  (∀ (u : State) (n : Fin 1536) (now : List (Fin 1536)), u.runs = true → u.hot = [] → srcReserved n.val = false → n ∈ now →
    u.get (Fld.EVT_CNT_count n.val) = 0 →
    (u.occurAll (now.map Fin.val)).get (Fld.EVT_CNT_count n.val) = 1 ∧ (u.occurAll (now.map Fin.val)).get (fStat n.val) = 1)

/-- EVENT_ENABLE_WRITE that passes the check of EVT_EN_w: the enable of every source of the word becomes the written bit
where the requester may write the source's object, stays elsewhere, and is 0 for a reserved source; no other register
but the count of messages not sent changes, and nothing else but messages and what ends every command.
EVENT_ROUTE_WRITE that passes: EVT_n_ROUTE takes the written bits of its RW fields, and nothing else changes. A route
write by a requester that may write the source but whose domain lacks the route bit of the named vector block is
denied with reason 8 and leaves the route (R444, R446). -/
def Obligations.EnablesAndRoutes : Prop :=
  (∀ (r : Fin 19) (w : Fin 48) (v : Word) (s : State), s.reqReaches r.val = true →
    s.denyReason r.val (Reg.EVT_EN w.val) (some v.toNat) = none →
    ∃ u : State, exec (.eventEnableWrite r w v) s = .next u.settle ∧
      u = { s with regs := u.regs, out := u.out, outHeld := u.outHeld, msixPend := u.msixPend, modSt := u.modSt } ∧
      (∀ b < 32, u.get (fEn (32 * w.val + b)) =
        if srcReserved (32 * w.val + b) then 0
        else if s.srcWrite r.val (32 * w.val + b) then b2n (bit v.toNat b) else s.get (fEn (32 * w.val + b))) ∧
      ∀ off, off ≠ Reg.EVT_EN w.val → off ≠ Reg.EVT_MSI_DROP → u.reg off = s.reg off) ∧
  (∀ (r : Fin 19) (n : Fin 1536) (v : Word) (s : State), s.reqReaches r.val = true →
    (s.denyReason r.val (Reg.EVT_ROUTE n.val) (some v.toNat) = none →
      ∃ u : State, exec (.eventRouteWrite r n v) s = .next u.settle ∧ u = { s with regs := u.regs } ∧
        u.reg (Reg.EVT_ROUTE n.val) = (s.reg (Reg.EVT_ROUTE n.val) &&& 0x070CF800#32) ||| (v &&& 0xF8F307FF#32) ∧
        ∀ off, off ≠ Reg.EVT_ROUTE n.val → u.reg off = s.reg off) ∧
    (s.reqEnabled r.val = true → s.phase ≠ .boot → s.phase ≠ .failed → s.srcWrite r.val n.val = true →
      s.mayRoute (s.reqDomain r.val) v.toNat = false →
      exec (.eventRouteWrite r n v) s = .next (s.logDeny r.val (Reg.EVT_ROUTE n.val) true false 8).settle))

/-- MSIX_MODERATION_EXPIRY while an image is loaded: where a message waits it is sent, and if it goes out the interval
starts again, else and where none waits the vector is free again, where no interval runs nothing happens (R438).
MSIX_UNMASK of a vector by a present function of a running block clears the mask bit of its table entry and then sends
that vector's pending message, if neither mask is set; of the function mask, clears it and sends every pending vector
in order (R306, R437). FAULT_MIN_WIDTH_EXPIRY, in every state of the device, ends the width of its pin, which then
follows its sources (R439). -/
def Obligations.ModerationAndUnmask : Prop :=
  (∀ (fn : Fin 16) (vec : Fin 2048) (ns : Nat) (s : State), s.loaded = true →
    let m := tget s.modSt (vecKey fn.val vec.val) ⟨false, false⟩
    let a := s.advance ns
    exec (.msixModerationExpiry fn vec ns) s = .next (
      if m.running && m.waiting then
        (let next := if a.msiGoes fn.val vec.val then tset s.modSt (vecKey fn.val vec.val) ⟨true, false⟩
          else tdel s.modSt (vecKey fn.val vec.val)
        { a.msiSend fn.val vec.val with modSt := next })
      else if m.running then { a with modSt := tdel s.modSt (vecKey fn.val vec.val) }
      else a).settlePlan) ∧
  (∀ (fn : Fin 16) (vec : Fin 2048) (s : State), s.runs = true → (s.fn fn.val).present = true →
    (fn.val = 0 ∨ vec.val < 64) →
    exec (.msixUnmask fn (some vec)) s =
      .next ((s.setMsixWord fn.val (16 * vec.val + 12) 0).msiUnmasked fn.val vec.val).settle) ∧
  (∀ (fn : Fin 16) (s : State), s.runs = true → (s.fn fn.val).present = true →
    exec (.msixUnmask fn none) s =
      .next (forEach (List.range (if fn.val = 0 then 2048 else 64)) (fun v => State.msiUnmasked fn.val v)
        (s.setFn fn.val { s.fn fn.val with fmask := false })).settle) ∧
  (∀ (k : Fin 2) (ns : Nat) (s : State),
    exec (.faultMinWidthExpiry k ns) s =
      .next ({ s.advance ns with
        faultPin := setAt s.faultPin k.val { nth s.faultPin k.val ⟨false, false⟩ with hold := false } }).settle)

/-- EVENT_OCCURRENCE while Falith runs: a source that is not reserved records and signals; a reserved one does nothing
(R429, R432); an AER error counts and raises EV_HL 4 or 5 (R338); a corrected word of a powered easel's memory counts
in EAS_ECC and in core counter 3 of the life ledger and raises source 4, an uncorrected one raises source 5 and
retires the easel with reason 4 (R232, R185), an easel of which no part has power has none; a corrected control-island
word counts in core counter 3; a queue's forced reset empties it, counts it, shows the cause and raises EV_MEM 9, and
in the same cycle a pop returns not-valid and the item of a push is lost and counted, with no event but that of the
reset (R291, R292, R293); a change of CXL.cache in CXL mode shows in HL_STAT and raises EV_HL 9. In Off, Warm and
Reset nothing occurs. -/
def Obligations.ConditionsThatOccur : Prop :=
  (∀ (h : Happening) (ns : Nat) (s : State), s.runs = false → exec (.eventOccurrence h ns) s = .next s) ∧
  ∀ (ns : Nat) (s : State), s.runs = true →
    let a := s.advance ns
    (∀ n : Fin 1536, exec (.eventOccurrence (.source n) ns) s =
      .next (if srcReserved n.val then a else a.raise n.val).settle) ∧
    exec (.eventOccurrence (.aer true) ns) s = .next ((a.bump Fld.HL_ERR_aer_uncorr).raise (evHl 5)).settle ∧
    exec (.eventOccurrence (.aer false) ns) s = .next ((a.bump Fld.HL_ERR_aer_corr).raise (evHl 4)).settle ∧
    (∀ e : Fin 12, exec (.eventOccurrence (.easelMem e true) ns) s = .next
      (if (easelDoms e.val).any a.domPower then State.retire e.val 4 ((a.bump (Fld.EAS_ECC_uncorr e.val)).raise (evEas e.val 5)) else a).settle) ∧
    (∀ e : Fin 12, exec (.eventOccurrence (.easelMem e false) ns) s = .next
      (if (easelDoms e.val).any a.domPower then (State.lifeCore 3 1 (a.bump (Fld.EAS_ECC_corr e.val))).raise (evEas e.val 4) else a).settle) ∧
    exec (.eventOccurrence .sramCorrected ns) s = .next (State.lifeCore 3 1 a).settle ∧
    (∀ (q : Fin 96) (c : Fin 3),
      let forced := fun (u : State) => State.raise (((u.queReset q.val).bump (Fld.QUE_STAT_resets q.val)).setReg Reg.QUE_ERR
        (BitVec.ofNat 32 (2 ^ 31 + (c.val + 1) * 2 ^ 24 + q.val))) (evMem 9)
      exec (.eventOccurrence (.queForced q c none none) ns) s = .next (forced a).settle ∧
      (∀ r : Fin 19, a.reqReaches r.val = true → a.denyReason r.val (Reg.QUE_POP q.val) none = none →
        let w := popWord [] false false (a.get (Fld.QUE_POPS_pops q.val))
        exec (.eventOccurrence (.queForced q c (some r) none) ns) s =
          .next (forced ({ a with latch := tset a.latch (Reg.QUE_POP q.val) (halfWord w true) }.emit
            (.read r.val (Reg.QUE_POP q.val) (halfWord w false)))).settle ∧ w = 2 ^ 56 * (a.get (Fld.QUE_POPS_pops q.val) % 256)) ∧
      (∀ (r : Fin 19) (v : Word), a.reqReaches r.val = true → a.denyReason r.val (Reg.QUE_PUSH q.val) (some v.toNat) = none →
        a.domOff (Reg.QUE_PUSH q.val) = false → a.queMayPush r.val q.val = true → a.flag (Fld.QUE_CFG_enable q.val) = true →
        bit v.toNat 18 = false →
        exec (.eventOccurrence (.queForced q c none (some (r, v))) ns) s = .next (forced (a.bumpBy (Fld.QUE_LOST_lost q.val) 1)).settle)) ∧
    (∀ on : Bool, exec (.eventOccurrence (.cxlCache on) ns) s = .next
      (if a.flag Fld.HL_STAT_up && a.flag Fld.HL_STAT_cxl && a.flag Fld.HL_STAT_cache_on != on then
        ((a.put Fld.HL_STAT_cache_on (b2n on)).raise (evHl 9)).hlDoms else a).settle)

/-- For every requester that reaches Falith and every offset and value: where R446 gives a reason, a 32-bit write is the
log entry of R447 and the mark of the register (denyMark, of each half in a 64-bit write): with reason 2 of a host
command of the ledger reason 0x22 in LDG_s_CMD_CTRL (R259), of QUE_q_PUSH a protocol error counted (R286), of any
other register or reason nothing. A 64-bit write whose first half passes and whose second half has a reason is denied
whole, with that reason (R445, R446). A 32-bit read answers 0xDEAD0000 plus the reason, a 64-bit read that word in
both halves, and has no other effect. The log entry leaves the device state, the flash, the live guard table, queues,
frames, streams, channels, buffers, life data, time, the held and latched halves, and every register outside GRD_LOG_
and EVT_. The next entry and the total move on. -/
def Obligations.DeniedWriteDoesNothing : Prop :=
  (∀ (off v c : Nat) (s : State),
    (c ≠ 2 → s.denyMark off v c = s) ∧
    (∀ st < 32, off = Reg.LDG_CMD_CTRL st → s.denyMark off v 2 =
      if v % 4 = 1 ∨ v % 4 = 2 then s.put (Fld.LDG_CMD_CTRL_reason st) 0x22 else s) ∧
    (∀ q < 96, off = Reg.QUE_PUSH q → s.denyMark off v 2 = s.bump (Fld.QUE_STAT_proto q)) ∧
    ((∀ st < 32, off ≠ Reg.LDG_CMD_CTRL st) → (∀ q < 96, off ≠ Reg.QUE_PUSH q) → s.denyMark off v 2 = s)) ∧
  ∀ (r : Nat) (off v c : Nat) (s : State), s.reqReaches r = true →
    (s.denyReason r off (some v) = some c → v < 2 ^ 32 →
      s.busWrite r off v = (s.denyMark off v c).logDeny r off true false c ∧
      ∀ hi < 2 ^ 32, s.busWrite64 r off (v + 2 ^ 32 * hi) =
        ((s.denyMark off v c).denyMark (off + 4) hi c).logDeny r off true false c) ∧
    (∀ hi < 2 ^ 32, v < 2 ^ 32 → s.denyReason r off (some v) = none → s.denyReason r (off + 4) (some hi) = some c →
      s.busWrite64 r off (v + 2 ^ 32 * hi) =
        ((s.denyMark off v c).denyMark (off + 4) hi c).logDeny r off true false c) ∧
    (s.denyReason r off none = some c →
      s.readBy r off = (s.logDeny r off false false c).emit (.read r off (0xDEAD0000 + c)) ∧
      s.readBy64 r off = (s.logDeny r off false false c).emit (.read r off ((0xDEAD0000 + c) + 2 ^ 32 * (0xDEAD0000 + c)))) ∧
    (∀ w p : Bool, DenialOnly s (s.logDeny r off w p c) ∧
      (s.logDeny r off w p c).get Fld.GRD_LOG_CNT_next = (s.get Fld.GRD_LOG_CNT_next + 1) % 32)

/-- For an access of requester r to an offset, as a read (wv = none) or a write of v: requester 19 is never denied, nor a
function at its own MSI-X table once an image is loaded. Any other access gets 7 while the requester is disabled; else
9 at an unaligned offset as a target or the peer; else 5 in Boot, and in a failed Boot outside GLB_ and BOOT_; else 4
in no window; 1 (read) or 2 (write) without the bit of its domain in the object's mask; 3 for a write of a register
that is the holder's by a requester that is not the holder; 8 for a route to a block without the route bit; else it
passes. The palette BAR's 6 is said apart. -/
def Obligations.DenialReasonsInOrder : Prop :=
  ∀ (s : State) (r off : Nat),
    (r = 19 → ∀ wv, s.denyReason r off wv = none) ∧
    (s.loaded = true → inMsix off = true → r < 16 → ∀ wv, s.denyReason r off wv = none) ∧
    (r ≠ 19 → (s.loaded = false ∨ inMsix off = false ∨ 16 ≤ r) → ∀ wv,
      (s.reqEnabled r = false → s.denyReason r off wv = some 7) ∧
      (s.reqEnabled r = true → 16 ≤ r → off % 4 ≠ 0 → s.denyReason r off wv = some 9) ∧
      (s.reqEnabled r = true → (r < 16 ∨ off % 4 = 0) →
        (s.phase = .boot ∨ (s.phase = .failed ∧ ¬(off < 0x010000 ∨ (0x020000 ≤ off ∧ off < 0x030000)))) →
        s.denyReason r off wv = some 5) ∧
      (s.reqEnabled r = true → (r < 16 ∨ off % 4 = 0) → s.phase ≠ .boot →
        (s.phase = .failed → off < 0x010000 ∨ (0x020000 ≤ off ∧ off < 0x030000)) →
        (accessObj off = none → s.denyReason r off wv = some 4) ∧
          ∀ obj, accessObj off = some obj →
            (wv = none → s.denyReason r off wv = if s.mayRead obj (s.reqDomain r) then none else some 1) ∧
            ∀ v, wv = some v → s.denyReason r off wv =
              if !s.mayWrite obj (s.reqDomain r) then some 2
              else if holderOnly off && r != s.holder then some 3
              else if 0x031000 ≤ off && off < 0x034000 && off % 8 == 0 && !s.mayRoute (s.reqDomain r) v then some 8
              else none))

/-- GUARD_APPLY that passes its check: refused where the pending copy maps domain 0 to another requester than the holder
or to none (0x70), or takes a bit of window 4 from domain 0 (0x71): GRD_STAT's reason and EV_SEC_GUARD_REFUSED, both
tables kept; else the pending copy as it stands is to take effect at a boundary, after any that waits already, and
waiting shows. GUARD_DISCARD: the mask and mapping registers read as the live table again. GUARD_TABLE_SWITCH while an
image is loaded and an apply waits: the copy taken first is the live table and the shadow copy's part, the generation
counts, waiting ends unless another apply waits, EV_SEC_GUARD_GEN rises and the configuration epoch steps (R448,
R449); with none waiting, nothing. -/
def Obligations.GuardTableChanges : Prop :=
  (∀ (r : Fin 19) (s : State), exec (.guardApply r) s = .next (s.busDo r.val Reg.GRD_CTRL 1 (fun s =>
    match s.applyRefusal with
    | some c => (s.put Fld.GRD_CTRL_reason c).raise (evSec 2)
    | none => { (s.put Fld.GRD_CTRL_reason 0).put Fld.GRD_STAT_waiting 1 with
        grdWait := s.grdWait ++ [regsIn s.regs 0x040100 0x040C00] })).settle) ∧
  (∀ s : State, s.applyRefusal =
    (let maps := fun r => bit (s.reg (Reg.GRD_REQ r)).toNat 31 && (s.reg (Reg.GRD_REQ r)).toNat % 16 == 0
     let w := (s.reg (Reg.GRD_WIN 4)).toNat
     if !(maps s.holder) || (List.range 20).any (fun r => !(r == s.holder) && maps r) then some 0x70
     else if bit w 0 && bit w 16 then none else some 0x71)) ∧
  (∀ (r : Fin 19) (s : State), exec (.guardDiscard r) s = .next (s.busDo r.val Reg.GRD_CTRL 2 (fun s =>
    { s with regs := regsIn s.regs 0 0x040100 ++ s.grdLive ++ regsIn s.regs 0x040C00 0x1000000 })).settle) ∧
  (∀ (ns : Nat) (s : State) (tab : List (Nat × Word)) (rest : List (List (Nat × Word))), s.loaded = true →
    s.grdWait = tab :: rest →
    let a := { s.advance ns with
      grdLive := tab, grdWait := rest
      shadow := regsIn s.shadow 0 0x040100 ++ tab ++ regsIn s.shadow 0x040C00 0x1000000 }
    let b := (a.wrapInc Fld.GRD_STAT_generation).put Fld.GRD_STAT_waiting (if rest = [] then 0 else 1)
    exec (.guardTableSwitch ns) s = .next (((b.put Fld.GRD_STAT_holder b.holder).raise (evSec 1)).epochStep [152]).settlePlan) ∧
  (∀ (ns : Nat) (s : State), s.loaded = true → s.grdWait = [] →
    exec (.guardTableSwitch ns) s = .next (s.advance ns).settlePlan)

/-- POWER_ON_RESET and SUPPLY_OUT_OF_RANGE outside Off and Warm set por (1), but for an absent VDDIO_33 that feeds the
warmer (PowerLosses); REFERENCE_LOSS sets clk (2); LOCKSTEP_MISMATCH, WATCHDOG_EXPIRY and a loss of lock of CK_7, and
of CK_6 while it runs, set island (4), in every state but Off, Warm and a Reset with PORST_N low; SOFTWARE_RESET by a
requester that passes the check of BOOT_CMD sets sw (8). Each leaves what FullReset says. The clock-fault and
island-fault resets latch FAULT_N low; a power-on reset clears the latch; a supply keeps it unless VDDIO_33 is the one
that went; a software reset keeps it. A supply that left its range is remembered, and whether it is absent.
VDD_CORE_RETURN from Warm is a power-on reset. In Off and Warm, PORST_N and the supplies only take their levels. -/
def Obligations.FullResets : Prop :=
  (∀ (ns : Nat) (s : State), s.phase ≠ .off → s.phase ≠ .warm →
    (∃ t, exec (.powerOnReset ns) s = .next t ∧ FullReset 1 false s t ∧ t.pw.porst = true) ∧
    (∀ (rail : Rail) (absent : Bool), ¬(rail = Rail.io33 ∧ absent = true ∧ s.pw.internal = true) →
      ∃ t, exec (.supplyOutOfRange ⟨rail, absent⟩ ns) s = .next t ∧ FullReset 1 (s.pw.latch && !(rail == Rail.io33)) s t ∧
        rail ∈ t.pw.out ∧ (absent = true → rail ∈ t.pw.absent) ∧ t.pw.main = false) ∧
    (s.phase ≠ .reset ∨ s.pw.porst = false →
      (∃ t, exec (.referenceLoss ns) s = .next t ∧ FullReset 2 true s t) ∧
      (∃ t, exec (.lockstepMismatch ns) s = .next t ∧ FullReset 4 true s t) ∧
      (∃ t, exec (.watchdogExpiry ns) s = .next t ∧ FullReset 4 true s t) ∧
      (∃ t, exec (.pllUnlock 7 ns) s = .next t ∧ FullReset 4 true s t) ∧
      (s.flag (Fld.CK_PLL_running 6) = true → ∃ t, exec (.pllUnlock 6 ns) s = .next t ∧ FullReset 4 true s t))) ∧
  (∀ (r : Fin 19) (s : State), s.reqReaches r.val = true → s.denyReason r.val Reg.BOOT_CMD (some 0x5A3C0001) = none →
    ∃ t, exec (.softwareReset r) s = .next t ∧ FullReset 8 s.pw.latch s t) ∧
  (∀ (out absent : List Rail) (s : State), s.phase = .warm →
    ∃ t, exec (.vddCoreReturn ⟨out, absent⟩) s = .next t ∧ FullReset 1 false s t ∧ t.pw.core = true ∧ t.pw.out = out ∧
      t.pw.absent = absent ∧ t.pw.porst = true) ∧
  (∀ (ns : Nat) (s : State), s.phase = .off ∨ s.phase = .warm →
    exec (.powerOnReset ns) s = .next ({ s with pw := { s.pw with porst := true, latch := false } }).settle ∧
    (∀ (rail : Rail) (absent : Bool), s.phase = .off ∨ ¬(rail = Rail.io33 ∧ absent = true ∧ s.pw.internal = true) →
      exec (.supplyOutOfRange ⟨rail, absent⟩ ns) s = .next ({ s with pw := { s.pw with
        out := if s.pw.out.contains rail then s.pw.out else s.pw.out ++ [rail]
        absent := if absent && !s.pw.absent.contains rail then s.pw.absent ++ [rail] else s.pw.absent
        latch := s.pw.latch && !(rail == Rail.io33) } }).settle))

/-- VDD_CORE_LOSS outside Off: Warm, every register at its Reset column, no image, all pins released, the warmer's
calendar, causes and flash kept. WARMER_POWER_LOSS, and the absence of VDDIO_33 where the internal regulator feeds the
warmer from it: Off, with the warmer at its own reset state; OTP and flash stay. WARMER_POWER_UP from Off, unless the
internal regulator lacks VDDIO_33: Reset with the cause por where VDD_CORE is in range, else Warm; the calendar
restarts from the newest valid journal record and is not valid (R456). SUPPLY_WARNING shows the level, and while
Falith runs raises EV_PM_SUPW, folds the counts and writes a record (kind 2) unless one was written in the last second
(R465), by local time, or, after a reset, by the calendar (the model's choice, log entry 154); SUPPLY_WARNING_RELEASE
takes the level back. -/
def Obligations.PowerLosses : Prop :=
  (∀ (ns : Nat) (s : State), s.phase ≠ .off →
    ∃ t, exec (.vddCoreLoss ns) s = .next t ∧ t.phase = .warm ∧ t.pw.core = false ∧ t.regs = resetRegs ∧ t.img = Image.init ∧
      t.frames = [] ∧ t.doms = [] ∧ t.pal = [] ∧ t.warm.cal = s.warm.cal ∧ t.warm.causes = s.warm.causes ∧ t.otp = s.otp ∧
      (s.norOp = none → s.life.op = none → s.life.parked = none → t.nor = s.nor) ∧
      (∀ k < 2, (nth t.faultPin k ⟨false, false⟩).low = false) ∧ ∀ k < 4, nth t.intLow k false = false) ∧
  (∀ (i : Instr) (s : State), i = .warmerPowerLoss ∨
      (∃ ns, i = .supplyOutOfRange ⟨.io33, true⟩ ns) ∧ s.pw.internal = true ∧ s.phase ≠ .off →
    ∃ t, exec i s = .next t ∧ t.phase = .off ∧ t.warm = Warm.init ∧ t.regs = resetRegs ∧
      t.img = Image.init ∧ t.otp = s.otp ∧ t.pw.latch = false ∧
      (s.norOp = none → s.life.op = none → s.life.parked = none → t.nor = s.nor) ∧
      ∀ k < 2, (nth t.faultPin k ⟨false, false⟩).low = false) ∧
  (∀ (coreOk : Bool) (out absent : List Rail) (internal : Bool) (s : State), s.phase = .off →
    (internal = true → Rail.io33 ∈ absent → exec (.warmerPowerUp coreOk ⟨⟨out, absent⟩, internal⟩) s = .next s.settle) ∧
    (internal = false ∨ Rail.io33 ∉ absent →
    ∃ t, exec (.warmerPowerUp coreOk ⟨⟨out, absent⟩, internal⟩) s = .next t ∧ t.phase = (if coreOk then .reset else .warm) ∧
      t.warm.calValid = false ∧ t.warm.causes = 1 ∧ t.pw.core = coreOk ∧ t.pw.out = out ∧ t.pw.absent = absent ∧
      t.pw.internal = internal ∧
      (coreOk = true → t.regs = resetRegs) ∧
      t.warm.cal = (match s.jrNewest with
        | some (_, b) => leAt b 8 6
        | none => 0))) ∧
  (∀ (ages : List (Fin 32 × Fin 65536)) (ns : Nat) (s : State),
    let a := s.advance ns
    let w := { a with pw := { a.pw with supw := true } }
    let f := (w.raise (evPm 3)).lifeFold
    exec (.supplyWarning ages ns) s = .next (
      if s.pw.supw then a
      else if !s.runs then w
      else if (match f.life.supwAt, f.warm.supwCal with
        | some t, _ => decide (f.tm.loc < t + 1000000000)
        | none, some c => decide ((f.warm.cal + 2 ^ 48 - c) % 2 ^ 48 < 1024)
        | none, none => false) then f
      else State.jrWrite 2 (ageVals ages) { f with
        life := { f.life with supwAt := some f.tm.loc }
        warm := { f.warm with supwCal := some f.warm.cal } }).settle) ∧
  (∀ (ns : Nat) (s : State), exec (.supplyWarningRelease ns) s =
    .next ({ s.advance ns with pw := { s.pw with supw := false } }).settle)

/-- RESET_RELEASE in Reset starts Boot, and with `finish` runs it to its end; in Boot, with `finish`, Boot goes on;
elsewhere it does nothing. What starts Boot: the straps are sampled where PORST_N or a supply had fallen, PORST_N and
the supplies are good, vehicle time starts at 0, XSPI_RST_N is pulsed, the key-on BIST is in wave 1, CK_7 runs locked,
the flash and the image are untouched (R19, R23, R73, R150). Where no candidate is left Falith stays in a failed Boot
with result 2. A candidate that fails a pass is recorded in its slot and in BOOT_STATUS with its reason and step, and
the next is tried; one that passes all four is loaded (R88, R89). BOOT_STATUS.xspi_mode shows what the strap selects,
0 where it selects by the flash's own table (R73, R99). The end of the key-on wave in hand records every block of it
(a block that no result names has passed), and the next wave or the end of key-on BIST follows; the end of another
wave does nothing (R415). A block of no easel that fails for good is fenced and off, with its life counter and
EV_BIST_FAIL (R416). -/
def Obligations.BootBeginsAndEnds : Prop :=
  (∀ (env : BootEnv) (s : State), exec (.resetRelease env) s = .next (
    match s.phase with
    | .reset => if env.finish then State.bootEnd env ((s.advance 0).bootBegin env) else (s.advance 0).bootBegin env
    | .boot => if env.finish then State.bootEnd env (s.advance 0) else s.advance 0
    | _ => s.advance 0).settle) ∧
  (∀ (env : BootEnv) (s : State),
    let b := s.bootBegin env
    let rose := s.pw.porst || !s.pw.main
    b.phase = .boot ∧ b.pw.porst = false ∧ b.pw.main = true ∧ b.tm = TimeSt.init ∧
    b.pw.strapClk = (if rose then b2n env.clk else s.pw.strapClk) ∧
    b.pw.strapXspi = (if rose then env.xspi.val else s.pw.strapXspi) ∧
    b.nor = s.nor ∧ b.img = s.img ∧ b.otp = s.otp ∧ b.hlReset = s.pw.perst ∧
    b.get Fld.BIST_STAT_keyon = 1 ∧ b.get Fld.BIST_STAT_wave = 1 ∧
    (b.pw.strapXspi < 3 → b.get Fld.BOOT_STATUS_xspi_mode = b.pw.strapXspi) ∧ (b.pw.strapXspi = 3 → b.get Fld.BOOT_STATUS_xspi_mode = 0) ∧
    b.get (Fld.CK_PLL_running 7) = 1 ∧ b.get (Fld.CK_PLL_locked 7) = 1 ∧ b.get Fld.CK_SRC_ref_ok = 1 ∧
    (.pin .xspiRstN true) ∈ b.out ∧ (.pin .xspiRstN false) ∈ b.out) ∧
  (∀ s : State, State.tryCandidates [] s = ({ s with phase := .failed }.put Fld.BOOT_STATUS_result 2).fnShow) ∧
  (∀ (k : Nat) (h : Header) (rest : List (Nat × Header)) (s : State),
    let rejected := fun (c : Nat) => ((s.put (Fld.BOOT_SLOT_reason k) c).put Fld.BOOT_STATUS_reason c).put
      Fld.BOOT_STATUS_phase (rejectStep c)
    State.tryCandidates ((k, h) :: rest) s = (match s.slotImage h k with
      | .error c => State.tryCandidates rest (rejected c)
      | .ok i => match s.imagePlaced i with
        | .error (c, some e) => State.tryCandidates rest ((rejected c).plcRefuse e)
        | .error (c, none) => State.tryCandidates rest (rejected c)
        | .ok (a, c) => c.loadImage a)) ∧
  (∀ (wave : Fin 6) (results : List BistResult) (s : State), s.runs = true →
    let a := s.advance 0
    let w := wave.val + 1
    exec (.keyonBistWaveEnd wave results) s = .next ((a.waveEnd w results).awoken).settle ∧
    (a.flag Fld.BIST_STAT_keyon = false ∨ a.get Fld.BIST_STAT_wave ≠ w → a.waveEnd w results = a) ∧
    (a.loaded = false → a.flag Fld.BIST_STAT_keyon = true → a.get Fld.BIST_STAT_wave = w →
      (∀ r ∈ results, r.logic = false ∧ r.memory = false) →
      let t := a.waveEnd w results
      t.get Fld.BIST_STAT_keyon = (if w = 6 then 0 else 1) ∧ t.get Fld.BIST_STAT_wave = (if w = 6 then 0 else w + 1) ∧
      ∀ d ∈ waveBlocks w, ∀ x ∈ bistBlock d, t.get (Fld.BIST_DOM_last x) =
        if ((results.find? (fun r => r.dom.val == d)).elim 0 (fun r => r.repairs)) = 0 then 1 else 2)) ∧
  (∀ (d : Nat) (r : BistResult) (s : State), d < 48 ∨ 72 ≤ d → s.bistFence d r =
    (State.lifeItem 226 1 (forEach (bistBlock d) (fun x (u : State) => (u.put (Fld.BIST_DOM_fenced x) 1).domCut x) s)).raise (evSafe 42))

/-- PERST_ASSERT while Falith runs, and HOST_LINK_RESET_COMMAND by a requester that passes its check, add cause 16 and,
unless the link is in reset already, start the reset: every HL_ register but the function states HL_FN at its Reset
column, the link held in reset, the PF alone present, and the MSI-X tables, pending bits and the translation cache
empty (R67, R69, R70). PERST_ASSERT while Falith does not run only takes the level; PERST_RELEASE takes it back.
HOST_LINK_RESET_END with PERST_N high and the link in reset: HL_ from the shadow copy, the declared budget, and
training; LINK_TRAINING_START ends a reset of a loaded image so, and else trains. The link trains with the rate, width
and clock mode of a loaded image's HL_CFG; before that with the fields of the first candidate that provides them, or
at 6.0 x8 common clock without one (R72). A configuration request of a trained link in Boot is answered Request Retry
Status (R71). -/
def Obligations.HostLinkReset : Prop :=
  (∀ s : State, s.hlReset = false →
    let t := s.hlResetGo
    t.hlReset = true ∧ t.fns = [(0, FnSt.init true)] ∧ t.msix = [] ∧ t.msixPend = [] ∧ t.atc = [] ∧
    ∀ off, 0x900000 ≤ off → off < 0x910000 → off ≠ Reg.HL_FN → t.reg off = cellGet 0#32 resetRegs off) ∧
  (∀ (ns : Nat) (s : State),
    let a := s.advance ns
    exec (.perstAssert ns) s = .next (
      if !s.runs then { a with pw := { a.pw with perst := true } }
      else if s.hlReset then
        { a with pw := { a.pw with perst := true }, warm := { a.warm with causes := a.warm.causes ||| 16 } }
      else State.hlResetGo { a with pw := { a.pw with perst := true }, warm := { a.warm with causes := a.warm.causes ||| 16 } }).settle) ∧
  (∀ (r : Fin 19) (s : State), exec (.hostLinkResetCommand r) s = .next (s.busDo r.val Reg.BOOT_CMD 0x5A3C0002 (fun s =>
    if s.runs then State.hlResetGo { s with warm := { s.warm with causes := s.warm.causes ||| 16 } } else s)).settle) ∧
  (∀ (ns : Nat) (s : State), exec (.perstRelease ns) s = .next ({ s.advance ns with pw := { s.pw with perst := false } }).settle) ∧
  (∀ (ns : Nat) (s : State), s.runs = true → s.hlReset = true → s.pw.perst = false →
    let h := State.hlDeclared ({ s.advance ns with hlReset := false }.restore 0x900000 0x910000)
    exec (.hostLinkResetEnd ns) s = .next h.hlTrainNow.settle ∧
    (s.loaded = true → exec (.linkTrainingStart ns) s = .next h.hlTrainNow.settle)) ∧
  (∀ (ns : Nat) (s : State), s.runs = true → s.loaded = false ∨ s.hlReset = false → s.pw.perst = false →
    exec (.linkTrainingStart ns) s = .next (State.hlTrainNow { s.advance ns with hlReset := false }).settle) ∧
  (∀ s : State, s.hlTrainNow =
    if s.flag Fld.HL_STAT_up then s
    else
      let go := fun (rate width : Nat) (sris : Bool) => ((s.emit (.train rate width sris)).put Fld.HL_STAT_lstate 5).hlDoms
      if s.loaded then go (s.get Fld.HL_CFG_max_rate) (s.get Fld.HL_CFG_max_width) (s.flag Fld.HL_CFG_sris)
      else match s.earlyHlCfg with
        | some w => go (bits w 19 16) (bits w 11 8) (bit w 24)
        | none => go 6 8 false) ∧
  (∀ (fn : Fin 16) (s : State), exec (.configRequestDuringBoot fn) s =
    .next (if s.phase == .boot && s.flag Fld.HL_STAT_up then s.emit (.retryStatus fn.val) else s).settle)

/-- XTAL32K_STOP outside Off puts the warmer on its RC oscillator, and while Falith runs shows it in CK_SRC and raises
EV_CK_XTAL32K_FAIL (R60); XTAL32K_RETURN undoes it without an event; RC_TRIM is taken outside Off while the crystal
runs (R454). PLL_UNLOCK of a running easel PLL CK_n, n < 6: locked 0, unlocks counted, EV_CK_PLL_UNLOCK, then both
easels of the pair retired with reason 3, one that rests first (R61). PLL_RELOCK while an image is loaded: running and
locked with its lock time, and the domains of both easels of an easel PLL, retired or not, are restored from the
shadow copy and census-checked. RAISE_ROLLBACK_FLOOR that passes its check while an image is loaded: without VFUSE
reason 0x33 and nothing else; with it the OTP floor is the higher of the floor and the image's security version,
BOOT_SEC shows it, and EV_SEC_FLOOR rises (R93), also where the floor was as high already (the model's choice, log
entry 156). -/
def Obligations.ClockSources : Prop :=
  (∀ (ns : Nat) (s : State),
    let a := s.advance ns
    let rc := { a with warm := { a.warm with onRc := true, xtalOk := false } }
    let xt := { a with warm := { a.warm with onRc := false, xtalOk := true } }
    exec (.xtal32kStop ns) s = .next (if s.phase == .off then a
      else if s.runs then ((rc.put Fld.CK_SRC_warm_on_rc 1).put Fld.CK_SRC_xtal32k_ok 0).raise (evPm 17) else rc).settle ∧
    exec (.xtal32kReturn ns) s = .next (if s.phase == .off then a
      else if s.runs then (xt.put Fld.CK_SRC_warm_on_rc 0).put Fld.CK_SRC_xtal32k_ok 1 else xt).settle) ∧
  (∀ (ppm : Int) (s : State), exec (.rcTrim ppm) s = .next (if s.phase == .off || s.warm.onRc then s.advance 0
    else { s.advance 0 with warm := { s.warm with trim := ppm } }).settle) ∧
  (∀ (n : Fin 8) (ns : Nat) (s : State), n.val < 6 → s.flag (Fld.CK_PLL_running n.val) = true →
    let a := (((s.advance ns).put (Fld.CK_PLL_locked n.val) 0).bump (Fld.CK_PLL_unlocks n.val)).raise (evPm (8 + n.val))
    exec (.pllUnlock n ns) s = .next (if a.plc.resting = some (2 * n.val + 1)
      then State.retire (2 * n.val) 3 (State.retire (2 * n.val + 1) 3 a)
      else State.retire (2 * n.val + 1) 3 (State.retire (2 * n.val) 3 a)).settle) ∧
  (∀ (n : Fin 8) (t : Fin 256) (ns : Nat) (s : State), s.loaded = true →
    let a := (((s.advance ns).put (Fld.CK_PLL_running n.val) 1).put (Fld.CK_PLL_locked n.val) 1).put
      (Fld.CK_PLL_last_lock n.val) t.val
    exec (.pllRelock n t ns) s = .next (if n.val < 6 then
      forEach [48 + 4 * n.val, 49 + 4 * n.val, 72 + 2 * n.val, 50 + 4 * n.val, 51 + 4 * n.val, 73 + 2 * n.val] State.domRestore a
      else a).settlePlan) ∧
  (∀ (r : Fin 19) (vfuse : Bool) (s : State),
    exec (.raiseRollbackFloor r vfuse) s = .next (State.busDo r.val Reg.BOOT_CMD 0x5A3C0003 (fun s =>
      if !s.loaded then s
      else if !vfuse then s.put Fld.BOOT_SEC_cmd_reason 0x33
      else
        let f := Nat.max s.otp.floor s.img.secVer
        (({ s with otp := { s.otp with floor := f } }.put Fld.BOOT_SEC_floor f).put Fld.BOOT_SEC_cmd_reason 0).raise (evSec 5))
      { s with pw := { s.pw with vfuse := vfuse } }).settle)

/-- PM_DCTRL_HOLD_OFF sets hold_off and leaves hold_on and sb_keep (always 1 for domains 146 and 147). Where hold_on is 0
it asks for a power-down: in Standby entry or waking refused with 6, under BIST with 4, for a palette bank group with
live cells with 1, for a port with an open frame with 2, for a domain needed now or within 500 us with 3. A refusal
leaves hold_off 0 and the domain as it is, is recorded in PM_REFUSE (valid, reason, guard domain, domain) and in
PM_n_DSTAT, and raises EV_PM_REFUSED; else the domain, if on, drains. PM_DCTRL_HOLD_ON sets hold_on and leaves the
rest; in Active a sleeping domain then starts to wake, unless it is fenced or 8 domains ramp. Both are checked, and
dropped for a domain that is off, as every register write is. -/
def Obligations.PowerDownRequests : Prop :=
  ∀ (r : Fin 19) (n : Fin 152) (s : State),
    let old := (s.reg (Reg.PM_DCTRL n.val)).toNat
    let keep := b2n (bit old 2 || n.val == 146 || n.val == 147)
    exec (.pmDctrlHoldOff r n) s = .next (State.busDo r.val (Reg.PM_DCTRL n.val) (old ||| 2) (fun s =>
      let w := ((s.put (Fld.PM_DCTRL_sb_keep n.val) keep).put (Fld.PM_DCTRL_hold_on n.val) (b2n (bit old 0))).put
        (Fld.PM_DCTRL_hold_off n.val) 1
      let why : Option Nat :=
        if w.phase == .entering || w.phase == .waking then some 6
        else if w.domBist n.val then some 4
        else if 84 ≤ n.val && n.val < 132 && w.groupLive (n.val - 84) != 0 then some 1
        else if n.val < 48 && w.portBusy (n.val / 2) then some 2
        else if w.domSoon n.val then some 3
        else none
      if bit old 0 then (if w.phase == .active then w.domWake n.val else w)
      else match why with
      | some c => (((((((w.put (Fld.PM_DCTRL_hold_off n.val) 0).put Fld.PM_REFUSE_valid 1).put Fld.PM_REFUSE_reason c).put
          Fld.PM_REFUSE_requester (s.reqDomain r.val)).put Fld.PM_REFUSE_domain n.val).put
          (Fld.PM_DSTAT_last_reason n.val) c).raise (evPm 1))
      | none => w.domDrain n.val) s).settlePlan ∧
    exec (.pmDctrlHoldOn r n) s = .next (State.busDo r.val (Reg.PM_DCTRL n.val) (old ||| 1) (fun s =>
      let w := ((s.put (Fld.PM_DCTRL_sb_keep n.val) keep).put (Fld.PM_DCTRL_hold_on n.val) 1).put
        (Fld.PM_DCTRL_hold_off n.val) (b2n (bit old 1))
      if w.phase == .active then w.domWake n.val else w) s).settlePlan

/-- While an image is loaded: DOMAIN_RAMP_START wakes a domain that has a slot, or that placement or hold_on needs, in
Active or waking. A domain wakes if it is off, neither fenced nor held off, and fewer than 8 domains ramp: waking, its
ramp begun now, its PLL started (R41, R42, R58, R66). DOMAIN_WAKE_DONE of a waking domain: on, its wakes counted, its
registers put back from the shadow copy and its census set checked; a bank group's words are cleared, a transmit port
(and domain 134 for the host) sends what was held for it, link A of a combo port comes up, HL_BUDGET and CK_SRC follow
HL_CFG; then transfers that were held go on, a takeover may be complete, waiting streams are placed, and commit
entries that met it off act (R471); of any other domain nothing. DOMAIN_DRAIN_DONE of a draining domain whose
transfers are at a drip boundary: on again where Active holds or soon needs it or the link state asks for it (R309),
else powering down (a queue-store half first empties its queues); of any other domain nothing. A domain powering down
is off, and its PLL stopped when nothing it clocks is powered, once time has passed. The table of domain states and
PM_n_DSTAT agree after setDom. -/
def Obligations.DomainsWakeAndDrain : Prop :=
  (∀ (n : Fin 152) (ns : Nat) (s : State), s.loaded = true →
    let a := s.advance ns
    exec (.domainRampStart n ns) s = .next (
      if (s.phase == .active || s.phase == .waking) && (thas a.ramps n.val || a.domNeed n.val || a.domHeld n.val) then
        a.domWake n.val else a).settlePlan ∧
    exec (.domainWakeDone n ns) s = .next (State.awoken (if a.dom n.val == .waking then
      let b := forEach (domRanges n.val) (fun x u => State.restore u x.1 x.2)
        (({ a with ramps := tdel a.ramps n.val, rampAt := tdel a.rampAt n.val }.setDom n.val .on).bump (Fld.PM_DSTAT_wakes n.val))
      let k := State.cenCheckSet n.val (if n.val == 136 then b.hlDeclared else b)
      let c := if 84 ≤ n.val && n.val < 132 then State.groupClear (n.val - 84) k else k
      let p := if 138 ≤ n.val && n.val < 142 then State.csoFlush (n.val - 138) c
        else if n.val == 134 then c.hlFlush else if Nat.blt n.val 48 then c.portWoke (n.val / 2) else c
      let q := if p.domOn 144 && p.domOn 145 then p.txeWake (p.txeOf n.val) else p
      let r := if 48 ≤ n.val && n.val < 84 then q.takenOver else q
      if 84 ≤ n.val && n.val < 132 && r.working then r.applyIdle else r
      else a)).settlePlan ∧
    exec (.domainDrainDone n ns) s = .next (
      if !(a.dom n.val == .draining) || a.dripHeld n.val then a
      else if (s.phase == .active && (a.domHeld n.val || a.domSoon n.val)) ||
          (Nat.ble 134 n.val && Nat.blt n.val 138 && a.hlWant n.val) then
        let on := a.setDom n.val .on
        if on.domOn 144 && on.domOn 145 then on.txeWake (on.txeOf n.val) else on
      else
        let h := if n.val == 132 || n.val == 133 then State.halfDown (n.val - 132) a else a
        { h with ramps := tdel h.ramps n.val, rampAt := tset h.rampAt n.val h.tm.loc }.setDom n.val .powerdown).settlePlan) ∧
  (∀ (s : State) (d : Nat), s.domWake d =
    if s.dom d == .off && !s.domFenced d && (s.flag (Fld.PM_DCTRL_hold_on d) || !s.flag (Fld.PM_DCTRL_hold_off d)) &&
      decide (s.ramping < 8) then
      State.pllStart d ({ s with rampAt := tset s.rampAt d s.tm.loc, ramps := tdel s.ramps d }.setDom d .waking)
    else s) ∧
  (∀ (s : State) (d : Nat), s.dom d = .powerdown → tget s.rampAt d 0 < s.tm.loc → s.domsOff.dom d = .off) ∧
  (∀ (s : State) (d : Nat) (x : DomSt), d < 152 →
    (s.setDom d x).dom d = x ∧ (s.setDom d x).get (Fld.PM_DSTAT_state d) = x.code)

/-- STANDBY_ENTER by a requester that passes its check: from Active, PM_STATE shows entering (4), every running group is
to stop at its next edge, and the standby sequences go out at once where nothing runs and nothing is unfinished; while
waking it is refused with 6; elsewhere nothing. WAKE_COMMAND: from Standby, PM_STATE shows waking (5) and the needed
and held domains start to wake, as many as may ramp; in Standby entry it is refused with 6; elsewhere nothing.
WAKE_COMPLETE from waking: the needed domains are up, input counts as lost, Active (2), placement runs, EV_PM_STATE,
the groups start again where they had been started, the wake sequences are sent, commit entries that met a sleeping
domain act; elsewhere nothing (R50, R54). STANDBY_ENTRY_COMPLETE once entry has sent its sequences: the link goes down
unless its domains are kept, every domain not kept drains and goes down (packets held at ports are gone), the FSO pins
are low, Standby (3) with EV_PM_STATE; before that, only what remains of entry goes on. -/
def Obligations.StandbyAndWake : Prop :=
  (∀ (r : Fin 19) (s : State), exec (.standbyEnter r) s = .next (State.busDo r.val Reg.PM_CTRL 1 (fun s =>
    match s.phase with
    | .active => State.sbGo { { s with phase := .entering }.put Fld.PM_STATE_state 4 with sbSent := false }
    | .waking => s.pmRefuse 6 (s.reqDomain r.val) none
    | _ => s) s).settlePlan) ∧
  (∀ (r : Fin 19) (s : State), exec (.wakeCommand r) s = .next (State.busDo r.val Reg.PM_CTRL 2 (fun s =>
    match s.phase with
    | .entering => s.pmRefuse 6 (s.reqDomain r.val) none
    | .standby =>
      let w := { s with phase := .waking }.put Fld.PM_STATE_state 5
      forEach ((List.range 152).filter (fun d => w.dom d == .off && (w.domHeld d || w.domNeed d))) State.domWake w
    | _ => s) s).settlePlan) ∧
  (∀ (ns : Nat) (s : State), s.loaded = true →
    let a := s.advance ns
    exec (.wakeComplete ns) s = .next (State.awoken (if s.phase == .waking then
      let up := State.inputAsleep (forEach ((List.range 152).filter (fun d =>
        a.dom d == .waking || ((a.dom d == .off || a.dom d == .powerdown) && (a.domNeed d || a.domHeld d)))) State.domBring a)
      let on := ({ up with phase := .active }.put Fld.PM_STATE_state 2).plcRun.raise (evPm 0)
      let go := if on.syncOn then forEach (List.range 8) State.grpStart { on with sbSent := false } else { on with sbSent := false }
      State.txeWake (tkeys go.txe) (forEach go.boundTgts (fun pk (u : State) => u.chanAdd pk.1 (.wake pk.2 0)) go)
      else a)).settlePlan) ∧
  (∀ (ns : Nat) (s : State), s.loaded = true →
    let a := s.advance ns
    let b := State.sbGo (if a.phase == .entering && a.quiet then
      forEach (List.range 8) (fun g (u : State) => u.put (Fld.SYNC_CTRL_run g) 0) a else a)
    exec (.standbyEntryComplete ns) s = .next (if b.phase == .entering && b.sbSent then
      let l := if b.domKept 134 && b.domKept 136 then b else b.hlDown
      let d := forEach ((List.range 152).filter (fun d => !(l.dom d == .off) && !l.domKept d)) (fun d u => ((u.domDrain d).domDown d).domCut d) l
      let f := forEach ((List.range 16).filter (fun n => bit d.fsoHigh n)) (fun n (u : State) => u.fsoDrive n false) d
      ({ f with ramps := [], ingress := [], phase := .standby }.put Fld.PM_STATE_state 3).raise (evPm 0)
      else b).settlePlan)

/-- AVS_TICK while an image is loaded and the loop is enabled, with a margin in units of 0.25 %: below 12 units (3 %) the
code goes up by one unless it is at vmax, where EV_PM_AVS_LIMIT rises; after 100 consecutive checks above 24 units (6
%) it goes down by one unless it is at vmin, and the count starts again; otherwise it stays. The new code is sent over
the PMBus; where the transfer fails three times PM_AVS_STAT keeps the last confirmed code and EV_PM_AVS_FAIL rises.
Disabled, AVS_TICK does nothing. AVS_ALERT reads the status word and raises EV_PM_AVS_ALERT, whether the loop is
enabled or not (R62). Before an image is loaded neither does anything. -/
def Obligations.VoltageScaling : Prop :=
  (∀ (margin : Fin 256) (busOk : Bool) (ns : Nat) (s : State), s.runs = true →
    s.loaded = false ∨ s.flag Fld.PM_AVS_CTRL_enable = false →
    exec (.avsTick margin busOk ns) s = .next (s.advance ns).settle) ∧
  (∀ (ns : Nat) (s : State), s.runs = true → exec (.avsAlert ns) s = .next (if s.loaded then
    ((s.advance ns).emit .pmbusStatus).raise (evPm 5) else s.advance ns).settle) ∧
  ∀ (margin : Fin 256) (ns : Nat) (s : State), s.loaded = true → s.flag Fld.PM_AVS_CTRL_enable = true →
    let code := s.get Fld.PM_AVS_STAT_code
    let vmax := s.get Fld.PM_AVS_CTRL_vmax
    let vmin := s.get Fld.PM_AVS_CTRL_vmin
    let good := if 24 < margin.val then s.avsGood + 1 else 0
    let next := if margin.val < 12 ∧ code < vmax then code + 1 else if 100 ≤ good ∧ vmin < code then code - 1 else code
    (∃ t, exec (.avsTick margin true ns) s = .next t ∧ (.pmbus next) ∈ t.out ∧ t.get Fld.PM_AVS_STAT_code = next % 256 ∧
      t.get Fld.PM_AVS_STAT_margin = margin.val ∧ t.get Fld.PM_AVS_STAT_bus_fail = 0 ∧
      t.avsGood = (if 100 ≤ good ∧ vmin < code then 0 else Nat.min 100 good) ∧
      (margin.val < 12 → code = vmax → t.get (fStat (evPm 7)) = 1)) ∧
    (∃ t, exec (.avsTick margin false ns) s = .next t ∧ (.pmbus next) ∈ t.out ∧ t.get Fld.PM_AVS_STAT_code = code ∧
      t.get Fld.PM_AVS_STAT_bus_fail = 1 ∧ t.get (fStat (evPm 6)) = 1)

/-- The commands of imageTime are what happens at the sensor ports, in the easels, at the engines, links and timers of an
image. In every state without a loaded image each of them lets its time pass and does nothing else (the pins follow
their rules). The commands of runTime are what happens to a Falith that runs; in a state in which it does not run
(off, warmer only, reset) each of them leaves the whole state as it is (R37). -/
def Obligations.OnlyTimePassesOtherwise : Prop :=
  (∀ (i : Instr) (ns : Nat) (s : State), imageTime i = some ns → s.loaded = false → exec i s = .next (s.advance ns).settle) ∧
  (∀ (i : Instr) (ns : Nat) (s : State), runTime i = some ns → s.runs = false → exec i s = .next s)

/-- Of a running Falith. HOST_LINK_UP, unless the link is held in reset, fenced or under BIST: HL_STAT shows up, rate and
width trained, L0, CXL where it is offered and trained at 32 or 64 GT/s (a retraining keeps it); EV_HL_UP rises,
EV_HL_SLOW below what HL_CFG asks for, EV_HL_CXL when CXL.cache changes; the trained budget, the link's domains and
HL_FN follow; with an image loaded the drop choice is made, and when the link was down the functions that take output
go on. A link that goes down: HL_STAT cleared with lstate 6, budget 0, what waited for it lost, EV_HL_DOWN, outputs
bound for functions that are gone dropped; HOST_LINK_DOWN of a link that is up is a host-link reset with cause link
(R67). LINK_LOW_POWER_ENTRY sets lstate to L0p, L1, L1.1, L1.2 or from L0p to L0, the width too at L0p and back; L2
takes the link down. L1_EXIT from an L1 state drives CLKREQ_N from L1.2 and sends the exit, where nothing that waits
did so before, goes to L0 and sends what waits. ATS_INVALIDATION empties the function's translations and is answered
with EV_HL_ATS, CXL_SNOOP is answered invalid. When the link state's domains follow it (hlDoms, R309), of domains 134
to 137: one that it wants or hold_on asks for keeps its state, but is on again where it drained, and starts to wake
where it is off, neither fenced nor held off, and no domain ramps; one that is not asked for drains where it is on, as
R46 has it, or powers down where it wakes; without an image, whose transfers it could hold, it is off at once. -/
def Obligations.LinkGoesUpAndDown : Prop :=
  (∀ (s : State) (ns : Nat), s.runs = true →
     let a := s.advance ns
     (∀ (rate width : Fin 16) (cxl : Bool), exec (.hostLinkUp rate width cxl ns) s = .next (State.awoken
       (if a.hlReset || a.pw.perst || [134, 135, 136, 137].any a.domHurt then a
       else
         let was := a.flag Fld.HL_STAT_up
         let c := (if was then a.flag Fld.HL_STAT_cxl else cxl && a.flag Fld.HL_CFG_cxl_offer) && Nat.ble 5 rate.val
         let u := (((((a.put Fld.HL_STAT_up 1).put Fld.HL_STAT_cxl (b2n c)).put Fld.HL_STAT_cache_on (b2n c)).put
           Fld.HL_STAT_rate_now rate.val).put Fld.HL_STAT_width_now width.val).put Fld.HL_STAT_lstate 0
         let slow := Nat.blt rate.val (a.get Fld.HL_CFG_max_rate) || Nat.blt width.val (a.get Fld.HL_CFG_max_width)
         let e := ((u.raise (evHl 0)).raiseIf slow (evHl 2)).raiseIf (!(c == a.flag Fld.HL_STAT_cache_on)) (evHl 9)
         let b := e.put Fld.HL_BUDGET_trained (hlBudget rate.val width.val)
         let d := (State.hlFlush (State.hlDoms (forEach [134, 135, 136, 137] (fun d (u : State) => if u.hlWant d then u.domBring d else u) b))).fnShow
         if !d.loaded then d else if was then d.chooseDrops
         else forEach ((List.range 16).filter d.fnOk) State.fnResume d.chooseDrops)).settle) ∧
     exec (.hostLinkDown ns) s = .next
       (if !a.flag Fld.HL_STAT_up then a
       else State.hlResetGo { a with warm := { a.warm with causes := a.warm.causes ||| 16 } }).settle ∧
     (a.flag Fld.HL_STAT_up = true → a.hlDown =
       let u := ((((({ a with outHeld := tdel a.outHeld 4 }.put Fld.HL_STAT_up 0).put Fld.HL_STAT_cxl 0).put Fld.HL_STAT_cache_on 0).put
         Fld.HL_STAT_rate_now 0).put Fld.HL_STAT_width_now 0).put Fld.HL_STAT_lstate 6
       ((((u.put Fld.HL_BUDGET_trained 0).raise (evHl 1)).raiseIf (a.flag Fld.HL_STAT_cache_on) (evHl 9)).hlDoms.fnShow).pourCut.erkCut) ∧
     (∀ (l : Fin 6) (width : Fin 16), exec (.linkLowPowerEntry l width ns) s = .next
       (if !a.flag Fld.HL_STAT_up || (l.val == 0 && a.get Fld.HL_STAT_lstate != 1) then a
       else if l.val == 5 then a.hlDown
       else (if l.val < 2 then (a.put Fld.HL_STAT_lstate l.val).put Fld.HL_STAT_width_now width.val
             else a.put Fld.HL_STAT_lstate l.val).hlDoms).settle) ∧
     exec (.l1Exit ns) s = .next
       (if a.flag Fld.HL_STAT_up && Nat.ble 2 (a.get Fld.HL_STAT_lstate) && Nat.ble (a.get Fld.HL_STAT_lstate) 4 then
         State.hlFlush (((if (tget a.outHeld 4 []).isEmpty then
           (if a.get Fld.HL_STAT_lstate == 4 then a.emit (.pull .clkreqN true) else a).emit .linkExit else a).put Fld.HL_STAT_lstate 0).hlDoms)
       else a).settle ∧
     (∀ fn, exec (.atsInvalidation fn ns) s = .next
       (if a.flag Fld.HL_STAT_up then
         ({ a with atc := a.atc.filter (fun e => !(e.1 == fn.val)) }.emit (.atsDone fn.val)).raise (evHl 12) else a).settle) ∧
     (∀ addr, exec (.cxlSnoop addr ns) s = .next
       (if a.flag Fld.HL_STAT_cxl then a.emit (.snoopInvalid addr.toNat) else a).settle)) ∧
  (∀ (s : State) (d : Nat), d = 134 ∨ d = 135 ∨ d = 136 ∨ d = 137 →
     let asked := s.hlWant d || s.flag (Fld.PM_DCTRL_hold_on d)
     (asked = true → s.dom d = .draining → s.hlDoms.dom d = .on) ∧
     (asked = true → s.dom d ≠ .draining → s.dom d ≠ .off ∨ s.domBarred d = true → s.hlDoms.dom d = s.dom d) ∧
     (asked = true → s.dom d = .off → s.domBarred d = false → (∀ e ∈ s.doms, e.2 ≠ .waking) → s.hlDoms.dom d = .waking) ∧
     (asked = false → s.dom d = .off ∨ s.dom d = .powerdown ∨ s.dom d = .draining → s.hlDoms.dom d = s.dom d) ∧
     (asked = false → s.dom d = .on → s.hlDoms.dom d = if s.loaded then .draining else .off) ∧
     (asked = false → s.dom d = .waking → s.hlDoms.dom d = if s.loaded then .powerdown else .off))

/-- Of a running Falith: FUNCTION_D3HOT_ENTRY of a present function in D0 puts it out of D0, raises EV_HL_FN and drops
what was bound for it; of another function nothing. FUNCTION_D0_ENTRY makes the function present, in D0 and out of
reset with its MSI-X Enable, Function Mask and Device Control, raises EV_HL_FN where a present function left D3hot,
sends what a Function Mask that it clears held back (R437), and lets it take output again, as reads that waited for
tags go on; in Boot nothing does (R71), in a failed Boot no virtual function (R90). FUNCTION_LEVEL_RESET of a present
function: its reset lasts until it is in D0 again, what was bound for it is dropped and its descriptors, a bound one
too, count as not handed over, its MSI-X words, pending bits and translations are gone, its Device Control is at
reset, EV_HL_FLR rises. VF_REMOVAL of a present virtual function: the same, and the function is absent. In each case
HL_FN shows which functions take output. -/
def Obligations.FunctionStates : Prop :=
  ∀ (s : State) (ns : Nat), s.runs = true →
    let a := s.advance ns
    let gone := fun (fn : Nat) (f : FnSt) =>
      let u := (((a.setFn fn f).pourCut.erkCut).fnForget fn).txeReset fn
      let v := { u with atc := u.atc.filter (fun e => !(e.1 == fn)) }
      (({ v with msix := v.msix.filter (fun e => !(e.1 / 65536 == fn)), msixPend := v.msixPend.filter (fun k => !(k / 2048 == fn)) }).raise
        (evHl 10)).fnShow
    (∀ fn, exec (.functionD3hotEntry fn ns) s = .next
      (if (a.fn fn.val).present && (a.fn fn.val).d0 then
        (((a.setFn fn.val { a.fn fn.val with d0 := false }).raise (evHl 11)).fnShow).pourCut.erkCut
      else a).settle) ∧
    (∀ fn en mask dc, exec (.functionD0Entry fn ⟨en, mask⟩ dc ns) s = .next
      (if s.phase = .boot ∨ (s.phase = .failed ∧ fn.val ≠ 0) then a
      else
        let v := (a.setFn fn.val ⟨true, true, false, en, mask, dc⟩).raiseIf (!(a.fn fn.val).d0 && (a.fn fn.val).present) (evHl 11)
        let w := if (a.fn fn.val).fmask && !mask then
          forEach (List.range (if fn.val = 0 then 2048 else 64)) (fun x (u : State) => u.msiUnmasked fn.val x) v else v
        let u := forEach (List.range w.reads.length) (fun _ u => State.readNext u) w.fnShow
        if u.loaded && u.fnOk fn.val && !(a.fnOk fn.val) then u.fnResume fn.val else u).settle) ∧
    (∀ fn, exec (.functionLevelReset fn ns) s = .next
      (if (a.fn fn.val).present then gone fn.val ⟨true, (a.fn fn.val).d0, true, false, false, DevCtl.init⟩ else a).settle) ∧
    (∀ vf : Fin 15, exec (.vfRemoval vf ns) s = .next
      (if (a.fn (vf.val + 1)).present then gone (vf.val + 1) (FnSt.init false) else a).settle)

/-- OUTPUT_DOORBELL of a ring fetches again every descriptor of it that is not handed over, with retries of its own; the
doorbell of a ring that has no registers (6 and 7 of a stream) does nothing. While an image is loaded: the retry timer
reads the oldest descriptor that is not handed over again, 16 times at most. DESCRIPTOR_FETCH_COMPLETE ends the oldest
read of the ring: of one no longer needed nothing is taken; of one asked for again meanwhile it is read again; where
the bytes came, the function takes output, bit 0 says owned and bits 15..8 are the generation of the frame, its
address (8 bytes at 8) and length (4 at 4) are taken; else EV_HL_DESC after the 16th retry. An Unsupported Request is
counted and raises EV_HL_CPL; an uncorrected word of the cells that hold a completion is a palette error (R280) and
the read fails; a read past its time counts as a completion timeout with EV_HL_CTO and fails (R311, R315, R321). -/
def Obligations.DescriptorsAreFetched : Prop :=
  (∀ (r : Fin 19) (ring : Fin 264) (s : State), exec (.outputDoorbell r ring) s = .next
    (s.busDo r.val (Reg.OUT_DB ring.val) 0 (fun s =>
      if ring.val < 256 ∧ 6 ≤ ring.val % 8 then s
      else forEach (((s.ring ring.val).fetches.filter (fun (f : Fetch) => !f.dead && f.got.isNone)).map (fun (f : Fetch) => f.num))
        (fun F (u : State) => (u.modFetch ring.val F (fun f => { f with tries := 0 })).fetchIssue ring.val F) s)).settle) ∧
  (∀ (ring : Fin 264) (ns : Nat) (s : State), s.loaded = true →
    let a := s.advance ns
    exec (.descriptorRetryTimer ring ns) s = .next
      (match (a.ring ring.val).fetches.find? (fun (f : Fetch) => !f.busy && !f.dead && f.got.isNone && Nat.blt f.tries 16) with
      | none => a
      | some f => (a.modFetch ring.val f.num (fun g => { g with tries := g.tries + 1 })).fetchIssue ring.val f.num).settlePlan) ∧
  (∀ (ring : Fin 264) (ns : Nat) (f : Fetch) (s : State), s.loaded = true →
    (s.ring ring.val).fetches.find? (fun f => f.busy) = some f →
    let a := s.advance ns
    let ends := fun (b : Option (List Nat)) (u : State) =>
      let v := u.readEnd false f.fn f.desc 16
      if f.dead then v.setRing ring.val { v.ring ring.val with fetches := (v.ring ring.val).fetches.filter (fun g => !(g == f)) }
      else
        let w := v.modFetch ring.val f.num (fun g => { g with busy := false, again := false })
        if f.again then w.fetchIssue ring.val f.num
        else
          let d := b.getD []
          if b.isSome && v.fnOk f.fn && bit (leAt d 0 4) 0 && bits (leAt d 0 4) 15 8 == v.genOf ring.val f.num then
            w.modFetch ring.val f.num (fun g => { g with got := some (leAt d 8 8, leAt d 4 4) })
          else w.raiseIf (f.tries == 16) (evHl 16)
    (∀ b, exec (.descriptorFetchComplete ring (.data b) ns) s = .next (ends (some (b.map BitVec.toNat)) a).settlePlan) ∧
    exec (.descriptorFetchComplete ring .unsupported ns) s = .next (ends none ((a.bump Fld.HL_ERR_ur_ca).raise (evHl 7))).settlePlan ∧
    (∀ res, res = .poisoned ∨ res = .untranslated →
      exec (.descriptorFetchComplete ring res ns) s = .next (ends none a).settlePlan) ∧
    (∀ word, exec (.descriptorFetchComplete ring (.bufferError word) ns) s = .next (ends none (a.palUncorr word.val false)).settlePlan) ∧
    exec (.completionTimeout (.ringFetch ring) ns) s = .next (ends none ((a.bump Fld.HL_ERR_cto).raise (evHl 6))).settlePlan)

/-- While an image is loaded and no output of the Erkuhar peer takes the ring. OUTPUT_READY of the first frame of the
ring's stream whose window waits: dropped as held where the ring's function takes no output or a transfer engine is
fenced; else dropped by the budget choice; else bound to the address, length, function and slot of its descriptor
where that was handed over (marked failed, and to go without payload, when the address does not translate); else
dropped as not owned; in each case the stream's windows go on. FLUSH_READ_COMPLETE of the window at its ring's head:
the read's tag is free again, a read that failed marks the output failed, and the output is published and the stream's
windows go on; an Unsupported Request is counted with EV_HL_CPL. A flush read past its time is counted with EV_HL_CTO
and has failed (R316, R317, R320, R321). Publication writes the descriptor's body, then (unless withheld by an
injector) its first word with the frame's generation, over a link in no state of L1 whose controller is on and for
which nothing waits; else what goes to the host waits in its order (R41, R309). -/
def Obligations.OutputsBindAndPublish : Prop :=
  (∀ (ring : Fin 264) (ok : Bool) (ns : Nat) (s : State), s.loaded = true →
    let a := s.advance ns
    let st := ring.val / 8
    let w := ring.val % 8
    a.erkPourOf ring.val = none →
    exec (.outputReady ring ok ns) s = .next
      (match (a.frames.filter (fun (f : Frame) => f.st == st && !(f.path == 2 && Nat.blt w 4))).find? (fun (f : Frame) =>
        f.wins.any (fun x => x.w == w && x.phase == WinPhase.waiting)) with
      | none => a
      | some f =>
        if !a.pourMay (a.get (Fld.OUT_CFG_fn ring.val)) then (a.winDrop st f.num w .held).pourAll st
        else if f.bdrop then (a.winDrop st f.num w .budget).pourAll st
        else match a.fetchOf ring.val f.num with
          | some ⟨_, fn, desc, _, _, _, some (addr, len), _, _⟩ =>
            (((a.fetchDrop ring.val f.num).atsNote fn addr ok).modWin st f.num w (fun x => { x with
              phase := .bound, addr := addr, len := len, fn := fn, desc := desc, failed := !ok, noXlat := !ok })).pourAll st
          | _ => (a.winDrop st f.num w .notOwned).pourAll st).settlePlan) ∧
  (∀ (ring : Fin 264) (ns : Nat) (f : Frame) (x : WinSt) (s : State), s.loaded = true →
    s.erkPourOf ring.val = none → s.winHead (ring.val / 8) (ring.val % 8) = some (f, x) → x.phase = .written →
    let a := s.advance ns
    let st := ring.val / 8
    let w := ring.val % 8
    let ends := fun (failed : Bool) (u : State) =>
      let v := u.readEnd true x.fn (x.addr + x.vb - 4) 0
      ((if failed then v.modWin st f.num w (fun y => { y with failed := true }) else v).publish st f.num w).pourAll st
    (∀ b, exec (.flushReadComplete ring (.data b) ns) s = .next (ends false a).settlePlan) ∧
    exec (.flushReadComplete ring .unsupported ns) s = .next (ends true ((a.bump Fld.HL_ERR_ur_ca).raise (evHl 7))).settlePlan ∧
    (∀ res, res = .poisoned ∨ res = .untranslated → exec (.flushReadComplete ring res ns) s = .next (ends true a).settlePlan) ∧
    (∀ word, exec (.flushReadComplete ring (.bufferError word) ns) s = .next (ends true (a.palUncorr word.val false)).settlePlan) ∧
    exec (.completionTimeout (.ringFlush ring) ns) s = .next (ends true ((a.bump Fld.HL_ERR_cto).raise (evHl 6))).settlePlan) ∧
  (∀ (s : State) (f : Frame) (x : WinSt), s.frame f.st f.num = some f → f.wins.find? (fun y => y.w == x.w) = some x →
    s.linkLow = false → s.dom 134 = .on → tget s.outHeld 4 [] = [] →
    (Out.hostWrite x.fn (x.desc + 0x10) false (s.descBody f x (s.ring (8 * f.st + x.w)).lost)) ∈ (s.publish f.st f.num x.w).out ∧
    (x.hold = false → (Out.hostWrite x.fn x.desc false (leBytes 4 (s.genOf (8 * f.st + x.w) f.num * 256))) ∈ (s.publish f.st f.num x.w).out)) ∧
  (∀ (o : Out) (s : State), s.linkLow = true ∨ s.dom 134 ≠ .on ∨ tget s.outHeld 4 [] ≠ [] →
    tget (s.hlPost o).outHeld 4 [] = tget s.outHeld 4 [] ++ [o] ∧ s.hlPost o = { s with out := (s.hlPost o).out, outHeld := (s.hlPost o).outHeld })

/-- MEMBER_BUDGET_EXPIRY of a stream, while an image is loaded: in the oldest period, of whichever group it was a member
in, that has not fallen due and whose frame of the stream has not started, the stream is accounted for as missing
(flag bit 2, and bit 3 where it is degraded), EV_STRM_LATE rises and the record is checked; without such a period
nothing. FAULT_MAILBOX_WRITE of a page (bits 63..12) and a function (bits 3..0): EV_HL_FAULT rises; outputs bound or
written whose buffer or descriptor overlaps the page are marked failed, received ones too; waiting pour-log records
there are counted failed with EV_HL_FAIL each; outputs published there before raise EV_HL_LATE_FAULT; OUT_FAULT_STAT
and OUT_FAULT_FRAME name the first (R11, R323). -/
def Obligations.MissingMembersAndFaultPages : Prop :=
  (∀ (st : Fin 32) (ns : Nat) (s : State), s.loaded = true →
    let a := s.advance ns
    exec (.memberBudgetExpiry st ns) s = .next
      (match leastBy (fun e : Nat × Period => e.2.edge) ((List.range 8).filterMap (fun g =>
        ((a.grp g).periods.find? (fun (p : Period) => p.due.isNone &&
          p.members.any (fun (m : Member) => m.st == st.val && !m.done && m.frame.isNone))).map (fun p => (g, p)))) with
      | none => a
      | some (g, p) => ((a.modMember g p.num st.val (fun m => { m with
          done := true, flags := m.flags ||| 4 ||| (if a.plc.degraded.contains st.val then 8 else 0) })).raise
          (evStrm st.val 2)).logCheck g p.num true).settlePlan) ∧
  (∀ (r : Fin 19) (v : Word64) (s : State), exec (.faultMailboxWrite r v) s = .next
    (if !s.reqReaches r.val then s
    else match s.denyReason r.val Reg.OUT_FAULT_MBOX (some (v.toNat % 2 ^ 32)) with
      | some c => s.logDeny r.val Reg.OUT_FAULT_MBOX true false c
      | none => s.faultMail (v.toNat / 4096) (v.toNat % 16)).settle) ∧
  (∀ (s : State) (page fn : Nat) (f : Frame) (x : WinSt),
    f ∈ s.frames → x ∈ f.wins → x.w < 8 → x.phase = .bound ∨ x.phase = .written → x.fn = fn →
    overlaps page x.addr x.len = true ∨ overlaps page x.desc 64 = true →
    ∀ f' ∈ (s.faultMail page fn).frames, f'.st = f.st → f'.num = f.num → ∀ y ∈ f'.wins, y.w = x.w → y.failed = true) ∧
  (∀ (s : State) (page fn : Nat) (x : ErkPour), x ∈ s.erk.pours → x.phase = .written → x.fn = fn →
    overlaps page x.addr x.len = true ∨ overlaps page x.desc 64 = true →
    { x with failed := true } ∈ (s.faultMail page fn).erk.pours)

/-- PALETTE_VIEW_READ of n bytes by the physical function: with its check passed (requester enabled, an image loaded, its
domain may read the palette window) it brings the bytes of the view; denied, it is logged as a view access and brings
the denial word of its reason, n bytes long. PALETTE_VIEW_WRITE is always denied: reason 7 of a disabled requester,
else 5 without an image, else 6. MISALIGNED_ACCESS: from a PCIe function it is an uncorrectable AER error (counted,
EV_HL_AER_UNC), a write is dropped and a read ends in Completer Abort; from the targets and the Erkuhar peer it is
denied with 9 (7 where the requester is disabled), logged, and a read brings the denial word. An absent requester
changes nothing (R304, R305, R446). -/
def Obligations.PaletteViewAndWrongForms : Prop :=
  (∀ (off : Fin 134217728) (n : Fin 4097) (s : State), exec (.paletteViewRead off n) s = .next
    (if !s.reqReaches 0 then s
    else
      let c := if !s.reqEnabled 0 then 7 else if !s.loaded then 5 else 1
      if s.reqEnabled 0 && s.loaded && s.mayRead (Reg.GRD_WIN 44) (s.reqDomain 0) then s.palView 0 off.val n.val
      else (s.logDeny 0 off.val false true c).emit
        (.palRead 0 off.val (((List.range ((n.val + 3) / 4)).flatMap (fun _ => leBytes 4 (denyWord c))).take n.val))).settle) ∧
  (∀ (off : Fin 134217728) (s : State), exec (.paletteViewWrite off) s = .next
    (if !s.reqReaches 0 then s
    else s.logDeny 0 off.val true true (if !s.reqEnabled 0 then 7 else if !s.loaded then 5 else 6)).settle) ∧
  (∀ (r : Fin 19) (off : Fin 16777216) (w : Bool) (s : State), exec (.misalignedAccess r off w) s = .next
    (if !s.reqReaches r.val then s
    else if r.val < 16 then
      let u := (s.bump Fld.HL_ERR_aer_uncorr).raise (evHl 5)
      if w then u else u.emit (.abort r.val off.val)
    else
      let c := if s.reqEnabled r.val then 9 else 7
      let u := s.logDeny r.val off.val w false c
      if w then u else u.emit (.read r.val off.val (denyWord c))).settle)

/-- A checked read, of a requester that reaches Falith and is not denied, of a register with RS access whose domain is on:
PM_REFUSE and PLC_REF answer their word and their valid bit is cleared; HL_TAGS answers its word and its peak becomes
its now; PORT_p_EQ answers and its min_margin becomes its margin; EAS_e_WAIT answers and its max_wait is cleared;
TXE_BUF answers its peak and the cells in use now, which the peak becomes; CEN_PUB answers the published epoch for the
reader's domain; STAT_s_RES_HEAD answers the head for the reader's domain. In a domain that is off the read answers
from what was saved and changes nothing (R338, R341, R471). A denied read brings the denial word of its reason and
only the log changes. -/
def Obligations.ReadsWithEffects : Prop :=
  ∀ (r : Fin 19) (s : State),
    exec (.pmRefuseRead r) s = .next (s.sees r.val Reg.PM_REFUSE (s.peek r.val Reg.PM_REFUSE) (s.put Fld.PM_REFUSE_valid 0)).settle ∧
    exec (.placementRefusalRead r) s = .next (s.sees r.val Reg.PLC_REF (s.peek r.val Reg.PLC_REF) (s.put Fld.PLC_REF_valid 0)).settle ∧
    exec (.hlTagsRead r) s = .next (if s.domOff Reg.HL_TAGS then s.sees r.val Reg.HL_TAGS (s.peek r.val Reg.HL_TAGS) s
      else s.sees r.val Reg.HL_TAGS (s.peek r.val Reg.HL_TAGS) (s.put Fld.HL_TAGS_peak (s.get Fld.HL_TAGS_now))).settle ∧
    (∀ p : Fin 24, exec (.eqMarginRead r p) s = .next
      (let off := Reg.PORT_EQ p.val
      if s.domOff off then s.sees r.val off (s.peek r.val off) s
      else s.sees r.val off (s.peek r.val off) (s.put (Fld.PORT_EQ_min_margin p.val) (s.get (Fld.PORT_EQ_margin p.val)))).settle) ∧
    (∀ e : Fin 12, exec (.easWaitRead r e) s = .next
      (let off := Reg.EAS_WAIT e.val
      if s.domOff off then s.sees r.val off (s.peek r.val off) s
      else s.sees r.val off (s.peek r.val off) (s.put (Fld.EAS_WAIT_max_wait e.val) 0)).settle) ∧
    exec (.txeBufRead r) s = .next (if s.domOff Reg.TXE_BUF then s.sees r.val Reg.TXE_BUF (s.peek r.val Reg.TXE_BUF) s
      else s.sees r.val Reg.TXE_BUF (s.get Fld.TXE_BUF_peak * 2 ^ 16 + s.txeLive) (s.put Fld.TXE_BUF_peak s.txeLive)).settle ∧
    exec (.cenPubRead r) s = .next (if s.domOff Reg.CEN_PUB then s.sees r.val Reg.CEN_PUB (s.peek r.val Reg.CEN_PUB) s
      else s.sees r.val Reg.CEN_PUB (s.cenPubRead (s.reqDomain r.val)).1 (s.cenPubRead (s.reqDomain r.val)).2).settle ∧
    (∀ st : Fin 32, exec (.resultHeadRead r st) s = .next
      (s.sees r.val (Reg.STAT_RES_HEAD st.val) (s.resHead st.val (s.reqDomain r.val)).1 (s.resHead st.val (s.reqDomain r.val)).2).settle)

/-- While the mailbox is open (link up, physical function present and not in reset, Falith with an image or in a failed
Boot, domain 150 neither fenced nor under BIST); closed, nothing happens. A request wakes a sleeping domain 150 and is
answered in the same command (log entry 173). GET_VERSION ends the session and starts the connection anew with version
1.2. Before GET_VERSION, GET_CAPABILITIES is refused; before it, NEGOTIATE_ALGORITHMS; before that, all the others.
GET_CAPABILITIES and NEGOTIATE_ALGORITHMS answer and move the stage on, the latter with the algorithms both support.
GET_DIGESTS answers SHA-384 of the chain in slot 0; GET_CERTIFICATE a portion of that chain and what is left (another
slot, or an offset past the end, is refused); CHALLENGE of slot 0 a signature with a draw of its own.
GET_MEASUREMENTS: index 0 answers that there are 5 blocks, 1 to 5 one block with its DMTF type, 255 all, signed on
request; any other index is refused. What needs the device key is refused while the key store is cleared (R301, R412,
R413, R419). Each answered request joins the transcript. -/
def Obligations.SpdmRequests : Prop :=
  ∀ s : State,
    let w := if s.loaded then s.domWake 150 else s
    let stage := fun (n : Nat) (t : State) => if !s.doeOpen then s else if Nat.ble n s.spdm.stage then t else w.emit (.doe .error)
    let logged := fun (n : Nat) (l : List Nat) => { w with spdm := { w.spdm with stage := n, log := w.spdm.log ++ l } }
    exec .getVersion s = .next (stage 0 (({ w.sessEnd with spdm := { w.sessEnd.spdm with stage := 1, log := [0x84] } }).emit
      (.doe (.version [0x12])))).settle ∧
    (∀ req, exec (.getCapabilities req) s = .next (stage 1 ((logged 2 (0xE1 :: req.map BitVec.toNat)).emit (.doe .capabilities))).settle) ∧
    (∀ offered : Fin 16, exec (.negotiateAlgorithms offered) s = .next
      (stage 2 ((logged 3 [0xE3, offered.val]).emit (.doe (.algorithms offered.val)))).settle) ∧
    exec .getDigests s = .next (stage 3 ((logged w.spdm.stage [0x81]).emit (.doe (.digests (sha384 certChain))))).settle ∧
    (∀ (slot : Fin 8) (off len : Fin 65536), exec (.getCertificate slot off len) s = .next (stage 3
      (if slot.val = 0 ∧ off.val < certChain.length then
        let part := slice certChain off.val len.val
        (logged w.spdm.stage [0x82, slot.val, off.val, len.val]).emit
          (.doe (.certificate part (certChain.length - off.val - part.length)))
      else w.emit (.doe .error))).settle) ∧
    (∀ (slot : Fin 8) (nonce : List Byte), exec (.challenge slot nonce) s = .next (stage 3
      (if slot.val = 0 ∧ w.spdm.keys = true then
        let u := logged w.spdm.stage (0x83 :: nonce.map BitVec.toNat)
        u.draw.emit (.doe (.challengeAuth (sha384 certChain) (Config.sign (u.spdm.log ++ sha384 certChain) u.free)))
      else w.emit (.doe .error))).settle) ∧
    (∀ (i : Fin 256) (signed : Bool) (nonce : List Byte), exec (.getMeasurements i signed nonce) s = .next (stage 3
      (if signed = true ∧ w.spdm.keys = false then w.emit (.doe .error)
      else if i.val = 0 then (logged w.spdm.stage [0xE0, 0]).emit (.doe (.blockCount 5))
      else if i.val ≤ 5 ∨ i.val = 255 then
        let blocks := (if i.val = 255 then [1, 2, 3, 4, 5] else [i.val]).map (fun b =>
          (b, if b = 1 then MeasType.rom else if b = 2 ∨ b = 4 then .firmwareConfig else .hardwareConfig, w.measurement b))
        let u := logged w.spdm.stage (0xE0 :: i.val :: nonce.map BitVec.toNat)
        if signed then u.draw.emit (.doe (.measurements blocks (some (Config.sign (u.spdm.log ++ blocks.flatMap (fun b => b.1 :: b.2.2)) u.free))))
        else u.emit (.doe (.measurements blocks none))
      else w.emit (.doe .error))).settle)

/-- With the mailbox open and the algorithms negotiated. KEY_EXCHANGE with no session and a key store that is not cleared
opens one with EV_SEC_SPDM and answers signed; else it is refused. FINISH with the right check value completes a
session being set up; with a wrong one the session ends and it is refused; otherwise it is refused. Inside a completed
session: END_SESSION ends it with EV_SEC_SPDM, HEARTBEAT and KEY_UPDATE are counted and answered; IDE_KM: query
answers whether the stream is secure, key programming prepares it, set-go of a prepared stream makes it secure with
EV_HL_IDE and ide_on (refused where no keys are there), set-stop ends it. Outside a completed session each is refused.
DEBUG_AUTHORISATION of a running Falith, where debug is not in that state already: before debug opens, the key store,
the IDE keys and the session are cleared with EV_SAFE_KEYS; EV_SEC_DEBUG rises and the debug output follows; when
debug ends the key store is derived again, unless the BIST of domain 134 or 150 runs (R301, R412, R419, R431). Each
request wakes a sleeping domain 150 (log entry 173). -/
def Obligations.SpdmSessions : Prop :=
  (∀ s0 : State, s0.doeOpen = true → 3 ≤ s0.spdm.stage →
    let s := if s0.loaded then s0.domWake 150 else s0
    let refused := s.emit (.doe .error)
    let inside := fun (t : State) => match s.spdm.sess with
      | some (_, true) => t
      | _ => refused
    (∀ (n : Fin 65536) (share : List Byte), exec (.keyExchange n share) s0 = .next
      (if s.spdm.sess.isSome || !s.spdm.keys then refused
      else
        let l := s.spdm.log ++ 0xE4 :: share.map BitVec.toNat
        (({ s.draw with spdm := { s.spdm with log := l, sess := some (n.val, false), beats := 0, updates := 0 } }).raise (evSec 3)).emit
          (.doe (.keyExchange n.val (Config.sign (l ++ share.map BitVec.toNat) s.free)))).settle) ∧
    (∀ ok, exec (.finish ok) s0 = .next
      (match s.spdm.sess with
      | some (n, false) =>
        if ok then ({ s with spdm := { s.spdm with sess := some (n, true) } }).emit (.doe .finish)
        else s.sessEnd.emit (.doe .error)
      | _ => refused).settle) ∧
    exec .endSession s0 = .next (inside (s.sessEnd.emit (.doe .endSession))).settle ∧
    exec .heartbeat s0 = .next (inside (({ s with spdm := { s.spdm with beats := s.spdm.beats + 1 } }).emit (.doe .heartbeat))).settle ∧
    exec .keyUpdate s0 = .next (inside (({ s with spdm := { s.spdm with updates := s.spdm.updates + 1 } }).emit (.doe .keyUpdate))).settle ∧
    exec (.ideKmRequest .query) s0 = .next (inside (s.emit (.doe (.ideQuery (s.spdm.ide == 2))))).settle ∧
    exec (.ideKmRequest .keyProg) s0 = .next (inside ((({ s with spdm := { s.spdm with
      ide := if s.spdm.ide == 2 then 2 else 1 } }).hlDoms).emit (.doe .ideProg))).settle ∧
    exec (.ideKmRequest .setGo) s0 = .next (inside
      (if s.spdm.ide == 0 then refused
      else if s.spdm.ide == 2 then s.emit (.doe .ideGo)
      else (((({ s with spdm := { s.spdm with ide := 2 } }).put Fld.HL_STAT_ide_on 1).raise (evHl 8)).hlDoms).emit (.doe .ideGo))).settle ∧
    exec (.ideKmRequest .setStop) s0 = .next (inside (s.ideDrop.hlDoms.emit (.doe .ideStop))).settle) ∧
  (∀ (s : State) (on : Bool) (ns : Nat), s.runs = true →
    let a := s.advance ns
    exec (.debugAuthorisation on ns) s = .next
      (if a.debug == on then a
      else
        let c := a.ideDrop.sessEnd
        let u := ({ (if on then { c with spdm := { c.spdm with keys := false } }.raise (evSafe 46) else a).raise (evSec 4) with debug := on }).emit (.debug on)
        if on || u.domBist 150 || u.domBist 134 then u else { u with spdm := { u.spdm with keys := true } }).settle)

/-- Open: another requester's claim gives reason 20H; else the claim is the requester's, its domain shows as owner, and
has_target and count are cleared, as are reason and state (the model's choice, log entry 124). Abort by the owner ends
the claim; of another requester it does nothing. Go by the owner ends the claim and gives the first reason that holds;
where none holds the commit waits, state 1; else state 3 with the reason, and a placement refusal is recorded and its
run counted. The waiting commit keeps, of each enable word that it writes, the bits whose sources its requester may
write (R444). A go is accepted only if the epoch given is the epoch in force, and not the last one, every entry is the
requester's to write where its offset lies in a window and lies in a record that may change, a target frame has not
passed, the count is 1 to 512 and every rule of the configuration holds. A wrong epoch is 21H, before everything else
(R94, R95). COMMIT_EXECUTE while an image is loaded: the first waiting commit whose boundary has come (no target, or
the target stream's deadline has fallen, or the stream is closed) leaves the queue and takes effect: its entries in
order, groups whose period or phase changed planned anew once, the epoch's step, streams that it enables open, frames
from the target on take the configuration now in force, and BOOT_CMT_STAT shows state 2. With an open target stream
the streams it disables close, and placement whose inputs changed runs, at the target frame's boundary; else both come
at once. Of an enable word, the bits whose sources the requester may not write stay (R444); of a domain that is off,
what an entry sets going follows at its wake, with the value that it had before (R471). Without such a commit nothing
happens (R96, R97, R158, R164). That a commit whose target stream has closed executes at once is the model's choice
(log entry 110). -/
def Obligations.ConfigurationCommits : Prop :=
  ((∀ (r : Fin 19) (s : State),
     exec (.commitOpen r) s = .next (s.busDo r.val Reg.BOOT_CMT_CTRL 1 (fun s =>
       if s.cmt.claim.isSome && !(s.cmt.claim == some r.val) then s.put Fld.BOOT_CMT_STAT_reason 0x20
       else ((({ s with cmt := { s.cmt with claim := some r.val } }.put Fld.BOOT_CMT_CTRL_owner (s.reqDomain r.val)).put
         Fld.BOOT_CMT_TARGET_has_target 0).setReg Reg.BOOT_CMT_STAT 0))).settle ∧
     exec (.commitAbort r) s = .next (s.busDo r.val Reg.BOOT_CMT_CTRL 3 (fun s =>
       if s.cmt.claim == some r.val then
         { s with cmt := { s.cmt with claim := none } }.put Fld.BOOT_CMT_CTRL_owner 0
       else s)).settle ∧
     exec (.commitGo r) s = .next (s.busDo r.val Reg.BOOT_CMT_CTRL 2 (fun s =>
       if !(s.cmt.claim == some r.val) then s
       else
         let why := s.cmtReason r.val
         let u := ({ s with cmt := { s.cmt with claim := none } }.put Fld.BOOT_CMT_CTRL_owner 0).put Fld.BOOT_CMT_STAT_reason why.1
         let ens : Tbl Nat := s.cmtEntries.filterMap (fun (e : Nat × Nat) => (enWord e.1).map (fun w => (w, s.srcWriteMask r.val w)))
         if why.1 == 0 then
           { u with cmt := { u.cmt with waiting := u.cmt.waiting ++ [Commit.mk s.cmtEntries s.cmtTarget ens] } }.put Fld.BOOT_CMT_STAT_state 1
         else match why.2 with
           | some e => ((u.put Fld.BOOT_CMT_STAT_state 3).plcRefuse e).bump Fld.PLC_STAT_runs
           | none => u.put Fld.BOOT_CMT_STAT_state 3)).settle) ∧
   (∀ (s : State) (r : Nat), s.get Fld.BOOT_CMT_EPOCH_epoch ≠ s.get Fld.CEN_EPOCH_epoch → s.cmtReason r = (0x21, none)) ∧
   (∀ (s : State) (r : Nat), (s.cmtReason r).1 = 0 →
     s.get Fld.BOOT_CMT_EPOCH_epoch = s.get Fld.CEN_EPOCH_epoch ∧ s.get Fld.CEN_EPOCH_epoch ≠ 0xFFFFFFFF ∧
     (∀ e ∈ s.cmtEntries, s.ownsEntry r e = true ∧ entryOk e = true ∧ s.fixedEntry e = false ∧
       ∃ c ∈ s.img.recs, bit c.flags 1 = true ∧ typRegs c.typ = true ∧ typAllows c.typ c.inst e.1 = true) ∧
     (∀ st F, s.cmtTarget = some (st, F) → (s.strm st).opened = true ∧ s.passed st F = false) ∧
     1 ≤ s.get Fld.BOOT_CMT_STAT_count ∧ s.get Fld.BOOT_CMT_STAT_count ≤ 512) ∧
   (∀ (s : State) (r : Nat), s.get Fld.BOOT_CMT_EPOCH_epoch = s.get Fld.CEN_EPOCH_epoch →
     ((s.cmtReason r).1 = 0x22 ↔ ∃ e ∈ s.cmtEntries, s.ownsEntry r e = false) ∧
     (∀ e : Nat × Nat, accessObj e.1 = none → s.ownsEntry r e = true) ∧
     ((∃ e ∈ s.cmtEntries, accessObj e.1 = none) → (∀ e ∈ s.cmtEntries, s.ownsEntry r e = true) → (s.cmtReason r).1 = 0x23))) ∧
  ((∀ (s : State) (ns : Nat), s.loaded = true →
     let a := s.advance ns
     (a.cmt.waiting.find? (fun c => a.deadlineFell c.target) = none → exec (.commitExecute ns) s = .next a.settlePlan) ∧
     (∀ c, a.cmt.waiting.find? (fun c => a.deadlineFell c.target) = some c →
       let b := { a with cmt := { a.cmt with waiting := a.cmt.waiting.erase c } }
       let u := ((forEach c.entries (State.cmtEntry c.ens) b).grpsTurn b).epochStep (c.entries.flatMap (fun e => setsTouched e.1))
       let closes := b.strmsEn.filter (fun st => !u.strmsEn.contains st)
       let v := forEach (u.strmsEn.filter (fun st => !b.strmsEn.contains st)) State.turnOpen u
       let later := c.target.any (fun f => (v.strm f.1).opened)
       exec (.commitExecute ns) s = .next
         (((if later then
             { v with cmt := { v.cmt with turns := v.cmt.turns ++ c.target.toList.map (fun f => Turn.mk f closes (plcChanged b u)) } }
           else v.turnNow closes (plcChanged b u)).recfg c.target).put Fld.BOOT_CMT_STAT_state 2).settlePlan)) ∧
   (∀ (ens : Tbl Nat) (e : Nat × Nat) (s : State),
     (∀ w, enWord e.1 = some w →
       let m := tget ens w 0
       let v := BitVec.ofNat 32 (((s.shad e.1).toNat &&& (0xFFFFFFFF - m)) ||| (e.2 &&& m))
       State.cmtEntry ens e s = State.writeEnable w m e.2 { s with shadow := cellPut 0#32 s.shadow e.1 v }) ∧
     (enWord e.1 = none → within e.1 0x071000 0x100 = false →
       let u := State.applyEntries [e] s
       State.cmtEntry ens e s = (if s.domOff e.1 then
         (if thas s.cmt.asleep e.1 then u else { u with cmt := { u.cmt with asleep := tset u.cmt.asleep e.1 (s.reg e.1) } })
         else u.imgHook e.1 (s.reg e.1)))) ∧
   (∀ s : State, s.awoken =
     let due := s.cmt.asleep.filter (fun e => !s.domOff e.1)
     if due = [] then s
     else forEach due (fun e (u : State) => u.imgHook e.1 e.2)
       { s with cmt := { s.cmt with asleep := s.cmt.asleep.filter (fun e => s.domOff e.1) } }))

/-- NOR erase (1), program (2) and read (3), in Active or a failed Boot with no operation in flight; else nothing. An
erase or program at or above 0200_0000H, or in the slot the image came from, gives reason 30H; an address off its 64
KiB or 256-byte boundary gives 32H; else the operation starts (at once, or after a journal operation in flight), busy,
with the page buffer for a program, and an erase counts as wear. NOR_OP_DONE of a running Falith, no journal operation
in flight (one goes first, and nothing happens): busy ends; a read fills the page buffer with the 256 bytes, in byte
order; a failed erase or program leaves its bytes open with reason 31H; a good erase sets its 64 KiB to FFH, and a
good program clears bits. With no operation nothing happens (R98). A flash without a listed cell in the sector reads
FFH there. -/
def Obligations.FlashCommands : Prop :=
  (∀ (r : Fin 19) (s : State),
    let go := fun (op : Nat) (s : State) =>
      if !(s.phase == .active || s.phase == .failed) || s.norOp.isSome then s
      else
        let u := s.put Fld.BOOT_NOR_CTRL_op op
        let a := s.get Fld.BOOT_NOR_ADDR_addr
        if !(op == 3) && s.norKept a then u.put Fld.BOOT_NOR_CTRL_reason 0x30
        else if !(a % (if op == 1 then 0x10000 else 256) == 0) then u.put Fld.BOOT_NOR_CTRL_reason 0x32
        else
          let w := { (u.put Fld.BOOT_NOR_CTRL_reason 0).put Fld.BOOT_NOR_CTRL_busy 1 with
            norOp := some ⟨op, a, if op == 2 then s.norBuf else [], s.life.op.isNone⟩ }
          if op == 1 then w.lifeItem 227 1 else w
    exec (.norErase r) s = .next (s.busDo r.val Reg.BOOT_NOR_CTRL 1 (go 1)).settle ∧
    exec (.norProgram r) s = .next (s.busDo r.val Reg.BOOT_NOR_CTRL 2 (go 2)).settle ∧
    exec (.norRead r) s = .next (s.busDo r.val Reg.BOOT_NOR_CTRL 3 (go 3)).settle) ∧
  (∀ (s : State) (ns : Nat) (failed : Bool), s.runs = true →
    (s.norOp = none → exec (.norOpDone failed ns) s = .next (s.advance ns).settle) ∧
    (s.life.op.isSome = true → exec (.norOpDone failed ns) s = .next (s.advance ns).settle) ∧
    (∀ o, s.norOp = some o → s.life.op = none → ∃ t, exec (.norOpDone failed ns) s = .next t ∧ t.norOp = none ∧ t.get Fld.BOOT_NOR_CTRL_busy = 0 ∧
      (o.op = 3 → t.nor = s.nor ∧
        ∀ n < 64, t.reg (Reg.BOOT_NOR_BUF n) = BitVec.ofNat 32 (leVal (s.norRead (o.addr + 4 * n) 4))) ∧
      (o.op ≠ 3 → failed = true → t.get Fld.BOOT_NOR_CTRL_reason = 0x31 ∧
        (∀ b, o.addr + 65536 ≤ b ∨ b < o.addr → t.norGet b = s.norGet b)) ∧
      (o.op = 1 → failed = false → ∀ b, t.norGet b = if b / 65536 = o.addr / 65536 then 0xFF else s.norGet b) ∧
      (o.op = 2 → failed = false → t.nor = (s.norProg o.addr o.data).nor)))

/-- Open: another requester's claim, or a reload in flight, gives reason 20H; without a claim the requester takes it and
the target and status are cleared; the owner's own open clears has_target. Abort by the owner, with nothing in flight,
ends the claim. Go by the owner with nothing in flight: a reason ends the claim with state 3 and that reason; none
takes the cells for the new record, writes it there and waits with state 1 and its cell count; PLC_CELLS shows what
the reload holds until its old record's cells go (R196, R231). TABLE_RELOAD_EXECUTE while an image is loaded: once the
target's deadline has fallen the record replaces the old one, the stream's table moves to the new cells, the epoch
steps, frames from the target on take it, state 2, and the old record's cells go when its last frame has closed. A go
is accepted only if the epoch is the one in force and not the last, the requester's domain may write the stream, the
record may be reloaded, its length keeps its cell count and the cells are free (R229, R230, R231). -/
def Obligations.TableReloads : Prop :=
  (∀ (r : Fin 19) (s : State),
    let busy := fun (s : State) => s.trl.waiting.isSome || s.trl.held.isSome
    exec (.tableReloadOpen r) s = .next (s.busDo r.val Reg.EAS_TRL_CTRL 1 (fun s =>
      match s.trl.claim with
      | some q => if !(q == r.val) then s.put Fld.EAS_TRL_STAT_reason 0x20 else if busy s then s else s.put Fld.EAS_TRL_TARGET_has_target 0
      | none =>
        if busy s then s.put Fld.EAS_TRL_STAT_reason 0x20
        else (((({ s with trl := { s.trl with claim := some r.val } }.put Fld.EAS_TRL_CTRL_owner (s.reqDomain r.val)).put
          Fld.EAS_TRL_TARGET_has_target 0).put Fld.EAS_TRL_STAT_reason 0).put Fld.EAS_TRL_STAT_state 0).put Fld.EAS_TRL_STAT_cells 0)).settle ∧
    exec (.tableReloadAbort r) s = .next (s.busDo r.val Reg.EAS_TRL_CTRL 3 (fun s =>
      if s.trl.claim == some r.val && !busy s then
        ({ s with trl := { s.trl with claim := none } }.put Fld.EAS_TRL_CTRL_owner 0).put Fld.EAS_TRL_STAT_state 0
      else s)).settle ∧
    exec (.tableReloadGo r) s = .next (s.busDo r.val Reg.EAS_TRL_CTRL 2 (fun s =>
      if !(s.trl.claim == some r.val) || busy s then s
      else
        let why := s.trlReason r.val
        if !(why == 0) then
          (({ s with trl := { s.trl with claim := none } }.put Fld.EAS_TRL_STAT_reason why).put
            Fld.EAS_TRL_STAT_state 3).put Fld.EAS_TRL_CTRL_owner 0
        else
          let n := cellsFor s.trlPayload.length
          let st := s.get Fld.EAS_TRL_TARGET_stream
          let u := s.palAlloc 7 st n
          let w : Reload := ⟨trlType (s.get Fld.EAS_TRL_TARGET_kind), st, s.trlPayload,
            if s.flag Fld.EAS_TRL_TARGET_has_target then some (s.get Fld.EAS_TRL_FRAME_frame) else none, u.2⟩
          (((({ u.1 with trl := { s.trl with waiting := some w } }.palWrite u.2 s.trlPayload).put Fld.EAS_TRL_STAT_reason 0).put Fld.EAS_TRL_STAT_state 1).put
            Fld.EAS_TRL_STAT_cells n).cellsShow)).settle) ∧
  (∀ (s : State) (ns : Nat), s.loaded = true → s.trl.waiting = none →
    exec (.tableReloadExecute ns) s = .next (s.advance ns).settlePlan) ∧
  (∀ (s : State) (ns : Nat) (w : Reload), s.loaded = true → s.trl.waiting = some w →
    let a := s.advance ns
    let tgt := w.target.map (fun F => (w.st, F))
    exec (.tableReloadExecute ns) s = .next (if !a.deadlineFell tgt then a
    else
      let old := a.tabPayload w.typ w.st
      let first := w.target.getD (if (a.strm w.st).opened then a.earliest w.st else 0)
      let u := { a with
        img := a.img.withPayload w.typ w.st w.payload
        trl := { a.trl with waiting := none, held := some ⟨w.typ, w.st, old, first, tget (a.strm w.st).tabCells w.typ []⟩ } }
      (((((u.trlMove w).epochStep [153]).recfg tgt).put Fld.EAS_TRL_STAT_state 2).cellsShow).trlRelease).settlePlan) ∧
  (∀ (s : State) (r : Nat), s.trlReason r = 0 →
    s.get Fld.EAS_TRL_EPOCH_epoch = s.get Fld.CEN_EPOCH_epoch ∧ s.get Fld.CEN_EPOCH_epoch ≠ 0xFFFFFFFF ∧
    s.mayWrite (Reg.GRD_STRM (s.get Fld.EAS_TRL_TARGET_stream)) (s.reqDomain r) = true ∧
    cellsFor s.trlPayload.length ≤ s.get Fld.PLC_CELLS_free)

/-- While an image is loaded, of a port in use. LINK_UP of a link that is down, with both domains of its port powered
(R41): a gear below what the image asks for (or none) holds it down and raises EV_PORT_DOWN once; else PORT_p_LSTAT
shows it up with its gear, its lane (a count that is the model's choice, log entry 107) and its back channel,
EV_PORT_UP rises and the control channel begins. LINK_LOSS of a link that is up takes it down (a waiting retrain
request ends, PORT_p_LSTAT is clear, EV_PORT_DOWN, input loss of every enabled entry) and retrains it at once, counted
with EV_PORT_RETRAIN; the retrain that software asks for by PORT_p_LINK starts once no frame of the port is open, and
with the link already down counts as one of its own (the model's choice, log entry 157). The eye margin of a port in
use (of an AP port: its link up) is recorded with the least since the load, and raises EV_PORT_EQ where it is below
warn and the one before was not. Failed packet checks add to PORT_p_RETX where retransmission is enabled, and one lost
for good counts and raises EV_PORT_RETX. A port not in use takes none of them (R101 to R104). -/
def Obligations.PortLinks : Prop :=
  (∀ (p : Fin 16) (gear : Fin 8) (ns : Nat) (s : State), s.loaded = true →
    let a := s.advance ns
    exec (.aphyLinkUp p gear ns) s = .next
      (if !(a.portOn p.val && (a.domPower (2 * p.val) && a.domPower (2 * p.val + 1))) || a.flag (Fld.PORT_LSTAT_link_up p.val) ||
          a.forcedDown p.val then a
      else if gear.val == 0 || Nat.blt (a.get (Fld.PORT_LINK_gear p.val)) gear.val then
        if bit a.heldDown p.val then a else { a with heldDown := a.heldDown ||| (1 <<< p.val) }.raise (evPort p.val 1)
      else
        let u := { a with heldDown := a.heldDown &&& (2 ^ 24 - 1 - (1 <<< p.val)) }
        (((((u.put (Fld.PORT_LSTAT_link_up p.val) 1).put (Fld.PORT_LSTAT_gear_now p.val) gear.val).put
          (Fld.PORT_LSTAT_back_ch p.val) 1).put (Fld.PORT_LSTAT_lanes_now p.val) 1).raise (evPort p.val 0)).chanLinkUp p.val).settlePlan) ∧
  (∀ (p : Fin 16) (ns : Nat) (s : State), s.loaded = true →
    let a := s.advance ns
    exec (.aphyLinkLoss p ns) s = .next
      (if a.portOn p.val && a.flag (Fld.PORT_LSTAT_link_up p.val) then (a.linkDown p.val).retrainCount p.val else a).settlePlan) ∧
  (∀ (p : Nat) (s : State),
    let down := (((((s.put (Fld.PORT_LINK_retrain p) 0).put (Fld.PORT_LSTAT_link_up p) 0).put (Fld.PORT_LSTAT_gear_now p) 0).put
      (Fld.PORT_LSTAT_back_ch p) 0).put (Fld.PORT_LSTAT_lanes_now p) 0).raise (evPort p 1)
    s.linkDown p = forEach ((List.range 4).filter (fun k => down.flag (Fld.PORT_VCMAP_enable p k))) (fun k (u : State) =>
      (u.inputLoss p k).setEnt p k { (u.inputLoss p k).ent p k with downSince := true }) down ∧
    s.retrainCount p = ((s.bump (Fld.PORT_LSTAT_retrains p)).lifeItem (168 + p) 1).raise (evPort p 2)) ∧
  (∀ (p : Fin 16) (ns : Nat) (s : State), s.loaded = true →
    let a := s.advance ns
    exec (.retrainStart p ns) s = .next
      (if a.portOn p.val && a.flag (Fld.PORT_LINK_retrain p.val) && a.get (Fld.PORT_FSTAT_open p.val) == 0 then
        let u := a.put (Fld.PORT_LINK_retrain p.val) 0
        (if u.flag (Fld.PORT_LSTAT_link_up p.val) then u.linkDown p.val else u).retrainCount p.val
      else a).settlePlan) ∧
  (∀ (r : Fin 19) (p : Fin 24) (s : State), exec (.retrainRequest r p) s = .next
    (s.busWrite r.val (Reg.PORT_LINK p.val) ((s.reg (Reg.PORT_LINK p.val)).toNat ||| 0x80000000)).settle) ∧
  (∀ (p : Fin 24) (m : Fin 256) (s : State), s.loaded = true →
    let a := s.advance 0
    exec (.eqMarginUpdate p m) s = .next
      (if !(a.portOn p.val && (Nat.ble 16 p.val || a.flag (Fld.PORT_LSTAT_link_up p.val))) then a
      else
        let seen := bit a.eqSeen p.val
        let least := if seen then Nat.min (a.get (Fld.PORT_EQ_min_margin p.val)) m.val else m.val
        let warn := a.get (Fld.PORT_EQ_warn p.val)
        (({ a with eqSeen := a.eqSeen ||| (1 <<< p.val) }.put (Fld.PORT_EQ_margin p.val) m.val).put
          (Fld.PORT_EQ_min_margin p.val) least).raiseIf
          (Nat.blt m.val warn && !(seen && Nat.blt (a.get (Fld.PORT_EQ_margin p.val)) warn)) (evPort p.val 3)).settlePlan) ∧
  (∀ (p : Fin 16) (n : Nat) (lost : Bool) (s : State), s.loaded = true →
    let a := s.advance 0
    exec (.aphyPacketCheckFail p n lost) s = .next
      (if !(a.portOn p.val && a.flag (Fld.PORT_LINK_retx_en p.val)) then a
      else
        let u := a.setReg (Reg.PORT_RETX p.val) (BitVec.ofNat 32 (satAdd (2 ^ 32 - 1) (a.reg (Reg.PORT_RETX p.val)).toNat n))
        if lost then (u.bump (Fld.PORT_ERR_MISC_retx_fail p.val)).raise (evPort p.val 4) else u).settlePlan)

/-- While an image is loaded. A packet is lost without effect unless pixel work is taken (Active, or Standby entry), its
port is in use and its PHY takes it: of an A-PHY port the link is up, of a combo port the burst's rate is within
PORT_p_LINK.rate, and on link B the port is in 2 x 2 mode. It waits in the port's ingress buffer, with its capture,
while a domain of the port is not powered, while earlier packets of its link and virtual channel wait there, and, a
frame start, while its stream waits for bank groups: such a frame start raises EV_PM_WAKE_LATE (R41, R44). Else, with
fault injection off (packets that it held and that now fall due follow): a corrected header counts with
EV_PORT_ECC_CORR and is used; an uncorrectable one counts with EV_PORT_ECC_UNCORR and discards the packet, and a
packet scrambled otherwise than PORT_p_CFG says is such a one (the model's reading, log entry 109); an LRTE packet is
taken with PORT_p_CFG.lrte only; else a frame start, pixel line, frame end, embedded-data packet, user-defined packet
or other long packet is handled as such on the entries that match its link and virtual channel (of two entries the
lowest takes embedded and user data, log entry 158). A packet that no entry takes counts as unmapped with
EV_PORT_UNMAPPED, but null and blanking packets are discarded uncounted (R109 to R115, R423). -/
def Obligations.PacketsReachTheirPort : Prop :=
  (∀ (p : Fin 24) (link : Bool) (vc : Fin 32) (arr : Arrival) (ns : Nat) (s : State), s.loaded = true →
    let a := s.advance ns
    let cap := (a.now, a.synced)
    let reaches := fun (body : PktBody) (f : State → State) =>
      let takes := if Nat.ble 16 p.val then Nat.ble arr.rate (a.get (Fld.PORT_LINK_rate p.val)) &&
          (!link || a.get (Fld.PORT_CFG_phy_mode p.val) == 1)
        else a.flag (Fld.PORT_LSTAT_link_up p.val) && !link
      let hdr := if arr.scr == a.flag (if link then Fld.PORT_CFG_scr_b p.val else Fld.PORT_CFG_scr_a p.val) then arr.hdr
        else .uncorrectable
      let g := fun (u : State) => if arr.lrte && !u.flag (Fld.PORT_CFG_lrte p.val) then u else f u
      if !(a.working && a.portOn p.val && takes) then a
      else
        let start := match body with
          | .start _ => true
          | _ => false
        let t := if !(a.domPower (2 * p.val) && a.domPower (2 * p.val + 1)) ||
            a.ingress.any (fun y => y.pkt.port == p.val && y.pkt.link == link && y.pkt.vc == vc.val) ||
            (start && (a.vcEntries p.val link vc.val).any (fun k => a.strmWaits (a.entStream p.val k))) then
            { a with ingress := a.ingress ++ [Ingr.mk ⟨p.val, link, vc.val, arr, body⟩ cap] }.raiseIf start (evPm 2)
          else match hdr with
          | .ok => g a
          | .corrected => g ((a.bump (Fld.PORT_ERR_ECC_corr p.val)).raise (evPort p.val 5))
          | .uncorrectable => (a.bump (Fld.PORT_ERR_ECC_uncorr p.val)).raise (evPort p.val 6)
        t.fiDue.2.deliverAll t.fiDue.1
    a.fiOn = false →
    (∀ num : Fin 65536, exec (.frameStartPacket p link vc num arr ns) s = .next 
      (reaches (.start num.val) (State.frameStart p.val link vc.val num.val cap)).settlePlan) ∧
    (∀ (dt : Fin 64) (n : Option (Fin 65536)) (codes : List Nat) (crc room : Bool) (cse : CseField),
      exec (.linePacket p link vc dt n codes crc cse room arr ns) s = .next
        (reaches (.line dt.val (n.map Fin.val) codes crc cse room)
          (State.pixelLine p.val link vc.val dt.val cap (n.map Fin.val) codes crc cse room)).settlePlan) ∧
    exec (.frameEndPacket p link vc arr ns) s = .next (reaches .stop (State.frameEnd p.val link vc.val)).settlePlan ∧
    (∀ (bytes : List Byte) (crc : Bool) (cse : CseField), exec (.embeddedDataPacket p link vc bytes arr ⟨crc, cse⟩ ns) s = .next
      (reaches (.embedded (bytes.map BitVec.toNat) crc cse) (State.embedded p.val link vc.val (bytes.map BitVec.toNat) crc cse)).settlePlan) ∧
    (∀ (kind : Fin 8) (bytes : List Byte) (crc : Bool) (cse : CseField), exec (.userDefinedPacket p link vc ⟨kind, bytes⟩ arr ⟨crc, cse⟩ ns) s = .next
      (reaches (.user kind.val (bytes.map BitVec.toNat) crc cse)
        (State.userData p.val link vc.val kind.val (bytes.map BitVec.toNat) crc cse)).settlePlan) ∧
    (∀ (dt : Fin 64) (len : Nat), exec (.otherLongPacket p link vc ⟨dt, len⟩ arr ns) s = .next (reaches (.other dt.val len) (fun u =>
      if dt.val = 0x10 ∨ dt.val = 0x11 then u
      else (u.bump (Fld.PORT_ERR_MISC_unmapped p.val)).raise (evPort p.val 15))).settlePlan)) ∧
  (∀ (p num : Nat) (link : Bool) (vc dt : Nat) (n : Option Nat) (codes bytes : List Nat) (a c : Bool) (b : CseField) (cap : Nat × Bool)
    (kind : Nat) (s : State),
    s.vcEntries p link vc = [] →
    let un := (s.bump (Fld.PORT_ERR_MISC_unmapped p)).raise (evPort p 15)
    s.frameStart p link vc num cap = un ∧ s.pixelLine p link vc dt cap n codes a b c = un ∧ s.frameEnd p link vc = un ∧
    s.embedded p link vc bytes a b = un ∧ s.userData p link vc kind bytes a b = un)

/-- A pixel line of an entry with an open frame, by the configuration of that frame. Without line numbers it takes the
next position; past the frame's height it is a sequence error, once per frame. With line numbers, a number that is 0
or not on the step, or of a position already taken, is a sequence error; the positions skipped are repaired one by one
before it. At its position: without room it counts as overflow with EV_PORT_OVERFLOW and is repaired; with a wrong
checksum it counts with EV_PORT_CRC and is repaired; with a failed CSE check on a served port it counts with
EV_PORT_CSE and is repaired; too short it is repaired; else its samples up to the width are used. A repair raises
EV_PORT_LINE where nothing else names the cause (R115 to R117). A line that is discarded (past the height, a position
taken, a number off the step) has its payload checks not counted: the model's choice (log entry 159). Each line keeps
the capture of its packet, a missing one that of the line before it. While an image is loaded. LINE_TIMEOUT of an
enabled entry: where packets are held for the sensor's counter, the sensor counts as reset; where a frame is open,
with all its lines it closes complete as a sequence error (and one more for an embedded-data packet of exposure 0 that
did not come), and with fewer input loss is declared, which closes it truncated; without an open frame nothing.
IDLE_TIMEOUT of an enabled entry with no open frame declares input loss, again where the sensor has been initialised
anew since. A loss during a re-initialisation keeps its mark, so that the first frame start after it opens without
another check (the model's choice, log entry 160). Input loss sets the entry's loss bit and raises EV_PORT_LOSS when
it was clear. SENSOR_REINIT_COMPLETE, where the entry's stream is being re-initialised and its target is ready, ends
that for all its entries (R115, R119 to R124). -/
def Obligations.LinesAndTimeouts : Prop :=
  (∀ (p k : Nat) (codes : List Nat) (crc cse room : Bool) (cap : Nat × Bool) (s : State),
     let st := s.entStream p k
     let n := dtSamples (s.curDt st) (s.curW st)
     let L := (s.ent p k).lines.length
     let past := if (s.ent p k).beyond then s else
       ((s.setEnt p k { s.ent p k with beyond := true }).bump (Fld.PORT_ERR_LINE_seq p)).raise (evPort p 9)
     let bad := (s.bump (Fld.PORT_ERR_LINE_seq p)).raise (evPort p 9)
     (s.flag (Fld.PORT_CFG_line_num p) = false → s.placeLine p k cap none codes crc cse room =
       if s.curH st ≤ L then past else s.takeLine p k cap codes crc cse room) ∧
     (∀ i : Nat, s.flag (Fld.PORT_CFG_line_num p) = true → s.placeLine p k cap (some i) codes crc cse room =
       if i = 0 ∨ (i - 1) % (s.curProf st).lineStep ≠ 0 then bad
       else if s.curH st ≤ (i - 1) / (s.curProf st).lineStep then past
       else if (i - 1) / (s.curProf st).lineStep < L then bad
       else (s.repairTo p k ((i - 1) / (s.curProf st).lineStep)).takeLine p k cap codes crc cse room) ∧
     (room = false → s.takeLine p k cap codes crc cse room =
       (((s.bump (Fld.PORT_ERR_MISC_overflow p)).raise (evPort p 14)).addLine p k none cap).raise (evPort p 8)) ∧
     (room = true → crc = false → s.takeLine p k cap codes crc cse room =
       ((s.bump (Fld.PORT_ERR_CRC_crc p)).raise (evPort p 7)).addLine p k none cap) ∧
     (room = true → crc = true → cse = false → s.cseServed p = true → s.takeLine p k cap codes crc cse room =
       ((s.bump (Fld.PORT_ERR_CRC_cse p)).raise (evPort p 13)).addLine p k none cap) ∧
     (room = true → crc = true → cse = true ∨ s.cseServed p = false →
       (codes.length < n → s.takeLine p k cap codes crc cse room = (s.addLine p k none cap).raise (evPort p 8)) ∧
       (n ≤ codes.length → s.takeLine p k cap codes crc cse room = s.addLine p k (some (codes.take n)) cap))) ∧
  ((∀ (p : Fin 24) (k : Fin 4) (ns : Nat) (s : State), s.loaded = true →
     let a := s.advance ns
     let st := a.entStream p.val k.val
     exec (.lineTimeout p k ns) s = .next
       (if !a.flag (Fld.PORT_VCMAP_enable p.val k.val) then a
       else if !(a.ent p.val k.val).held.isEmpty then a.sensorReset p.val st
       else if !a.flag (fOpen p.val k.val) then a
       else if (a.ent p.val k.val).lines.length == a.curH st then
         (((a.bump (Fld.PORT_ERR_LINE_seq p.val)).raise (evPort p.val 9)).embLost p.val k.val).entClose p.val k.val false
       else a.inputLoss p.val k.val).settlePlan ∧
     exec (.idleTimeout p k ns) s = .next
       (if a.flag (Fld.PORT_VCMAP_enable p.val k.val) && !a.flag (fOpen p.val k.val) &&
           (!a.flag (fLoss p.val k.val) || (a.ent p.val k.val).wasReset) then
         a.inputLoss p.val k.val else a).settlePlan ∧
     exec (.sensorReinitComplete p k ns) s = .next
       (if a.flag (fReinit p.val k.val) && a.targetReady p.val st then
         forEach (a.streamEntries st) (fun e (u : State) => u.put (fReinit e.1 e.2) 0) a else a).settlePlan) ∧
   (∀ (p k : Nat) (s : State), p < 24 → k < 4 → s.flag (fOpen p k) = false → s.entExp p k = 0 →
     let ctr := if s.flag (fLoss p k) then (s.ent p k).lossCtr else (s.ent p k).ctr
     s.inputLoss p k = (((s.put (fLoss p k) 1).raiseIf (!s.flag (fLoss p k)) (evPort p 10)).setEnt p k
       { s.ent p k with lossCtr := ctr, held := [], skip := false, wasReset := (s.ent p k).wasReset && s.flag (fReinit p k) }) ∧
     s.embLost p k = if (s.curProf (s.entStream p k)).eds.isEmpty ∨ (s.ent p k).emb = true then s
       else (s.bump (Fld.PORT_ERR_LINE_seq p)).raise (evPort p 9)))

/-- While an image is loaded, of a channel whose job waits for its transfer. Done: the job goes on with the bytes. NACK:
below the retries set it waits 10 us and is counted for its job; after them it is counted in SC_p_STAT.nacks with
EV_SC_NACK and the job fails with 1. A bus clear not acknowledged leaves the bus stuck with EV_SC_STUCK. Abandoned:
counted, and restarted after its back-off 8 times; then EV_SC_ABANDON and the job fails with 2. A tunnel's late answer
counts as a NACK. A stretched clock clears the bus first, the job waiting behind, to start again (the model's choice,
log entry 111). NACK and back-off timers launch the transfer again, a delay's end goes on with the next operation.
With no such wait each does nothing (R86, R134, R148). -/
def Obligations.ControlTransfers : Prop :=
  (∀ (p : Fin 24) (ns : Nat) (s : State), s.loaded = true →
    let a := s.advance ns
    let c := a.chan p.val
    (c.job = none ∨ c.wait ≠ .transfer → (∀ res, exec (.controlTransferDone p res ns) s = .next a.settlePlan) ∧
      (∀ q : Fin 16, q.val = p.val → exec (.tunnelAnswerTimeout q ns) s = .next a.settlePlan) ∧ exec (.clockStretchTimeout p ns) s = .next a.settlePlan) ∧
    (c.job = none ∨ c.wait ≠ .nack → exec (.nackRetryTimer p ns) s = .next a.settlePlan) ∧
    (c.job = none ∨ c.wait ≠ .backoff → exec (.backoffTimer (.channel p) ns) s = .next a.settlePlan) ∧
    (c.job = none ∨ c.wait ≠ .delay → exec (.sequenceDelayExpiry p ns) s = .next a.settlePlan) ∧
    (c.job = some .busClear → c.wait = .transfer → exec (.controlTransferDone p .nack ns) s = .next
      (let u := ((a.put (Fld.SC_STAT_stuck p.val) 1).raise (evTime 9)).setJob p.val none .transfer
      (u.setChan p.val { u.chan p.val with firstEnd := true }).chanGo p.val).settlePlan) ∧
    (∀ j, c.job = some j → c.wait = .transfer →
      (∀ bytes, exec (.controlTransferDone p (.done bytes) ns) s = .next (a.xferOk p.val (bytes.map BitVec.toNat)).settlePlan) ∧
      (j ≠ .busClear → c.nacks < a.get (Fld.SC_CFG_retries p.val) →
        exec (.controlTransferDone p .nack ns) s = .next (a.setChan p.val { c with nacks := c.nacks + 1, wait := .nack }).settlePlan) ∧
      (j ≠ .busClear → a.get (Fld.SC_CFG_retries p.val) ≤ c.nacks → exec (.controlTransferDone p .nack ns) s = .next
        ((((a.bump (Fld.SC_STAT_nacks p.val)).raise (evTime 8)).jobFail p.val j 1).chanGo p.val).settlePlan) ∧
      (c.backs < 8 → exec (.controlTransferDone p .abandoned ns) s = .next
        ((a.bump (Fld.SC_STAT_backoffs p.val)).setChan p.val { c with backs := c.backs + 1, wait := .backoff }).settlePlan) ∧
      (8 ≤ c.backs → exec (.controlTransferDone p .abandoned ns) s = .next
        ((((a.bump (Fld.SC_STAT_backoffs p.val)).raise (evTime 11)).jobFail p.val j 2).chanGo p.val).settlePlan) ∧
      (∀ q : Fin 16, q.val = p.val → exec (.tunnelAnswerTimeout q ns) s = exec (.controlTransferDone p .nack ns) s) ∧
      exec (.clockStretchTimeout p ns) s = .next
        ((a.setChan p.val { c with job := some .busClear, wait := .transfer, nacks := 0, backs := 0, todo := j :: c.todo }).emit
          (.busClear p.val (a.busI3c p.val))).settlePlan) ∧
    (∀ j, c.job = some j → c.wait = .nack → exec (.nackRetryTimer p ns) s = .next
      ((a.setChan p.val { c with wait := .transfer }).launch p.val j).settlePlan) ∧
    (∀ j, c.job = some j → c.wait = .backoff → exec (.backoffTimer (.channel p) ns) s = .next
      ((a.setChan p.val { c with wait := .transfer }).launch p.val j).settlePlan) ∧
    (∀ j, c.job = some j → c.wait = .delay → exec (.sequenceDelayExpiry p ns) s = .next
      (let r := State.seqFrom p.val j 1100 (j.opNo + 1) a
      match r.2 with
      | some _ => r.1
      | none => (r.1.jobEnd p.val j).chanGo p.val).settlePlan))

/-- While an image is loaded. A channel that is not enabled takes none, and sends nothing before it has started, with the
bus clear and the DISEC of its start first (R134, R138). INIT_RETRY restarts the initialisation of a failed, enabled
target that is neither ready nor being re-initialised, an I3C target without its dynamic address from step 2 (log
entry 113). BUS_CLEAR_RETRY of a stuck channel sends the clear again (a further failure raises no event of its own,
log entry 163); with SDA free the channel is no longer stuck and its targets that are not ready are initialised.
FIRST_ATTEMPT_TIMEOUT of an enabled channel whose link is down ends its first attempt. SYNC_GROUP_START in Active,
once every channel has ended its first attempt, starts the groups that do not run. WRITE_WINDOW_CLOSE of an open
window abandons a set not yet written and shuts the window. IN_BAND_INTERRUPT shows its address, raises EV_SC_IBI and
abandons a transfer in flight, which counts and backs off as one abandoned. SENSOR_READBACK of a ready target with
nothing of its own outstanding, while no entry of its port is being re-initialised, queues the read-back of its census
list (R137 to R139, R144 to R147, R403). SC_MAILBOX_READ and SC_MAILBOX_WRITE by a requester that passes its check, of
a channel whose domain is on: with a transfer in flight (go set) the fields are stored and nothing starts; else a
transfer to the target with the register address, one or two data bytes, the byte order given and the data of
SC_p_XDATA starts, go stays set and the channel takes it up; where the channel is stuck or disabled or the target is
not enabled, it ends at once with result 3, go clear and EV_SC_MBOX (R161). -/
def Obligations.ControlChannelEvents : Prop :=
  (∀ (p : Fin 24) (k : Fin 4) (ns : Nat) (s : State), s.loaded = true →
     let a := s.advance ns
     let c := a.chan p.val
     exec (.initRetryTimer p k ns) s = .next
       (if a.flag (Fld.SC_CFG_enable p.val) && a.flag (fInitFail p.val k.val) && a.tgtOn p.val k.val && !bit c.ready k.val &&
           !a.tgtReinit p.val k.val && c.started then
         (a.setChan p.val { c with
           todo := c.todo ++ (if bit c.dasa k.val then [] else a.dasaJobs p.val [k.val]) ++ [.init k.val 0] }).chanGo p.val
       else a).settlePlan ∧
     (∀ (q : Fin 26) (sda : Bool), q.val = p.val → exec (.busClearRetry q sda ns) s = .next
       (if !a.flag (Fld.SC_STAT_stuck p.val) || !a.flag (Fld.SC_CFG_enable p.val) then a
       else
         let u := a.emit (.busClear p.val (a.busI3c p.val))
         if sda then u
         else
           let todo := if (c.ready &&& u.tgtMask p.val) == u.tgtMask p.val then c.todo
             else c.todo ++ u.initJobs p.val (15 - c.ready % 16) true
           ((u.put (Fld.SC_STAT_stuck p.val) 0).setChan p.val { c with todo := todo }).chanGo p.val).settlePlan) ∧
     (∀ q : Fin 16, q.val = p.val → exec (.firstAttemptTimeout q ns) s = .next
       (if a.flag (Fld.SC_CFG_enable p.val) && !a.flag (Fld.PORT_LSTAT_link_up p.val) then a.setChan p.val { c with firstEnd := true }
       else a).settlePlan) ∧
     exec (.syncGroupStart ns) s = .next
       (if a.phase == .active && a.firstDone then
         forEach ((List.range 8).filter (fun g => !a.flag (Fld.SYNC_CTRL_run g))) State.grpStart { a with syncOn := true } else a).settlePlan ∧
     exec (.writeWindowClose p k ns) s = .next
       (if bit c.winOpen k.val then ((a.windowAbandon p.val k.val).windowShut p.val k.val).chanGo p.val else a).settlePlan ∧
     (∀ (addr : Fin 128) (load : List Byte), exec (.inBandInterrupt p addr load ns) s = .next
       (let u := (a.put (Fld.SC_STAT_ibi_addr p.val) addr.val).raise (evTime 12)
       if !a.flag (Fld.SC_CFG_enable p.val) then a
       else if c.job.isSome && !(c.job == some .busClear) && c.wait == .transfer then u.xferAbandon p.val else u).settlePlan) ∧
     exec (.sensorReadback p k ns) s = .next
       (let own := fun (j : Job) => j.outside && j.target == some k.val
       if a.flag (Fld.SC_CFG_enable p.val) && a.tgtOn p.val k.val && bit c.ready k.val &&
         !((List.range 4).any (fun i => a.flag (fReinit p.val i))) && !(c.todo.any own || c.job.any own) &&
         !(a.profile (a.cenProf p.val k.val)).census.isEmpty then
         let u := a.cenBegin (sensorSet p.val k.val)
         (u.setChan p.val { u.chan p.val with rb := tdel (u.chan p.val).rb k.val }).chanAdd p.val (.readback k.val 0 false)
       else a).settlePlan) ∧
  (∀ (r : Fin 19) (p : Fin 24) (tgt : Fin 4) (reg : Fin 65536) (two lsb rd : Bool) (s : State),
     exec (if rd then .scMailboxRead r p tgt reg two lsb else .scMailboxWrite r p tgt reg two lsb) s = .next
       (s.busDo r.val (Reg.SC_XFER p.val) (mailWord rd tgt.val reg.val two lsb) (fun s =>
         let old := s.reg (Reg.SC_XFER p.val)
         let u := s.setReg (Reg.SC_XFER p.val)
           (BitVec.ofNat 32 ((mailWord rd tgt.val reg.val two lsb &&& 0x4F80FFFF) ||| (old.toNat &&& 0xB0000000)))
         if old.getLsbD 31 then u
         else if u.flag (Fld.SC_STAT_stuck p.val) || !u.tgtOn p.val tgt.val || !u.flag (Fld.SC_CFG_enable p.val) then
           ((u.put (Fld.SC_XFER_result p.val) 3).put (Fld.SC_XFER_go p.val) 0).raise (evTime 13)
         else ((u.put (Fld.SC_XFER_go p.val) 1).setChan p.val { u.chan p.val with
           mail := some ⟨rd, if two then 2 else 1, tgt.val, lsb, reg.val, s.get (Fld.SC_XDATA_data p.val)⟩ }).chanAdd p.val .mailbox)).settle)

/-- While an image is loaded: of gPTP frames (all discarded, with PPS edges, while 147 is fenced or under BIST) of the
image's domain, a Sync of the master, at once or with its Follow_Up, measures master time plus link delay minus its
arrival where gPTP is the source; the arrival is the 8 ns timestamp less rx_dly; a peer-delay exchange, of any domain,
asked for by Falith, sets the link delay, half of what both PHY delays and the turnaround leave; a peer's request is
answered; an announcement of a better vector names its sender master (log 166). A PTM dialogue, asked for by Falith,
shows its offset in TIME_PTM and measures it where PTM is the source; a PPS edge, where PPS is the source, is captured
in TIME_PPS and measures the time of day written before it, else, where it is checked, pps_ok and EV_TIME_PPS follow.
A missing PPS edge raises its event and, as the source, loses the reference. Losing it turns synced into holdover with
EV_TIME_HOLDOVER; the holdover's end makes the state local with EV_TIME_LOCAL. MDIO_POLL, but not while 147 is fenced
or under BIST, reads the PHY and signals a change of its link. TIME_TOD holds the time of day for the next edge. An
offset above 1 ms in magnitude steps vehicle time by it, state 1; a smaller one leaves it, slews at most 500 ppm, and
the 8th in a row within 1 us makes the state synced; before it the state stays (R152 to R154). An edge without a time
of day measures nothing: log 112. -/
def Obligations.VehicleTimeIsDisciplined : Prop :=
  (∀ (ns : Nat) (s : State), s.loaded = true →
    let a := s.advance ns
    let src := a.get Fld.TIME_CFG_source
    let came : Int := (a.now / 8 * 8 : Nat) - (a.get Fld.TIME_PHY_rx_dly : Int)
    let sync := fun (origin : Nat) (at_ : Int) (u : State) =>
      if u.get Fld.TIME_CFG_source == 0 then u.timeOffset ((origin : Int) + u.tm.linkDelay - at_) else u
    (∀ (d : Fin 256) (m : GptpMsg), exec (.gptpMessage d m ns) s = .next
      (let ours := a.get Fld.TIME_CFG_gptp_domain == d.val
      let taken := fun who : Nat => ours && a.tm.master.all (fun m => m.2 == who)
      if a.domHurt 147 then a
      else match m with
      | .sync (some o) who => if taken who then sync o came a else a
      | .sync none who => if taken who then { a with tm := { a.tm with syncRx := some came } } else a
      | .followUp o who => match (if taken who then a.tm.syncRx else none) with
        | none => a
        | some t => sync o t { a with tm := { a.tm with syncRx := none } }
      | .peerDelay trip turn => { a.emit .peerRequest with tm := { a.tm with
          linkDelay := ((trip : Int) - a.get Fld.TIME_PHY_rx_dly - a.get Fld.TIME_PHY_tx_dly - turn) / 2 } }
      | .peerRequest => a.emit .peerResponse
      | .announce v who =>
        if ours && a.tm.master.all (fun m => Nat.blt v m.1 || m.2 == who) then { a with tm := { a.tm with master := some (v, who) } } else a
      | _ => a).settlePlan) ∧
    (∀ off, exec (.ptmDialogue off ns) s = .next
      (let u := (a.emit .ptmRequest).setReg64 Reg.TIME_PTM (unsgn 64 off)
      if u.get Fld.TIME_CFG_source == 1 then u.timeOffset off else u).settlePlan) ∧
    exec (.ppsEdge ns) s = .next
      (if a.domHurt 147 then a
      else if src == 2 then
        let u := a.setReg64 Reg.TIME_PPS a.now
        match u.tm.tod with
        | none => u
        | some t => { u with tm := { u.tm with tod := none } }.timeOffset ((t : Int) - (u.now : Int))
      else if a.flag Fld.TIME_CFG_pps_check then
        let good := Nat.ble (offSecond a.now) 1000
        ((a.setReg64 Reg.TIME_PPS a.now).put Fld.TIME_STAT_pps_ok (b2n good)).raiseIf (!good) (evTime 5)
      else a).settlePlan ∧
    exec (.ppsTimeout ns) s = .next
      (if src == 2 then (a.raise (evTime 4)).timeLost else a.raiseIf (a.flag Fld.TIME_CFG_pps_check) (evTime 4)).settlePlan ∧
    exec (.timeReferenceLost ns) s = .next
      (let u := { a with tm := { a.tm with good := 0, master := if src == 0 then none else a.tm.master } }
      if a.get Fld.TIME_STAT_state == 2 then
        ({ u with tm := { u.tm with hold := some u.tm.loc } }.put Fld.TIME_STAT_state 3).raise (evTime 1) else u).settlePlan ∧
    exec (.holdoverTimeout ns) s = .next
      (if a.get Fld.TIME_STAT_state == 3 then
        ({ a with tm := { a.tm with hold := none } }.put Fld.TIME_STAT_state 0).raise (evTime 2) else a).settlePlan ∧
    (∀ up, exec (.mdioPoll up ns) s = .next
      (if a.domHurt 147 then a
      else { a.emit .mdio with tm := { a.tm with eth := up } }.raiseIf (!(up == a.tm.eth)) (evTime 14)).settlePlan)) ∧
  (∀ (r : Fin 19) (v : Word64) (s : State), exec (.timeTodWrite r v) s = .next
    (s.busDo r.val Reg.TIME_TOD (v.toNat % 2 ^ 32) (fun s => { s with tm := { s.tm with tod := some v.toNat } })).settle) ∧
  (∀ (off : Int) (s : State), 1000000 < off.natAbs →
    (s.timeOffset off).tm.veh = unsgn 64 ((s.tm.veh : Int) + off) ∧ (s.timeOffset off).get Fld.TIME_STAT_state = 1) ∧
  (∀ (off : Int) (s : State), off.natAbs ≤ 1000000 →
    (s.timeOffset off).tm.veh = s.tm.veh ∧ -500000 ≤ (s.timeOffset off).tm.corr ∧ (s.timeOffset off).tm.corr ≤ 500000 ∧
    (off.natAbs ≤ 1000 → 7 ≤ s.tm.good → (s.timeOffset off).get Fld.TIME_STAT_state = 2) ∧
    (s.tm.good < 7 ∨ 1000 < off.natAbs → (s.timeOffset off).get Fld.TIME_STAT_state = s.get Fld.TIME_STAT_state) ∧
    (1000 < off.natAbs → (s.timeOffset off).tm.good = 0))

/-- SYNC_EDGE of a running group, in Active or Standby entry: vehicle time reaches the planned edge E in its 2 ns ticks at
the corrected rate; in Standby entry the group stops; else the next edge is planned, E is recorded as the last one and
its pour period begins. A group that does not run does nothing. The plan for a bound b >= 0 with period P > 0 is the
first time at or after b that is the phase modulo P. FSO_OUTPUT_EDGE of an enabled output whose group has a period and
runs (or has had an edge), with domain 147 neither fenced nor under BIST, drives it active; FSO_PULSE_END of an active
output drives it inactive (R155, R156). -/
def Obligations.SyncEdgesArePlanned : Prop :=
  (∀ (g : Fin 8) (s : State), s.loaded = true →
    let a := s.advance 0
    let E := a.reg64 (Reg.SYNC_NEXT g.val)
    let b := { a with tm := a.tm.after (a.tm.until E) }
    exec (.syncEdge g) s = .next
      (if !(a.working && a.flag (Fld.SYNC_CTRL_run g.val)) then a
      else if b.phase == .entering then b.put (Fld.SYNC_CTRL_run g.val) 0
      else
        let c := (b.setReg64 (Reg.SYNC_NEXT g.val) (planAt (b.grpP g.val) (b.grpPhase g.val) ((E : Int) + 1))).setGrp g.val
          { b.grp g.val with last := some (E, b.tm.loc), prev := (b.grp g.val).last.map (fun e => e.1) }
        c.logEdge g.val E c.synced).settlePlan) ∧
  (∀ P φ b : Nat, 0 < P → b ≤ planAt P φ (b : Int) ∧ planAt P φ (b : Int) < b + P ∧ planAt P φ (b : Int) % P = φ % P) ∧
  (∀ (n : Fin 32) (ns : Nat) (s : State), s.loaded = true →
    let a := s.advance ns
    let g := a.fsoGroup n.val
    exec (.fsoOutputEdge n ns) s = .next
      (if a.working && !a.domHurt 147 && a.fsoOn n.val && !(a.grpP g == 0) && (a.flag (Fld.SYNC_CTRL_run g) || (a.grp g).last.isSome) then
        a.fsoDrive n.val true else a).settlePlan ∧
    exec (.fsoPulseEnd n ns) s = .next (if bit a.fsoHigh n.val then a.fsoDrive n.val false else a).settlePlan)

/-- While an image is loaded. At a line boundary of an easel whose domains are on (it holds its work until then): an
in-line line that is ready is counted and, with a stroke in hand, its wait recorded, and the last line of a closed
frame completes its content; with none ready the stroke with the earliest deadline, then the lowest stream, gets the
easel, its context and history loaded and a rerun counted where it had run before; the same stroke goes on unchanged.
A stroke's end reads its lines (an uncorrected one marks them), rewrites its history, frees the easel, counts it and
lets the frame's content be checked. The first stroke of a stream to pass its deadline is marked, its frame in error
(counted once per frame) with EV_STRM_STROKE and EV_EAS_MISS. The statistics block of the stream's oldest closed frame
with no work left is made, its full sections withdrawn where a word of its cells is uncorrected or its entry missed
its window, counted as not full or incomplete, and sent on; the laws of the block that closed first (in one cycle: the
lower stream) end once the frame's received signals are bound, a frame of an earlier opening leaving the entries alone
and an uncorrected error in their state marking the frame, the frame leaves where its outputs are done, and the write
window goes on (R167 to R174, R243, R244, R260). -/
def Obligations.EaselsWork : Prop :=
  (∀ (e : Fin 12) (ns : Nat) (s : State), s.loaded = true →
    let a := s.advance ns
    let x := a.easel e.val
    exec (.easelLineBoundary e ns) s = .next
      (match x.ready with
      | (st, F, t) :: rest =>
        if !a.easelUp e.val (a.frameBack st F) then a
        else
          let u := (a.setEasel e.val { x with ready := rest }).bump (Fld.EAS_LINES_lines e.val)
          let v := if x.slot.isSome then u.peak (Fld.EAS_WAIT_max_wait e.val) ((a.tm.loc - t) / 10) else u
          if v.workDone st F then v.contentDone st F else v
      | [] =>
        match a.bestStroke e.val with
        | none => a
        | some k =>
          if x.slot == some k.key || !a.easelUp e.val (a.frameBack k.st k.num) then a
          else
            let u := (((((a.setEasel e.val { x with slot := some k.key }).put (Fld.EAS_STAT_has_stroke e.val) 1).put
              (Fld.EAS_STAT_stroke e.val) k.st).ctxLoad e.val k.st k.num).histLoad k).bumpBy (Fld.EAS_WAIT_reruns e.val) (b2n k.active)
            { u with strokes := u.strokes.map (fun (j : Stroke) => if j.key == k.key then { j with active := true } else j) }).settlePlan ∧
    exec (.strokeEnd e ns) s = .next
      (match x.slot with
      | none => a
      | some (st, F, k) =>
        let b := (a.strokes.find? (fun (j : Stroke) => j.key == (st, F, k))).elim k (fun j => j.b)
        let lines := (a.strm st).store.filter (fun (l : Nat × Nat × List Nat) => l.1 == F && Nat.ble (k - 8) l.2.1 && Nat.ble l.2.1 b)
        let bad := lines.filter (fun (l : Nat × Nat × List Nat) => (a.flipsIn l.2.2).any (fun w => Nat.ble 2 (a.flips w)))
        let u := (a.palReads st F (lines.flatMap (fun (l : Nat × Nat × List Nat) => l.2.2))).readBad st F (bad.map (fun (l : Nat × Nat × List Nat) => l.2.1))
        let hist := a.palOf 4 st
        let v := { u.setEasel e.val { x with slot := none } with
          strokes := u.strokes.filter (fun (j : Stroke) => !(j.key == (st, F, k)))
          palFlip := u.palFlip.filter (fun w => !hist.contains (w.1 / 512)) }
        (((v.bump (Fld.EAS_STROKES_strokes e.val)).storeSweep st).contentDone st F).strmSweep st).settlePlan) ∧
  (∀ (st : Fin 32) (ns : Nat) (s : State), s.loaded = true →
    let a := s.advance ns
    exec (.strokeDeadlineMiss st ns) s = .next
      (match leastBy (fun k : Stroke => k.dl) (a.strokes.filter (fun k => k.st == st.val && !k.missed)) with
      | none => a
      | some k =>
        let first := (a.frame st.val k.num).any (fun (f : Frame) => !f.missedDl)
        let u := ({ a with strokes := a.strokes.map (fun (j : Stroke) =>
          if j.key == k.key then { j with missed := true } else j) }.markError st.val k.num).modFrame
          st.val k.num (fun f => { f with missedDl := true })
        ((if first then u.bump (Fld.STRM_DROP_deadline st.val) else u).raise (evStrm st.val 4)).raise (evEas k.easel 3)).settlePlan ∧
    exec (.statsBlockClose st ns) s = .next
      (match a.frames.find? (fun (f : Frame) => f.st == st.val && !f.isOpen && f.stats.isNone && a.workDone st.val f.num) with
      | none => a
      | some f =>
        let ws := a.flipsIn (a.statBlockCells st.val f.num)
        let f' := { f with withdrawn := f.withdrawn || (ws.any (fun w => Nat.ble 2 (a.flips w)) ||
          bit (a.frameEntry f).flags efMiss) }
        let b := (forEach ws (State.palTouch false) a).modFrame st.val f'.num (fun _ => f')
        let b1 := b.modFrame st.val f'.num (fun g => { g with stats := some (b.statBlock f') })
        let c := { b1 with lawQ := lawInsert (b1.tm.loc, st.val, f'.num) b1.lawQ }
        let d := if f'.statFull then c else c.bump (Fld.STAT_CNT_no_full st.val)
        let g := if f'.trunc then d.bump (Fld.STAT_CNT_incomplete st.val) else d
        ((g.csoSend st.val f'.num 4).mirror st.val f'.num 4).pourAll st.val).settlePlan ∧
    exec (.controlLawsEnd st ns) s = .next
      (match a.lawFrame st.val with
      | none => a
      | some f =>
        let law := (a.strm st.val).statCells.drop 92
        let ws := a.flipsIn law
        let v := forEach ws (State.palTouch false) { a with lawQ := a.lawQ.tail }
        let w := if ws.any (fun c => Nat.ble 2 (a.flips c)) then (v.lawsBad st.val).markError st.val f.num else v
        let x := { w with palFlip := w.palFlip.filter (fun c => !law.contains (c.1 / 512)) }
        let u := ((((if f.prior then x else x.lawsEnd f)).modFrame st.val f.num (fun g => { g with lawed := true })).frameGone st.val f.num).strmSweep st.val
        match (u.strm st.val).last with
        | some L => (u.windowTry st.val L).chanGo (u.get (Fld.STRM_CFG_port st.val))
        | none => u).settlePlan) ∧
  (∀ (st : Nat) (s : State) (f : Frame), s.lawFrame st = some f →
    ∃ t rest, s.lawQ = (t, st, f.num) :: rest ∧ f.st = st ∧ f.stats.isSome = true ∧ f.lawed = false ∧ f.sigBound = true)

/-- While an image is loaded. REST_ROTATION, where an easel rests with its BIST passed, rotation is enabled, pixel work is
taken and none is retired or leaving: while a stream migrates it waits; else the resting easel wakes and takes over
the next easel in service, which leaves. ROTATION_DRAIN_DONE: the leaving easel, idle with nothing migrating, is
cleared and rests with EV_EAS_REST. RESTING_BIST_DONE: the run is recorded; a failure fences the block and retires the
easel; a pass sets its domains' flip-flops to reset, restores their registers, and drains and powers them down and
marks it ready. EASEL_RETIRE_COMMAND retires with reason 5; EASEL_READMIT_COMMAND asks for readmission of a retired
easel. EASEL_READMIT of a retired easel that was asked for, or retired by its PLL and locked again: its fence is
lifted; it rests where none rests or leaves, else placement runs with one slot more and it wakes; each run is counted.
Retiring a retired easel does nothing (R183 to R188). -/
def Obligations.EaselsRestAndRetire : Prop :=
  (∀ (ns : Nat) (s : State), s.loaded = true →
    let a := s.advance ns
    exec (.restRotation ns) s = .next
      (match a.plc.resting with
      | none => a
      | some r =>
        if !(a.working && a.flag Fld.PLC_ROT_enable && a.plc.restOk && a.plc.retired.isEmpty && a.plc.leaving.isNone) then a
        else if a.migrating then { a with plc := { a.plc with rotDue := true } }
        else match a.nextEasel r with
          | none => a
          | some n =>
            let u := { a with plc := { a.plc with
              resting := none, restOk := false, leaving := some n, slotMap := a.plc.slotMap.map (fun x => if x == n then r else x) } }
            ((((u.easelWake r).raise (evEas r 2)).bump Fld.PLC_STAT_runs).plcShow).applyIdle).settlePlan ∧
    exec (.rotationDrainDone ns) s = .next
      (match a.plc.leaving with
      | none => a
      | some n =>
        if !a.easelIdle n || a.migrating then a
        else (({ a with plc := { a.plc with leaving := none, resting := some n, restOk := false } }.easelClear n).raise
          (evEas n 1)).plcShow).settlePlan ∧
    (∀ (res : Fin 3) (repairs : Nat), exec (.restingBistDone res repairs ns) s = .next
      (match a.plc.resting with
      | none => a
      | some e =>
        if a.plc.restOk then a
        else
          let u := a.bistOne (48 + 2 * e) ⟨0, res.val == 1, res.val == 2, repairs⟩
          if res.val == 1 || res.val == 2 then u.plcShow
          else
            let v := forEach (bistBlock (48 + 2 * e)) (fun x (w : State) => (w.domDrain x).domDown x) (u.bistInit (48 + 2 * e))
            { v with plc := { v.plc with restOk := true } }.plcShow).settlePlan) ∧
    (∀ e : Fin 12, exec (.easelReadmit e ns) s = .next
      (let byPll := tget a.plc.retired e.val 0 == 3 && a.flag (Fld.CK_PLL_locked (e.val / 2))
      if !(thas a.plc.retired e.val && (a.plc.readmit.contains e.val || byPll)) then a
      else
        let b := forEach (easelDoms e.val) (fun d (w : State) => w.put (Fld.BIST_DOM_fenced d) 0) a
        let u := { b with plc := { b.plc with
          retired := tdel b.plc.retired e.val, readmit := b.plc.readmit.filter (fun x => !(x == e.val)) } }
        if u.plc.resting.isNone && u.plc.leaving.isNone then
          (({ u with plc := { u.plc with resting := some e.val, restOk := true } }.raise (evEas e.val 1)).bump Fld.PLC_STAT_runs).plcShow
        else ((State.plcLift 33 u.mapSlots).plcRun.easelWake e.val).plcShow).settlePlan)) ∧
  (∀ (r : Fin 19) (e : Fin 12) (s : State),
    exec (.easelRetireCommand r e) s = .next (s.busDo r.val Reg.PLC_EASEL_CTRL (0x5A3C0100 + e.val) (State.retire e.val 5)).settlePlan ∧
    exec (.easelReadmitCommand r e) s = .next (s.busDo r.val Reg.PLC_EASEL_CTRL (0x5A3C0200 + e.val) (fun s =>
      if thas s.plc.retired e.val && !s.plc.readmit.contains e.val then
        { s with plc := { s.plc with readmit := s.plc.readmit ++ [e.val] } } else s)).settlePlan) ∧
  (∀ (e reason : Nat) (s : State), thas s.plc.retired e = true → s.retire e reason = s)

/-- LEDGER_CMD_SET and LEDGER_CMD_RELEASE: refused with 22H where the requester does not own the stream, 50H with 4
commands pending, 51H for an empty mask or a field of an exposure the profile lacks, 52H of a stream that is not open,
53H for a value out of range (a set only), the earlier first; a refusal writes the reason and nothing else. Accepted:
its number is the next one, it applies at the frame named, or at the earliest feasible frame where that has passed
(slipped, counted), it joins the pending commands, LDG_s_CMD_CTRL and LDG_s_CMD_APPLY show it and the entries from
there on follow (R256 to R259). A write from a domain that does not own the stream is denied, and the denial leaves
22H (R259). -/
def Obligations.LedgerCommands : Prop :=
  (∀ (r : Fin 19) (st : Fin 32) (s : State),
    exec (.ledgerCmdSet r st) s = .next (s.busDo r.val (Reg.LDG_CMD_CTRL st.val) 1 (State.ldgCmd true st.val false)).settle ∧
    exec (.ledgerCmdRelease r st) s = .next (s.busDo r.val (Reg.LDG_CMD_CTRL st.val) 2 (State.ldgCmd true st.val true)).settle ∧
    (∀ v, v = 1 ∨ v = 2 → s.denyMark (Reg.LDG_CMD_CTRL st.val) v 2 = s.put (Fld.LDG_CMD_CTRL_reason st.val) 0x22)) ∧
  (∀ (st : Nat) (rel : Bool) (s : State),
    (∀ own, 4 ≤ (s.strm st).cmds.length → s.cmdReason own st rel = if own then 0x50 else 0x22) ∧
    ((s.strm st).cmds.length < 4 → (s.reg (Reg.LDG_CMD_MASK st)).toNat % 2 ^ 17 = 0 → s.cmdReason true st rel = 0x51) ∧
    (s.cmdReason true st rel = 0 → (s.strm st).cmds.length < 4 ∧ (s.strm st).opened = true ∧
      (s.reg (Reg.LDG_CMD_MASK st)).toNat % 2 ^ 17 ≠ 0) ∧
    (s.cmdReason true st rel ≠ 0 → s.ldgCmd true st rel = s.put (Fld.LDG_CMD_CTRL_reason st) (s.cmdReason true st rel)) ∧
    (s.cmdReason true st rel = 0 →
      let x := s.strm st
      let F := (s.reg (Reg.LDG_CMD_FRAME st)).toNat
      let slip := s.passed st F
      let A := if slip then s.earliest st else F
      let c : HostCmd := ⟨x.num + 1, A, rel, (s.reg (Reg.LDG_CMD_MASK st)).toNat % 2 ^ 17, s.cmdWords st, slip, false⟩
      let u := ((((s.setStrm st { x with num := x.num + 1, cmds := x.cmds ++ [c] }).put (Fld.LDG_CMD_CTRL_reason st) 0).put
        (Fld.LDG_CMD_CTRL_pending st) (x.cmds.length + 1)).put (Fld.LDG_CMD_CTRL_seq st) (cmdNum (x.num + 1))).put
        (Fld.LDG_CMD_CTRL_slipped st) (b2n slip)
      s.ldgCmd true st rel = ((if slip then u.bump (Fld.LDG_CNT_slipped st) else u).setReg (Reg.LDG_CMD_APPLY st)
        (BitVec.ofNat 32 A)).hostRefresh st A))

/-- QUEUE_PUSH of a requester that passes its check: where the queue's producer is another unit it is a protocol error,
counted; else the push of an enabled queue whose half is powered is taken, and its level, marks and flow-control pins
follow; into a fenced half it is discarded and its item counted lost. In an item queue that holds one run of items
with room in its tail cell, the item goes to its end. A pop of an item queue answers its first three items at most and
keeps the others; a pop of an empty queue answers no item and changes nothing. QUEUE_RESET counts every item lost,
empties the queue, clears its pop count and its live bit with EV_QUE_BELOW. A read of the low half pops; the high half
waits for its read; a 64-bit read pops at once and leaves its high half for a later read of that half.
FC_MIN_WIDTH_EXPIRY lets a pin follow its mask again; SCRUB_DRIP corrects or records the errors in the next 8 live
cells and counts a full pass (R282 to R295). -/
def Obligations.QueuesAreFirstInFirstOut : Prop :=
  (∀ (r : Fin 19) (q : Fin 96) (w : Word) (s : State), exec (.queuePush r q w) s = .next
    (s.busDo r.val (Reg.QUE_PUSH q.val) w.toNat (fun s =>
      if s.queMayPush r.val q.val then s.quePush q.val w.toNat else s.bump (Fld.QUE_STAT_proto q.val))).settle) ∧
  (∀ (r : Fin 19) (q : Fin 96) (s : State), exec (.queuePop r q false) s = .next
    (let off := Reg.QUE_POP q.val
    let p := if s.domOff off then (s.peek r.val off + 2 ^ 32 * s.peek r.val (off + 4), s) else s.quePop q.val
    s.sees r.val off (p.1 % 2 ^ 32) { p.2 with latch := tset p.2.latch off (p.1 / 2 ^ 32 % 2 ^ 32) }).settle) ∧
  (∀ (r : Fin 19) (q : Fin 96) (s : State), s.reqReaches r.val = true → s.denyReason r.val (Reg.QUE_POP q.val) none = none →
    s.domOff (Reg.QUE_POP q.val) = false →
    (let p := s.quePop q.val
    exec (.queuePop r q true) s = .next (({ p.2 with latch := tset p.2.latch (Reg.QUE_POP q.val) (p.1 / 2 ^ 32 % 2 ^ 32) }).emit
      (.read r.val (Reg.QUE_POP q.val) p.1)).settle)) ∧
  (∀ (r : Fin 19) (q : Fin 96) (s : State), exec (.queueReset r q) s = .next
    (s.busDo r.val (Reg.QUE_CTRL q.val) 1 (fun s =>
      let u := ((((s.bumpBy (Fld.QUE_LOST_lost q.val) (s.que q.val).level).setQue q.val { Queue.init with pkts := [] }).put
        (Fld.QUE_POPS_pops q.val) 0).queShow q.val)
      (if u.flag (Fld.QUE_LEVEL_above q.val) then (u.put (Fld.QUE_LEVEL_above q.val) 0).raise (evQue q.val 1) else u).fcAll)).settle) ∧
  (∀ (q v : Nat) (items : List QItem) (x : Queue) (s : State), s.que q = x → x.pkts = [⟨items, false, true, false⟩] →
    s.quePacket q = false → items.length < s.queCap q → x.off + items.length < 32 * x.cells.length →
    s.flag (Fld.QUE_CFG_enable q) = true → s.halfOn (q / 48) = true → s.domFenced (132 + q / 48) = false → v < 65536 →
    (s.quePush q v).que q = { x with pkts := [⟨items ++ [⟨v, false⟩], false, true, false⟩] }) ∧
  (∀ (q v : Nat) (s : State), s.flag (Fld.QUE_CFG_enable q) = true → s.domFenced (132 + q / 48) = true →
    s.quePush q v = if bit v 18 then s else s.bumpBy (Fld.QUE_LOST_lost q) 1) ∧
  (∀ (q : Nat) (items : List QItem) (x : Queue) (s : State), s.que q = x → s.quePacket q = false →
    (x.pkts = [] → (s.quePop q).2 = s ∧ (s.quePop q).1 = 2 ^ 56 * (s.get (Fld.QUE_POPS_pops q) % 256)) ∧
    (x.pkts = [⟨items, false, true, false⟩] → items ≠ [] → ((s.quePop q).2.que q).pkts = [⟨items.drop 3, false, true, false⟩] ∧
      (s.quePop q).1 / 2 ^ 48 % 8 = 2 * Nat.min 3 items.length ∧ (s.quePop q).1 % 2 ^ 16 = (items.headD ⟨0, false⟩).v % 65536)) ∧
  (∀ (n : Fin 8) (ns : Nat) (s : State), s.runs = true →
    let a := s.advance ns
    exec (.fcMinWidthExpiry n ns) s = .next
      { a with fcPin := setAt a.fcPin n.val { nth a.fcPin n.val ⟨false, false⟩ with hold := false } }.settle) ∧
  (∀ (ns : Nat) (s : State), s.loaded = true →
    let a := s.advance ns
    exec (.scrubDrip ns) s = .next (if !a.flag Fld.PAL_SCRUB_CTRL_enable then a
    else
      let from_ := a.get Fld.PAL_SCRUB_STAT_cell
      let live := (tkeys a.cells).filter (fun c => a.groupOn (c / 1024))
      let up := live.filter (fun c => Nat.ble from_ c)
      let down := live.filter (fun c => Nat.blt c from_)
      let cs := (up ++ down).take 8
      let wraps := !cs.isEmpty && (Nat.blt up.length cs.length || (up.length == cs.length && down.isEmpty && Nat.ble live.length 8))
      let last := (cs.getLast?).getD from_
      let u := forEach ((tkeys a.palFlip).filter (fun w => cs.contains (w / 512))) (State.palTouch true) a
      let v := if wraps || (Nat.blt 0 cs.length && Nat.ble cs.length up.length && last == palCells - 1) then
        (u.bump Fld.PAL_SCRUB_STAT_passes).raise (evMem 3) else u
      if cs.isEmpty then v else v.put Fld.PAL_SCRUB_STAT_cell (if last + 1 == palCells then 0 else last + 1)).settlePlan)

/-- REGISTER_WRITE of 4 bytes to a register of one word with no effect of its own, by a requester that passes its check,
with its domain on: RW bits take the value, W1C bits written 1 clear but for those whose condition occurs in the same
cycle (named in `now`), which stay set (of an 8-byte write the same of both words), W1S bits written 1 set, every
other bit stays (stated for the control blocks, whose registers set nothing else going). Of an event status word the
sources that occur are recorded after the write. A write of the low half of a 64-bit register is held; the write of
its high half, by REG64_HIGH_HALF_WRITE or REGISTER_WRITE, makes both take effect. REG64_LOW_HALF_READ answers the low
half and keeps the high half of the same moment for the read of the high half. An 8-byte write of a PCIe function,
denied where either word is, writes a 64-bit register as a whole and two of one word one after the other; an access
off its alignment is R304's, and other requesters have accesses of 4 bytes only (R4 to R7, R304, R471). -/
def Obligations.RegisterAccesses : Prop :=
  (∀ (r : Fin 19) (off : Fin 16777216) (v : Word) (s : State),
    (off.val % 4 ≠ 0 →
      (∀ now : Word64, exec (.registerWrite r off ⟨v, none⟩ now) s =
        .next ((s.misaligned r.val off.val true).occurAll (srcsOf off.val (now.toNat % 2 ^ 32))).settlePlan) ∧
      exec (.reg64HighHalfWrite r off v) s = .next (s.misaligned r.val off.val true).settlePlan ∧
      exec (.reg64LowHalfRead r off) s = .next (s.misaligned r.val off.val false).settle) ∧
    (∀ (hi : Word) (now : Word64), (r.val < 16 → off.val % 8 ≠ 0 → exec (.registerWrite r off ⟨v, some hi⟩ now) s =
        .next ((s.misaligned r.val off.val true).occurAll
          (srcsOf off.val (now.toNat % 2 ^ 32) ++ srcsOf (off.val + 4) (now.toNat / 2 ^ 32))).settlePlan) ∧
      (16 ≤ r.val → exec (.registerWrite r off ⟨v, some hi⟩ now) s = exec (.registerWrite r off ⟨v, none⟩ now) s)) ∧
    exec (.reg64HighHalfWrite r off v) s = exec (.registerWrite r off ⟨v, none⟩ 0) s) ∧
  (∀ (r : Fin 19) (off : Fin 16777216) (v : Word) (row : RegRow) (s : State), inMsix off.val = false → rowOf off.val = some row →
    (∀ now : Word64,
      let lo := now.toNat % 2 ^ 32
      let w := if within off.val (Reg.EVT_STAT 0) 0xC0 then v.toNat else v.toNat - (v.toNat &&& lo &&& row.w1c)
      let after := fun (t : State) => (t.occurAll (srcsOf off.val lo)).settlePlan
      (row.width = .word → off.val % 4 = 0 →
        (∀ t : State, (if off.val < 0x100000 then t.writeCtl r.val off.val w else t.writePix r.val off.val w) = none) →
        exec (.registerWrite r off ⟨v, none⟩ now) s = .next (after (s.busDo r.val off.val w (State.plainWrite off.val w)))) ∧
      (row.width = .low → off.val % 8 = 0 →
        exec (.registerWrite r off ⟨v, none⟩ now) s = .next (after (s.busDo r.val off.val w (fun s =>
          { s with held := tset s.held off.val w }))) ∧
        (∀ hi : Word,
          let h := setWins (off.val + 4) hi.toNat (now.toNat / 2 ^ 32)
          r.val < 16 → s.reqReaches r.val = true → s.denyReason r.val off.val (some w) = none →
          s.denyReason r.val (off.val + 4) (some h) = none → s.domOff off.val = false →
          exec (.registerWrite r off ⟨v, some hi⟩ now) s = .next ((s.write64 off.val (w + 2 ^ 32 * h)).occurAll
            (srcsOf off.val lo ++ srcsOf (off.val + 4) (now.toNat / 2 ^ 32))).settlePlan)) ∧
      (∀ (hi : Word) (row' : RegRow), row.width = .word → off.val % 8 = 0 → rowOf (off.val + 4) = some row' →
          let h := if within (off.val + 4) (Reg.EVT_STAT 0) 0xC0 then hi.toNat
            else hi.toNat - (hi.toNat &&& (now.toNat / 2 ^ 32) &&& row'.w1c)
          r.val < 16 → s.reqReaches r.val = true → s.denyReason r.val off.val (some w) = none →
          s.denyReason r.val (off.val + 4) (some h) = none → s.domOff off.val = false →
          exec (.registerWrite r off ⟨v, some hi⟩ now) s = .next (((s.regWrite r.val off.val w).regWrite r.val
            (off.val + 4) h).occurAll (srcsOf off.val lo ++ srcsOf (off.val + 4) (now.toNat / 2 ^ 32))).settlePlan)) ∧
    (row.width = .low → off.val % 8 = 0 →
      (off.val < 0x620000 ∨ 0x621800 ≤ off.val → exec (.reg64LowHalfRead r off) s = .next (s.sees r.val off.val (s.peek r.val off.val % 2 ^ 32)
        { s with latch := tset s.latch off.val (s.peek r.val (off.val + 4)) }).settle)) ∧
    (row.width = .high → off.val % 4 = 0 →
      exec (.reg64HighHalfWrite r off v) s = .next (s.busDo r.val off.val v.toNat (fun s =>
        { s with held := tdel s.held (off.val - 4) }.write64 (off.val - 4)
          ((tget? s.held (off.val - 4)).getD (s.reg (off.val - 4)).toNat + 2 ^ 32 * v.toNat))).settlePlan)) ∧
  (∀ (off v : Nat) (row : RegRow) (s : State), off < 0x070000 → rowOf off = some row → row.rw < 2 ^ 32 →
    ∃ w : Word, s.plainWrite off v = s.setReg off w ∧ ∀ i < 32, w.getLsbD i =
      (((if row.rw.testBit i then v.testBit i else (s.reg off).getLsbD i) && !(row.w1c.testBit i && v.testBit i)) ||
        (row.w1s.testBit i && v.testBit i)))

/-- TXE_DOORBELL: of a pour channel counted as refused; of an idle, waiting or stalled one it fetches anew with 16
retries; during a fetch it is remembered. While an image is loaded: the retry timer of a channel that waits fetches
again, 16 times at most. A fetch that ends: of a channel that turned pour channel meanwhile it has no effect; asked
for again meanwhile it is issued again; owned (bit 0) with the generation expected (bits 15..8) and its function
reachable, the descriptor is taken and its refusal code decides whether it runs (held at once where a pause or drain
is in force) or waits for its write-back; else it waits for a retry, and after the 16th it stalls with its error
event. TXE_UNKNOWN_OP writes a refused descriptor back with its code; the end of a flush read writes back, with 12H in
place of 0 where it failed. Unsupported Requests and timeouts are counted with their events. A fetch or flush not
outstanding takes none of these (R315, R343, R349 to R351). -/
def Obligations.TransferRings : Prop :=
  (∀ (r : Fin 19) (c : Fin 128) (s : State), exec (.txeDoorbell r c) s = .next (s.busDo r.val (Reg.TXE_DB c.val) 0 (fun s =>
    let x := s.txeCh c.val
    if s.pourCh c.val then s.bump (Fld.TXE_CNT_refused c.val)
    else match x.phase with
      | .idle | .retry | .stalled => (s.setTxe c.val { x with tries := 0 }).txeFetch c.val
      | .fetching => s.setTxe c.val { x with again := true, tries := 0 }
      | _ => s)).settle) ∧
  (∀ (c : Fin 128) (ns : Nat) (s : State), s.loaded = true →
    let a := s.advance ns
    let x := a.txeCh c.val
    exec (.txeRetryTimer c ns) s = .next
      (if x.phase == .retry && Nat.blt x.tries 16 then (a.setTxe c.val { x with tries := x.tries + 1 }).txeFetch c.val else a).settlePlan ∧
    exec (.txeUnknownOp c ns) s = .next (if x.phase == .refused then a.txeWriteBack c.val x.code 0 else a).settlePlan ∧
    (x.phase ≠ .fetching → (∀ res, exec (.txeDescriptorFetch c res ns) s = .next a.settlePlan) ∧
      exec (.completionTimeout (.txeFetch c) ns) s = .next a.settlePlan) ∧
    (x.phase ≠ .flushing → (∀ res, exec (.txeFlushComplete c res ns) s = .next a.settlePlan) ∧
      exec (.completionTimeout (.txeFlush c) ns) s = .next a.settlePlan) ∧
    (x.phase = .fetching →
      let ends := fun (bytes : Option (List Nat)) (s0 : State) =>
        let u := s0.readEnd false (s0.txeFn c.val) (s0.txeDescAt c.val) 32
        if u.pourCh c.val then u.setTxe c.val { x with phase := .idle, again := false }
        else if x.again then (u.setTxe c.val { x with again := false }).txeFetch c.val
        else
          let b := bytes.getD []
          let d : TxeDesc := ⟨leAt b 0 4, leAt b 4 4, leAt b 8 8, leAt b 16 8⟩
          if bytes.isSome && u.fnOk (u.txeFn c.val) && bit d.w0 0 && bits d.w0 15 8 == u.txeGen c.val then
            let y := { x with desc := some d, pos := 0, moved := 0, drip := false, code := u.txeRefusal c.val d, result := 0, tries := 0, paused := false }
            if u.txeRefusal c.val d == 0 then (((u.setTxe c.val y).txePos c.val).txeBegin c.val).txeHold c.val
            else u.setTxe c.val { y with phase := .refused }
          else if x.tries == 16 then (u.setTxe c.val { x with phase := .stalled }).raise (evTxe c.val 1)
          else u.setTxe c.val { x with phase := .retry }
      (∀ b, exec (.txeDescriptorFetch c (.data b) ns) s = .next (ends (some (b.map BitVec.toNat)) a).settlePlan) ∧
      (∀ w, exec (.txeDescriptorFetch c (.bufferError w) ns) s = .next (ends none (a.palUncorr w.val false)).settlePlan) ∧
      exec (.txeDescriptorFetch c .poisoned ns) s = .next (ends none a).settlePlan ∧
      exec (.txeDescriptorFetch c .untranslated ns) s = .next (ends none a).settlePlan ∧
      exec (.txeDescriptorFetch c .unsupported ns) s = .next (ends none ((a.bump Fld.HL_ERR_ur_ca).raise (evHl 7))).settlePlan ∧
      exec (.completionTimeout (.txeFetch c) ns) s = .next (ends none ((a.bump Fld.HL_ERR_cto).raise (evHl 6))).settlePlan) ∧
    (x.phase = .flushing →
      let ends := fun (ok : Bool) (s0 : State) => (s0.txeFlushEnds c.val).txeWriteBack c.val
        (if x.code == 0 && !ok then 0x12 else x.code) x.result
      (∀ b, exec (.txeFlushComplete c (.data b) ns) s = .next (ends true a).settlePlan) ∧
      (∀ w, exec (.txeFlushComplete c (.bufferError w) ns) s = .next (ends false (a.palUncorr w.val false)).settlePlan) ∧
      exec (.txeFlushComplete c .poisoned ns) s = .next (ends false a).settlePlan ∧
      exec (.txeFlushComplete c .untranslated ns) s = .next (ends false a).settlePlan ∧
      exec (.txeFlushComplete c .unsupported ns) s = .next (ends false ((a.bump Fld.HL_ERR_ur_ca).raise (evHl 7))).settlePlan ∧
      exec (.completionTimeout (.txeFlush c) ns) s = .next (ends false ((a.bump Fld.HL_ERR_cto).raise (evHl 6))).settlePlan)) ∧
  (∀ (c : Nat) (d : TxeDesc) (s : State), s.txeRefusal c d = 0 →
    d.len ≠ 0 ∧ d.len % 4 = 0 ∧ d.len ≤ 0x10000000 ∧ d.dst % 4 = 0 ∧ bits d.w0 3 1 ≤ 3 ∧ bits d.w0 7 6 = 0 ∧
    (bit d.w0 5 = true → bits d.w0 3 1 ≠ 1 → d.src + d.len ≤ 96 * 2 ^ 20 ∧
      s.mayRead (Reg.GRD_WIN 44) (s.reqDomain (s.txeFn c)) = true) ∧
    (bits d.w0 3 1 = 3 → s.mayWrite (Reg.GRD_CHK (bits d.w0 19 16)) (s.reqDomain (s.txeFn c)) = true))

/-- While an image is loaded and channel c has the read engine with a descriptor of the operation. TXE_COPY and
TXE_CHECK_FED_COPY take the bytes that came, whole words, at most 32 KiB and what is left, into the channel's buffer
cells, or corrected words of the palette; TXE_FILL takes the fill word; TXE_COMPARE of two reads that came finds 1 and
the position of the first word that differs. A failed read gives 10H, a compare's other side 11H, a failed translation
of either side 13H, an uncorrected word 14H (one of the buffer, which the completion names, recorded as palette words
are), and nothing moves. A channel without the turn does nothing. TXE_DRIP_BOUNDARY of the channel whose drip the
write engine has in hand writes it, feeds the check, moves the position and registers, ends the descriptor where it
has come to its end or a code stands, and both engines pick their next drip; an uncorrected buffer word writes
nothing. DRIP_TIME_LIMIT passes the turn on. Pause, unpause, resume and abort write TXE_c_CTRL; an abort ends a paused
descriptor with 23H. TXE_UNIT_AVAILABLE starts a copy that waits for its unit (R341, R345 to R356). That both engines
go one drip a command is the model's, log 8. -/
def Obligations.TransferDrips : Prop :=
  (∀ (c : Fin 128) (ns : Nat) (d : TxeDesc) (s : State), s.loaded = true →
    let a := s.advance ns
    let x := a.txeCh c.val
    x.desc = some d →
    (a.txeNow ≠ some c.val → (∀ res ok, exec (.txeCopy c res ok ns) s = .next a.settlePlan ∧
      exec (.txeCheckFedCopy c res ok ns) s = .next a.settlePlan) ∧ (∀ ok, exec (.txeFill c ok ns) s = .next a.settlePlan) ∧
      (∀ x y, exec (.txeCompare c x y ns) s = .next a.settlePlan) ∧ exec (.dripTimeLimit c ns) s = .next a.settlePlan) ∧
    (a.txeNow = some c.val →
      let cap := Nat.min 32768 (d.len - x.pos)
      (bit d.w0 5 = false → bits d.w0 3 1 = 0 →
        (∀ bytes : List Byte,
          let b := (bytes.map BitVec.toNat).take (Nat.min cap (bytes.length / 4 * 4))
          b ≠ [] → exec (.txeCopy c (.data bytes) true ns) s = .next
            ((a.txeReadTags c.val d b.length).txeMoved c.val b.length 0 0 b).settlePlan ∧
          exec (.txeCopy c (.data bytes) false ns) s = .next (a.txeMoved c.val 0 0x13 0 []).settlePlan) ∧
        (∀ ok, exec (.txeCopy c .unsupported ok ns) s = .next
          (((a.bump Fld.HL_ERR_ur_ca).raise (evHl 7)).txeDrip 0 c.val .failed ok).settlePlan) ∧
        exec (.txeCopy c .poisoned true ns) s = .next (a.txeMoved c.val 0 0x10 0 []).settlePlan ∧
        (∀ ok, exec (.txeCopy c .untranslated ok ns) s = .next (a.txeMoved c.val 0 0x13 0 []).settlePlan) ∧
        (∀ w ok, exec (.txeCopy c (.bufferError w) ok ns) s = .next ((a.palUncorr w.val false).txeDrip 0 c.val .bufErr ok).settlePlan) ∧
        exec (.completionTimeout (.txeData c) ns) s = .next (((a.bump Fld.HL_ERR_cto).raise (evHl 6)).txeDrip 0 c.val .failed true).settlePlan) ∧
      (bit d.w0 5 = false → bits d.w0 3 1 = 3 → ∀ bytes : List Byte,
        let b := (bytes.map BitVec.toNat).take (Nat.min cap (bytes.length / 4 * 4))
        b ≠ [] → exec (.txeCheckFedCopy c (.data bytes) true ns) s = .next
          ((a.txeReadTags c.val d b.length).txeMoved c.val b.length 0 0 b).settlePlan) ∧
      (bit d.w0 5 = true → bits d.w0 3 1 = 0 → 4 ≤ cap →
        let p := a.txePal (d.src + x.pos) cap
        exec (.txeCopy c (.data []) true ns) s = .next (if p.2 then (a.txeTouch x d (d.len - x.pos)).txeMoved c.val 0 0x14 0 []
          else ((a.txeTouch x d p.1.length).txeReadTags c.val d p.1.length).txeMoved c.val p.1.length 0 0 p.1).settlePlan) ∧
      (bits d.w0 3 1 = 1 → 4 ≤ cap →
        let b := (List.range (cap / 4)).flatMap (fun _ => leBytes 4 d.src)
        exec (.txeFill c true ns) s = .next (a.txeMoved c.val b.length 0 0 b).settlePlan ∧
        exec (.txeFill c false ns) s = .next (a.txeMoved c.val 0 0x13 0 []).settlePlan) ∧
      (bit d.w0 5 = false → bits d.w0 3 1 = 2 →
        (∀ p q : List Byte,
          let u := (p.map BitVec.toNat).take (Nat.min cap (p.length / 4 * 4))
          let n := Nat.min u.length (q.length / 4 * 4)
          n ≠ 0 → exec (.txeCompare c (.data p) (.data q) ns) s = .next
            (match firstDiff (u.take n) ((q.map BitVec.toNat).take n) with
            | some i => (a.txeReadTags c.val d n).txeMoved c.val n 1 (x.pos + 4 * i) []
            | none => (a.txeReadTags c.val d n).txeMoved c.val n 0 0 []).settlePlan) ∧
        (∀ q, exec (.txeCompare c .poisoned (.data q) ns) s = .next (a.txeMoved c.val 0 0x10 0 []).settlePlan) ∧
        (∀ p, exec (.txeCompare c (.data p) .poisoned ns) s = .next (a.txeMoved c.val 0 0x11 0 []).settlePlan)) ∧
      exec (.dripTimeLimit c ns) s = .next
        { a with txeLast := c.val, txePick := { a with txeLast := c.val, txePick := none }.txeNow }.settlePlan) ∧
    (let u := a.writeNext
    exec (.txeDripBoundary c ns) s = .next (if u.pour.hand ≠ some c.val then a
      else
        let v := { u with pour := { u.pour with hand := none } }
        let w := (if thas v.pour.jobs c.val then v.pourDrip c.val else v.txeSoft c.val).writeNext
        { w with txePick := w.txeNow }).settlePlan) ∧
    exec (.txeUnitAvailable c ns) s = .next
      (if x.phase == .waitUnit && !x.paused && !x.drained then a.txeBegin c.val else a).settlePlan) ∧
  (∀ (c op : Nat) (d : TxeDesc) (s : State), (s.txeCh c).desc = some d → s.txeNow = some c → bits d.w0 3 1 = op → op ≠ 1 →
    bit d.w0 5 = false → s.txeDrip op c .failed true = s.txeMoved c 0 0x10 0 [] ∧ s.txeDrip op c .bufErr true = s.txeMoved c 0 0x14 0 [] ∧
      (∀ rd, rd = .failed ∨ rd = .bufErr → s.txeDrip op c rd false = s.txeMoved c 0 0x13 0 [])) ∧
  (∀ (c n code result : Nat) (b : List Nat) (s : State),
    let t := { s.setTxe c { s.txeCh c with drip := true, moved := n, code := code, result := result, buf := b } with txeLast := c, txePick := none }
    s.txeMoved c n code result b = if (s.txeCh c).desc.any (fun d => bits d.w0 3 1 == 1) then t
      else (t.palFixed 1 (txeCells c n) true).peak Fld.TXE_BUF_peak (t.palFixed 1 (txeCells c n) true).txeLive) ∧
  (∀ (c : Nat) (d : TxeDesc) (s0 : State), (s0.txeCh c).desc = some d →
    let op := bits d.w0 3 1
    let s := s0.txeWrite c d
    let x := s.txeCh c
    let u := ({ s with pour := { s.pour with last := c } }.setTxe c
      { x with pos := x.pos + x.moved, moved := 0, drip := false, buf := [] }).txePos c
    s0.txeSoft c = if x.reset then u.txeKill c
      else if x.code == 1 then u.txeEnd c 1 x.result
      else if !(x.code == 0) then u.txeEnd c x.code x.pos
      else if x.pos + x.moved == d.len then u.txeEnd c 0
        (if op == 2 then 0xFFFFFFFF else if op == 3 then u.get (Fld.CHK_RUN_value (bits d.w0 19 16)) else x.pos + x.moved)
      else u.txeHold c) ∧
  (∀ (c : Nat) (d : TxeDesc) (s : State),
    let x := s.txeCh c
    let op := bits d.w0 3 1
    let u := s.bufFree c x.moved
    (x.reset = true → op ≠ 1 → s.txeWrite c d = u) ∧
    (x.reset = false → op ≠ 1 → s.bufBad c x.moved ≠ [] → s.txeWrite c d = u.setTxe c { x with code := 0x14, result := 0, moved := 0 }) ∧
    (x.reset = false → op ≠ 1 → s.bufBad c x.moved = [] → s.txeWrite c d =
      if op == 2 || !(x.code == 0) then u
      else if op == 3 then (u.hostPut (u.txeFn c) (d.dst + x.pos) false x.buf).chkBytes (bits d.w0 19 16) x.buf
      else u.hostPut (u.txeFn c) (d.dst + x.pos) false x.buf) ∧
    (op = 1 → s.txeWrite c d = if x.reset || !(x.code == 0) then s else s.hostPut (s.txeFn c) (d.dst + x.pos) false x.buf)) ∧
  (∀ (r : Fin 19) (c : Fin 128) (s : State),
    let set_ := fun (m : Nat) => (s.reg (Reg.TXE_CTRL c.val)).toNat ||| m
    let ctrl := fun (v : Nat) => (s.busDo r.val (Reg.TXE_CTRL c.val) v (State.txeCtrl c.val v)).settle
    exec (.txePause r c) s = .next (ctrl (set_ 1)) ∧ exec (.txeUnpause r c) s = .next (ctrl 0) ∧
    exec (.txeResume r c) s = .next (ctrl (set_ 2)) ∧ exec (.txeAbort r c) s = .next (ctrl (set_ 4))) ∧
  (∀ (c : Nat) (s : State), s.pourCh c = false →
    let x := s.txeCh c
    (s.flag (Fld.TXE_CTRL_pause c) = true → s.txeCtrl c 1 = s) ∧
    (s.flag (Fld.TXE_CTRL_pause c) = false → s.txeCtrl c 1 = (let u := s.put (Fld.TXE_CTRL_pause c) 1
      (u.setTxe c (u.txeCh c)).txeHold c)) ∧
    (s.flag (Fld.TXE_CTRL_pause c) = true → s.txeCtrl c 0 = (let u := s.put (Fld.TXE_CTRL_pause c) 0
      (u.setTxe c { u.txeCh c with paused := false }).txeGo c)) ∧
    (s.flag (Fld.TXE_CTRL_pause c) = false → x.drained = true → x.drain = false →
      s.txeCtrl c 2 = (s.setTxe c { x with drained := false }).txeGo c) ∧
    (s.flag (Fld.TXE_CTRL_pause c) = true → x.phase = .running → x.drip = false → x.paused = true →
      s.txeCtrl c 5 = s.txeEnd c 0x23 x.pos)) ∧
  (∀ (c : Nat) (s : State), let x := s.txeCh c
    let soft := s.flag (Fld.TXE_CTRL_pause c) && !s.pourCh c
    (soft || x.drain) = true → (x.phase = .running ∨ x.phase = .waitUnit) → x.drip = false →
    let held := { x with paused := x.paused || soft, drained := x.drained || x.drain, unit := false, saved := x.saved || x.unit }
    (x.unit = false → s.txeHold c = s.setTxe c held) ∧
    (∀ d, x.unit = true → x.desc = some d → s.txeHold c = ((s.put (Fld.TXE_CRC_value c)
      (s.get (Fld.CHK_RUN_value (bits d.w0 19 16)))).chkFree (bits d.w0 19 16)).setTxe c held))

/-- CAN_FRAME_RECEIVED of a kind that the mode of the controller, enabled and not bus off, its domain neither fenced nor
under BIST, takes (up to it, log 176): the lowest message definition that matches takes it; too short it raises
EV_SIG_SHORT; else its reception is recorded, its signals take their values, and it is queued where the definition
says so; one with wake ends Standby with EV_SIG_WAKE. A message timeout is signalled once. A frame of a TX period is
formed with its alive counter and sent with its kind where it wins, on a controller that sends that kind; one unsent
at the next period raises EV_SIG_TX. Bus off sets state 2 and the transmit count 255, counted, with CAN_TXD recessive;
recovery clears it and the error counts; a new error count shows, passive above 127 of either, its event once, active
again below (log 177). A GPIO edge of an input sets its level, raises EV_SIG_GPIO for an edge asked for, and wakes.
SIGNAL_BIND of a frame not yet bound, at or after its midpoint, takes the values there, and what waited for it goes
on; frames received in the same cycle as a binding or sending come first (R359 to R371, R386). -/
def Obligations.VehicleInputs : Prop :=
  (∀ (ns : Nat) (s : State), s.loaded = true →
    let a := s.advance ns
    (∀ (c : Fin 4) (kind : Fin 4) (ext : Bool) (ident : Fin 536870912) (bytes : List Byte),
      let bs := bytes.map BitVec.toNat
      (a.canTakes c.val kind.val = false ∨ a.msgOf c.val kind.val ext ident.val = none →
        exec (.canFrameReceived c kind ext ident bytes ns) s = .next a.settlePlan) ∧
      (a.canTakes c.val kind.val = (a.canOn c.val && Nat.ble kind.val (a.get (Fld.SIG_CAN_CFG_mode c.val)) && Nat.blt kind.val 3)) ∧
      (∀ m, a.canTakes c.val kind.val = true → a.msgOf c.val kind.val ext ident.val = some m →
        exec (.canFrameReceived c kind ext ident bytes ns) s = .next
          (let long := Nat.ble (a.get (Fld.SIG_MSG_CFG_min_len m)) (bs.take 64).length
          let b := { a with sig := { a.sig with msgs := tset a.sig.msgs m ⟨a.tm.loc, false⟩ } }
          let ks := (List.range 256).filter (fun k => a.flag (Fld.SIG_DEF_POS_enable k) && a.get (Fld.SIG_DEF_POS_msg k) == m)
          let t := forEach ks (State.sigTake (bs.take 64)) b
          let u := if !long then a.raise (evSig 9)
            else if a.flag (Fld.SIG_MSG_CFG_q_en m) then
              t.quePacketIn (a.get (Fld.SIG_MSG_CFG_queue m)) (frameItems m c.val kind.val ident.val (bs.take 64))
            else t
          if a.phase == .standby && a.flag (Fld.SIG_MSG_CFG_wake m) && long then u.wake.raise (evSig 12) else u).settlePlan)) ∧
    (∀ m : Fin 64, exec (.canMessageTimeout m ns) s = .next
      (let x := tget a.sig.msgs m.val ⟨0, false⟩
      if a.flag (Fld.SIG_MSG_ID_enable m.val) && !(a.get (Fld.SIG_MSG_CFG_timeout m.val) == 0) && !x.late then
        { a with sig := { a.sig with msgs := tset a.sig.msgs m.val { x with late := true } } }.raise (evSig 8) else a).settlePlan) ∧
    (∀ (j : Fin 16) (wins : Bool) (came : List CanFrame), let b := a.cansCame came
      exec (.canTxPeriod j ⟨wins, came⟩ ns) s = .next
      (if !(b.loaded && b.flag (Fld.SIG_TX_ID_enable j.val)) || b.domHurt 146 then b
      else
        let x := tget b.sig.tx j.val ⟨0, false⟩
        let u := b.raiseIf x.unsent (evSig 11)
        let c := u.get (Fld.SIG_TX_CFG_ctrl j.val)
        let kind := u.get (Fld.SIG_TX_CFG_kind j.val)
        let ok := wins && u.flag (Fld.SIG_CAN_CFG_enable c) && !u.flag (Fld.SIG_CAN_CFG_listen c) &&
          !(u.get (Fld.SIG_CAN_STAT_state c) == 2) && Nat.ble kind (u.get (Fld.SIG_CAN_CFG_mode c))
        let v := { u.draw with sig := { u.sig with tx := tset u.sig.tx j.val ⟨x.alive + 1, !ok⟩ } }
        if ok then v.emit (.can c kind (u.get (Fld.SIG_TX_ID_id j.val)) (u.flag (Fld.SIG_TX_ID_ext j.val)) (u.txPayload j.val x.alive))
        else v).settlePlan) ∧
    (∀ c : Fin 4, exec (.canBusOff c ns) s = .next
      (if !a.canOn c.val then a
      else ((((a.put (Fld.SIG_CAN_STAT_state c.val) 2).put (Fld.SIG_CAN_STAT_tec c.val) 255).bump (Fld.SIG_CAN_STAT_busoffs c.val)).emit (.pin (.canTxd c.val) true)).raise
        (evSig c.val)).settlePlan) ∧
    (∀ c : Fin 4, exec (.canBusoffRecovery c ns) s = .next
      (if a.flag (Fld.SIG_CAN_CFG_enable c.val) && a.get (Fld.SIG_CAN_STAT_state c.val) == 2 then
        ((a.put (Fld.SIG_CAN_STAT_state c.val) 0).put (Fld.SIG_CAN_STAT_rec c.val) 0).put (Fld.SIG_CAN_STAT_tec c.val) 0
      else a).settlePlan) ∧
    (∀ (c : Fin 4) (rc tc : Fin 256), exec (.canErrorPassive c rc tc ns) s = .next
      (if !a.canOn c.val then a
      else
        let passive := Nat.blt 127 rc.val || Nat.blt 127 tc.val
        (((a.put (Fld.SIG_CAN_STAT_rec c.val) rc.val).put (Fld.SIG_CAN_STAT_tec c.val) tc.val).put
        (Fld.SIG_CAN_STAT_state c.val) (b2n passive)).raiseIf (passive && !(a.get (Fld.SIG_CAN_STAT_state c.val) == 1)) (evSig (4 + c.val))).settlePlan) ∧
    (∀ (n : Fin 32) (high : Bool), exec (.gpioEdge n high ns) s = .next
      (let u := if a.domHurt 146 || (a.gpioWant n.val).isSome then a
        else (a.put ⟨Reg.SIG_GPIO_LVL, n.val, n.val⟩ (b2n high)).raiseIf (a.gpioEdgeOn n.val high) (evSig 13)
      if a.phase == .standby && a.gpioWakes n.val high then u.wake.raise (evSig 12) else u).settlePlan) ∧
    (∀ (st : Fin 32) (num : Fin 4294967296) (came : List CanFrame), exec (.signalBind st ⟨num, came⟩ ns) s = .next
      (let c := a.cansCame came
      let b := c.sigBind st.val num.val
      if (c.frame st.val num.val).any (fun f => !f.sigBound) && (b.frame st.val num.val).any (fun f => f.sigBound && !f.isOpen) &&
          b.workDone st.val num.val then ((b.csoSend st.val num.val 5).mirror st.val num.val 5).pourAll st.val
      else b).settlePlan)) ∧
  (∀ (st : Fin 32) (num : Fin 4294967296) (a : State), a.sigBind st.val num.val =
      (match a.frame st.val num.val with
      | none => a
      | some f =>
        if f.sigBound || !((a.sigs (fun _ => true)).isEmpty || decide (a.midpoint f ≤ (a.now : Int))) then a
        else
          let m := a.midpoint f
          let on := a.sigs (fun _ => true)
          let mine := on.filter (fun k => a.get (Fld.SIG_DEF_ROUTE_stream k) == st.val)
          let lost := on.any (fun k => (a.sigAt k m).1 == 4 &&
            (a.flag (Fld.SIG_DEF_ROUTE_meta_en k) || a.get (Fld.SIG_DEF_ROUTE_stream k) == st.val))
          let meta_ := (on.filter (fun k => a.flag (Fld.SIG_DEF_ROUTE_meta_en k))).map (fun k => sigEntry k (a.sigAt k m).1 (a.sigAt k m).2)
          let input := fun (i : Nat) => (mine.find? (fun k => a.get (Fld.SIG_DEF_ROUTE_law k) == i + 1)).map (fun k => intOf (a.sigAt k m).2)
          let newest := !a.frames.any (fun (g : Frame) => g.st == st.val && g.sigBound && Nat.blt 0 (sub32 g.num num.val) && serGE g.num num.val)
          let u := (a.modFrame st.val num.val (fun f => { f with sigs := meta_, inputs := [input 0, input 1], sigBound := true })).raiseIf lost (evSig 10)
          if !newest then u
          else
            let v := forEach (mine.filter (fun k => a.flag (Fld.SIG_DEF_ROUTE_gpio_en k))) (fun k (w : State) =>
              { w with sig := { w.sig with gpioSig := (putBits w.sig.gpioSig (w.get (Fld.SIG_DEF_ROUTE_gpio k))
                (w.get (Fld.SIG_DEF_ROUTE_gpio k)) (b2n (!(intOf (u.sigAt k m).2 == 0)))) } }) u
            forEach (mine.filter (fun k => a.flag (Fld.SIG_DEF_ROUTE_swr_en k))) (fun k (w : State) =>
              w.swrGo k (intOf (u.sigAt k m).2)) v))

/-- GLUE_READ and GLUE_WRITE: go on a disabled or stuck bus ends at once with 3; else the transfer goes out, a bus clear
before the first one, and done gives 0 (a read's bytes in SIG_GM_n_XDATA), not acknowledged 1, a lost arbitration
waits for BACKOFF_TIMER, which sends it again, the ninth loss gives 2, and a clock stretched too long aborts it with a
bus clear (its result code is open, log 178; left low the bus is stuck, and BUS_CLEAR_RETRY clears it again), with
EV_SIG_GM and, on failure, EV_SIG_GM_ERR. The SPI target, with an image loaded and its domain neither fenced nor under
BIST, answers every frame with the outcome of the command before: one of other than 16 bytes or a wrong CRC is counted
with EV_SIG_SPI_CRC, a command while one is in progress is dropped with EV_SIG_SPI_DROP; a read or write acts as
requester 16's, denied with status 2; a wake wakes as WAKE_COMMAND does; an unknown command has status 4. Otherwise it
does not answer. The I2C target does the same for its own address as requester 17, and a wrong CRC is not
acknowledged, counted with EV_SIG_I2CT. SAFETY_CYCLE steps the alive counter (R372 to R376). -/
def Obligations.GlueAndTargets : Prop :=
  (∀ (r : Fin 19) (n : Fin 2) (w : Word) (res : GlueRes) (low : Bool) (s : State),
    exec (.glueRead r n w res low) s = .next ((s.busDo r.val (Reg.SIG_GM_XFER n.val) (w.toNat % 2 ^ 30 + 0xC0000000)
      (State.glueGo n.val (w.toNat % 2 ^ 30 + 0xC0000000))).glueEnd n.val res low).settle ∧
    exec (.glueWrite r n w res low) s = .next ((s.busDo r.val (Reg.SIG_GM_XFER n.val) (w.toNat % 2 ^ 30 + 0x80000000)
      (State.glueGo n.val (w.toNat % 2 ^ 30 + 0x80000000))).glueEnd n.val res low).settle) ∧
  (∀ (n : Nat) (x : GlueX) (s : State), tget? s.sig.gm n = some x → x.waiting = false →
    let fin := fun (code : Nat) (u : State) => (((({ u with sig := { u.sig with gm := tdel u.sig.gm n } }).put
      (Fld.SIG_GM_XFER_go n) 0).put (Fld.SIG_GM_XFER_result n) code).raiseIf (!(code == 0)) (evSig 15)).raise (evSig 14)
    (∀ low, s.glueEnd n .nack low = fin 1 s) ∧
    (∀ (b : List Byte) low, s.glueEnd n (.done b) low = fin 0 (if x.rd then s.setReg (Reg.SIG_GM_XDATA n)
      (BitVec.ofNat 32 (leVal ((b.map BitVec.toNat).take x.width))) else s)) ∧
    (∀ low, s.glueEnd n .lost low = if Nat.ble 8 x.losses then fin 2 s
      else { s with sig := { s.sig with gm := tset s.sig.gm n { x with losses := x.losses + 1, waiting := true } } }) ∧
    (∀ low, s.glueEnd n .stretched low = fin (1 + Config.openVal s.free 372 % 3)
      ((if low then { s with sig := { s.sig with stuck := s.sig.stuck ||| (1 <<< n) } } else s).draw.emit (.glueClear n)))) ∧
  (∀ (n : Fin 2) (res : GlueRes) (low : Bool) (ns : Nat) (s : State), s.loaded = true →
    let a := s.advance ns
    exec (.backoffTimer (.glue n res low) ns) s = .next (match tget? a.sig.gm n.val with
      | none => a
      | some x =>
        if !x.waiting then a
        else ({ a with sig := { a.sig with gm := tset a.sig.gm n.val { x with waiting := false } } }.emit
          (.glue n.val x.addr x.rd x.two x.reg x.data)).glueEnd n.val res low).settlePlan) ∧
  (∀ (n v : Nat) (s : State), s.domHurt 146 = true → s.glueGo n v = s) ∧
  (∀ (n v : Nat) (s : State), s.domHurt 146 = false → bit v 31 = true → bit (s.reg (Reg.SIG_GM_XFER n)).toNat 31 = false →
    let u := s.setReg (Reg.SIG_GM_XFER n)
      (BitVec.ofNat 32 ((v &&& 0x4EFEFFFF) ||| ((s.reg (Reg.SIG_GM_XFER n)).toNat &&& 0xB0000000)))
    (u.flag (Fld.SIG_GM_CFG_enable n) = false ∨ bit u.sig.stuck n = true → s.glueGo n v = u.glueFin n 3) ∧
    (u.flag (Fld.SIG_GM_CFG_enable n) = true → bit u.sig.stuck n = false →
      let w := u.get (Fld.SIG_GM_XFER_width n) + 1
      let rd := u.flag (Fld.SIG_GM_XFER_rd n)
      let c := if bit u.sig.gmClear n then u
        else { u with sig := { u.sig with gmClear := u.sig.gmClear ||| (1 <<< n) } }.emit (.glueClear n)
      s.glueGo n v = (({ c with sig := { c.sig with gm := tset c.sig.gm n ⟨u.get (Fld.SIG_GM_XFER_addr n), rd, u.flag (Fld.SIG_GM_XFER_reg2 n),
        u.get (Fld.SIG_GM_XFER_reg n), w, if rd then [] else leBytes w (u.reg (Reg.SIG_GM_XDATA n)).toNat, 0, false⟩ } }).put (Fld.SIG_GM_XFER_go n) 1).emit
        (.glue n (u.get (Fld.SIG_GM_XFER_addr n)) rd (u.flag (Fld.SIG_GM_XFER_reg2 n)) (u.get (Fld.SIG_GM_XFER_reg n))
          (if rd then [] else leBytes w (u.reg (Reg.SIG_GM_XDATA n)).toNat)))) ∧
  (∀ (n : Fin 2) (q : Fin 26) (low : Bool) (ns : Nat) (s : State), s.loaded = true → q.val = 24 + n.val →
    let a := s.advance ns
    exec (.busClearRetry q low ns) s = .next (if !bit a.sig.stuck n.val then a
      else (if low then a else { a with sig := { a.sig with stuck := putBits a.sig.stuck n.val n.val 0 } }).emit
        (.glueClear n.val)).settlePlan) ∧
  (∀ (ns : Nat) (s : State), s.runs = true →
    let a := s.advance ns
    let whole := fun (used : List Nat) (sdi : SdiEnd) =>
      let b := used ++ sdi.rest.map BitVec.toNat ++ [sdi.crc.toNat]
      b.length == 16 && crc8j (b.take 15) == sdi.crc.toNat
    let framed := fun (used : List Nat) (sdi : SdiEnd) (busy : Bool) (t : Nat × Nat × State → State) (g : State → Nat × Nat × State) =>
      let u := a.emit (.spi (a.spiAnswer busy))
      let x := u.sig.spi
      if !(a.loaded && !a.domHurt 146) then a
      else if !whole used sdi then (({ u with sig := { u.sig with spi := { x with crcBad := true, drop := false } } }).bump Fld.SIG_SPIT_STAT_crc_err).raise (evSig 16)
      else if busy then (({ u with sig := { u.sig with spi := { x with crcBad := false, drop := true } } }).bump Fld.SIG_SPIT_STAT_dropped).raise (evSig 17)
      else t (g u)
    let keep := fun (seq : Nat) (e : Nat × Nat × State) => { e.2.2 with sig := { e.2.2.sig with spi := ⟨e.1, seq, e.2.1, false, false⟩ } }
    (∀ (seq : Fin 256) (off : Fin 16777216) (sdi : SdiEnd) (busy : Bool), exec (.spiCmdRead seq off sdi busy ns) s = .next
      (framed (1 :: seq.val :: beBytes 3 off.val) sdi busy (keep seq.val) (State.tgtRead 16 off.val)).settle) ∧
    (∀ (seq : Fin 256) (off : Fin 16777216) (d : WriteWord) (sdi : SdiEnd) (busy : Bool),
      exec (.spiCmdWrite seq off d sdi busy ns) s = .next (framed (2 :: seq.val :: (beBytes 3 off.val ++ beBytes 4 d.v.toNat)) sdi busy
        (keep seq.val) (State.tgtWrite 16 off.val d.v.toNat d.now.toNat)).settle) ∧
    (∀ (seq : Fin 256) (sdi : SdiEnd) (busy : Bool), exec (.spiCmdWake seq sdi busy ns) s = .next
      (framed [3, seq.val] sdi busy (keep seq.val) (fun u => (0, Config.openVal u.free 373 % 2 ^ 32, (u.wakeCmd 16).draw))).settle) ∧
    (∀ (cmd seq : Fin 256) (sdi : SdiEnd) (busy : Bool),
      exec (.spiUnknownCommand cmd seq sdi busy ns) s = .next
        (a.spiFrame ([cmd.val, seq.val] ++ sdi.rest.map BitVec.toNat ++ [sdi.crc.toNat]) 0 busy).settle ∧
      (4 ≤ cmd.val → exec (.spiUnknownCommand cmd seq sdi busy ns) s = .next (framed [cmd.val, seq.val] sdi busy (keep seq.val)
        (fun u => (4, Config.openVal u.free 373 % 2 ^ 32, u.draw))).settle)) ∧
    (∀ (sdi : SdiEnd) (busy : Bool), exec (.spiCmdNone sdi busy ns) s = .next
      (if !(a.loaded && !a.domHurt 146) then a
      else
        let u := a.emit (.spi (a.spiAnswer busy))
        if !whole [0] sdi then (({ u with sig := { u.sig with spi := { u.sig.spi with crcBad := true, drop := false } } }).bump
          Fld.SIG_SPIT_STAT_crc_err).raise (evSig 16)
        else { u with sig := { u.sig with spi := { u.sig.spi with crcBad := false, drop := false } } }).settle) ∧
    (∀ (addr : Fin 128) (off : Fin 16777216) (d : WriteWord) (crc : Byte),
      let bad := ((a.bump Fld.SIG_I2CT_CFG_errors).raise (evSig 18)).emit .i2ctNack
      exec (.i2ctWrite addr off d crc ns) s = .next
        (if !a.i2ctOn addr.val then a
        else if crc8j ((2 * addr.val) :: (beBytes 3 off.val ++ beBytes 4 d.v.toNat)) ≠ crc.toNat then bad
        else (a.tgtWrite 17 off.val d.v.toNat d.now.toNat).2.2).settle ∧
      exec (.i2ctRead addr off crc ns) s = .next
        (if !a.i2ctOn addr.val then a
        else if crc8j ((2 * addr.val) :: beBytes 3 off.val) ≠ crc.toNat then bad
        else
        let e := a.tgtRead 17 off.val
        let head := (2 * addr.val) :: beBytes 3 off.val
        e.2.2.emit (.i2ct (beBytes 4 e.2.1 ++ [crc8j (head ++ [crc8j head, 2 * addr.val + 1] ++ beBytes 4 e.2.1)]))).settle) ∧
    exec (.safetyCycle ns) s = .next (a.wrapInc Fld.SIG_SPIT_STAT_alive).settle)

/-- Each write of CHK_n_CTRL shows the result of the polynomial in force. CHK_START takes a free unit for the requester
with the initial value, or gives scan_result 22H; CHK_CLOSE by the taker ends the feed (a difference from the expected
value sets mismatch and raises the unit's event, done and EV_SAFE_CHK_DONE follow, the unit is free). CHK_SCAN gives
22H on a taken unit, 20H on a range that is not aligned, empty or beyond its space, 21H where the requester may not
read all of it, else takes the unit and keeps the range checked. CHK_SCAN_ABORT marks a scan. CHK_FEED by the taker
feeds 1, 2 or 4 bytes as the poly code says, CHK_RUN_WRITE sets the running value at the polynomial's width; by anyone
else each is dropped and counted. CHK_ALIVE_WRITE stores the value and compares it with the last one modulo 2 to the
4, 8 or 16: one more is good, the same is a repeat, d more are d - 1 losses; the first one, and a width of 0, are not
compared. CHK_SCAN_DRIP feeds up to 4,096 words of the lowest unit that scans, counts and corrects as palette reads
do, and ends the scan with result 23H where it was aborted, with 0 at its end (R390 to R395). What a word of the queue
store reads as is open (log 68). -/
def Obligations.CheckUnits : Prop :=
  (∀ (r : Fin 19) (n : Fin 16) (w : Word) (s : State),
    let R := Reg.CHK_CTRL n.val
    let by_ := fun (v : Nat) => (.next (s.busDo r.val R v (State.chkCtrl r.val n.val v)).settle : Host.Outcome State Fault Refusal)
    exec (.chkStart r n w) s = by_ (w.toNat % 2 ^ 28 + 2 ^ 31) ∧ exec (.chkClose r n) s = by_ ((s.reg R).toNat ||| 0x40000000) ∧
    exec (.chkScan r n) s = by_ ((s.reg R).toNat ||| 0x20000000) ∧ exec (.chkScanAbort r n) s = by_ ((s.reg R).toNat ||| 0x10000000)) ∧
  (∀ (r n v : Nat) (s : State), v < 2 ^ 28 →
    let wrote := fun (u : State) => (u.plainWrite (Reg.CHK_CTRL n) v).chkShow n
    s.chkCtrl r n (v + 2 ^ 31) = (let u := wrote s
      if u.chkTaker n == 0 then
        ((((u.put (Fld.CHK_STAT_taken n) 1).put (Fld.CHK_STAT_taker n) 1).setUnit n
          { u.unit n with by_ := r, alive := false, pos := 0, abort := false }).chkRun n (chkPoly (u.get (Fld.CHK_CTRL_poly n))).2.2.1)
      else u.put (Fld.CHK_STAT_scan_result n) 0x22) ∧
    s.chkCtrl r n (v + 2 ^ 30) = wrote (if s.chkTaker n == 1 && (s.unit n).by_ == r then s.chkEnd n else s) ∧
    s.chkCtrl r n (v + 2 ^ 29) = (wrote s).chkScan r n ∧
    s.chkCtrl r n (v + 2 ^ 28) = (let u := wrote s
      if u.chkTaker n == 2 then u.setUnit n { u.unit n with abort := true } else u)) ∧
  (∀ (r : Fin 19) (n : Fin 16) (v : Word) (s : State),
    exec (.chkFeed r n v) s = .next (s.busDo r.val (Reg.CHK_FEED n.val) v.toNat (fun (u : State) =>
      if u.chkTaker n.val == 1 && (u.unit n.val).by_ == r.val then
        u.chkRun n.val (chkFeedBytes (u.get (Fld.CHK_CTRL_poly n.val)) (u.get (Fld.CHK_RUN_value n.val))
          (leBytes (nth [1, 2, 4, 4] (u.get (Fld.CHK_CTRL_feed_bytes n.val)) 4) v.toNat))
      else u.bump (Fld.CHK_STAT_dropped n.val))).settle ∧
    exec (.chkRunWrite r n v) s = .next (s.busDo r.val (Reg.CHK_RUN n.val) v.toNat (fun (u : State) =>
      if u.chkTaker n.val == 1 && (u.unit n.val).by_ == r.val then
        u.chkRun n.val (v.toNat % 2 ^ (chkPoly (u.get (Fld.CHK_CTRL_poly n.val))).1)
      else u.bump (Fld.CHK_STAT_dropped n.val))).settle ∧
    exec (.chkAliveWrite r n v) s = .next (s.busDo r.val (Reg.CHK_ALIVE n.val) v.toNat (fun (u : State) =>
      let b := nth [0, 4, 8, 16] (u.get (Fld.CHK_CTRL_alive_bits n.val)) 16
      let d := (v.toNat % 2 ^ 16 + 2 ^ 16 - u.get (Fld.CHK_ALIVE_value n.val)) % 2 ^ b
      let t := (u.put (Fld.CHK_ALIVE_value n.val) (v.toNat % 2 ^ 16)).setUnit n.val { u.unit n.val with alive := true }
      if b == 0 || !(u.unit n.val).alive || d == 1 then t
      else if d == 0 then (t.bump (Fld.CHK_ALIVE_STAT_repeats n.val)).raise (evSafe (24 + n.val))
      else (t.bumpBy (Fld.CHK_ALIVE_STAT_losses n.val) (d - 1)).raise (evSafe (24 + n.val)))).settle) ∧
  (∀ (n : Nat) (u : State), u.flag (Fld.CHK_CTRL_cmp n) = true →
    u.get (Fld.CHK_RESULT_value n) ≠ u.get (Fld.CHK_EXPECT_value n) % 2 ^ (chkPoly (u.get (Fld.CHK_CTRL_poly n))).1 →
    u.chkEnd n = (((((u.put (Fld.CHK_STAT_mismatch n) 1).raise (evSafe (8 + n))).put (Fld.CHK_STAT_done n) 1).raise (evSafe 40)).put
      (Fld.CHK_STAT_taken n) 0).put (Fld.CHK_STAT_taker n) 0) ∧
  (∀ (n : Nat) (u : State), (u.flag (Fld.CHK_CTRL_cmp n) = false ∨
      u.get (Fld.CHK_RESULT_value n) = u.get (Fld.CHK_EXPECT_value n) % 2 ^ (chkPoly (u.get (Fld.CHK_CTRL_poly n))).1) →
    u.chkEnd n = (((u.put (Fld.CHK_STAT_done n) 1).raise (evSafe 40)).put (Fld.CHK_STAT_taken n) 0).put (Fld.CHK_STAT_taker n) 0) ∧
  (∀ (r n : Nat) (u : State),
    let start := u.get (Fld.CHK_SCAN_START_start n)
    let len := u.get (Fld.CHK_SCAN_LEN_length n)
    let space := u.get (Fld.CHK_SCAN_LEN_space n)
    (u.chkTaker n ≠ 0 → u.chkScan r n = u.put (Fld.CHK_STAT_scan_result n) 0x22) ∧
    (u.chkTaker n = 0 → space = 3 ∨ start % 4 ≠ 0 ∨ len % 4 ≠ 0 ∨ len = 0 ∨ scanSize space < start + len →
      u.chkScan r n = u.put (Fld.CHK_STAT_scan_result n) 0x20) ∧
    (u.chkTaker n = 0 → space < 3 → start % 4 = 0 → len % 4 = 0 → 0 < len → start + len ≤ scanSize space →
      u.chkScan r n = if u.scanMay r space start len then
          (let t := u.chkTake n 2 r
          t.setUnit n { t.unit n with scan := (start, len, space) })
        else u.put (Fld.CHK_STAT_scan_result n) 0x21)) ∧
  (∀ (ns : Nat) (s : State), s.loaded = true →
    let a := s.advance ns
    ((∀ n < 15, a.chkTaker n ≠ 2) → exec (.chkScanDrip ns) s = .next a.settlePlan) ∧
    (∀ n < 15, a.chkTaker n = 2 → (∀ m < n, a.chkTaker m ≠ 2) →
      let start := (a.unit n).scan.1
      let len := (a.unit n).scan.2.1
      let space := (a.unit n).scan.2.2
      let pos := (a.unit n).pos
      let k := Nat.min 4096 ((len - pos) / 4)
      ((a.unit n).abort = true → exec (.chkScanDrip ns) s = .next ((a.put (Fld.CHK_STAT_scan_result n) 0x23).chkEnd n).settlePlan) ∧
      ((a.unit n).abort = false → exec (.chkScanDrip ns) s = .next
        (let ws := (List.range k).map (fun i => a.scanWord State.scanReg space (start + pos + 4 * i))
        let b := ((a.chkBytes n (bytesOfWords (ws.map (fun w => w.1)))).draw).bumpBy (Fld.CHK_STAT_ecc n) (ws.filter (fun w => w.2)).length
        let c := if space == 1 then forEach ((tkeys a.palFlip).filter (fun w => Nat.ble ((start + pos) / 4) w &&
          Nat.blt w ((start + pos) / 4 + k))) (State.palTouch false) b else b
        let t := c.setUnit n { a.unit n with pos := pos + 4 * k }
        if len ≤ pos + 4 * k then (t.put (Fld.CHK_STAT_scan_result n) 0).chkEnd n else t).settlePlan))) ∧
  (∀ (x : Nat) (u : State), u.scanWord State.scanReg 0 x = (u.scanReg x, false) ∧
    u.scanWord State.scanReg 1 x = (u.palValue (x / 4), Nat.ble 2 (u.flips (x / 4))))

/-- With an image loaded: a training that ends on an enabled link that is down counts, unless one of the link's domains is
fenced or under BIST; where both ends claim one role it stays down with role_clash and EV_TIME_ERK_CLASH, else it is
up with EV_TIME_ERK_UP. A loss takes it down with EV_TIME_ERK_DOWN, ends an open request with result 3, and the leader
trains again. A replay timeout with frames not acknowledged counts, raises its event and sends again every frame from
the oldest one, and at the eighth replay of one of them takes the link down; without any it does nothing. An
acknowledgement forgets the counts of what it acknowledges, and one that shows a gap starts a replay. An idle frame
carries its acknowledgement alone; with a wrong checksum it is answered. The time frame carries this end's time, the
census frame the published pair, each with the next sequence number; on a link that is down nothing is sent. A write
of ERK_PCTL with go opens a request of this end unless one is open, asks the peer, or ends with result 3 where the
link is down; one given up for the leader's goes again when BACKOFF_TIMER ends its back-off (R378 to R384). -/
def Obligations.ErkuharLink : Prop :=
  (∀ (ns : Nat) (s : State), s.loaded = true →
    let a := s.advance ns
    let down := fun (t : State) => (((t.put Fld.ERK_STAT_up 0).raise (evTime 17)).ctlEnd 3).erkTrain
    (∀ peer : Bool, exec (.erkLinkUp peer ns) s = .next
      (if a.flag Fld.ERK_STAT_up || !a.flag Fld.ERK_CFG_enable || a.domHurt 142 || a.domHurt 143 then a
      else if peer == a.flag Fld.ERK_CFG_role then
        ((a.bump Fld.ERK_STAT_retrains).put Fld.ERK_STAT_role_clash 1).raise (evTime 19)
      else (((a.bump Fld.ERK_STAT_retrains).put Fld.ERK_STAT_role_clash 0).put Fld.ERK_STAT_up 1).raise (evTime 16)).settlePlan) ∧
    (a.flag Fld.ERK_STAT_up = false → ∀ (ack : Word) (gap ok : Bool),
      exec (.erkLinkLoss ns) s = .next a.settlePlan ∧ exec (.erkReplayTimeout ns) s = .next a.settlePlan ∧
      exec (.erkIdleFrame ack gap ok ns) s = .next a.settlePlan ∧ exec (.erkTimeSend ns) s = .next a.settlePlan ∧
      exec (.erkCensusSend ns) s = .next a.settlePlan) ∧
    (a.flag Fld.ERK_STAT_up = true →
      exec (.erkLinkLoss ns) s = .next (down a).settlePlan ∧
      (a.erk.open_ = 0 → exec (.erkReplayTimeout ns) s = .next a.settlePlan) ∧
      (a.erk.open_ ≠ 0 → exec (.erkReplayTimeout ns) s = .next
        (let b := (a.bump Fld.ERK_STAT_replays).raise (evTime 18)
        let old := b.erk.store.filter (fun e => serGE e.1 b.erk.acked)
        let reps := old.map (fun e => (e.1, tget b.erk.reps e.1 0 + 1))
        if reps.any (fun e => Nat.ble 8 e.2) then { b with erk := { b.erk with reps := [] } }.erkDown
        else forEach old (fun e (t : State) => t.emitFi 3 0 (.erk e.2)) { b with erk := { b.erk with reps := reps } }).settlePlan) ∧
      (∀ (ack : Word) (gap ok : Bool), exec (.erkIdleFrame ack gap ok ns) s = .next
        (if ok then a.erkAck ack.toNat gap
        else a.emitFi 3 0 (.erk (erkBytes ⟨7, 0, 0, 0, 0, 0, []⟩ a.erk.txSeq a.erk.rxSeq))).settlePlan) ∧
      exec (.erkTimeSend ns) s = .next
        (let p := a.erk.peer.getD (0, 0)
        { a with erk := { a.erk with sent := a.now } }.erkSend
          ⟨2, 0, 0, 0, 0, 0, leBytes 8 a.now ++ leBytes 8 p.1 ++ leBytes 8 p.2⟩).settlePlan ∧
      exec (.erkCensusSend ns) s = .next
        (a.erkSend ⟨3, 0, 0, 0, 0, 0, leBytes 4 a.cen.pub.1 ++ padTo 16 a.cen.pub.2⟩).settlePlan)) ∧
  (∀ (ack : Nat) (gap : Bool) (s : State), s.erkAck ack gap =
    (let t := if ack ≠ s.erk.acked ∧ sub32 ack s.erk.acked ≤ s.erk.open_ then
      { s with erk := { s.erk with acked := ack, reps := s.erk.reps.filter (fun x => serGE x.1 ack) } } else s
    if gap then t.erkReplay else t)) ∧
  (∀ (ns : Nat) (s : State), s.loaded = true →
    let a := s.advance ns
    exec (.backoffTimer .erkuhar ns) s = .next
      (if !a.erk.back then a
      else
        let b := { a with erk := { a.erk with back := false } }
        match b.erk.ctl with
        | none => b
        | some (rd, off, data, _) => b.erkSend ⟨4, 0, 0, 0, 0, 0, leBytes 4 (b2n rd * 2 ^ 30 + off) ++ leBytes 4 data⟩).settlePlan) ∧
  (∀ (x : ErkMsg) (s : State), s.flag Fld.ERK_STAT_up = true → s.fiOn = false → s.reord = [] → s.erk.store.length < 256 →
    let b := erkBytes x s.erk.txSeq s.erk.rxSeq
    s.erkSend x = { s.emit (.erk b) with
      erk := { s.erk with txSeq := add32 s.erk.txSeq 1, store := s.erk.store ++ [(s.erk.txSeq, b)] } }) ∧
  (∀ (r : Fin 19) (rd : Bool) (off : Fin 16777216) (s : State),
    let v := 2 ^ 31 + b2n rd * 2 ^ 30 + off.val
    (if rd then exec (.erkPeerRead r off) s else exec (.erkPeerWrite r off) s) = .next
      (s.busDo r.val Reg.ERK_PCTL v (fun (u : State) =>
        if u.erk.ctl.isSome then u
        else
          let t := ((u.put Fld.ERK_PCTL_rd (b2n rd)).put Fld.ERK_PCTL_offset off.val)
          let data := if rd then 0 else (t.reg Reg.ERK_PCTL_DATA).toNat
          let t := t.put Fld.ERK_PCTL_go 1
          let t := { t with erk := { t.erk with ctl := some (rd, off.val, data, 0) } }
          if u.flag Fld.ERK_STAT_up then t.erkSend ⟨4, 0, 0, 0, 0, 0, leBytes 4 (b2n rd * 2 ^ 30 + off.val) ++ leBytes 4 data⟩
          else t.ctlEnd 3)).settle)

/-- With an image loaded: on a link that is down a frame does nothing; with a wrong checksum, or out of sequence after its
acknowledgement has moved the window, it is answered with the expected number and has no other effect. A frame in
sequence moves the expected number by one modulo 2 to the 32 and acts by its kind: a data frame goes to each receive
mirror of its stream and window; a time frame records the peer's send time and, with an echo, sets ERK_TIME_OFFSET; a
census frame sets ERK_PEER_EPOCH and ERK_PEER_DIGEST, with EV_TIME_ERK_CENSUS where they changed, and is compared with
the expected pair; a control request acts as requester 18's, except while the leader has a request of its own open,
and the follower gives its own up for it until its back-off ends, the ninth time with result 2 and
EV_TIME_ERK_ABANDON; a control answer ends this end's request with result 0 or 1 and, for a read, its data; a notice
is counted and looked up in the journal (R379 to R384, R411). -/
def Obligations.ErkuharFrames : Prop :=
  ∀ (seq ack : Word) (gap : Bool) (ns : Nat) (s : State), s.loaded = true →
    let a := s.advance ns
    let idle := fun (t : State) => t.emitFi 3 0 (.erk (erkBytes ⟨7, 0, 0, 0, 0, 0, []⟩ t.erk.txSeq t.erk.rxSeq))
    let got := fun (ok : Bool) (f : State → State) =>
      if !a.flag Fld.ERK_STAT_up then a
      else if !ok then idle a
      else
        let b := a.erkAck ack.toNat gap
        if seq.toNat == b.erk.rxSeq then f { b with erk := { b.erk with rxSeq := add32 seq.toNat 1 } } else b.erkIdle
    (∀ (ok : Bool) (flags : Fin 4) (st : Fin 32) (w : Fin 8) (num off : Word) (data : List Byte),
      exec (.erkDataFrame seq ack gap ok flags st w num off data ns) s = .next (got ok (fun (u : State) =>
        u.mirData seq.toNat flags.val st.val w.val num.toNat off.toNat (data.map BitVec.toNat))).settlePlan) ∧
    (∀ (flags st w num off : Nat) (data : List Nat) (u : State), u.mirData seq.toNat flags st w num off data =
      forEach ((List.range 8).filter (fun m => u.flag (Fld.ERK_MIR_CFG_enable m) && u.flag (Fld.ERK_MIR_CFG_dir m) &&
        u.get (Fld.ERK_MIR_CFG_stream m) == st && bit (u.get (Fld.ERK_MIR_CFG_windows m)) w))
        (fun m t => t.mirTake m seq.toNat flags w num off data) u) ∧
    (∀ (w m num : Nat) (data : List Nat) (y : ErkIn) (u : State),
      u.erk.ins.find? (fun (z : ErkIn) => z.m == m && z.w == w) = some y → y.num = num →
      let rest := u.erk.ins.filter (fun (z : ErkIn) => !(z.m == m && z.w == w))
      u.mirTake m seq.toNat 0 w num y.bytes.length data =
        { u with erk := { u.erk with ins := rest ++ [{ y with bytes := y.bytes ++ data }] } } ∧
      (data.length = 48 → u.mirTake m seq.toNat 1 w num y.bytes.length data =
        { u with erk := { u.erk with
          ins := rest, pours := u.erk.pours ++ [⟨m, y.first, w, num, y.bytes, data, .waiting, 0, 0, 0, 0, false, false⟩] } })) ∧
    (∀ (ok : Bool) (sent : Word64) (echo : Option (Word64 × Word64)),
      exec (.erkTimeFrame seq ack gap ok sent echo ns) s = .next (got ok (fun (u : State) =>
        let v := { u with erk := { u.erk with peer := some (sent.toNat, u.now) } }
        match echo with
        | none => v
        | some (mine, there) => (v.setReg64 Reg.ERK_TIME_OFFSET (unsgn 64 (halfOf (((there.toNat : Int) - (mine.toNat : Int)) +
            ((sent.toNat : Int) - (u.now : Int))) u.free))).draw)).settlePlan) ∧
    (∀ (ok : Bool) (epoch : Word) (digest : List Byte), digest.length = 16 →
      exec (.erkCensusFrame seq ack gap ok epoch digest ns) s = .next (got ok (fun (u : State) =>
        let new := wordsOf (digest.map BitVec.toNat)
        let old := (List.range 4).map (fun n => (u.reg (Reg.ERK_PEER_DIGEST n)).toNat)
        let v := forEach (List.range 4) (fun n (t : State) => t.setReg (Reg.ERK_PEER_DIGEST n) (BitVec.ofNat 32 (nth new n 0)))
          (u.setReg Reg.ERK_PEER_EPOCH epoch)
        (v.raiseIf (!(epoch.toNat == (u.reg Reg.ERK_PEER_EPOCH).toNat && new == old)) (evTime 23)).cenPeer
          epoch.toNat (digest.map BitVec.toNat))).settlePlan) ∧
    (∀ (ok rd : Bool) (off : Fin 16777216) (d : WriteWord),
      exec (.erkControlRequest seq ack gap ok rd off d ns) s = .next (got ok (fun (u : State) =>
        if u.erk.ctl.isSome && !u.flag Fld.ERK_CFG_role then u
        else
          let e := if rd then u.tgtRead 18 off.val else u.tgtWrite 18 off.val d.v.toNat d.now.toNat
          let t := e.2.2.ctlReply (if e.1 == 0 then 0 else 1) (if rd then e.2.1 else 0)
          match t.erk.ctl with
          | none => t
          | some (rd', off', data', n) =>
            if u.erk.ctl.isNone || t.erk.back then t
            else if 9 ≤ n + 1 then (t.ctlEnd 2).raise (evTime 25)
            else { t with erk := { t.erk with ctl := some (rd', off', data', n + 1), back := true } })).settlePlan) ∧
    (∀ (ok denied : Bool) (v : Word),
      exec (.erkControlAnswer seq ack gap ok denied v ns) s = .next (got ok (fun (u : State) =>
        match u.erk.ctl with
        | none => u
        | some (rd, _, _, _) =>
          let t := if rd then u.setReg Reg.ERK_PCTL_DATA v else u
          (({ t with erk := { t.erk with ctl := none, back := false } }.put Fld.ERK_PCTL_go 0).put Fld.ERK_PCTL_result (b2n denied)).raise
            (evTime 24))).settlePlan) ∧
    (∀ (ok : Bool) (first : Word) (cause : Fin 4),
      exec (.erkNoticeReceived seq ack gap ok first cause ns) s = .next (got ok (fun (u : State) =>
        let v := ((u.put Fld.ERK_NOTICE_valid 1).put Fld.ERK_NOTICE_cause cause.val).bump Fld.ERK_NOTICE_count
        match u.erk.journal.find? (fun j => j.first == first.toNat) with
        | none => (v.put Fld.ERK_NOTICE_unmatched 1).raise (evTime 22)
        | some j => ((((v.put Fld.ERK_NOTICE_unmatched 0).put Fld.ERK_NOTICE_stream j.st).put Fld.ERK_NOTICE_window j.w).setReg
            Reg.ERK_NOTICE_FRAME (BitVec.ofNat 32 j.num)).raise (evTime 21))).settlePlan)

/-- CENSUS_PASS: a failed known-answer test counts and raises EV_SAFE_TEST_FAIL, and the first set that is not empty, of a
domain that is on, is taken unless a pass runs; at the end of a pass the passes count with EV_SAFE_CENSUS_PASS.
CENSUS_DRIP runs 256 members of the set in check into its CRC; after the last one a right CRC leaves the set good, a
wrong one is a mismatch, counted with EV_SAFE_CENSUS_MISMATCH and set down for repair where its class may be; a set
whose domain has left is passed over. The drips that follow check anew a set that was repaired, where one waits, with
EV_SAFE_CENSUS_REPAIR or the end of its repairs; else repair a waiting set, its rewritten registers taking effect as
written ones do (the order of these drips is log 179). A mismatch is an uncorrected error of each frame it affects
that opened since the start of the set's last passing check and whose statistics block has not closed, and of those
that open until the set passes again. DIGEST_PUBLISH with a pair pending publishes epoch and digest with
EV_SAFE_DIGEST and ends the pending state; without one it does nothing (R402 to R408). -/
def Obligations.CensusAndDigest : Prop :=
  (∀ (ns : Nat) (s : State), s.loaded = true →
    let a := s.advance ns
    (∀ kat : Bool, exec (.censusPass kat ns) s = .next
      (let b := if kat then a else (a.put Fld.BIST_STAT_domain 151).raise (evSafe 42)
      if a.cen.cur.isSome then b else b.cenGo 0).settlePlan) ∧
    (a.cen.re = [] → a.cen.fix = [] → a.cen.cur = none → exec (.censusDrip ns) s = .next a.settlePlan) ∧
    (∀ (m i run : Nat) (rest : List (Nat × Nat × Nat)), a.cen.re = (m, i, run) :: rest → m ≠ 153 →
      let l := setMembers m
      let crc := crc32cFrom run (((l.drop i).take 256).flatMap (fun e => memberBytes (a.liveWord e.1) e))
      let b := if i = 0 then { a with cen := { a.cen with begun := tset a.cen.begun m a.tm.loc } } else a
      let done := { b with cen := { b.cen with re := rest } }
      (a.cenSkip m = true → exec (.censusDrip ns) s = .next { a with cen := { a.cen with re := rest } }.settlePlan) ∧
      (a.cenSkip m = false → i + 256 < l.length → exec (.censusDrip ns) s = .next
        { b with cen := { b.cen with re := (m, i + 256, crc) :: rest } }.settlePlan) ∧
      (a.cenSkip m = false → l.length ≤ i + 256 → exec (.censusDrip ns) s = .next
        (if crc = done.get (Fld.CEN_SET_GOLD_golden m) then done.repairOk m else done.repairFail m).settlePlan)) ∧
    (∀ (m : Nat) (first : Bool) (rest : List (Nat × Bool)), a.cen.re = [] → a.cen.fix = (m, first) :: rest →
      let b := { a with cen := { a.cen with fix := rest } }
      (a.cenSkip m = true → exec (.censusDrip ns) s = .next b.settlePlan) ∧
      (a.cenSkip m = false → exec (.censusDrip ns) s = .next
        (forEach (setMembers m) (fun e t => t.rewritten a e.1) (b.repairDom m first)).settlePlan)) ∧
    (∀ m i run : Nat, a.cen.re = [] → a.cen.fix = [] → a.cen.cur = some (m, i, run) → m ≠ 153 →
      let l := setMembers m
      let crc := crc32cFrom run (((l.drop i).take 256).flatMap (fun e => memberBytes (a.liveWord e.1) e))
      (a.cenSkip m = true → exec (.censusDrip ns) s = .next (a.cenGo (m + 1)).settlePlan) ∧
      (a.cenSkip m = false → i + 256 < l.length → exec (.censusDrip ns) s = .next
        { a with cen := { a.cen with cur := some (m, i + 256, crc) } }.settlePlan) ∧
      (a.cenSkip m = false → l.length ≤ i + 256 → crc = a.get (Fld.CEN_SET_GOLD_golden m) →
        exec (.censusDrip ns) s = .next (((if a.get (Fld.CEN_SET_STAT_state m) == 3 then a
          else a.put (Fld.CEN_SET_STAT_state m) 1).cenPassed m (tget a.cen.begun m 0)).cenGo (m + 1)).settlePlan) ∧
      (a.cenSkip m = false → l.length ≤ i + 256 → crc ≠ a.get (Fld.CEN_SET_GOLD_golden m) →
        exec (.censusDrip ns) s = .next ((a.cenVerdict m false (tget a.cen.begun m 0)).cenGo (m + 1)).settlePlan)) ∧
    exec (.digestPublish ns) s = .next
      (if a.flag Fld.CEN_STAT_pending then
        ((({ a with cen := { a.cen with pub := (a.get Fld.CEN_EPOCH_epoch, a.cenDigest) } }.setReg Reg.CEN_PUB
          (BitVec.ofNat 32 (a.get Fld.CEN_EPOCH_epoch))).put Fld.CEN_STAT_pending 0).raise (evSafe 6))
      else a).settlePlan) ∧
  (∀ (m : Nat) (s : State), s.get (Fld.CEN_SET_STAT_state m) ≠ 3 → s.cen.stop.contains m = false →
    (m ≤ 152 → s.flag Fld.CEN_CTRL_repair_dom = false → ∀ at_ : Nat, s.cenVerdict m false at_ = s.cenMismatch m none) ∧
    (m ≤ 152 → s.flag Fld.CEN_CTRL_repair_dom = true → s.cen.fix = [] → tget? s.cen.fixed m = none → ∀ at_ : Nat,
      s.cenVerdict m false at_ = (let t := s.cenMismatch m none
        { t with cen := { t.cen with fix := [(m, !s.flag Fld.CEN_MIS_valid)] } })) ∧
    s.cenMismatch m none =
      (let t := ((((s.cenMark m).put (Fld.CEN_SET_STAT_state m) 2).bump (Fld.CEN_SET_STAT_mismatches m)).raise (evSafe 0)).bump Fld.CEN_MIS_count
      if t.flag Fld.CEN_MIS_valid then t
      else ((t.put Fld.CEN_MIS_valid 1).put Fld.CEN_MIS_set m).put Fld.CEN_MIS_repaired 0)) ∧
  (∀ (m : Nat) (s : State),
    s.repairFail m = ({ s with cen := { s.cen with stop := if s.cen.stop.contains m then s.cen.stop else s.cen.stop ++ [m] } }.put
      (Fld.CEN_SET_STAT_state m) 3).raise (evSafe 2) ∧
    s.repairOk m = (let t := ({ s with cen := { s.cen with fixed := tset s.cen.fixed m s.tm.loc } }.put (Fld.CEN_SET_STAT_state m) 1).raise (evSafe 1)
      (if t.get Fld.CEN_MIS_set == m && t.flag Fld.CEN_MIS_valid then t.put Fld.CEN_MIS_repaired 1 else t).cenPassed m (tget s.cen.begun m 0))) ∧
  (∀ (m : Nat) (s : State), m ≠ 153 →
    (s.cenMark m).frames = s.frames.map (fun f =>
      if f.stats = none ∧ tget s.cen.since m 0 ≤ f.at_ ∧ s.cenHits m [] f.st f.easel = true then { f with withdrawn := true } else f) ∧
    (∀ st e : Nat, s.cenHits m [] st e = true → (s.cenMark m).cenBad st e = true))

/-- BIST_LOGIC_MEMORY and BIST_MEMORY_ONLY write the key, the operation and the domain: reason 60H where the block is not
idle, 61H while a BIST runs, 62H where the domain heads no block (the order of the refusals is the model's choice, log
121); else the run begins, and the keys of a security block are cleared. BIST_FUSE_REPAIR: 61H, 62H, 33H without
VFUSE, 63H with no spare to fuse or too few left; else the spares move from the soft to the fused count, OTP records
them and EV_SAFE_REPAIR_FUSED follows. BIST_DONE ends the run: result, counts and events of the block; a failure
fences it, else its flip-flops and registers are initialised again; a security block's keys are derived again but in
debug; without a run it does nothing but let a waiting register write act. FI_ENABLE has an effect in the laboratory
state alone: a rise seeds the eight injectors with EV_SAFE_FI (R417 to R423). -/
def Obligations.SelfTestCommands : Prop :=
  (∀ (r : Fin 19) (d : Fin 152) (s : State),
    let go := fun (op : Nat) (u : State) =>
      if bistBlock d.val ≠ [] ∧ u.bistIdle d.val = false then u.put Fld.BIST_STAT_reason 0x60
      else if u.bistBusy = true then u.put Fld.BIST_STAT_reason 0x61
      else if bistBlock d.val = [] then u.put Fld.BIST_STAT_reason 0x62
      else
        let k := if d.val = 134 ∨ d.val = 150 then u.keysClear else u
        { (((k.put Fld.BIST_STAT_busy 1).put Fld.BIST_STAT_reason 0).put Fld.BIST_STAT_domain d.val) with bist := some (d.val, op) }
    exec (.bistLogicMemory r d) s = .next (s.busDo r.val Reg.BIST_CTRL (0x5A3C0100 + d.val) (go 1)).settle ∧
    exec (.bistMemoryOnly r d) s = .next (s.busDo r.val Reg.BIST_CTRL (0x5A3C0200 + d.val) (go 2)).settle ∧
    (∀ vf : Bool, exec (.bistFuseRepair r d vf) s = .next
      ({ s with pw := { s.pw with vfuse := vf } }.busDo r.val Reg.BIST_CTRL (0x5A3C0300 + d.val) (fun (u : State) =>
        let n := u.get (Fld.BIST_DOM_spares d.val)
        if u.bistBusy then u.put Fld.BIST_STAT_reason 0x61
        else if (bistBlock d.val).isEmpty then u.put Fld.BIST_STAT_reason 0x62
        else if !u.pw.vfuse then u.put Fld.BIST_STAT_reason 0x33
        else if n == 0 || Nat.blt (u.get Fld.BIST_FUSE_left) n then u.put Fld.BIST_STAT_reason 0x63
        else
          let t := ((((((u.put Fld.BIST_FUSE_used (u.get Fld.BIST_FUSE_used + n)).put Fld.BIST_FUSE_left
            (u.get Fld.BIST_FUSE_left - n)).put (Fld.BIST_DOM_fused d.val) 1).put (Fld.BIST_DOM_spares d.val) 0).put
            Fld.BIST_STAT_reason 0).put Fld.BIST_STAT_domain d.val)
          { t with otp := { t.otp with repairs := t.otp.repairs ++ List.replicate n d.val } }.raise (evSafe 44))).settle) ∧
    exec (.fiEnable r) s = .next (s.busDo r.val Reg.FI_CTRL 0x80000000 (fun (u : State) =>
      if !u.flag Fld.FI_CTRL_lab then u
      else
        let t := u.put Fld.FI_CTRL_enable 1
        if u.flag Fld.FI_CTRL_enable then t
        else (forEach (List.range 8) (fun k (x : State) => x.put (Fld.FI_STATE_x k) (x.fiSeed k)) t).raise (evSafe 45))).settle) ∧
  (∀ (res : BistResult) (ns : Nat) (s : State), s.loaded = true →
    let a := s.advance ns
    (a.bist = none → exec (.bistDone res ns) s = .next a.awoken.settlePlan) ∧
    (∀ d op : Nat, a.bist = some (d, op) →
      let r := { res with logic := res.logic && bistLogic d }
      let b := ({ a with bist := none }.put Fld.BIST_STAT_busy 0).bistOne d r
      let c := if r.logic || r.memory then b else b.bistInit d
      let e := if d = 134 ∨ d = 150 then { c with spdm := { c.spdm with keys := !c.debug } } else c
      exec (.bistDone res ns) s = .next (if d = 134 then e.fnShow.hlDoms else e).awoken.settlePlan) ∧
    (∀ (d : Nat) (u : State), u.bistInit d = forEach (bistBlock d) (fun x (t : State) =>
      let v := (forEach (domRanges x) (fun g (t : State) => t.resetRange g.1 g.2) t).domRestore x
      if Nat.ble 84 x && Nat.blt x 132 then v.groupClear (x - 84) else v) u) ∧
    (∀ (d : Nat) (r : BistResult) (u : State), r.logic = false → r.memory = false →
      u.bistOne d r =
        (let code := if r.repairs == 0 then 1 else 2
        let v := forEach (bistBlock d) (fun x (t : State) => (t.put (Fld.BIST_DOM_last x) code).bump (Fld.BIST_DOM_runs x)) u
        let w := ((v.lifeItem 225 1).bumpBy (Fld.BIST_DOM_spares d) r.repairs).raiseIf (!(r.repairs == 0)) (evSafe 43)
        ((w.put Fld.BIST_STAT_domain d).put Fld.BIST_STAT_result code).raise (evSafe 41))))

/-- A calendar tick adds one modulo 2 to the 48 in every device state but Off; a value set by a 64-bit write of
LIFE_CAL_SET takes effect at the next tick, valid, with EV_LIFE_CAL_SET and a record of kind 4, while Falith does not
run owed to the next Boot (log 154). A temperature sample keeps the highest; a powered minute counts core counter 0,
the bin of the highest and the on-minutes of domains on or draining; a warm minute counts item 224 in Warm alone.
Periodic and boot records fall due with their readings and start where the flash is free. The end of an operation: a
failure is retried once, then the sector is marked bad; a record that is written takes its sequence number,
LIFE_STAT.last_kind and EV_LIFE_JOURNAL; in its sector's slot 896 the next sector's erase falls due; an erase leaves
the sector erased (R453 to R463). -/
def Obligations.CalendarAndJournal : Prop :=
  (∀ (ages : List (Fin 32 × Fin 65536)) (ns : Nat) (s : State),
    let a := s.advance ns
    let read := fun (t : State) => forEach ages (fun e (u : State) => u.ageRead (e.1.val % 32) e.2.val) t
    let fall := fun (kind : Nat) (t : State) => ((read t).jrDue (.record kind)).jrStart
    (s.phase = .off → exec (.calendarTick ages ns) s = .next a.settle) ∧
    (s.phase ≠ .off → s.warm.calSet = none → exec (.calendarTick ages ns) s = .next
      { a with warm := { a.warm with cal := (s.warm.cal + 1) % 2 ^ 48 } }.settle) ∧
    (∀ v : Nat, s.phase ≠ .off → s.warm.calSet = some v →
      let b := { a with warm := { a.warm with cal := v % 2 ^ 48, calValid := true, calSet := none } }.raise (evLife 5)
      exec (.calendarTick ages ns) s = .next (if s.runs then fall 4 b
        else { b with warm := { b.warm with owed := (b.warm.owed.filter (fun k => !(k == .record 4))) ++ [.record 4] } }).settle) ∧
    (s.runs = true → exec (.journalPeriodic ages ns) s = .next (fall 1 a).settle ∧
      exec (.journalBootRecord ages ns) s = .next (fall 3 a).settle)) ∧
  (∀ (r : Fin 19) (v : Word64) (s : State), exec (.calendarSet r v) s = .next
    (s.busDo r.val Reg.LIFE_CAL_SET (v.toNat % 2 ^ 32) (fun (u : State) =>
      { u with warm := { u.warm with calSet := some (v.toNat % 2 ^ 48) } })).settle) ∧
  (∀ (ns : Nat) (s : State), s.runs = true →
    let a := s.advance ns
    (∀ (t : Int), exec (.temperatureSample [t] ns) s = .next
      { a with life := { a.life with maxTemp := some (match a.life.maxTemp with
        | none => t
        | some m => max m t) } }.settle) ∧
    exec (.poweredMinute ns) s = .next
      (let b := a.lifeCore 0 1
      let c := match a.life.maxTemp with
        | none => b
        | some t => b.lifeItem (tempBin t) 1
      let d := forEach ((List.range 152).filter (fun d => a.dom d == DomSt.on || a.dom d == DomSt.draining))
        (fun d (u : State) => u.lifeItem (16 + d) 1) c
      { d with life := { d.life with maxTemp := none } }).settle ∧
    (a.life.op = none → ∀ failed, exec (.journalOpDone failed ns) s = .next a.settle) ∧
    (∀ op : JOp, a.life.op = some op →
      (op.again = false → ∀ kind, op.kind = .record kind → exec (.journalOpDone true ns) s = .next
        { a with life := { a.life with op := some { op with again := true } } }.settle) ∧
      (∀ kind, op.kind = .record kind → (kind ≠ 2 ∨ a.life.supwAt = none) → exec (.journalOpDone false ns) s = .next
        (let n := a.warm.nextSeq
        let b := ({ a with life := { a.life with op := none } }.norProg op.addr op.data).put Fld.LIFE_STAT_last_kind kind
        let c := { b with warm := { b.warm with seq := n, nextSeq := (n + 1) % 2 ^ 32 } }.raise (evLife 0)
        (if n % 1024 == 896 then c.jrDue (.erase (c.jrNextSector n)) else c).jrStart).settle) ∧
      (∀ k, op.kind = .erase k → exec (.journalOpDone false ns) s = .next
        (({ a with life := { a.life with op := none } }.norErase op.addr).jrStart).settle))) ∧
  (∀ s : State, exec .warmMinute s = .next
    (let a := s.advance 0
    if s.phase == .warm then
      { a with warm := { a.warm with items := tset a.warm.items 224 (satAdd (2 ^ 32 - 1) (tget a.warm.items 224 0) 1) } }
    else a).settle)

end
end

