-- ==== Sys2Proof/Laws/Cells.lean ====
section
/-! SUPPORT. Laws/Cells.lean: what the sparse stores do: a read after a write, and their canonical form. -/

namespace Sys2Proof.Machine

variable {n : Nat} {d : BitVec n}

/-- Whether a key lies above a bound. -/
def keyAbove (lo : Option Nat) (k : Nat) : Bool :=
  match lo with
  | none => true
  | some l => Nat.blt l k

/-- The canonical form of a store with a first cell. -/
theorem cellsFrom_cons {lo : Option Nat} {k : Nat} {v : BitVec n} {rest : List (Nat × BitVec n)} :
    cellsFrom d lo ((k, v) :: rest) = (keyAbove lo k && !(v == d) && cellsFrom d (some k) rest) := by
  cases lo <;> rfl

/-- A key above one that lies above a bound lies above that bound. -/
theorem keyAbove_trans {lo : Option Nat} {k j : Nat} (h : keyAbove lo k = true) (hj : keyAbove (some k) j = true) :
    keyAbove lo j = true := by
  cases lo with
  | none => rfl
  | some l =>
    simp only [keyAbove, Nat.blt_eq] at h hj ⊢
    omega

/-- A bound that the keys respect may be replaced by a lower one. -/
theorem cellsFrom_weaken {lo lo' : Option Nat} {m : List (Nat × BitVec n)}
    (hlo : ∀ k, keyAbove lo k = true → keyAbove lo' k = true)
    (h : cellsFrom d lo m = true) : cellsFrom d lo' m = true := by
  cases m with
  | nil => rfl
  | cons e rest =>
    obtain ⟨k, v⟩ := e
    simp only [cellsFrom_cons, Bool.and_eq_true] at h ⊢
    exact ⟨⟨hlo k h.1.1, h.1.2⟩, h.2⟩

/-- Keys below the bound of a canonical store are not listed. -/
theorem cellGet_below {l a : Nat} {m : List (Nat × BitVec n)} (h : cellsFrom d (some l) m = true) (ha : a ≤ l) :
    cellGet d m a = d := by
  induction m generalizing l with
  | nil => rfl
  | cons e rest ih =>
    obtain ⟨k, v⟩ := e
    simp only [cellsFrom_cons, Bool.and_eq_true, keyAbove, Nat.blt_eq] at h
    have hk : (k == a) = false := by simp; omega
    simp only [cellGet, hk]
    exact ih h.2 (by omega)

/-- Keeping only some cells keeps the canonical form. -/
theorem cellsFrom_filter {lo : Option Nat} {m : List (Nat × BitVec n)} (p : Nat × BitVec n → Bool)
    (h : cellsFrom d lo m = true) : cellsFrom d lo (m.filter p) = true := by
  induction m generalizing lo with
  | nil => rfl
  | cons e rest ih =>
    obtain ⟨k, v⟩ := e
    simp only [cellsFrom_cons, Bool.and_eq_true] at h
    simp only [List.filter_cons]
    split
    · simp only [cellsFrom_cons, Bool.and_eq_true]
      exact ⟨h.1, ih h.2⟩
    · exact ih (cellsFrom_weaken (fun j hj => keyAbove_trans h.1.1 hj) h.2)

/-- Keeping only some cells keeps the canonical form. -/
theorem cellsWf_filter {m : List (Nat × BitVec n)} (p : Nat × BitVec n → Bool) (h : cellsWf d m = true) :
    cellsWf d (m.filter p) = true := cellsFrom_filter p h

/-- A kept cell reads as before, a cell that is not kept reads as unlisted. -/
theorem cellGet_filter {m : List (Nat × BitVec n)} (p : Nat → Bool) (a : Nat) :
    cellGet d (m.filter (fun e => p e.1)) a = if p a then cellGet d m a else d := by
  induction m with
  | nil => simp [cellGet]
  | cons e rest ih =>
    obtain ⟨k, v⟩ := e
    by_cases hk : k = a
    · subst hk
      by_cases hp : p k = true
      · simp [hp, cellGet]
      · simp only [List.filter_cons, hp]
        simp only [hp] at ih
        simpa [hp] using ih
    · have hk' : (k == a) = false := by simpa using hk
      by_cases hp : p k = true
      · rw [List.filter_cons_of_pos (by simpa using hp)]
        simpa only [cellGet, hk', Bool.false_eq_true, if_false] using ih
      · rw [List.filter_cons_of_neg (by simpa using hp)]
        simpa only [cellGet, hk', Bool.false_eq_true, if_false] using ih

/-- Listing a cell keeps the canonical form above a bound. -/
theorem cellsFrom_ins {lo : Option Nat} {m : List (Nat × BitVec n)} {a : Nat} {v : BitVec n} (hv : (v == d) = false)
    (hb : keyAbove lo a = true) (h : cellsFrom d lo m = true) : cellsFrom d lo (cellIns m a v) = true := by
  induction m generalizing lo with
  | nil => simp [cellIns, cellsFrom_cons, hb, hv, cellsFrom]
  | cons e rest ih =>
    obtain ⟨k, w⟩ := e
    simp only [cellsFrom_cons, Bool.and_eq_true] at h
    unfold cellIns
    split
    · rename_i hlt
      simp only [cellsFrom_cons, Bool.and_eq_true]
      exact ⟨⟨hb, by simp [hv]⟩, ⟨⟨hlt, h.1.2⟩, h.2⟩⟩
    · rename_i hlt
      split
      · rename_i heq
        have hka : k = a := by simpa using heq
        subst hka
        simp only [cellsFrom_cons, Bool.and_eq_true]
        exact ⟨⟨h.1.1, by simp [hv]⟩, h.2⟩
      · rename_i hne
        simp only [cellsFrom_cons, Bool.and_eq_true]
        refine ⟨h.1, ih ?_ h.2⟩
        simp only [keyAbove, Nat.blt_eq] at hlt ⊢
        have : k ≠ a := by simpa using hne
        omega

/-- A write keeps the canonical form. -/
theorem cellsWf_put {m : List (Nat × BitVec n)} {a : Nat} {v : BitVec n} (h : cellsWf d m = true) :
    cellsWf d (cellPut d m a v) = true := by
  unfold cellPut
  split
  · exact cellsWf_filter _ h
  · rename_i hv
    exact cellsFrom_ins (by simpa using hv) rfl h

/-- A cell that has been listed reads as its value. -/
theorem cellGet_ins_same {m : List (Nat × BitVec n)} {a : Nat} {v : BitVec n} : cellGet d (cellIns m a v) a = v := by
  induction m with
  | nil => simp [cellIns, cellGet]
  | cons e rest ih =>
    obtain ⟨k, w⟩ := e
    unfold cellIns
    split
    · simp [cellGet]
    · split
      · simp [cellGet]
      · rename_i hne
        have hk : (k == a) = false := by simpa using hne
        simpa only [cellGet, hk, Bool.false_eq_true, if_false] using ih

/-- Listing a cell leaves every other cell alone. -/
theorem cellGet_ins_ne {m : List (Nat × BitVec n)} {a b : Nat} {v : BitVec n} (hab : b ≠ a) :
    cellGet d (cellIns m a v) b = cellGet d m b := by
  have hab' : (a == b) = false := by simpa using fun h : a = b => hab h.symm
  induction m with
  | nil => simp [cellIns, cellGet, hab']
  | cons e rest ih =>
    obtain ⟨k, w⟩ := e
    unfold cellIns
    split
    · simp [cellGet, hab']
    · split
      · rename_i heq
        have hka : k = a := by simpa using heq
        subst hka
        simp [cellGet, hab']
      · simp only [cellGet]
        split
        · rfl
        · exact ih

/-- What is written is what is read. -/
theorem cellGet_put_same {m : List (Nat × BitVec n)} {a : Nat} {v : BitVec n} : cellGet d (cellPut d m a v) a = v := by
  unfold cellPut
  split
  · rename_i hv
    rw [cellGet_filter (fun k => !(k == a)) a]
    simpa using (by simpa using hv : v = d).symm
  · exact cellGet_ins_same

/-- A write leaves every other cell alone. -/
theorem cellGet_put_ne {m : List (Nat × BitVec n)} {a b : Nat} {v : BitVec n} (hab : b ≠ a) :
    cellGet d (cellPut d m a v) b = cellGet d m b := by
  unfold cellPut
  split
  · rw [cellGet_filter (fun k => !(k == a)) b]
    simp [hab]
  · exact cellGet_ins_ne hab

/-- Two stores in canonical form whose cells all read alike are equal data. -/
theorem cellsFrom_ext {m m' : List (Nat × BitVec n)} {lo : Option Nat} (h : cellsFrom d lo m = true)
    (h' : cellsFrom d lo m' = true) (e : ∀ a, cellGet d m a = cellGet d m' a) : m = m' := by
  induction m generalizing m' lo with
  | nil =>
    cases m' with
    | nil => rfl
    | cons x xs =>
      obtain ⟨k, v⟩ := x
      simp only [cellsFrom_cons, Bool.and_eq_true] at h'
      have := e k
      simp [cellGet] at this
      simp [this] at h'
  | cons x xs ih =>
    obtain ⟨k, v⟩ := x
    cases m' with
    | nil =>
      simp only [cellsFrom_cons, Bool.and_eq_true] at h
      have := e k
      simp [cellGet] at this
      simp [this] at h
    | cons y ys =>
      obtain ⟨k', v'⟩ := y
      simp only [cellsFrom_cons, Bool.and_eq_true] at h h'
      have hk : k = k' := by
        rcases Nat.lt_trichotomy k k' with hl | hl | hl
        · exfalso
          have := e k
          simp only [cellGet, beq_self_eq_true, if_true] at this
          have hne : (k' == k) = false := by simp; omega
          rw [hne] at this
          simp only [Bool.false_eq_true, if_false] at this
          rw [cellGet_below h'.2 (by omega)] at this
          simp [this] at h
        · exact hl
        · exfalso
          have := e k'
          simp only [cellGet, beq_self_eq_true, if_true] at this
          have hne : (k == k') = false := by simp; omega
          rw [hne] at this
          simp only [Bool.false_eq_true, if_false] at this
          rw [cellGet_below h.2 (by omega)] at this
          simp [← this] at h'
      subst hk
      have hv : v = v' := by simpa [cellGet] using e k
      subst hv
      congr 1
      refine ih h.2 h'.2 (fun a => ?_)
      by_cases ha : a ≤ k
      · rw [cellGet_below h.2 ha, cellGet_below h'.2 ha]
      · have := e a
        have hne : (k == a) = false := by simp; omega
        simpa only [cellGet, hne, Bool.false_eq_true, if_false] using this

end Sys2Proof.Machine
end

