-- ==== Sys2Proof/Laws/State.lean ====
section
/-! SUPPORT. Laws/State.lean: what each named update of State does to each field. -/

namespace Sys2Proof.Machine

variable (s : State)

/-! ## setReg -/

@[simp] theorem State.setReg_pending (off : Nat) (w : Word) : (s.setReg off w).pending = s.pending := rfl
@[simp] theorem State.setReg_out (off : Nat) (w : Word) : (s.setReg off w).out = s.out := rfl
@[simp] theorem State.setReg_free (off : Nat) (w : Word) : (s.setReg off w).free = s.free := rfl
@[simp] theorem State.setReg_phase (off : Nat) (w : Word) : (s.setReg off w).phase = s.phase := rfl
@[simp] theorem State.setReg_pw (off : Nat) (w : Word) : (s.setReg off w).pw = s.pw := rfl
@[simp] theorem State.setReg_otp (off : Nat) (w : Word) : (s.setReg off w).otp = s.otp := rfl
@[simp] theorem State.setReg_warm (off : Nat) (w : Word) : (s.setReg off w).warm = s.warm := rfl
@[simp] theorem State.setReg_life (off : Nat) (w : Word) : (s.setReg off w).life = s.life := rfl
@[simp] theorem State.setReg_nor (off : Nat) (w : Word) : (s.setReg off w).nor = s.nor := rfl
@[simp] theorem State.setReg_norOp (off : Nat) (w : Word) : (s.setReg off w).norOp = s.norOp := rfl
@[simp] theorem State.setReg_img (off : Nat) (w : Word) : (s.setReg off w).img = s.img := rfl
@[simp] theorem State.setReg_regs (off : Nat) (w : Word) : (s.setReg off w).regs = cellPut 0#32 s.regs off w := rfl
@[simp] theorem State.setReg_shadow (off : Nat) (w : Word) : (s.setReg off w).shadow = s.shadow := rfl
@[simp] theorem State.setReg_grdLive (off : Nat) (w : Word) : (s.setReg off w).grdLive = s.grdLive := rfl
@[simp] theorem State.setReg_grdWait (off : Nat) (w : Word) : (s.setReg off w).grdWait = s.grdWait := rfl
@[simp] theorem State.setReg_latch (off : Nat) (w : Word) : (s.setReg off w).latch = s.latch := rfl
@[simp] theorem State.setReg_held (off : Nat) (w : Word) : (s.setReg off w).held = s.held := rfl
@[simp] theorem State.setReg_routes (off : Nat) (w : Word) : (s.setReg off w).routes = s.routes := rfl
@[simp] theorem State.setReg_faultPin (off : Nat) (w : Word) : (s.setReg off w).faultPin = s.faultPin := rfl
@[simp] theorem State.setReg_intLow (off : Nat) (w : Word) : (s.setReg off w).intLow = s.intLow := rfl
@[simp] theorem State.setReg_fcPin (off : Nat) (w : Word) : (s.setReg off w).fcPin = s.fcPin := rfl
@[simp] theorem State.setReg_msix (off : Nat) (w : Word) : (s.setReg off w).msix = s.msix := rfl
@[simp] theorem State.setReg_msixPend (off : Nat) (w : Word) : (s.setReg off w).msixPend = s.msixPend := rfl
@[simp] theorem State.setReg_modSt (off : Nat) (w : Word) : (s.setReg off w).modSt = s.modSt := rfl
@[simp] theorem State.setReg_fns (off : Nat) (w : Word) : (s.setReg off w).fns = s.fns := rfl
@[simp] theorem State.setReg_cmt (off : Nat) (w : Word) : (s.setReg off w).cmt = s.cmt := rfl
@[simp] theorem State.setReg_doms (off : Nat) (w : Word) : (s.setReg off w).doms = s.doms := rfl
@[simp] theorem State.setReg_ramps (off : Nat) (w : Word) : (s.setReg off w).ramps = s.ramps := rfl
@[simp] theorem State.setReg_rampAt (off : Nat) (w : Word) : (s.setReg off w).rampAt = s.rampAt := rfl
@[simp] theorem State.setReg_outHeld (off : Nat) (w : Word) : (s.setReg off w).outHeld = s.outHeld := rfl
@[simp] theorem State.setReg_ingress (off : Nat) (w : Word) : (s.setReg off w).ingress = s.ingress := rfl
@[simp] theorem State.setReg_csoTx (off : Nat) (w : Word) : (s.setReg off w).csoTx = s.csoTx := rfl
@[simp] theorem State.setReg_avsGood (off : Nat) (w : Word) : (s.setReg off w).avsGood = s.avsGood := rfl
@[simp] theorem State.setReg_tm (off : Nat) (w : Word) : (s.setReg off w).tm = s.tm := rfl
@[simp] theorem State.setReg_grps (off : Nat) (w : Word) : (s.setReg off w).grps = s.grps := rfl
@[simp] theorem State.setReg_syncOn (off : Nat) (w : Word) : (s.setReg off w).syncOn = s.syncOn := rfl
@[simp] theorem State.setReg_fsoHigh (off : Nat) (w : Word) : (s.setReg off w).fsoHigh = s.fsoHigh := rfl
@[simp] theorem State.setReg_chans (off : Nat) (w : Word) : (s.setReg off w).chans = s.chans := rfl
@[simp] theorem State.setReg_ents (off : Nat) (w : Word) : (s.setReg off w).ents = s.ents := rfl
@[simp] theorem State.setReg_heldDown (off : Nat) (w : Word) : (s.setReg off w).heldDown = s.heldDown := rfl
@[simp] theorem State.setReg_eqSeen (off : Nat) (w : Word) : (s.setReg off w).eqSeen = s.eqSeen := rfl
@[simp] theorem State.setReg_plc (off : Nat) (w : Word) : (s.setReg off w).plc = s.plc := rfl
@[simp] theorem State.setReg_strms (off : Nat) (w : Word) : (s.setReg off w).strms = s.strms := rfl
@[simp] theorem State.setReg_frames (off : Nat) (w : Word) : (s.setReg off w).frames = s.frames := rfl
@[simp] theorem State.setReg_strokes (off : Nat) (w : Word) : (s.setReg off w).strokes = s.strokes := rfl
@[simp] theorem State.setReg_eas (off : Nat) (w : Word) : (s.setReg off w).eas = s.eas := rfl
@[simp] theorem State.setReg_lawQ (off : Nat) (w : Word) : (s.setReg off w).lawQ = s.lawQ := rfl
@[simp] theorem State.setReg_rings (off : Nat) (w : Word) : (s.setReg off w).rings = s.rings := rfl
@[simp] theorem State.setReg_pour (off : Nat) (w : Word) : (s.setReg off w).pour = s.pour := rfl
@[simp] theorem State.setReg_reads (off : Nat) (w : Word) : (s.setReg off w).reads = s.reads := rfl
@[simp] theorem State.setReg_atc (off : Nat) (w : Word) : (s.setReg off w).atc = s.atc := rfl
@[simp] theorem State.setReg_pubs (off : Nat) (w : Word) : (s.setReg off w).pubs = s.pubs := rfl
@[simp] theorem State.setReg_trl (off : Nat) (w : Word) : (s.setReg off w).trl = s.trl := rfl
@[simp] theorem State.setReg_cells (off : Nat) (w : Word) : (s.setReg off w).cells = s.cells := rfl
@[simp] theorem State.setReg_pal (off : Nat) (w : Word) : (s.setReg off w).pal = s.pal := rfl
@[simp] theorem State.setReg_palFlip (off : Nat) (w : Word) : (s.setReg off w).palFlip = s.palFlip := rfl
@[simp] theorem State.setReg_palOpen (off : Nat) (w : Word) : (s.setReg off w).palOpen = s.palOpen := rfl
@[simp] theorem State.setReg_ques (off : Nat) (w : Word) : (s.setReg off w).ques = s.ques := rfl
@[simp] theorem State.setReg_cen (off : Nat) (w : Word) : (s.setReg off w).cen = s.cen := rfl
@[simp] theorem State.setReg_chk (off : Nat) (w : Word) : (s.setReg off w).chk = s.chk := rfl
@[simp] theorem State.setReg_sig (off : Nat) (w : Word) : (s.setReg off w).sig = s.sig := rfl
@[simp] theorem State.setReg_txe (off : Nat) (w : Word) : (s.setReg off w).txe = s.txe := rfl
@[simp] theorem State.setReg_txePick (off : Nat) (w : Word) : (s.setReg off w).txePick = s.txePick := rfl
@[simp] theorem State.setReg_txeLast (off : Nat) (w : Word) : (s.setReg off w).txeLast = s.txeLast := rfl
@[simp] theorem State.setReg_spdm (off : Nat) (w : Word) : (s.setReg off w).spdm = s.spdm := rfl
@[simp] theorem State.setReg_erk (off : Nat) (w : Word) : (s.setReg off w).erk = s.erk := rfl
@[simp] theorem State.setReg_bist (off : Nat) (w : Word) : (s.setReg off w).bist = s.bist := rfl
@[simp] theorem State.setReg_debug (off : Nat) (w : Word) : (s.setReg off w).debug = s.debug := rfl
@[simp] theorem State.setReg_reord (off : Nat) (w : Word) : (s.setReg off w).reord = s.reord := rfl
@[simp] theorem State.setReg_forced (off : Nat) (w : Word) : (s.setReg off w).forced = s.forced := rfl
@[simp] theorem State.setReg_hot (off : Nat) (w : Word) : (s.setReg off w).hot = s.hot := rfl
@[simp] theorem State.setReg_sbSent (off : Nat) (w : Word) : (s.setReg off w).sbSent = s.sbSent := rfl
@[simp] theorem State.setReg_hlReset (off : Nat) (w : Word) : (s.setReg off w).hlReset = s.hlReset := rfl

/-! ## put -/

@[simp] theorem State.put_pending (f : Fld) (v : Nat) : (s.put f v).pending = s.pending := rfl
@[simp] theorem State.put_out (f : Fld) (v : Nat) : (s.put f v).out = s.out := rfl
@[simp] theorem State.put_free (f : Fld) (v : Nat) : (s.put f v).free = s.free := rfl
@[simp] theorem State.put_phase (f : Fld) (v : Nat) : (s.put f v).phase = s.phase := rfl
@[simp] theorem State.put_pw (f : Fld) (v : Nat) : (s.put f v).pw = s.pw := rfl
@[simp] theorem State.put_otp (f : Fld) (v : Nat) : (s.put f v).otp = s.otp := rfl
@[simp] theorem State.put_warm (f : Fld) (v : Nat) : (s.put f v).warm = s.warm := rfl
@[simp] theorem State.put_life (f : Fld) (v : Nat) : (s.put f v).life = s.life := rfl
@[simp] theorem State.put_nor (f : Fld) (v : Nat) : (s.put f v).nor = s.nor := rfl
@[simp] theorem State.put_norOp (f : Fld) (v : Nat) : (s.put f v).norOp = s.norOp := rfl
@[simp] theorem State.put_img (f : Fld) (v : Nat) : (s.put f v).img = s.img := rfl
@[simp] theorem State.put_shadow (f : Fld) (v : Nat) : (s.put f v).shadow = s.shadow := rfl
@[simp] theorem State.put_grdLive (f : Fld) (v : Nat) : (s.put f v).grdLive = s.grdLive := rfl
@[simp] theorem State.put_grdWait (f : Fld) (v : Nat) : (s.put f v).grdWait = s.grdWait := rfl
@[simp] theorem State.put_latch (f : Fld) (v : Nat) : (s.put f v).latch = s.latch := rfl
@[simp] theorem State.put_held (f : Fld) (v : Nat) : (s.put f v).held = s.held := rfl
@[simp] theorem State.put_routes (f : Fld) (v : Nat) : (s.put f v).routes = s.routes := rfl
@[simp] theorem State.put_faultPin (f : Fld) (v : Nat) : (s.put f v).faultPin = s.faultPin := rfl
@[simp] theorem State.put_intLow (f : Fld) (v : Nat) : (s.put f v).intLow = s.intLow := rfl
@[simp] theorem State.put_fcPin (f : Fld) (v : Nat) : (s.put f v).fcPin = s.fcPin := rfl
@[simp] theorem State.put_msix (f : Fld) (v : Nat) : (s.put f v).msix = s.msix := rfl
@[simp] theorem State.put_msixPend (f : Fld) (v : Nat) : (s.put f v).msixPend = s.msixPend := rfl
@[simp] theorem State.put_modSt (f : Fld) (v : Nat) : (s.put f v).modSt = s.modSt := rfl
@[simp] theorem State.put_fns (f : Fld) (v : Nat) : (s.put f v).fns = s.fns := rfl
@[simp] theorem State.put_cmt (f : Fld) (v : Nat) : (s.put f v).cmt = s.cmt := rfl
@[simp] theorem State.put_doms (f : Fld) (v : Nat) : (s.put f v).doms = s.doms := rfl
@[simp] theorem State.put_ramps (f : Fld) (v : Nat) : (s.put f v).ramps = s.ramps := rfl
@[simp] theorem State.put_rampAt (f : Fld) (v : Nat) : (s.put f v).rampAt = s.rampAt := rfl
@[simp] theorem State.put_outHeld (f : Fld) (v : Nat) : (s.put f v).outHeld = s.outHeld := rfl
@[simp] theorem State.put_ingress (f : Fld) (v : Nat) : (s.put f v).ingress = s.ingress := rfl
@[simp] theorem State.put_csoTx (f : Fld) (v : Nat) : (s.put f v).csoTx = s.csoTx := rfl
@[simp] theorem State.put_avsGood (f : Fld) (v : Nat) : (s.put f v).avsGood = s.avsGood := rfl
@[simp] theorem State.put_tm (f : Fld) (v : Nat) : (s.put f v).tm = s.tm := rfl
@[simp] theorem State.put_grps (f : Fld) (v : Nat) : (s.put f v).grps = s.grps := rfl
@[simp] theorem State.put_syncOn (f : Fld) (v : Nat) : (s.put f v).syncOn = s.syncOn := rfl
@[simp] theorem State.put_fsoHigh (f : Fld) (v : Nat) : (s.put f v).fsoHigh = s.fsoHigh := rfl
@[simp] theorem State.put_chans (f : Fld) (v : Nat) : (s.put f v).chans = s.chans := rfl
@[simp] theorem State.put_ents (f : Fld) (v : Nat) : (s.put f v).ents = s.ents := rfl
@[simp] theorem State.put_heldDown (f : Fld) (v : Nat) : (s.put f v).heldDown = s.heldDown := rfl
@[simp] theorem State.put_eqSeen (f : Fld) (v : Nat) : (s.put f v).eqSeen = s.eqSeen := rfl
@[simp] theorem State.put_plc (f : Fld) (v : Nat) : (s.put f v).plc = s.plc := rfl
@[simp] theorem State.put_strms (f : Fld) (v : Nat) : (s.put f v).strms = s.strms := rfl
@[simp] theorem State.put_frames (f : Fld) (v : Nat) : (s.put f v).frames = s.frames := rfl
@[simp] theorem State.put_strokes (f : Fld) (v : Nat) : (s.put f v).strokes = s.strokes := rfl
@[simp] theorem State.put_eas (f : Fld) (v : Nat) : (s.put f v).eas = s.eas := rfl
@[simp] theorem State.put_lawQ (f : Fld) (v : Nat) : (s.put f v).lawQ = s.lawQ := rfl
@[simp] theorem State.put_rings (f : Fld) (v : Nat) : (s.put f v).rings = s.rings := rfl
@[simp] theorem State.put_pour (f : Fld) (v : Nat) : (s.put f v).pour = s.pour := rfl
@[simp] theorem State.put_reads (f : Fld) (v : Nat) : (s.put f v).reads = s.reads := rfl
@[simp] theorem State.put_atc (f : Fld) (v : Nat) : (s.put f v).atc = s.atc := rfl
@[simp] theorem State.put_pubs (f : Fld) (v : Nat) : (s.put f v).pubs = s.pubs := rfl
@[simp] theorem State.put_trl (f : Fld) (v : Nat) : (s.put f v).trl = s.trl := rfl
@[simp] theorem State.put_cells (f : Fld) (v : Nat) : (s.put f v).cells = s.cells := rfl
@[simp] theorem State.put_pal (f : Fld) (v : Nat) : (s.put f v).pal = s.pal := rfl
@[simp] theorem State.put_palFlip (f : Fld) (v : Nat) : (s.put f v).palFlip = s.palFlip := rfl
@[simp] theorem State.put_palOpen (f : Fld) (v : Nat) : (s.put f v).palOpen = s.palOpen := rfl
@[simp] theorem State.put_ques (f : Fld) (v : Nat) : (s.put f v).ques = s.ques := rfl
@[simp] theorem State.put_cen (f : Fld) (v : Nat) : (s.put f v).cen = s.cen := rfl
@[simp] theorem State.put_chk (f : Fld) (v : Nat) : (s.put f v).chk = s.chk := rfl
@[simp] theorem State.put_sig (f : Fld) (v : Nat) : (s.put f v).sig = s.sig := rfl
@[simp] theorem State.put_txe (f : Fld) (v : Nat) : (s.put f v).txe = s.txe := rfl
@[simp] theorem State.put_txePick (f : Fld) (v : Nat) : (s.put f v).txePick = s.txePick := rfl
@[simp] theorem State.put_txeLast (f : Fld) (v : Nat) : (s.put f v).txeLast = s.txeLast := rfl
@[simp] theorem State.put_spdm (f : Fld) (v : Nat) : (s.put f v).spdm = s.spdm := rfl
@[simp] theorem State.put_erk (f : Fld) (v : Nat) : (s.put f v).erk = s.erk := rfl
@[simp] theorem State.put_bist (f : Fld) (v : Nat) : (s.put f v).bist = s.bist := rfl
@[simp] theorem State.put_debug (f : Fld) (v : Nat) : (s.put f v).debug = s.debug := rfl
@[simp] theorem State.put_reord (f : Fld) (v : Nat) : (s.put f v).reord = s.reord := rfl
@[simp] theorem State.put_forced (f : Fld) (v : Nat) : (s.put f v).forced = s.forced := rfl
@[simp] theorem State.put_hot (f : Fld) (v : Nat) : (s.put f v).hot = s.hot := rfl
@[simp] theorem State.put_sbSent (f : Fld) (v : Nat) : (s.put f v).sbSent = s.sbSent := rfl
@[simp] theorem State.put_hlReset (f : Fld) (v : Nat) : (s.put f v).hlReset = s.hlReset := rfl

/-! ## bumpBy -/

@[simp] theorem State.bumpBy_pending (f : Fld) (n : Nat) : (s.bumpBy f n).pending = s.pending := rfl
@[simp] theorem State.bumpBy_out (f : Fld) (n : Nat) : (s.bumpBy f n).out = s.out := rfl
@[simp] theorem State.bumpBy_free (f : Fld) (n : Nat) : (s.bumpBy f n).free = s.free := rfl
@[simp] theorem State.bumpBy_phase (f : Fld) (n : Nat) : (s.bumpBy f n).phase = s.phase := rfl
@[simp] theorem State.bumpBy_pw (f : Fld) (n : Nat) : (s.bumpBy f n).pw = s.pw := rfl
@[simp] theorem State.bumpBy_otp (f : Fld) (n : Nat) : (s.bumpBy f n).otp = s.otp := rfl
@[simp] theorem State.bumpBy_warm (f : Fld) (n : Nat) : (s.bumpBy f n).warm = s.warm := rfl
@[simp] theorem State.bumpBy_life (f : Fld) (n : Nat) : (s.bumpBy f n).life = s.life := rfl
@[simp] theorem State.bumpBy_nor (f : Fld) (n : Nat) : (s.bumpBy f n).nor = s.nor := rfl
@[simp] theorem State.bumpBy_norOp (f : Fld) (n : Nat) : (s.bumpBy f n).norOp = s.norOp := rfl
@[simp] theorem State.bumpBy_img (f : Fld) (n : Nat) : (s.bumpBy f n).img = s.img := rfl
@[simp] theorem State.bumpBy_shadow (f : Fld) (n : Nat) : (s.bumpBy f n).shadow = s.shadow := rfl
@[simp] theorem State.bumpBy_grdLive (f : Fld) (n : Nat) : (s.bumpBy f n).grdLive = s.grdLive := rfl
@[simp] theorem State.bumpBy_grdWait (f : Fld) (n : Nat) : (s.bumpBy f n).grdWait = s.grdWait := rfl
@[simp] theorem State.bumpBy_latch (f : Fld) (n : Nat) : (s.bumpBy f n).latch = s.latch := rfl
@[simp] theorem State.bumpBy_held (f : Fld) (n : Nat) : (s.bumpBy f n).held = s.held := rfl
@[simp] theorem State.bumpBy_routes (f : Fld) (n : Nat) : (s.bumpBy f n).routes = s.routes := rfl
@[simp] theorem State.bumpBy_faultPin (f : Fld) (n : Nat) : (s.bumpBy f n).faultPin = s.faultPin := rfl
@[simp] theorem State.bumpBy_intLow (f : Fld) (n : Nat) : (s.bumpBy f n).intLow = s.intLow := rfl
@[simp] theorem State.bumpBy_fcPin (f : Fld) (n : Nat) : (s.bumpBy f n).fcPin = s.fcPin := rfl
@[simp] theorem State.bumpBy_msix (f : Fld) (n : Nat) : (s.bumpBy f n).msix = s.msix := rfl
@[simp] theorem State.bumpBy_msixPend (f : Fld) (n : Nat) : (s.bumpBy f n).msixPend = s.msixPend := rfl
@[simp] theorem State.bumpBy_modSt (f : Fld) (n : Nat) : (s.bumpBy f n).modSt = s.modSt := rfl
@[simp] theorem State.bumpBy_fns (f : Fld) (n : Nat) : (s.bumpBy f n).fns = s.fns := rfl
@[simp] theorem State.bumpBy_cmt (f : Fld) (n : Nat) : (s.bumpBy f n).cmt = s.cmt := rfl
@[simp] theorem State.bumpBy_doms (f : Fld) (n : Nat) : (s.bumpBy f n).doms = s.doms := rfl
@[simp] theorem State.bumpBy_ramps (f : Fld) (n : Nat) : (s.bumpBy f n).ramps = s.ramps := rfl
@[simp] theorem State.bumpBy_rampAt (f : Fld) (n : Nat) : (s.bumpBy f n).rampAt = s.rampAt := rfl
@[simp] theorem State.bumpBy_outHeld (f : Fld) (n : Nat) : (s.bumpBy f n).outHeld = s.outHeld := rfl
@[simp] theorem State.bumpBy_ingress (f : Fld) (n : Nat) : (s.bumpBy f n).ingress = s.ingress := rfl
@[simp] theorem State.bumpBy_csoTx (f : Fld) (n : Nat) : (s.bumpBy f n).csoTx = s.csoTx := rfl
@[simp] theorem State.bumpBy_avsGood (f : Fld) (n : Nat) : (s.bumpBy f n).avsGood = s.avsGood := rfl
@[simp] theorem State.bumpBy_tm (f : Fld) (n : Nat) : (s.bumpBy f n).tm = s.tm := rfl
@[simp] theorem State.bumpBy_grps (f : Fld) (n : Nat) : (s.bumpBy f n).grps = s.grps := rfl
@[simp] theorem State.bumpBy_syncOn (f : Fld) (n : Nat) : (s.bumpBy f n).syncOn = s.syncOn := rfl
@[simp] theorem State.bumpBy_fsoHigh (f : Fld) (n : Nat) : (s.bumpBy f n).fsoHigh = s.fsoHigh := rfl
@[simp] theorem State.bumpBy_chans (f : Fld) (n : Nat) : (s.bumpBy f n).chans = s.chans := rfl
@[simp] theorem State.bumpBy_ents (f : Fld) (n : Nat) : (s.bumpBy f n).ents = s.ents := rfl
@[simp] theorem State.bumpBy_heldDown (f : Fld) (n : Nat) : (s.bumpBy f n).heldDown = s.heldDown := rfl
@[simp] theorem State.bumpBy_eqSeen (f : Fld) (n : Nat) : (s.bumpBy f n).eqSeen = s.eqSeen := rfl
@[simp] theorem State.bumpBy_plc (f : Fld) (n : Nat) : (s.bumpBy f n).plc = s.plc := rfl
@[simp] theorem State.bumpBy_strms (f : Fld) (n : Nat) : (s.bumpBy f n).strms = s.strms := rfl
@[simp] theorem State.bumpBy_frames (f : Fld) (n : Nat) : (s.bumpBy f n).frames = s.frames := rfl
@[simp] theorem State.bumpBy_strokes (f : Fld) (n : Nat) : (s.bumpBy f n).strokes = s.strokes := rfl
@[simp] theorem State.bumpBy_eas (f : Fld) (n : Nat) : (s.bumpBy f n).eas = s.eas := rfl
@[simp] theorem State.bumpBy_lawQ (f : Fld) (n : Nat) : (s.bumpBy f n).lawQ = s.lawQ := rfl
@[simp] theorem State.bumpBy_rings (f : Fld) (n : Nat) : (s.bumpBy f n).rings = s.rings := rfl
@[simp] theorem State.bumpBy_pour (f : Fld) (n : Nat) : (s.bumpBy f n).pour = s.pour := rfl
@[simp] theorem State.bumpBy_reads (f : Fld) (n : Nat) : (s.bumpBy f n).reads = s.reads := rfl
@[simp] theorem State.bumpBy_atc (f : Fld) (n : Nat) : (s.bumpBy f n).atc = s.atc := rfl
@[simp] theorem State.bumpBy_pubs (f : Fld) (n : Nat) : (s.bumpBy f n).pubs = s.pubs := rfl
@[simp] theorem State.bumpBy_trl (f : Fld) (n : Nat) : (s.bumpBy f n).trl = s.trl := rfl
@[simp] theorem State.bumpBy_cells (f : Fld) (n : Nat) : (s.bumpBy f n).cells = s.cells := rfl
@[simp] theorem State.bumpBy_pal (f : Fld) (n : Nat) : (s.bumpBy f n).pal = s.pal := rfl
@[simp] theorem State.bumpBy_palFlip (f : Fld) (n : Nat) : (s.bumpBy f n).palFlip = s.palFlip := rfl
@[simp] theorem State.bumpBy_palOpen (f : Fld) (n : Nat) : (s.bumpBy f n).palOpen = s.palOpen := rfl
@[simp] theorem State.bumpBy_ques (f : Fld) (n : Nat) : (s.bumpBy f n).ques = s.ques := rfl
@[simp] theorem State.bumpBy_cen (f : Fld) (n : Nat) : (s.bumpBy f n).cen = s.cen := rfl
@[simp] theorem State.bumpBy_chk (f : Fld) (n : Nat) : (s.bumpBy f n).chk = s.chk := rfl
@[simp] theorem State.bumpBy_sig (f : Fld) (n : Nat) : (s.bumpBy f n).sig = s.sig := rfl
@[simp] theorem State.bumpBy_txe (f : Fld) (n : Nat) : (s.bumpBy f n).txe = s.txe := rfl
@[simp] theorem State.bumpBy_txePick (f : Fld) (n : Nat) : (s.bumpBy f n).txePick = s.txePick := rfl
@[simp] theorem State.bumpBy_txeLast (f : Fld) (n : Nat) : (s.bumpBy f n).txeLast = s.txeLast := rfl
@[simp] theorem State.bumpBy_spdm (f : Fld) (n : Nat) : (s.bumpBy f n).spdm = s.spdm := rfl
@[simp] theorem State.bumpBy_erk (f : Fld) (n : Nat) : (s.bumpBy f n).erk = s.erk := rfl
@[simp] theorem State.bumpBy_bist (f : Fld) (n : Nat) : (s.bumpBy f n).bist = s.bist := rfl
@[simp] theorem State.bumpBy_debug (f : Fld) (n : Nat) : (s.bumpBy f n).debug = s.debug := rfl
@[simp] theorem State.bumpBy_reord (f : Fld) (n : Nat) : (s.bumpBy f n).reord = s.reord := rfl
@[simp] theorem State.bumpBy_forced (f : Fld) (n : Nat) : (s.bumpBy f n).forced = s.forced := rfl
@[simp] theorem State.bumpBy_hot (f : Fld) (n : Nat) : (s.bumpBy f n).hot = s.hot := rfl
@[simp] theorem State.bumpBy_sbSent (f : Fld) (n : Nat) : (s.bumpBy f n).sbSent = s.sbSent := rfl
@[simp] theorem State.bumpBy_hlReset (f : Fld) (n : Nat) : (s.bumpBy f n).hlReset = s.hlReset := rfl

/-! ## bump -/

@[simp] theorem State.bump_pending (f : Fld) : (s.bump f).pending = s.pending := rfl
@[simp] theorem State.bump_out (f : Fld) : (s.bump f).out = s.out := rfl
@[simp] theorem State.bump_free (f : Fld) : (s.bump f).free = s.free := rfl
@[simp] theorem State.bump_phase (f : Fld) : (s.bump f).phase = s.phase := rfl
@[simp] theorem State.bump_pw (f : Fld) : (s.bump f).pw = s.pw := rfl
@[simp] theorem State.bump_otp (f : Fld) : (s.bump f).otp = s.otp := rfl
@[simp] theorem State.bump_warm (f : Fld) : (s.bump f).warm = s.warm := rfl
@[simp] theorem State.bump_life (f : Fld) : (s.bump f).life = s.life := rfl
@[simp] theorem State.bump_nor (f : Fld) : (s.bump f).nor = s.nor := rfl
@[simp] theorem State.bump_norOp (f : Fld) : (s.bump f).norOp = s.norOp := rfl
@[simp] theorem State.bump_img (f : Fld) : (s.bump f).img = s.img := rfl
@[simp] theorem State.bump_shadow (f : Fld) : (s.bump f).shadow = s.shadow := rfl
@[simp] theorem State.bump_grdLive (f : Fld) : (s.bump f).grdLive = s.grdLive := rfl
@[simp] theorem State.bump_grdWait (f : Fld) : (s.bump f).grdWait = s.grdWait := rfl
@[simp] theorem State.bump_latch (f : Fld) : (s.bump f).latch = s.latch := rfl
@[simp] theorem State.bump_held (f : Fld) : (s.bump f).held = s.held := rfl
@[simp] theorem State.bump_routes (f : Fld) : (s.bump f).routes = s.routes := rfl
@[simp] theorem State.bump_faultPin (f : Fld) : (s.bump f).faultPin = s.faultPin := rfl
@[simp] theorem State.bump_intLow (f : Fld) : (s.bump f).intLow = s.intLow := rfl
@[simp] theorem State.bump_fcPin (f : Fld) : (s.bump f).fcPin = s.fcPin := rfl
@[simp] theorem State.bump_msix (f : Fld) : (s.bump f).msix = s.msix := rfl
@[simp] theorem State.bump_msixPend (f : Fld) : (s.bump f).msixPend = s.msixPend := rfl
@[simp] theorem State.bump_modSt (f : Fld) : (s.bump f).modSt = s.modSt := rfl
@[simp] theorem State.bump_fns (f : Fld) : (s.bump f).fns = s.fns := rfl
@[simp] theorem State.bump_cmt (f : Fld) : (s.bump f).cmt = s.cmt := rfl
@[simp] theorem State.bump_doms (f : Fld) : (s.bump f).doms = s.doms := rfl
@[simp] theorem State.bump_ramps (f : Fld) : (s.bump f).ramps = s.ramps := rfl
@[simp] theorem State.bump_rampAt (f : Fld) : (s.bump f).rampAt = s.rampAt := rfl
@[simp] theorem State.bump_outHeld (f : Fld) : (s.bump f).outHeld = s.outHeld := rfl
@[simp] theorem State.bump_ingress (f : Fld) : (s.bump f).ingress = s.ingress := rfl
@[simp] theorem State.bump_csoTx (f : Fld) : (s.bump f).csoTx = s.csoTx := rfl
@[simp] theorem State.bump_avsGood (f : Fld) : (s.bump f).avsGood = s.avsGood := rfl
@[simp] theorem State.bump_tm (f : Fld) : (s.bump f).tm = s.tm := rfl
@[simp] theorem State.bump_grps (f : Fld) : (s.bump f).grps = s.grps := rfl
@[simp] theorem State.bump_syncOn (f : Fld) : (s.bump f).syncOn = s.syncOn := rfl
@[simp] theorem State.bump_fsoHigh (f : Fld) : (s.bump f).fsoHigh = s.fsoHigh := rfl
@[simp] theorem State.bump_chans (f : Fld) : (s.bump f).chans = s.chans := rfl
@[simp] theorem State.bump_ents (f : Fld) : (s.bump f).ents = s.ents := rfl
@[simp] theorem State.bump_heldDown (f : Fld) : (s.bump f).heldDown = s.heldDown := rfl
@[simp] theorem State.bump_eqSeen (f : Fld) : (s.bump f).eqSeen = s.eqSeen := rfl
@[simp] theorem State.bump_plc (f : Fld) : (s.bump f).plc = s.plc := rfl
@[simp] theorem State.bump_strms (f : Fld) : (s.bump f).strms = s.strms := rfl
@[simp] theorem State.bump_frames (f : Fld) : (s.bump f).frames = s.frames := rfl
@[simp] theorem State.bump_strokes (f : Fld) : (s.bump f).strokes = s.strokes := rfl
@[simp] theorem State.bump_eas (f : Fld) : (s.bump f).eas = s.eas := rfl
@[simp] theorem State.bump_lawQ (f : Fld) : (s.bump f).lawQ = s.lawQ := rfl
@[simp] theorem State.bump_rings (f : Fld) : (s.bump f).rings = s.rings := rfl
@[simp] theorem State.bump_pour (f : Fld) : (s.bump f).pour = s.pour := rfl
@[simp] theorem State.bump_reads (f : Fld) : (s.bump f).reads = s.reads := rfl
@[simp] theorem State.bump_atc (f : Fld) : (s.bump f).atc = s.atc := rfl
@[simp] theorem State.bump_pubs (f : Fld) : (s.bump f).pubs = s.pubs := rfl
@[simp] theorem State.bump_trl (f : Fld) : (s.bump f).trl = s.trl := rfl
@[simp] theorem State.bump_cells (f : Fld) : (s.bump f).cells = s.cells := rfl
@[simp] theorem State.bump_pal (f : Fld) : (s.bump f).pal = s.pal := rfl
@[simp] theorem State.bump_palFlip (f : Fld) : (s.bump f).palFlip = s.palFlip := rfl
@[simp] theorem State.bump_palOpen (f : Fld) : (s.bump f).palOpen = s.palOpen := rfl
@[simp] theorem State.bump_ques (f : Fld) : (s.bump f).ques = s.ques := rfl
@[simp] theorem State.bump_cen (f : Fld) : (s.bump f).cen = s.cen := rfl
@[simp] theorem State.bump_chk (f : Fld) : (s.bump f).chk = s.chk := rfl
@[simp] theorem State.bump_sig (f : Fld) : (s.bump f).sig = s.sig := rfl
@[simp] theorem State.bump_txe (f : Fld) : (s.bump f).txe = s.txe := rfl
@[simp] theorem State.bump_txePick (f : Fld) : (s.bump f).txePick = s.txePick := rfl
@[simp] theorem State.bump_txeLast (f : Fld) : (s.bump f).txeLast = s.txeLast := rfl
@[simp] theorem State.bump_spdm (f : Fld) : (s.bump f).spdm = s.spdm := rfl
@[simp] theorem State.bump_erk (f : Fld) : (s.bump f).erk = s.erk := rfl
@[simp] theorem State.bump_bist (f : Fld) : (s.bump f).bist = s.bist := rfl
@[simp] theorem State.bump_debug (f : Fld) : (s.bump f).debug = s.debug := rfl
@[simp] theorem State.bump_reord (f : Fld) : (s.bump f).reord = s.reord := rfl
@[simp] theorem State.bump_forced (f : Fld) : (s.bump f).forced = s.forced := rfl
@[simp] theorem State.bump_hot (f : Fld) : (s.bump f).hot = s.hot := rfl
@[simp] theorem State.bump_sbSent (f : Fld) : (s.bump f).sbSent = s.sbSent := rfl
@[simp] theorem State.bump_hlReset (f : Fld) : (s.bump f).hlReset = s.hlReset := rfl

/-! ## wrapInc -/

@[simp] theorem State.wrapInc_pending (f : Fld) : (s.wrapInc f).pending = s.pending := rfl
@[simp] theorem State.wrapInc_out (f : Fld) : (s.wrapInc f).out = s.out := rfl
@[simp] theorem State.wrapInc_free (f : Fld) : (s.wrapInc f).free = s.free := rfl
@[simp] theorem State.wrapInc_phase (f : Fld) : (s.wrapInc f).phase = s.phase := rfl
@[simp] theorem State.wrapInc_pw (f : Fld) : (s.wrapInc f).pw = s.pw := rfl
@[simp] theorem State.wrapInc_otp (f : Fld) : (s.wrapInc f).otp = s.otp := rfl
@[simp] theorem State.wrapInc_warm (f : Fld) : (s.wrapInc f).warm = s.warm := rfl
@[simp] theorem State.wrapInc_life (f : Fld) : (s.wrapInc f).life = s.life := rfl
@[simp] theorem State.wrapInc_nor (f : Fld) : (s.wrapInc f).nor = s.nor := rfl
@[simp] theorem State.wrapInc_norOp (f : Fld) : (s.wrapInc f).norOp = s.norOp := rfl
@[simp] theorem State.wrapInc_img (f : Fld) : (s.wrapInc f).img = s.img := rfl
@[simp] theorem State.wrapInc_shadow (f : Fld) : (s.wrapInc f).shadow = s.shadow := rfl
@[simp] theorem State.wrapInc_grdLive (f : Fld) : (s.wrapInc f).grdLive = s.grdLive := rfl
@[simp] theorem State.wrapInc_grdWait (f : Fld) : (s.wrapInc f).grdWait = s.grdWait := rfl
@[simp] theorem State.wrapInc_latch (f : Fld) : (s.wrapInc f).latch = s.latch := rfl
@[simp] theorem State.wrapInc_held (f : Fld) : (s.wrapInc f).held = s.held := rfl
@[simp] theorem State.wrapInc_routes (f : Fld) : (s.wrapInc f).routes = s.routes := rfl
@[simp] theorem State.wrapInc_faultPin (f : Fld) : (s.wrapInc f).faultPin = s.faultPin := rfl
@[simp] theorem State.wrapInc_intLow (f : Fld) : (s.wrapInc f).intLow = s.intLow := rfl
@[simp] theorem State.wrapInc_fcPin (f : Fld) : (s.wrapInc f).fcPin = s.fcPin := rfl
@[simp] theorem State.wrapInc_msix (f : Fld) : (s.wrapInc f).msix = s.msix := rfl
@[simp] theorem State.wrapInc_msixPend (f : Fld) : (s.wrapInc f).msixPend = s.msixPend := rfl
@[simp] theorem State.wrapInc_modSt (f : Fld) : (s.wrapInc f).modSt = s.modSt := rfl
@[simp] theorem State.wrapInc_fns (f : Fld) : (s.wrapInc f).fns = s.fns := rfl
@[simp] theorem State.wrapInc_cmt (f : Fld) : (s.wrapInc f).cmt = s.cmt := rfl
@[simp] theorem State.wrapInc_doms (f : Fld) : (s.wrapInc f).doms = s.doms := rfl
@[simp] theorem State.wrapInc_ramps (f : Fld) : (s.wrapInc f).ramps = s.ramps := rfl
@[simp] theorem State.wrapInc_rampAt (f : Fld) : (s.wrapInc f).rampAt = s.rampAt := rfl
@[simp] theorem State.wrapInc_outHeld (f : Fld) : (s.wrapInc f).outHeld = s.outHeld := rfl
@[simp] theorem State.wrapInc_ingress (f : Fld) : (s.wrapInc f).ingress = s.ingress := rfl
@[simp] theorem State.wrapInc_csoTx (f : Fld) : (s.wrapInc f).csoTx = s.csoTx := rfl
@[simp] theorem State.wrapInc_avsGood (f : Fld) : (s.wrapInc f).avsGood = s.avsGood := rfl
@[simp] theorem State.wrapInc_tm (f : Fld) : (s.wrapInc f).tm = s.tm := rfl
@[simp] theorem State.wrapInc_grps (f : Fld) : (s.wrapInc f).grps = s.grps := rfl
@[simp] theorem State.wrapInc_syncOn (f : Fld) : (s.wrapInc f).syncOn = s.syncOn := rfl
@[simp] theorem State.wrapInc_fsoHigh (f : Fld) : (s.wrapInc f).fsoHigh = s.fsoHigh := rfl
@[simp] theorem State.wrapInc_chans (f : Fld) : (s.wrapInc f).chans = s.chans := rfl
@[simp] theorem State.wrapInc_ents (f : Fld) : (s.wrapInc f).ents = s.ents := rfl
@[simp] theorem State.wrapInc_heldDown (f : Fld) : (s.wrapInc f).heldDown = s.heldDown := rfl
@[simp] theorem State.wrapInc_eqSeen (f : Fld) : (s.wrapInc f).eqSeen = s.eqSeen := rfl
@[simp] theorem State.wrapInc_plc (f : Fld) : (s.wrapInc f).plc = s.plc := rfl
@[simp] theorem State.wrapInc_strms (f : Fld) : (s.wrapInc f).strms = s.strms := rfl
@[simp] theorem State.wrapInc_frames (f : Fld) : (s.wrapInc f).frames = s.frames := rfl
@[simp] theorem State.wrapInc_strokes (f : Fld) : (s.wrapInc f).strokes = s.strokes := rfl
@[simp] theorem State.wrapInc_eas (f : Fld) : (s.wrapInc f).eas = s.eas := rfl
@[simp] theorem State.wrapInc_lawQ (f : Fld) : (s.wrapInc f).lawQ = s.lawQ := rfl
@[simp] theorem State.wrapInc_rings (f : Fld) : (s.wrapInc f).rings = s.rings := rfl
@[simp] theorem State.wrapInc_pour (f : Fld) : (s.wrapInc f).pour = s.pour := rfl
@[simp] theorem State.wrapInc_reads (f : Fld) : (s.wrapInc f).reads = s.reads := rfl
@[simp] theorem State.wrapInc_atc (f : Fld) : (s.wrapInc f).atc = s.atc := rfl
@[simp] theorem State.wrapInc_pubs (f : Fld) : (s.wrapInc f).pubs = s.pubs := rfl
@[simp] theorem State.wrapInc_trl (f : Fld) : (s.wrapInc f).trl = s.trl := rfl
@[simp] theorem State.wrapInc_cells (f : Fld) : (s.wrapInc f).cells = s.cells := rfl
@[simp] theorem State.wrapInc_pal (f : Fld) : (s.wrapInc f).pal = s.pal := rfl
@[simp] theorem State.wrapInc_palFlip (f : Fld) : (s.wrapInc f).palFlip = s.palFlip := rfl
@[simp] theorem State.wrapInc_palOpen (f : Fld) : (s.wrapInc f).palOpen = s.palOpen := rfl
@[simp] theorem State.wrapInc_ques (f : Fld) : (s.wrapInc f).ques = s.ques := rfl
@[simp] theorem State.wrapInc_cen (f : Fld) : (s.wrapInc f).cen = s.cen := rfl
@[simp] theorem State.wrapInc_chk (f : Fld) : (s.wrapInc f).chk = s.chk := rfl
@[simp] theorem State.wrapInc_sig (f : Fld) : (s.wrapInc f).sig = s.sig := rfl
@[simp] theorem State.wrapInc_txe (f : Fld) : (s.wrapInc f).txe = s.txe := rfl
@[simp] theorem State.wrapInc_txePick (f : Fld) : (s.wrapInc f).txePick = s.txePick := rfl
@[simp] theorem State.wrapInc_txeLast (f : Fld) : (s.wrapInc f).txeLast = s.txeLast := rfl
@[simp] theorem State.wrapInc_spdm (f : Fld) : (s.wrapInc f).spdm = s.spdm := rfl
@[simp] theorem State.wrapInc_erk (f : Fld) : (s.wrapInc f).erk = s.erk := rfl
@[simp] theorem State.wrapInc_bist (f : Fld) : (s.wrapInc f).bist = s.bist := rfl
@[simp] theorem State.wrapInc_debug (f : Fld) : (s.wrapInc f).debug = s.debug := rfl
@[simp] theorem State.wrapInc_reord (f : Fld) : (s.wrapInc f).reord = s.reord := rfl
@[simp] theorem State.wrapInc_forced (f : Fld) : (s.wrapInc f).forced = s.forced := rfl
@[simp] theorem State.wrapInc_hot (f : Fld) : (s.wrapInc f).hot = s.hot := rfl
@[simp] theorem State.wrapInc_sbSent (f : Fld) : (s.wrapInc f).sbSent = s.sbSent := rfl
@[simp] theorem State.wrapInc_hlReset (f : Fld) : (s.wrapInc f).hlReset = s.hlReset := rfl

/-! ## setReg64 -/

@[simp] theorem State.setReg64_pending (off v : Nat) : (s.setReg64 off v).pending = s.pending := rfl
@[simp] theorem State.setReg64_out (off v : Nat) : (s.setReg64 off v).out = s.out := rfl
@[simp] theorem State.setReg64_free (off v : Nat) : (s.setReg64 off v).free = s.free := rfl
@[simp] theorem State.setReg64_phase (off v : Nat) : (s.setReg64 off v).phase = s.phase := rfl
@[simp] theorem State.setReg64_pw (off v : Nat) : (s.setReg64 off v).pw = s.pw := rfl
@[simp] theorem State.setReg64_otp (off v : Nat) : (s.setReg64 off v).otp = s.otp := rfl
@[simp] theorem State.setReg64_warm (off v : Nat) : (s.setReg64 off v).warm = s.warm := rfl
@[simp] theorem State.setReg64_life (off v : Nat) : (s.setReg64 off v).life = s.life := rfl
@[simp] theorem State.setReg64_nor (off v : Nat) : (s.setReg64 off v).nor = s.nor := rfl
@[simp] theorem State.setReg64_norOp (off v : Nat) : (s.setReg64 off v).norOp = s.norOp := rfl
@[simp] theorem State.setReg64_img (off v : Nat) : (s.setReg64 off v).img = s.img := rfl
@[simp] theorem State.setReg64_shadow (off v : Nat) : (s.setReg64 off v).shadow = s.shadow := rfl
@[simp] theorem State.setReg64_grdLive (off v : Nat) : (s.setReg64 off v).grdLive = s.grdLive := rfl
@[simp] theorem State.setReg64_grdWait (off v : Nat) : (s.setReg64 off v).grdWait = s.grdWait := rfl
@[simp] theorem State.setReg64_latch (off v : Nat) : (s.setReg64 off v).latch = s.latch := rfl
@[simp] theorem State.setReg64_held (off v : Nat) : (s.setReg64 off v).held = s.held := rfl
@[simp] theorem State.setReg64_routes (off v : Nat) : (s.setReg64 off v).routes = s.routes := rfl
@[simp] theorem State.setReg64_faultPin (off v : Nat) : (s.setReg64 off v).faultPin = s.faultPin := rfl
@[simp] theorem State.setReg64_intLow (off v : Nat) : (s.setReg64 off v).intLow = s.intLow := rfl
@[simp] theorem State.setReg64_fcPin (off v : Nat) : (s.setReg64 off v).fcPin = s.fcPin := rfl
@[simp] theorem State.setReg64_msix (off v : Nat) : (s.setReg64 off v).msix = s.msix := rfl
@[simp] theorem State.setReg64_msixPend (off v : Nat) : (s.setReg64 off v).msixPend = s.msixPend := rfl
@[simp] theorem State.setReg64_modSt (off v : Nat) : (s.setReg64 off v).modSt = s.modSt := rfl
@[simp] theorem State.setReg64_fns (off v : Nat) : (s.setReg64 off v).fns = s.fns := rfl
@[simp] theorem State.setReg64_cmt (off v : Nat) : (s.setReg64 off v).cmt = s.cmt := rfl
@[simp] theorem State.setReg64_doms (off v : Nat) : (s.setReg64 off v).doms = s.doms := rfl
@[simp] theorem State.setReg64_ramps (off v : Nat) : (s.setReg64 off v).ramps = s.ramps := rfl
@[simp] theorem State.setReg64_rampAt (off v : Nat) : (s.setReg64 off v).rampAt = s.rampAt := rfl
@[simp] theorem State.setReg64_outHeld (off v : Nat) : (s.setReg64 off v).outHeld = s.outHeld := rfl
@[simp] theorem State.setReg64_ingress (off v : Nat) : (s.setReg64 off v).ingress = s.ingress := rfl
@[simp] theorem State.setReg64_csoTx (off v : Nat) : (s.setReg64 off v).csoTx = s.csoTx := rfl
@[simp] theorem State.setReg64_avsGood (off v : Nat) : (s.setReg64 off v).avsGood = s.avsGood := rfl
@[simp] theorem State.setReg64_tm (off v : Nat) : (s.setReg64 off v).tm = s.tm := rfl
@[simp] theorem State.setReg64_grps (off v : Nat) : (s.setReg64 off v).grps = s.grps := rfl
@[simp] theorem State.setReg64_syncOn (off v : Nat) : (s.setReg64 off v).syncOn = s.syncOn := rfl
@[simp] theorem State.setReg64_fsoHigh (off v : Nat) : (s.setReg64 off v).fsoHigh = s.fsoHigh := rfl
@[simp] theorem State.setReg64_chans (off v : Nat) : (s.setReg64 off v).chans = s.chans := rfl
@[simp] theorem State.setReg64_ents (off v : Nat) : (s.setReg64 off v).ents = s.ents := rfl
@[simp] theorem State.setReg64_heldDown (off v : Nat) : (s.setReg64 off v).heldDown = s.heldDown := rfl
@[simp] theorem State.setReg64_eqSeen (off v : Nat) : (s.setReg64 off v).eqSeen = s.eqSeen := rfl
@[simp] theorem State.setReg64_plc (off v : Nat) : (s.setReg64 off v).plc = s.plc := rfl
@[simp] theorem State.setReg64_strms (off v : Nat) : (s.setReg64 off v).strms = s.strms := rfl
@[simp] theorem State.setReg64_frames (off v : Nat) : (s.setReg64 off v).frames = s.frames := rfl
@[simp] theorem State.setReg64_strokes (off v : Nat) : (s.setReg64 off v).strokes = s.strokes := rfl
@[simp] theorem State.setReg64_eas (off v : Nat) : (s.setReg64 off v).eas = s.eas := rfl
@[simp] theorem State.setReg64_lawQ (off v : Nat) : (s.setReg64 off v).lawQ = s.lawQ := rfl
@[simp] theorem State.setReg64_rings (off v : Nat) : (s.setReg64 off v).rings = s.rings := rfl
@[simp] theorem State.setReg64_pour (off v : Nat) : (s.setReg64 off v).pour = s.pour := rfl
@[simp] theorem State.setReg64_reads (off v : Nat) : (s.setReg64 off v).reads = s.reads := rfl
@[simp] theorem State.setReg64_atc (off v : Nat) : (s.setReg64 off v).atc = s.atc := rfl
@[simp] theorem State.setReg64_pubs (off v : Nat) : (s.setReg64 off v).pubs = s.pubs := rfl
@[simp] theorem State.setReg64_trl (off v : Nat) : (s.setReg64 off v).trl = s.trl := rfl
@[simp] theorem State.setReg64_cells (off v : Nat) : (s.setReg64 off v).cells = s.cells := rfl
@[simp] theorem State.setReg64_pal (off v : Nat) : (s.setReg64 off v).pal = s.pal := rfl
@[simp] theorem State.setReg64_palFlip (off v : Nat) : (s.setReg64 off v).palFlip = s.palFlip := rfl
@[simp] theorem State.setReg64_palOpen (off v : Nat) : (s.setReg64 off v).palOpen = s.palOpen := rfl
@[simp] theorem State.setReg64_ques (off v : Nat) : (s.setReg64 off v).ques = s.ques := rfl
@[simp] theorem State.setReg64_cen (off v : Nat) : (s.setReg64 off v).cen = s.cen := rfl
@[simp] theorem State.setReg64_chk (off v : Nat) : (s.setReg64 off v).chk = s.chk := rfl
@[simp] theorem State.setReg64_sig (off v : Nat) : (s.setReg64 off v).sig = s.sig := rfl
@[simp] theorem State.setReg64_txe (off v : Nat) : (s.setReg64 off v).txe = s.txe := rfl
@[simp] theorem State.setReg64_txePick (off v : Nat) : (s.setReg64 off v).txePick = s.txePick := rfl
@[simp] theorem State.setReg64_txeLast (off v : Nat) : (s.setReg64 off v).txeLast = s.txeLast := rfl
@[simp] theorem State.setReg64_spdm (off v : Nat) : (s.setReg64 off v).spdm = s.spdm := rfl
@[simp] theorem State.setReg64_erk (off v : Nat) : (s.setReg64 off v).erk = s.erk := rfl
@[simp] theorem State.setReg64_bist (off v : Nat) : (s.setReg64 off v).bist = s.bist := rfl
@[simp] theorem State.setReg64_debug (off v : Nat) : (s.setReg64 off v).debug = s.debug := rfl
@[simp] theorem State.setReg64_reord (off v : Nat) : (s.setReg64 off v).reord = s.reord := rfl
@[simp] theorem State.setReg64_forced (off v : Nat) : (s.setReg64 off v).forced = s.forced := rfl
@[simp] theorem State.setReg64_hot (off v : Nat) : (s.setReg64 off v).hot = s.hot := rfl
@[simp] theorem State.setReg64_sbSent (off v : Nat) : (s.setReg64 off v).sbSent = s.sbSent := rfl
@[simp] theorem State.setReg64_hlReset (off v : Nat) : (s.setReg64 off v).hlReset = s.hlReset := rfl

/-! ## emit -/

@[simp] theorem State.emit_pending (o : Out) : (s.emit o).pending = s.pending := rfl
@[simp] theorem State.emit_out (o : Out) : (s.emit o).out = o :: s.out := rfl
@[simp] theorem State.emit_free (o : Out) : (s.emit o).free = s.free := rfl
@[simp] theorem State.emit_phase (o : Out) : (s.emit o).phase = s.phase := rfl
@[simp] theorem State.emit_pw (o : Out) : (s.emit o).pw = s.pw := rfl
@[simp] theorem State.emit_otp (o : Out) : (s.emit o).otp = s.otp := rfl
@[simp] theorem State.emit_warm (o : Out) : (s.emit o).warm = s.warm := rfl
@[simp] theorem State.emit_life (o : Out) : (s.emit o).life = s.life := rfl
@[simp] theorem State.emit_nor (o : Out) : (s.emit o).nor = s.nor := rfl
@[simp] theorem State.emit_norOp (o : Out) : (s.emit o).norOp = s.norOp := rfl
@[simp] theorem State.emit_img (o : Out) : (s.emit o).img = s.img := rfl
@[simp] theorem State.emit_regs (o : Out) : (s.emit o).regs = s.regs := rfl
@[simp] theorem State.emit_shadow (o : Out) : (s.emit o).shadow = s.shadow := rfl
@[simp] theorem State.emit_grdLive (o : Out) : (s.emit o).grdLive = s.grdLive := rfl
@[simp] theorem State.emit_grdWait (o : Out) : (s.emit o).grdWait = s.grdWait := rfl
@[simp] theorem State.emit_latch (o : Out) : (s.emit o).latch = s.latch := rfl
@[simp] theorem State.emit_held (o : Out) : (s.emit o).held = s.held := rfl
@[simp] theorem State.emit_routes (o : Out) : (s.emit o).routes = s.routes := rfl
@[simp] theorem State.emit_faultPin (o : Out) : (s.emit o).faultPin = s.faultPin := rfl
@[simp] theorem State.emit_intLow (o : Out) : (s.emit o).intLow = s.intLow := rfl
@[simp] theorem State.emit_fcPin (o : Out) : (s.emit o).fcPin = s.fcPin := rfl
@[simp] theorem State.emit_msix (o : Out) : (s.emit o).msix = s.msix := rfl
@[simp] theorem State.emit_msixPend (o : Out) : (s.emit o).msixPend = s.msixPend := rfl
@[simp] theorem State.emit_modSt (o : Out) : (s.emit o).modSt = s.modSt := rfl
@[simp] theorem State.emit_fns (o : Out) : (s.emit o).fns = s.fns := rfl
@[simp] theorem State.emit_cmt (o : Out) : (s.emit o).cmt = s.cmt := rfl
@[simp] theorem State.emit_doms (o : Out) : (s.emit o).doms = s.doms := rfl
@[simp] theorem State.emit_ramps (o : Out) : (s.emit o).ramps = s.ramps := rfl
@[simp] theorem State.emit_rampAt (o : Out) : (s.emit o).rampAt = s.rampAt := rfl
@[simp] theorem State.emit_outHeld (o : Out) : (s.emit o).outHeld = s.outHeld := rfl
@[simp] theorem State.emit_ingress (o : Out) : (s.emit o).ingress = s.ingress := rfl
@[simp] theorem State.emit_csoTx (o : Out) : (s.emit o).csoTx = s.csoTx := rfl
@[simp] theorem State.emit_avsGood (o : Out) : (s.emit o).avsGood = s.avsGood := rfl
@[simp] theorem State.emit_tm (o : Out) : (s.emit o).tm = s.tm := rfl
@[simp] theorem State.emit_grps (o : Out) : (s.emit o).grps = s.grps := rfl
@[simp] theorem State.emit_syncOn (o : Out) : (s.emit o).syncOn = s.syncOn := rfl
@[simp] theorem State.emit_fsoHigh (o : Out) : (s.emit o).fsoHigh = s.fsoHigh := rfl
@[simp] theorem State.emit_chans (o : Out) : (s.emit o).chans = s.chans := rfl
@[simp] theorem State.emit_ents (o : Out) : (s.emit o).ents = s.ents := rfl
@[simp] theorem State.emit_heldDown (o : Out) : (s.emit o).heldDown = s.heldDown := rfl
@[simp] theorem State.emit_eqSeen (o : Out) : (s.emit o).eqSeen = s.eqSeen := rfl
@[simp] theorem State.emit_plc (o : Out) : (s.emit o).plc = s.plc := rfl
@[simp] theorem State.emit_strms (o : Out) : (s.emit o).strms = s.strms := rfl
@[simp] theorem State.emit_frames (o : Out) : (s.emit o).frames = s.frames := rfl
@[simp] theorem State.emit_strokes (o : Out) : (s.emit o).strokes = s.strokes := rfl
@[simp] theorem State.emit_eas (o : Out) : (s.emit o).eas = s.eas := rfl
@[simp] theorem State.emit_lawQ (o : Out) : (s.emit o).lawQ = s.lawQ := rfl
@[simp] theorem State.emit_rings (o : Out) : (s.emit o).rings = s.rings := rfl
@[simp] theorem State.emit_pour (o : Out) : (s.emit o).pour = s.pour := rfl
@[simp] theorem State.emit_reads (o : Out) : (s.emit o).reads = s.reads := rfl
@[simp] theorem State.emit_atc (o : Out) : (s.emit o).atc = s.atc := rfl
@[simp] theorem State.emit_pubs (o : Out) : (s.emit o).pubs = s.pubs := rfl
@[simp] theorem State.emit_trl (o : Out) : (s.emit o).trl = s.trl := rfl
@[simp] theorem State.emit_cells (o : Out) : (s.emit o).cells = s.cells := rfl
@[simp] theorem State.emit_pal (o : Out) : (s.emit o).pal = s.pal := rfl
@[simp] theorem State.emit_palFlip (o : Out) : (s.emit o).palFlip = s.palFlip := rfl
@[simp] theorem State.emit_palOpen (o : Out) : (s.emit o).palOpen = s.palOpen := rfl
@[simp] theorem State.emit_ques (o : Out) : (s.emit o).ques = s.ques := rfl
@[simp] theorem State.emit_cen (o : Out) : (s.emit o).cen = s.cen := rfl
@[simp] theorem State.emit_chk (o : Out) : (s.emit o).chk = s.chk := rfl
@[simp] theorem State.emit_sig (o : Out) : (s.emit o).sig = s.sig := rfl
@[simp] theorem State.emit_txe (o : Out) : (s.emit o).txe = s.txe := rfl
@[simp] theorem State.emit_txePick (o : Out) : (s.emit o).txePick = s.txePick := rfl
@[simp] theorem State.emit_txeLast (o : Out) : (s.emit o).txeLast = s.txeLast := rfl
@[simp] theorem State.emit_spdm (o : Out) : (s.emit o).spdm = s.spdm := rfl
@[simp] theorem State.emit_erk (o : Out) : (s.emit o).erk = s.erk := rfl
@[simp] theorem State.emit_bist (o : Out) : (s.emit o).bist = s.bist := rfl
@[simp] theorem State.emit_debug (o : Out) : (s.emit o).debug = s.debug := rfl
@[simp] theorem State.emit_reord (o : Out) : (s.emit o).reord = s.reord := rfl
@[simp] theorem State.emit_forced (o : Out) : (s.emit o).forced = s.forced := rfl
@[simp] theorem State.emit_hot (o : Out) : (s.emit o).hot = s.hot := rfl
@[simp] theorem State.emit_sbSent (o : Out) : (s.emit o).sbSent = s.sbSent := rfl
@[simp] theorem State.emit_hlReset (o : Out) : (s.emit o).hlReset = s.hlReset := rfl
@[simp] theorem State.emit_reg (o : Out) (of : Nat) : (s.emit o).reg of = s.reg of := rfl
@[simp] theorem State.emit_get (o : Out) (fd : Fld) : (s.emit o).get fd = s.get fd := rfl
@[simp] theorem State.emit_flag (o : Out) (fd : Fld) : (s.emit o).flag fd = s.flag fd := rfl

/-! ## draw -/

@[simp] theorem State.draw_pending : (s.draw).pending = s.pending := rfl
@[simp] theorem State.draw_out : (s.draw).out = s.out := rfl
@[simp] theorem State.draw_free : (s.draw).free = s.free + 1 := rfl
@[simp] theorem State.draw_phase : (s.draw).phase = s.phase := rfl
@[simp] theorem State.draw_pw : (s.draw).pw = s.pw := rfl
@[simp] theorem State.draw_otp : (s.draw).otp = s.otp := rfl
@[simp] theorem State.draw_warm : (s.draw).warm = s.warm := rfl
@[simp] theorem State.draw_life : (s.draw).life = s.life := rfl
@[simp] theorem State.draw_nor : (s.draw).nor = s.nor := rfl
@[simp] theorem State.draw_norOp : (s.draw).norOp = s.norOp := rfl
@[simp] theorem State.draw_img : (s.draw).img = s.img := rfl
@[simp] theorem State.draw_regs : (s.draw).regs = s.regs := rfl
@[simp] theorem State.draw_shadow : (s.draw).shadow = s.shadow := rfl
@[simp] theorem State.draw_grdLive : (s.draw).grdLive = s.grdLive := rfl
@[simp] theorem State.draw_grdWait : (s.draw).grdWait = s.grdWait := rfl
@[simp] theorem State.draw_latch : (s.draw).latch = s.latch := rfl
@[simp] theorem State.draw_held : (s.draw).held = s.held := rfl
@[simp] theorem State.draw_routes : (s.draw).routes = s.routes := rfl
@[simp] theorem State.draw_faultPin : (s.draw).faultPin = s.faultPin := rfl
@[simp] theorem State.draw_intLow : (s.draw).intLow = s.intLow := rfl
@[simp] theorem State.draw_fcPin : (s.draw).fcPin = s.fcPin := rfl
@[simp] theorem State.draw_msix : (s.draw).msix = s.msix := rfl
@[simp] theorem State.draw_msixPend : (s.draw).msixPend = s.msixPend := rfl
@[simp] theorem State.draw_modSt : (s.draw).modSt = s.modSt := rfl
@[simp] theorem State.draw_fns : (s.draw).fns = s.fns := rfl
@[simp] theorem State.draw_cmt : (s.draw).cmt = s.cmt := rfl
@[simp] theorem State.draw_doms : (s.draw).doms = s.doms := rfl
@[simp] theorem State.draw_ramps : (s.draw).ramps = s.ramps := rfl
@[simp] theorem State.draw_rampAt : (s.draw).rampAt = s.rampAt := rfl
@[simp] theorem State.draw_outHeld : (s.draw).outHeld = s.outHeld := rfl
@[simp] theorem State.draw_ingress : (s.draw).ingress = s.ingress := rfl
@[simp] theorem State.draw_csoTx : (s.draw).csoTx = s.csoTx := rfl
@[simp] theorem State.draw_avsGood : (s.draw).avsGood = s.avsGood := rfl
@[simp] theorem State.draw_tm : (s.draw).tm = s.tm := rfl
@[simp] theorem State.draw_grps : (s.draw).grps = s.grps := rfl
@[simp] theorem State.draw_syncOn : (s.draw).syncOn = s.syncOn := rfl
@[simp] theorem State.draw_fsoHigh : (s.draw).fsoHigh = s.fsoHigh := rfl
@[simp] theorem State.draw_chans : (s.draw).chans = s.chans := rfl
@[simp] theorem State.draw_ents : (s.draw).ents = s.ents := rfl
@[simp] theorem State.draw_heldDown : (s.draw).heldDown = s.heldDown := rfl
@[simp] theorem State.draw_eqSeen : (s.draw).eqSeen = s.eqSeen := rfl
@[simp] theorem State.draw_plc : (s.draw).plc = s.plc := rfl
@[simp] theorem State.draw_strms : (s.draw).strms = s.strms := rfl
@[simp] theorem State.draw_frames : (s.draw).frames = s.frames := rfl
@[simp] theorem State.draw_strokes : (s.draw).strokes = s.strokes := rfl
@[simp] theorem State.draw_eas : (s.draw).eas = s.eas := rfl
@[simp] theorem State.draw_lawQ : (s.draw).lawQ = s.lawQ := rfl
@[simp] theorem State.draw_rings : (s.draw).rings = s.rings := rfl
@[simp] theorem State.draw_pour : (s.draw).pour = s.pour := rfl
@[simp] theorem State.draw_reads : (s.draw).reads = s.reads := rfl
@[simp] theorem State.draw_atc : (s.draw).atc = s.atc := rfl
@[simp] theorem State.draw_pubs : (s.draw).pubs = s.pubs := rfl
@[simp] theorem State.draw_trl : (s.draw).trl = s.trl := rfl
@[simp] theorem State.draw_cells : (s.draw).cells = s.cells := rfl
@[simp] theorem State.draw_pal : (s.draw).pal = s.pal := rfl
@[simp] theorem State.draw_palFlip : (s.draw).palFlip = s.palFlip := rfl
@[simp] theorem State.draw_palOpen : (s.draw).palOpen = s.palOpen := rfl
@[simp] theorem State.draw_ques : (s.draw).ques = s.ques := rfl
@[simp] theorem State.draw_cen : (s.draw).cen = s.cen := rfl
@[simp] theorem State.draw_chk : (s.draw).chk = s.chk := rfl
@[simp] theorem State.draw_sig : (s.draw).sig = s.sig := rfl
@[simp] theorem State.draw_txe : (s.draw).txe = s.txe := rfl
@[simp] theorem State.draw_txePick : (s.draw).txePick = s.txePick := rfl
@[simp] theorem State.draw_txeLast : (s.draw).txeLast = s.txeLast := rfl
@[simp] theorem State.draw_spdm : (s.draw).spdm = s.spdm := rfl
@[simp] theorem State.draw_erk : (s.draw).erk = s.erk := rfl
@[simp] theorem State.draw_bist : (s.draw).bist = s.bist := rfl
@[simp] theorem State.draw_debug : (s.draw).debug = s.debug := rfl
@[simp] theorem State.draw_reord : (s.draw).reord = s.reord := rfl
@[simp] theorem State.draw_forced : (s.draw).forced = s.forced := rfl
@[simp] theorem State.draw_hot : (s.draw).hot = s.hot := rfl
@[simp] theorem State.draw_sbSent : (s.draw).sbSent = s.sbSent := rfl
@[simp] theorem State.draw_hlReset : (s.draw).hlReset = s.hlReset := rfl
@[simp] theorem State.draw_reg (of : Nat) : (s.draw).reg of = s.reg of := rfl
@[simp] theorem State.draw_get (fd : Fld) : (s.draw).get fd = s.get fd := rfl
@[simp] theorem State.draw_flag (fd : Fld) : (s.draw).flag fd = s.flag fd := rfl

/-! ## setGrp -/

@[simp] theorem State.setGrp_pending (g : Nat) (x : Group) : (s.setGrp g x).pending = s.pending := rfl
@[simp] theorem State.setGrp_out (g : Nat) (x : Group) : (s.setGrp g x).out = s.out := rfl
@[simp] theorem State.setGrp_free (g : Nat) (x : Group) : (s.setGrp g x).free = s.free := rfl
@[simp] theorem State.setGrp_phase (g : Nat) (x : Group) : (s.setGrp g x).phase = s.phase := rfl
@[simp] theorem State.setGrp_pw (g : Nat) (x : Group) : (s.setGrp g x).pw = s.pw := rfl
@[simp] theorem State.setGrp_otp (g : Nat) (x : Group) : (s.setGrp g x).otp = s.otp := rfl
@[simp] theorem State.setGrp_warm (g : Nat) (x : Group) : (s.setGrp g x).warm = s.warm := rfl
@[simp] theorem State.setGrp_life (g : Nat) (x : Group) : (s.setGrp g x).life = s.life := rfl
@[simp] theorem State.setGrp_nor (g : Nat) (x : Group) : (s.setGrp g x).nor = s.nor := rfl
@[simp] theorem State.setGrp_norOp (g : Nat) (x : Group) : (s.setGrp g x).norOp = s.norOp := rfl
@[simp] theorem State.setGrp_img (g : Nat) (x : Group) : (s.setGrp g x).img = s.img := rfl
@[simp] theorem State.setGrp_regs (g : Nat) (x : Group) : (s.setGrp g x).regs = s.regs := rfl
@[simp] theorem State.setGrp_shadow (g : Nat) (x : Group) : (s.setGrp g x).shadow = s.shadow := rfl
@[simp] theorem State.setGrp_grdLive (g : Nat) (x : Group) : (s.setGrp g x).grdLive = s.grdLive := rfl
@[simp] theorem State.setGrp_grdWait (g : Nat) (x : Group) : (s.setGrp g x).grdWait = s.grdWait := rfl
@[simp] theorem State.setGrp_latch (g : Nat) (x : Group) : (s.setGrp g x).latch = s.latch := rfl
@[simp] theorem State.setGrp_held (g : Nat) (x : Group) : (s.setGrp g x).held = s.held := rfl
@[simp] theorem State.setGrp_routes (g : Nat) (x : Group) : (s.setGrp g x).routes = s.routes := rfl
@[simp] theorem State.setGrp_faultPin (g : Nat) (x : Group) : (s.setGrp g x).faultPin = s.faultPin := rfl
@[simp] theorem State.setGrp_intLow (g : Nat) (x : Group) : (s.setGrp g x).intLow = s.intLow := rfl
@[simp] theorem State.setGrp_fcPin (g : Nat) (x : Group) : (s.setGrp g x).fcPin = s.fcPin := rfl
@[simp] theorem State.setGrp_msix (g : Nat) (x : Group) : (s.setGrp g x).msix = s.msix := rfl
@[simp] theorem State.setGrp_msixPend (g : Nat) (x : Group) : (s.setGrp g x).msixPend = s.msixPend := rfl
@[simp] theorem State.setGrp_modSt (g : Nat) (x : Group) : (s.setGrp g x).modSt = s.modSt := rfl
@[simp] theorem State.setGrp_fns (g : Nat) (x : Group) : (s.setGrp g x).fns = s.fns := rfl
@[simp] theorem State.setGrp_cmt (g : Nat) (x : Group) : (s.setGrp g x).cmt = s.cmt := rfl
@[simp] theorem State.setGrp_doms (g : Nat) (x : Group) : (s.setGrp g x).doms = s.doms := rfl
@[simp] theorem State.setGrp_ramps (g : Nat) (x : Group) : (s.setGrp g x).ramps = s.ramps := rfl
@[simp] theorem State.setGrp_rampAt (g : Nat) (x : Group) : (s.setGrp g x).rampAt = s.rampAt := rfl
@[simp] theorem State.setGrp_outHeld (g : Nat) (x : Group) : (s.setGrp g x).outHeld = s.outHeld := rfl
@[simp] theorem State.setGrp_ingress (g : Nat) (x : Group) : (s.setGrp g x).ingress = s.ingress := rfl
@[simp] theorem State.setGrp_csoTx (g : Nat) (x : Group) : (s.setGrp g x).csoTx = s.csoTx := rfl
@[simp] theorem State.setGrp_avsGood (g : Nat) (x : Group) : (s.setGrp g x).avsGood = s.avsGood := rfl
@[simp] theorem State.setGrp_tm (g : Nat) (x : Group) : (s.setGrp g x).tm = s.tm := rfl
@[simp] theorem State.setGrp_grps (g : Nat) (x : Group) : (s.setGrp g x).grps = tset s.grps g x := rfl
@[simp] theorem State.setGrp_syncOn (g : Nat) (x : Group) : (s.setGrp g x).syncOn = s.syncOn := rfl
@[simp] theorem State.setGrp_fsoHigh (g : Nat) (x : Group) : (s.setGrp g x).fsoHigh = s.fsoHigh := rfl
@[simp] theorem State.setGrp_chans (g : Nat) (x : Group) : (s.setGrp g x).chans = s.chans := rfl
@[simp] theorem State.setGrp_ents (g : Nat) (x : Group) : (s.setGrp g x).ents = s.ents := rfl
@[simp] theorem State.setGrp_heldDown (g : Nat) (x : Group) : (s.setGrp g x).heldDown = s.heldDown := rfl
@[simp] theorem State.setGrp_eqSeen (g : Nat) (x : Group) : (s.setGrp g x).eqSeen = s.eqSeen := rfl
@[simp] theorem State.setGrp_plc (g : Nat) (x : Group) : (s.setGrp g x).plc = s.plc := rfl
@[simp] theorem State.setGrp_strms (g : Nat) (x : Group) : (s.setGrp g x).strms = s.strms := rfl
@[simp] theorem State.setGrp_frames (g : Nat) (x : Group) : (s.setGrp g x).frames = s.frames := rfl
@[simp] theorem State.setGrp_strokes (g : Nat) (x : Group) : (s.setGrp g x).strokes = s.strokes := rfl
@[simp] theorem State.setGrp_eas (g : Nat) (x : Group) : (s.setGrp g x).eas = s.eas := rfl
@[simp] theorem State.setGrp_lawQ (g : Nat) (x : Group) : (s.setGrp g x).lawQ = s.lawQ := rfl
@[simp] theorem State.setGrp_rings (g : Nat) (x : Group) : (s.setGrp g x).rings = s.rings := rfl
@[simp] theorem State.setGrp_pour (g : Nat) (x : Group) : (s.setGrp g x).pour = s.pour := rfl
@[simp] theorem State.setGrp_reads (g : Nat) (x : Group) : (s.setGrp g x).reads = s.reads := rfl
@[simp] theorem State.setGrp_atc (g : Nat) (x : Group) : (s.setGrp g x).atc = s.atc := rfl
@[simp] theorem State.setGrp_pubs (g : Nat) (x : Group) : (s.setGrp g x).pubs = s.pubs := rfl
@[simp] theorem State.setGrp_trl (g : Nat) (x : Group) : (s.setGrp g x).trl = s.trl := rfl
@[simp] theorem State.setGrp_cells (g : Nat) (x : Group) : (s.setGrp g x).cells = s.cells := rfl
@[simp] theorem State.setGrp_pal (g : Nat) (x : Group) : (s.setGrp g x).pal = s.pal := rfl
@[simp] theorem State.setGrp_palFlip (g : Nat) (x : Group) : (s.setGrp g x).palFlip = s.palFlip := rfl
@[simp] theorem State.setGrp_palOpen (g : Nat) (x : Group) : (s.setGrp g x).palOpen = s.palOpen := rfl
@[simp] theorem State.setGrp_ques (g : Nat) (x : Group) : (s.setGrp g x).ques = s.ques := rfl
@[simp] theorem State.setGrp_cen (g : Nat) (x : Group) : (s.setGrp g x).cen = s.cen := rfl
@[simp] theorem State.setGrp_chk (g : Nat) (x : Group) : (s.setGrp g x).chk = s.chk := rfl
@[simp] theorem State.setGrp_sig (g : Nat) (x : Group) : (s.setGrp g x).sig = s.sig := rfl
@[simp] theorem State.setGrp_txe (g : Nat) (x : Group) : (s.setGrp g x).txe = s.txe := rfl
@[simp] theorem State.setGrp_txePick (g : Nat) (x : Group) : (s.setGrp g x).txePick = s.txePick := rfl
@[simp] theorem State.setGrp_txeLast (g : Nat) (x : Group) : (s.setGrp g x).txeLast = s.txeLast := rfl
@[simp] theorem State.setGrp_spdm (g : Nat) (x : Group) : (s.setGrp g x).spdm = s.spdm := rfl
@[simp] theorem State.setGrp_erk (g : Nat) (x : Group) : (s.setGrp g x).erk = s.erk := rfl
@[simp] theorem State.setGrp_bist (g : Nat) (x : Group) : (s.setGrp g x).bist = s.bist := rfl
@[simp] theorem State.setGrp_debug (g : Nat) (x : Group) : (s.setGrp g x).debug = s.debug := rfl
@[simp] theorem State.setGrp_reord (g : Nat) (x : Group) : (s.setGrp g x).reord = s.reord := rfl
@[simp] theorem State.setGrp_forced (g : Nat) (x : Group) : (s.setGrp g x).forced = s.forced := rfl
@[simp] theorem State.setGrp_hot (g : Nat) (x : Group) : (s.setGrp g x).hot = s.hot := rfl
@[simp] theorem State.setGrp_sbSent (g : Nat) (x : Group) : (s.setGrp g x).sbSent = s.sbSent := rfl
@[simp] theorem State.setGrp_hlReset (g : Nat) (x : Group) : (s.setGrp g x).hlReset = s.hlReset := rfl
@[simp] theorem State.setGrp_reg (g : Nat) (x : Group) (of : Nat) : (s.setGrp g x).reg of = s.reg of := rfl
@[simp] theorem State.setGrp_get (g : Nat) (x : Group) (fd : Fld) : (s.setGrp g x).get fd = s.get fd := rfl
@[simp] theorem State.setGrp_flag (g : Nat) (x : Group) (fd : Fld) : (s.setGrp g x).flag fd = s.flag fd := rfl

/-! ## setChan -/

@[simp] theorem State.setChan_pending (p : Nat) (x : Chan) : (s.setChan p x).pending = s.pending := rfl
@[simp] theorem State.setChan_out (p : Nat) (x : Chan) : (s.setChan p x).out = s.out := rfl
@[simp] theorem State.setChan_free (p : Nat) (x : Chan) : (s.setChan p x).free = s.free := rfl
@[simp] theorem State.setChan_phase (p : Nat) (x : Chan) : (s.setChan p x).phase = s.phase := rfl
@[simp] theorem State.setChan_pw (p : Nat) (x : Chan) : (s.setChan p x).pw = s.pw := rfl
@[simp] theorem State.setChan_otp (p : Nat) (x : Chan) : (s.setChan p x).otp = s.otp := rfl
@[simp] theorem State.setChan_warm (p : Nat) (x : Chan) : (s.setChan p x).warm = s.warm := rfl
@[simp] theorem State.setChan_life (p : Nat) (x : Chan) : (s.setChan p x).life = s.life := rfl
@[simp] theorem State.setChan_nor (p : Nat) (x : Chan) : (s.setChan p x).nor = s.nor := rfl
@[simp] theorem State.setChan_norOp (p : Nat) (x : Chan) : (s.setChan p x).norOp = s.norOp := rfl
@[simp] theorem State.setChan_img (p : Nat) (x : Chan) : (s.setChan p x).img = s.img := rfl
@[simp] theorem State.setChan_regs (p : Nat) (x : Chan) : (s.setChan p x).regs = s.regs := rfl
@[simp] theorem State.setChan_shadow (p : Nat) (x : Chan) : (s.setChan p x).shadow = s.shadow := rfl
@[simp] theorem State.setChan_grdLive (p : Nat) (x : Chan) : (s.setChan p x).grdLive = s.grdLive := rfl
@[simp] theorem State.setChan_grdWait (p : Nat) (x : Chan) : (s.setChan p x).grdWait = s.grdWait := rfl
@[simp] theorem State.setChan_latch (p : Nat) (x : Chan) : (s.setChan p x).latch = s.latch := rfl
@[simp] theorem State.setChan_held (p : Nat) (x : Chan) : (s.setChan p x).held = s.held := rfl
@[simp] theorem State.setChan_routes (p : Nat) (x : Chan) : (s.setChan p x).routes = s.routes := rfl
@[simp] theorem State.setChan_faultPin (p : Nat) (x : Chan) : (s.setChan p x).faultPin = s.faultPin := rfl
@[simp] theorem State.setChan_intLow (p : Nat) (x : Chan) : (s.setChan p x).intLow = s.intLow := rfl
@[simp] theorem State.setChan_fcPin (p : Nat) (x : Chan) : (s.setChan p x).fcPin = s.fcPin := rfl
@[simp] theorem State.setChan_msix (p : Nat) (x : Chan) : (s.setChan p x).msix = s.msix := rfl
@[simp] theorem State.setChan_msixPend (p : Nat) (x : Chan) : (s.setChan p x).msixPend = s.msixPend := rfl
@[simp] theorem State.setChan_modSt (p : Nat) (x : Chan) : (s.setChan p x).modSt = s.modSt := rfl
@[simp] theorem State.setChan_fns (p : Nat) (x : Chan) : (s.setChan p x).fns = s.fns := rfl
@[simp] theorem State.setChan_cmt (p : Nat) (x : Chan) : (s.setChan p x).cmt = s.cmt := rfl
@[simp] theorem State.setChan_doms (p : Nat) (x : Chan) : (s.setChan p x).doms = s.doms := rfl
@[simp] theorem State.setChan_ramps (p : Nat) (x : Chan) : (s.setChan p x).ramps = s.ramps := rfl
@[simp] theorem State.setChan_rampAt (p : Nat) (x : Chan) : (s.setChan p x).rampAt = s.rampAt := rfl
@[simp] theorem State.setChan_outHeld (p : Nat) (x : Chan) : (s.setChan p x).outHeld = s.outHeld := rfl
@[simp] theorem State.setChan_ingress (p : Nat) (x : Chan) : (s.setChan p x).ingress = s.ingress := rfl
@[simp] theorem State.setChan_csoTx (p : Nat) (x : Chan) : (s.setChan p x).csoTx = s.csoTx := rfl
@[simp] theorem State.setChan_avsGood (p : Nat) (x : Chan) : (s.setChan p x).avsGood = s.avsGood := rfl
@[simp] theorem State.setChan_tm (p : Nat) (x : Chan) : (s.setChan p x).tm = s.tm := rfl
@[simp] theorem State.setChan_grps (p : Nat) (x : Chan) : (s.setChan p x).grps = s.grps := rfl
@[simp] theorem State.setChan_syncOn (p : Nat) (x : Chan) : (s.setChan p x).syncOn = s.syncOn := rfl
@[simp] theorem State.setChan_fsoHigh (p : Nat) (x : Chan) : (s.setChan p x).fsoHigh = s.fsoHigh := rfl
@[simp] theorem State.setChan_chans (p : Nat) (x : Chan) : (s.setChan p x).chans = tset s.chans p x := rfl
@[simp] theorem State.setChan_ents (p : Nat) (x : Chan) : (s.setChan p x).ents = s.ents := rfl
@[simp] theorem State.setChan_heldDown (p : Nat) (x : Chan) : (s.setChan p x).heldDown = s.heldDown := rfl
@[simp] theorem State.setChan_eqSeen (p : Nat) (x : Chan) : (s.setChan p x).eqSeen = s.eqSeen := rfl
@[simp] theorem State.setChan_plc (p : Nat) (x : Chan) : (s.setChan p x).plc = s.plc := rfl
@[simp] theorem State.setChan_strms (p : Nat) (x : Chan) : (s.setChan p x).strms = s.strms := rfl
@[simp] theorem State.setChan_frames (p : Nat) (x : Chan) : (s.setChan p x).frames = s.frames := rfl
@[simp] theorem State.setChan_strokes (p : Nat) (x : Chan) : (s.setChan p x).strokes = s.strokes := rfl
@[simp] theorem State.setChan_eas (p : Nat) (x : Chan) : (s.setChan p x).eas = s.eas := rfl
@[simp] theorem State.setChan_lawQ (p : Nat) (x : Chan) : (s.setChan p x).lawQ = s.lawQ := rfl
@[simp] theorem State.setChan_rings (p : Nat) (x : Chan) : (s.setChan p x).rings = s.rings := rfl
@[simp] theorem State.setChan_pour (p : Nat) (x : Chan) : (s.setChan p x).pour = s.pour := rfl
@[simp] theorem State.setChan_reads (p : Nat) (x : Chan) : (s.setChan p x).reads = s.reads := rfl
@[simp] theorem State.setChan_atc (p : Nat) (x : Chan) : (s.setChan p x).atc = s.atc := rfl
@[simp] theorem State.setChan_pubs (p : Nat) (x : Chan) : (s.setChan p x).pubs = s.pubs := rfl
@[simp] theorem State.setChan_trl (p : Nat) (x : Chan) : (s.setChan p x).trl = s.trl := rfl
@[simp] theorem State.setChan_cells (p : Nat) (x : Chan) : (s.setChan p x).cells = s.cells := rfl
@[simp] theorem State.setChan_pal (p : Nat) (x : Chan) : (s.setChan p x).pal = s.pal := rfl
@[simp] theorem State.setChan_palFlip (p : Nat) (x : Chan) : (s.setChan p x).palFlip = s.palFlip := rfl
@[simp] theorem State.setChan_palOpen (p : Nat) (x : Chan) : (s.setChan p x).palOpen = s.palOpen := rfl
@[simp] theorem State.setChan_ques (p : Nat) (x : Chan) : (s.setChan p x).ques = s.ques := rfl
@[simp] theorem State.setChan_cen (p : Nat) (x : Chan) : (s.setChan p x).cen = s.cen := rfl
@[simp] theorem State.setChan_chk (p : Nat) (x : Chan) : (s.setChan p x).chk = s.chk := rfl
@[simp] theorem State.setChan_sig (p : Nat) (x : Chan) : (s.setChan p x).sig = s.sig := rfl
@[simp] theorem State.setChan_txe (p : Nat) (x : Chan) : (s.setChan p x).txe = s.txe := rfl
@[simp] theorem State.setChan_txePick (p : Nat) (x : Chan) : (s.setChan p x).txePick = s.txePick := rfl
@[simp] theorem State.setChan_txeLast (p : Nat) (x : Chan) : (s.setChan p x).txeLast = s.txeLast := rfl
@[simp] theorem State.setChan_spdm (p : Nat) (x : Chan) : (s.setChan p x).spdm = s.spdm := rfl
@[simp] theorem State.setChan_erk (p : Nat) (x : Chan) : (s.setChan p x).erk = s.erk := rfl
@[simp] theorem State.setChan_bist (p : Nat) (x : Chan) : (s.setChan p x).bist = s.bist := rfl
@[simp] theorem State.setChan_debug (p : Nat) (x : Chan) : (s.setChan p x).debug = s.debug := rfl
@[simp] theorem State.setChan_reord (p : Nat) (x : Chan) : (s.setChan p x).reord = s.reord := rfl
@[simp] theorem State.setChan_forced (p : Nat) (x : Chan) : (s.setChan p x).forced = s.forced := rfl
@[simp] theorem State.setChan_hot (p : Nat) (x : Chan) : (s.setChan p x).hot = s.hot := rfl
@[simp] theorem State.setChan_sbSent (p : Nat) (x : Chan) : (s.setChan p x).sbSent = s.sbSent := rfl
@[simp] theorem State.setChan_hlReset (p : Nat) (x : Chan) : (s.setChan p x).hlReset = s.hlReset := rfl
@[simp] theorem State.setChan_reg (p : Nat) (x : Chan) (of : Nat) : (s.setChan p x).reg of = s.reg of := rfl
@[simp] theorem State.setChan_get (p : Nat) (x : Chan) (fd : Fld) : (s.setChan p x).get fd = s.get fd := rfl
@[simp] theorem State.setChan_flag (p : Nat) (x : Chan) (fd : Fld) : (s.setChan p x).flag fd = s.flag fd := rfl

/-! ## setEnt -/

@[simp] theorem State.setEnt_pending (p k : Nat) (x : Entry) : (s.setEnt p k x).pending = s.pending := rfl
@[simp] theorem State.setEnt_out (p k : Nat) (x : Entry) : (s.setEnt p k x).out = s.out := rfl
@[simp] theorem State.setEnt_free (p k : Nat) (x : Entry) : (s.setEnt p k x).free = s.free := rfl
@[simp] theorem State.setEnt_phase (p k : Nat) (x : Entry) : (s.setEnt p k x).phase = s.phase := rfl
@[simp] theorem State.setEnt_pw (p k : Nat) (x : Entry) : (s.setEnt p k x).pw = s.pw := rfl
@[simp] theorem State.setEnt_otp (p k : Nat) (x : Entry) : (s.setEnt p k x).otp = s.otp := rfl
@[simp] theorem State.setEnt_warm (p k : Nat) (x : Entry) : (s.setEnt p k x).warm = s.warm := rfl
@[simp] theorem State.setEnt_life (p k : Nat) (x : Entry) : (s.setEnt p k x).life = s.life := rfl
@[simp] theorem State.setEnt_nor (p k : Nat) (x : Entry) : (s.setEnt p k x).nor = s.nor := rfl
@[simp] theorem State.setEnt_norOp (p k : Nat) (x : Entry) : (s.setEnt p k x).norOp = s.norOp := rfl
@[simp] theorem State.setEnt_img (p k : Nat) (x : Entry) : (s.setEnt p k x).img = s.img := rfl
@[simp] theorem State.setEnt_regs (p k : Nat) (x : Entry) : (s.setEnt p k x).regs = s.regs := rfl
@[simp] theorem State.setEnt_shadow (p k : Nat) (x : Entry) : (s.setEnt p k x).shadow = s.shadow := rfl
@[simp] theorem State.setEnt_grdLive (p k : Nat) (x : Entry) : (s.setEnt p k x).grdLive = s.grdLive := rfl
@[simp] theorem State.setEnt_grdWait (p k : Nat) (x : Entry) : (s.setEnt p k x).grdWait = s.grdWait := rfl
@[simp] theorem State.setEnt_latch (p k : Nat) (x : Entry) : (s.setEnt p k x).latch = s.latch := rfl
@[simp] theorem State.setEnt_held (p k : Nat) (x : Entry) : (s.setEnt p k x).held = s.held := rfl
@[simp] theorem State.setEnt_routes (p k : Nat) (x : Entry) : (s.setEnt p k x).routes = s.routes := rfl
@[simp] theorem State.setEnt_faultPin (p k : Nat) (x : Entry) : (s.setEnt p k x).faultPin = s.faultPin := rfl
@[simp] theorem State.setEnt_intLow (p k : Nat) (x : Entry) : (s.setEnt p k x).intLow = s.intLow := rfl
@[simp] theorem State.setEnt_fcPin (p k : Nat) (x : Entry) : (s.setEnt p k x).fcPin = s.fcPin := rfl
@[simp] theorem State.setEnt_msix (p k : Nat) (x : Entry) : (s.setEnt p k x).msix = s.msix := rfl
@[simp] theorem State.setEnt_msixPend (p k : Nat) (x : Entry) : (s.setEnt p k x).msixPend = s.msixPend := rfl
@[simp] theorem State.setEnt_modSt (p k : Nat) (x : Entry) : (s.setEnt p k x).modSt = s.modSt := rfl
@[simp] theorem State.setEnt_fns (p k : Nat) (x : Entry) : (s.setEnt p k x).fns = s.fns := rfl
@[simp] theorem State.setEnt_cmt (p k : Nat) (x : Entry) : (s.setEnt p k x).cmt = s.cmt := rfl
@[simp] theorem State.setEnt_doms (p k : Nat) (x : Entry) : (s.setEnt p k x).doms = s.doms := rfl
@[simp] theorem State.setEnt_ramps (p k : Nat) (x : Entry) : (s.setEnt p k x).ramps = s.ramps := rfl
@[simp] theorem State.setEnt_rampAt (p k : Nat) (x : Entry) : (s.setEnt p k x).rampAt = s.rampAt := rfl
@[simp] theorem State.setEnt_outHeld (p k : Nat) (x : Entry) : (s.setEnt p k x).outHeld = s.outHeld := rfl
@[simp] theorem State.setEnt_ingress (p k : Nat) (x : Entry) : (s.setEnt p k x).ingress = s.ingress := rfl
@[simp] theorem State.setEnt_csoTx (p k : Nat) (x : Entry) : (s.setEnt p k x).csoTx = s.csoTx := rfl
@[simp] theorem State.setEnt_avsGood (p k : Nat) (x : Entry) : (s.setEnt p k x).avsGood = s.avsGood := rfl
@[simp] theorem State.setEnt_tm (p k : Nat) (x : Entry) : (s.setEnt p k x).tm = s.tm := rfl
@[simp] theorem State.setEnt_grps (p k : Nat) (x : Entry) : (s.setEnt p k x).grps = s.grps := rfl
@[simp] theorem State.setEnt_syncOn (p k : Nat) (x : Entry) : (s.setEnt p k x).syncOn = s.syncOn := rfl
@[simp] theorem State.setEnt_fsoHigh (p k : Nat) (x : Entry) : (s.setEnt p k x).fsoHigh = s.fsoHigh := rfl
@[simp] theorem State.setEnt_chans (p k : Nat) (x : Entry) : (s.setEnt p k x).chans = s.chans := rfl
@[simp] theorem State.setEnt_ents (p k : Nat) (x : Entry) : (s.setEnt p k x).ents = tset s.ents (4 * p + k) x := rfl
@[simp] theorem State.setEnt_heldDown (p k : Nat) (x : Entry) : (s.setEnt p k x).heldDown = s.heldDown := rfl
@[simp] theorem State.setEnt_eqSeen (p k : Nat) (x : Entry) : (s.setEnt p k x).eqSeen = s.eqSeen := rfl
@[simp] theorem State.setEnt_plc (p k : Nat) (x : Entry) : (s.setEnt p k x).plc = s.plc := rfl
@[simp] theorem State.setEnt_strms (p k : Nat) (x : Entry) : (s.setEnt p k x).strms = s.strms := rfl
@[simp] theorem State.setEnt_frames (p k : Nat) (x : Entry) : (s.setEnt p k x).frames = s.frames := rfl
@[simp] theorem State.setEnt_strokes (p k : Nat) (x : Entry) : (s.setEnt p k x).strokes = s.strokes := rfl
@[simp] theorem State.setEnt_eas (p k : Nat) (x : Entry) : (s.setEnt p k x).eas = s.eas := rfl
@[simp] theorem State.setEnt_lawQ (p k : Nat) (x : Entry) : (s.setEnt p k x).lawQ = s.lawQ := rfl
@[simp] theorem State.setEnt_rings (p k : Nat) (x : Entry) : (s.setEnt p k x).rings = s.rings := rfl
@[simp] theorem State.setEnt_pour (p k : Nat) (x : Entry) : (s.setEnt p k x).pour = s.pour := rfl
@[simp] theorem State.setEnt_reads (p k : Nat) (x : Entry) : (s.setEnt p k x).reads = s.reads := rfl
@[simp] theorem State.setEnt_atc (p k : Nat) (x : Entry) : (s.setEnt p k x).atc = s.atc := rfl
@[simp] theorem State.setEnt_pubs (p k : Nat) (x : Entry) : (s.setEnt p k x).pubs = s.pubs := rfl
@[simp] theorem State.setEnt_trl (p k : Nat) (x : Entry) : (s.setEnt p k x).trl = s.trl := rfl
@[simp] theorem State.setEnt_cells (p k : Nat) (x : Entry) : (s.setEnt p k x).cells = s.cells := rfl
@[simp] theorem State.setEnt_pal (p k : Nat) (x : Entry) : (s.setEnt p k x).pal = s.pal := rfl
@[simp] theorem State.setEnt_palFlip (p k : Nat) (x : Entry) : (s.setEnt p k x).palFlip = s.palFlip := rfl
@[simp] theorem State.setEnt_palOpen (p k : Nat) (x : Entry) : (s.setEnt p k x).palOpen = s.palOpen := rfl
@[simp] theorem State.setEnt_ques (p k : Nat) (x : Entry) : (s.setEnt p k x).ques = s.ques := rfl
@[simp] theorem State.setEnt_cen (p k : Nat) (x : Entry) : (s.setEnt p k x).cen = s.cen := rfl
@[simp] theorem State.setEnt_chk (p k : Nat) (x : Entry) : (s.setEnt p k x).chk = s.chk := rfl
@[simp] theorem State.setEnt_sig (p k : Nat) (x : Entry) : (s.setEnt p k x).sig = s.sig := rfl
@[simp] theorem State.setEnt_txe (p k : Nat) (x : Entry) : (s.setEnt p k x).txe = s.txe := rfl
@[simp] theorem State.setEnt_txePick (p k : Nat) (x : Entry) : (s.setEnt p k x).txePick = s.txePick := rfl
@[simp] theorem State.setEnt_txeLast (p k : Nat) (x : Entry) : (s.setEnt p k x).txeLast = s.txeLast := rfl
@[simp] theorem State.setEnt_spdm (p k : Nat) (x : Entry) : (s.setEnt p k x).spdm = s.spdm := rfl
@[simp] theorem State.setEnt_erk (p k : Nat) (x : Entry) : (s.setEnt p k x).erk = s.erk := rfl
@[simp] theorem State.setEnt_bist (p k : Nat) (x : Entry) : (s.setEnt p k x).bist = s.bist := rfl
@[simp] theorem State.setEnt_debug (p k : Nat) (x : Entry) : (s.setEnt p k x).debug = s.debug := rfl
@[simp] theorem State.setEnt_reord (p k : Nat) (x : Entry) : (s.setEnt p k x).reord = s.reord := rfl
@[simp] theorem State.setEnt_forced (p k : Nat) (x : Entry) : (s.setEnt p k x).forced = s.forced := rfl
@[simp] theorem State.setEnt_hot (p k : Nat) (x : Entry) : (s.setEnt p k x).hot = s.hot := rfl
@[simp] theorem State.setEnt_sbSent (p k : Nat) (x : Entry) : (s.setEnt p k x).sbSent = s.sbSent := rfl
@[simp] theorem State.setEnt_hlReset (p k : Nat) (x : Entry) : (s.setEnt p k x).hlReset = s.hlReset := rfl
@[simp] theorem State.setEnt_reg (p k : Nat) (x : Entry) (of : Nat) : (s.setEnt p k x).reg of = s.reg of := rfl
@[simp] theorem State.setEnt_get (p k : Nat) (x : Entry) (fd : Fld) : (s.setEnt p k x).get fd = s.get fd := rfl
@[simp] theorem State.setEnt_flag (p k : Nat) (x : Entry) (fd : Fld) : (s.setEnt p k x).flag fd = s.flag fd := rfl

/-! ## setStrm -/

@[simp] theorem State.setStrm_pending (st : Nat) (x : Strm) : (s.setStrm st x).pending = s.pending := rfl
@[simp] theorem State.setStrm_out (st : Nat) (x : Strm) : (s.setStrm st x).out = s.out := rfl
@[simp] theorem State.setStrm_free (st : Nat) (x : Strm) : (s.setStrm st x).free = s.free := rfl
@[simp] theorem State.setStrm_phase (st : Nat) (x : Strm) : (s.setStrm st x).phase = s.phase := rfl
@[simp] theorem State.setStrm_pw (st : Nat) (x : Strm) : (s.setStrm st x).pw = s.pw := rfl
@[simp] theorem State.setStrm_otp (st : Nat) (x : Strm) : (s.setStrm st x).otp = s.otp := rfl
@[simp] theorem State.setStrm_warm (st : Nat) (x : Strm) : (s.setStrm st x).warm = s.warm := rfl
@[simp] theorem State.setStrm_life (st : Nat) (x : Strm) : (s.setStrm st x).life = s.life := rfl
@[simp] theorem State.setStrm_nor (st : Nat) (x : Strm) : (s.setStrm st x).nor = s.nor := rfl
@[simp] theorem State.setStrm_norOp (st : Nat) (x : Strm) : (s.setStrm st x).norOp = s.norOp := rfl
@[simp] theorem State.setStrm_img (st : Nat) (x : Strm) : (s.setStrm st x).img = s.img := rfl
@[simp] theorem State.setStrm_regs (st : Nat) (x : Strm) : (s.setStrm st x).regs = s.regs := rfl
@[simp] theorem State.setStrm_shadow (st : Nat) (x : Strm) : (s.setStrm st x).shadow = s.shadow := rfl
@[simp] theorem State.setStrm_grdLive (st : Nat) (x : Strm) : (s.setStrm st x).grdLive = s.grdLive := rfl
@[simp] theorem State.setStrm_grdWait (st : Nat) (x : Strm) : (s.setStrm st x).grdWait = s.grdWait := rfl
@[simp] theorem State.setStrm_latch (st : Nat) (x : Strm) : (s.setStrm st x).latch = s.latch := rfl
@[simp] theorem State.setStrm_held (st : Nat) (x : Strm) : (s.setStrm st x).held = s.held := rfl
@[simp] theorem State.setStrm_routes (st : Nat) (x : Strm) : (s.setStrm st x).routes = s.routes := rfl
@[simp] theorem State.setStrm_faultPin (st : Nat) (x : Strm) : (s.setStrm st x).faultPin = s.faultPin := rfl
@[simp] theorem State.setStrm_intLow (st : Nat) (x : Strm) : (s.setStrm st x).intLow = s.intLow := rfl
@[simp] theorem State.setStrm_fcPin (st : Nat) (x : Strm) : (s.setStrm st x).fcPin = s.fcPin := rfl
@[simp] theorem State.setStrm_msix (st : Nat) (x : Strm) : (s.setStrm st x).msix = s.msix := rfl
@[simp] theorem State.setStrm_msixPend (st : Nat) (x : Strm) : (s.setStrm st x).msixPend = s.msixPend := rfl
@[simp] theorem State.setStrm_modSt (st : Nat) (x : Strm) : (s.setStrm st x).modSt = s.modSt := rfl
@[simp] theorem State.setStrm_fns (st : Nat) (x : Strm) : (s.setStrm st x).fns = s.fns := rfl
@[simp] theorem State.setStrm_cmt (st : Nat) (x : Strm) : (s.setStrm st x).cmt = s.cmt := rfl
@[simp] theorem State.setStrm_doms (st : Nat) (x : Strm) : (s.setStrm st x).doms = s.doms := rfl
@[simp] theorem State.setStrm_ramps (st : Nat) (x : Strm) : (s.setStrm st x).ramps = s.ramps := rfl
@[simp] theorem State.setStrm_rampAt (st : Nat) (x : Strm) : (s.setStrm st x).rampAt = s.rampAt := rfl
@[simp] theorem State.setStrm_outHeld (st : Nat) (x : Strm) : (s.setStrm st x).outHeld = s.outHeld := rfl
@[simp] theorem State.setStrm_ingress (st : Nat) (x : Strm) : (s.setStrm st x).ingress = s.ingress := rfl
@[simp] theorem State.setStrm_csoTx (st : Nat) (x : Strm) : (s.setStrm st x).csoTx = s.csoTx := rfl
@[simp] theorem State.setStrm_avsGood (st : Nat) (x : Strm) : (s.setStrm st x).avsGood = s.avsGood := rfl
@[simp] theorem State.setStrm_tm (st : Nat) (x : Strm) : (s.setStrm st x).tm = s.tm := rfl
@[simp] theorem State.setStrm_grps (st : Nat) (x : Strm) : (s.setStrm st x).grps = s.grps := rfl
@[simp] theorem State.setStrm_syncOn (st : Nat) (x : Strm) : (s.setStrm st x).syncOn = s.syncOn := rfl
@[simp] theorem State.setStrm_fsoHigh (st : Nat) (x : Strm) : (s.setStrm st x).fsoHigh = s.fsoHigh := rfl
@[simp] theorem State.setStrm_chans (st : Nat) (x : Strm) : (s.setStrm st x).chans = s.chans := rfl
@[simp] theorem State.setStrm_ents (st : Nat) (x : Strm) : (s.setStrm st x).ents = s.ents := rfl
@[simp] theorem State.setStrm_heldDown (st : Nat) (x : Strm) : (s.setStrm st x).heldDown = s.heldDown := rfl
@[simp] theorem State.setStrm_eqSeen (st : Nat) (x : Strm) : (s.setStrm st x).eqSeen = s.eqSeen := rfl
@[simp] theorem State.setStrm_plc (st : Nat) (x : Strm) : (s.setStrm st x).plc = s.plc := rfl
@[simp] theorem State.setStrm_strms (st : Nat) (x : Strm) : (s.setStrm st x).strms = tset s.strms st x := rfl
@[simp] theorem State.setStrm_frames (st : Nat) (x : Strm) : (s.setStrm st x).frames = s.frames := rfl
@[simp] theorem State.setStrm_strokes (st : Nat) (x : Strm) : (s.setStrm st x).strokes = s.strokes := rfl
@[simp] theorem State.setStrm_eas (st : Nat) (x : Strm) : (s.setStrm st x).eas = s.eas := rfl
@[simp] theorem State.setStrm_lawQ (st : Nat) (x : Strm) : (s.setStrm st x).lawQ = s.lawQ := rfl
@[simp] theorem State.setStrm_rings (st : Nat) (x : Strm) : (s.setStrm st x).rings = s.rings := rfl
@[simp] theorem State.setStrm_pour (st : Nat) (x : Strm) : (s.setStrm st x).pour = s.pour := rfl
@[simp] theorem State.setStrm_reads (st : Nat) (x : Strm) : (s.setStrm st x).reads = s.reads := rfl
@[simp] theorem State.setStrm_atc (st : Nat) (x : Strm) : (s.setStrm st x).atc = s.atc := rfl
@[simp] theorem State.setStrm_pubs (st : Nat) (x : Strm) : (s.setStrm st x).pubs = s.pubs := rfl
@[simp] theorem State.setStrm_trl (st : Nat) (x : Strm) : (s.setStrm st x).trl = s.trl := rfl
@[simp] theorem State.setStrm_cells (st : Nat) (x : Strm) : (s.setStrm st x).cells = s.cells := rfl
@[simp] theorem State.setStrm_pal (st : Nat) (x : Strm) : (s.setStrm st x).pal = s.pal := rfl
@[simp] theorem State.setStrm_palFlip (st : Nat) (x : Strm) : (s.setStrm st x).palFlip = s.palFlip := rfl
@[simp] theorem State.setStrm_palOpen (st : Nat) (x : Strm) : (s.setStrm st x).palOpen = s.palOpen := rfl
@[simp] theorem State.setStrm_ques (st : Nat) (x : Strm) : (s.setStrm st x).ques = s.ques := rfl
@[simp] theorem State.setStrm_cen (st : Nat) (x : Strm) : (s.setStrm st x).cen = s.cen := rfl
@[simp] theorem State.setStrm_chk (st : Nat) (x : Strm) : (s.setStrm st x).chk = s.chk := rfl
@[simp] theorem State.setStrm_sig (st : Nat) (x : Strm) : (s.setStrm st x).sig = s.sig := rfl
@[simp] theorem State.setStrm_txe (st : Nat) (x : Strm) : (s.setStrm st x).txe = s.txe := rfl
@[simp] theorem State.setStrm_txePick (st : Nat) (x : Strm) : (s.setStrm st x).txePick = s.txePick := rfl
@[simp] theorem State.setStrm_txeLast (st : Nat) (x : Strm) : (s.setStrm st x).txeLast = s.txeLast := rfl
@[simp] theorem State.setStrm_spdm (st : Nat) (x : Strm) : (s.setStrm st x).spdm = s.spdm := rfl
@[simp] theorem State.setStrm_erk (st : Nat) (x : Strm) : (s.setStrm st x).erk = s.erk := rfl
@[simp] theorem State.setStrm_bist (st : Nat) (x : Strm) : (s.setStrm st x).bist = s.bist := rfl
@[simp] theorem State.setStrm_debug (st : Nat) (x : Strm) : (s.setStrm st x).debug = s.debug := rfl
@[simp] theorem State.setStrm_reord (st : Nat) (x : Strm) : (s.setStrm st x).reord = s.reord := rfl
@[simp] theorem State.setStrm_forced (st : Nat) (x : Strm) : (s.setStrm st x).forced = s.forced := rfl
@[simp] theorem State.setStrm_hot (st : Nat) (x : Strm) : (s.setStrm st x).hot = s.hot := rfl
@[simp] theorem State.setStrm_sbSent (st : Nat) (x : Strm) : (s.setStrm st x).sbSent = s.sbSent := rfl
@[simp] theorem State.setStrm_hlReset (st : Nat) (x : Strm) : (s.setStrm st x).hlReset = s.hlReset := rfl
@[simp] theorem State.setStrm_reg (st : Nat) (x : Strm) (of : Nat) : (s.setStrm st x).reg of = s.reg of := rfl
@[simp] theorem State.setStrm_get (st : Nat) (x : Strm) (fd : Fld) : (s.setStrm st x).get fd = s.get fd := rfl
@[simp] theorem State.setStrm_flag (st : Nat) (x : Strm) (fd : Fld) : (s.setStrm st x).flag fd = s.flag fd := rfl

/-! ## setRing -/

@[simp] theorem State.setRing_pending (r : Nat) (x : Ring) : (s.setRing r x).pending = s.pending := rfl
@[simp] theorem State.setRing_out (r : Nat) (x : Ring) : (s.setRing r x).out = s.out := rfl
@[simp] theorem State.setRing_free (r : Nat) (x : Ring) : (s.setRing r x).free = s.free := rfl
@[simp] theorem State.setRing_phase (r : Nat) (x : Ring) : (s.setRing r x).phase = s.phase := rfl
@[simp] theorem State.setRing_pw (r : Nat) (x : Ring) : (s.setRing r x).pw = s.pw := rfl
@[simp] theorem State.setRing_otp (r : Nat) (x : Ring) : (s.setRing r x).otp = s.otp := rfl
@[simp] theorem State.setRing_warm (r : Nat) (x : Ring) : (s.setRing r x).warm = s.warm := rfl
@[simp] theorem State.setRing_life (r : Nat) (x : Ring) : (s.setRing r x).life = s.life := rfl
@[simp] theorem State.setRing_nor (r : Nat) (x : Ring) : (s.setRing r x).nor = s.nor := rfl
@[simp] theorem State.setRing_norOp (r : Nat) (x : Ring) : (s.setRing r x).norOp = s.norOp := rfl
@[simp] theorem State.setRing_img (r : Nat) (x : Ring) : (s.setRing r x).img = s.img := rfl
@[simp] theorem State.setRing_regs (r : Nat) (x : Ring) : (s.setRing r x).regs = s.regs := rfl
@[simp] theorem State.setRing_shadow (r : Nat) (x : Ring) : (s.setRing r x).shadow = s.shadow := rfl
@[simp] theorem State.setRing_grdLive (r : Nat) (x : Ring) : (s.setRing r x).grdLive = s.grdLive := rfl
@[simp] theorem State.setRing_grdWait (r : Nat) (x : Ring) : (s.setRing r x).grdWait = s.grdWait := rfl
@[simp] theorem State.setRing_latch (r : Nat) (x : Ring) : (s.setRing r x).latch = s.latch := rfl
@[simp] theorem State.setRing_held (r : Nat) (x : Ring) : (s.setRing r x).held = s.held := rfl
@[simp] theorem State.setRing_routes (r : Nat) (x : Ring) : (s.setRing r x).routes = s.routes := rfl
@[simp] theorem State.setRing_faultPin (r : Nat) (x : Ring) : (s.setRing r x).faultPin = s.faultPin := rfl
@[simp] theorem State.setRing_intLow (r : Nat) (x : Ring) : (s.setRing r x).intLow = s.intLow := rfl
@[simp] theorem State.setRing_fcPin (r : Nat) (x : Ring) : (s.setRing r x).fcPin = s.fcPin := rfl
@[simp] theorem State.setRing_msix (r : Nat) (x : Ring) : (s.setRing r x).msix = s.msix := rfl
@[simp] theorem State.setRing_msixPend (r : Nat) (x : Ring) : (s.setRing r x).msixPend = s.msixPend := rfl
@[simp] theorem State.setRing_modSt (r : Nat) (x : Ring) : (s.setRing r x).modSt = s.modSt := rfl
@[simp] theorem State.setRing_fns (r : Nat) (x : Ring) : (s.setRing r x).fns = s.fns := rfl
@[simp] theorem State.setRing_cmt (r : Nat) (x : Ring) : (s.setRing r x).cmt = s.cmt := rfl
@[simp] theorem State.setRing_doms (r : Nat) (x : Ring) : (s.setRing r x).doms = s.doms := rfl
@[simp] theorem State.setRing_ramps (r : Nat) (x : Ring) : (s.setRing r x).ramps = s.ramps := rfl
@[simp] theorem State.setRing_rampAt (r : Nat) (x : Ring) : (s.setRing r x).rampAt = s.rampAt := rfl
@[simp] theorem State.setRing_outHeld (r : Nat) (x : Ring) : (s.setRing r x).outHeld = s.outHeld := rfl
@[simp] theorem State.setRing_ingress (r : Nat) (x : Ring) : (s.setRing r x).ingress = s.ingress := rfl
@[simp] theorem State.setRing_csoTx (r : Nat) (x : Ring) : (s.setRing r x).csoTx = s.csoTx := rfl
@[simp] theorem State.setRing_avsGood (r : Nat) (x : Ring) : (s.setRing r x).avsGood = s.avsGood := rfl
@[simp] theorem State.setRing_tm (r : Nat) (x : Ring) : (s.setRing r x).tm = s.tm := rfl
@[simp] theorem State.setRing_grps (r : Nat) (x : Ring) : (s.setRing r x).grps = s.grps := rfl
@[simp] theorem State.setRing_syncOn (r : Nat) (x : Ring) : (s.setRing r x).syncOn = s.syncOn := rfl
@[simp] theorem State.setRing_fsoHigh (r : Nat) (x : Ring) : (s.setRing r x).fsoHigh = s.fsoHigh := rfl
@[simp] theorem State.setRing_chans (r : Nat) (x : Ring) : (s.setRing r x).chans = s.chans := rfl
@[simp] theorem State.setRing_ents (r : Nat) (x : Ring) : (s.setRing r x).ents = s.ents := rfl
@[simp] theorem State.setRing_heldDown (r : Nat) (x : Ring) : (s.setRing r x).heldDown = s.heldDown := rfl
@[simp] theorem State.setRing_eqSeen (r : Nat) (x : Ring) : (s.setRing r x).eqSeen = s.eqSeen := rfl
@[simp] theorem State.setRing_plc (r : Nat) (x : Ring) : (s.setRing r x).plc = s.plc := rfl
@[simp] theorem State.setRing_strms (r : Nat) (x : Ring) : (s.setRing r x).strms = s.strms := rfl
@[simp] theorem State.setRing_frames (r : Nat) (x : Ring) : (s.setRing r x).frames = s.frames := rfl
@[simp] theorem State.setRing_strokes (r : Nat) (x : Ring) : (s.setRing r x).strokes = s.strokes := rfl
@[simp] theorem State.setRing_eas (r : Nat) (x : Ring) : (s.setRing r x).eas = s.eas := rfl
@[simp] theorem State.setRing_lawQ (r : Nat) (x : Ring) : (s.setRing r x).lawQ = s.lawQ := rfl
@[simp] theorem State.setRing_rings (r : Nat) (x : Ring) : (s.setRing r x).rings = tset s.rings r x := rfl
@[simp] theorem State.setRing_pour (r : Nat) (x : Ring) : (s.setRing r x).pour = s.pour := rfl
@[simp] theorem State.setRing_reads (r : Nat) (x : Ring) : (s.setRing r x).reads = s.reads := rfl
@[simp] theorem State.setRing_atc (r : Nat) (x : Ring) : (s.setRing r x).atc = s.atc := rfl
@[simp] theorem State.setRing_pubs (r : Nat) (x : Ring) : (s.setRing r x).pubs = s.pubs := rfl
@[simp] theorem State.setRing_trl (r : Nat) (x : Ring) : (s.setRing r x).trl = s.trl := rfl
@[simp] theorem State.setRing_cells (r : Nat) (x : Ring) : (s.setRing r x).cells = s.cells := rfl
@[simp] theorem State.setRing_pal (r : Nat) (x : Ring) : (s.setRing r x).pal = s.pal := rfl
@[simp] theorem State.setRing_palFlip (r : Nat) (x : Ring) : (s.setRing r x).palFlip = s.palFlip := rfl
@[simp] theorem State.setRing_palOpen (r : Nat) (x : Ring) : (s.setRing r x).palOpen = s.palOpen := rfl
@[simp] theorem State.setRing_ques (r : Nat) (x : Ring) : (s.setRing r x).ques = s.ques := rfl
@[simp] theorem State.setRing_cen (r : Nat) (x : Ring) : (s.setRing r x).cen = s.cen := rfl
@[simp] theorem State.setRing_chk (r : Nat) (x : Ring) : (s.setRing r x).chk = s.chk := rfl
@[simp] theorem State.setRing_sig (r : Nat) (x : Ring) : (s.setRing r x).sig = s.sig := rfl
@[simp] theorem State.setRing_txe (r : Nat) (x : Ring) : (s.setRing r x).txe = s.txe := rfl
@[simp] theorem State.setRing_txePick (r : Nat) (x : Ring) : (s.setRing r x).txePick = s.txePick := rfl
@[simp] theorem State.setRing_txeLast (r : Nat) (x : Ring) : (s.setRing r x).txeLast = s.txeLast := rfl
@[simp] theorem State.setRing_spdm (r : Nat) (x : Ring) : (s.setRing r x).spdm = s.spdm := rfl
@[simp] theorem State.setRing_erk (r : Nat) (x : Ring) : (s.setRing r x).erk = s.erk := rfl
@[simp] theorem State.setRing_bist (r : Nat) (x : Ring) : (s.setRing r x).bist = s.bist := rfl
@[simp] theorem State.setRing_debug (r : Nat) (x : Ring) : (s.setRing r x).debug = s.debug := rfl
@[simp] theorem State.setRing_reord (r : Nat) (x : Ring) : (s.setRing r x).reord = s.reord := rfl
@[simp] theorem State.setRing_forced (r : Nat) (x : Ring) : (s.setRing r x).forced = s.forced := rfl
@[simp] theorem State.setRing_hot (r : Nat) (x : Ring) : (s.setRing r x).hot = s.hot := rfl
@[simp] theorem State.setRing_sbSent (r : Nat) (x : Ring) : (s.setRing r x).sbSent = s.sbSent := rfl
@[simp] theorem State.setRing_hlReset (r : Nat) (x : Ring) : (s.setRing r x).hlReset = s.hlReset := rfl
@[simp] theorem State.setRing_reg (r : Nat) (x : Ring) (of : Nat) : (s.setRing r x).reg of = s.reg of := rfl
@[simp] theorem State.setRing_get (r : Nat) (x : Ring) (fd : Fld) : (s.setRing r x).get fd = s.get fd := rfl
@[simp] theorem State.setRing_flag (r : Nat) (x : Ring) (fd : Fld) : (s.setRing r x).flag fd = s.flag fd := rfl

/-! ## setFn -/

@[simp] theorem State.setFn_pending (f : Nat) (x : FnSt) : (s.setFn f x).pending = s.pending := rfl
@[simp] theorem State.setFn_out (f : Nat) (x : FnSt) : (s.setFn f x).out = s.out := rfl
@[simp] theorem State.setFn_free (f : Nat) (x : FnSt) : (s.setFn f x).free = s.free := rfl
@[simp] theorem State.setFn_phase (f : Nat) (x : FnSt) : (s.setFn f x).phase = s.phase := rfl
@[simp] theorem State.setFn_pw (f : Nat) (x : FnSt) : (s.setFn f x).pw = s.pw := rfl
@[simp] theorem State.setFn_otp (f : Nat) (x : FnSt) : (s.setFn f x).otp = s.otp := rfl
@[simp] theorem State.setFn_warm (f : Nat) (x : FnSt) : (s.setFn f x).warm = s.warm := rfl
@[simp] theorem State.setFn_life (f : Nat) (x : FnSt) : (s.setFn f x).life = s.life := rfl
@[simp] theorem State.setFn_nor (f : Nat) (x : FnSt) : (s.setFn f x).nor = s.nor := rfl
@[simp] theorem State.setFn_norOp (f : Nat) (x : FnSt) : (s.setFn f x).norOp = s.norOp := rfl
@[simp] theorem State.setFn_img (f : Nat) (x : FnSt) : (s.setFn f x).img = s.img := rfl
@[simp] theorem State.setFn_regs (f : Nat) (x : FnSt) : (s.setFn f x).regs = s.regs := rfl
@[simp] theorem State.setFn_shadow (f : Nat) (x : FnSt) : (s.setFn f x).shadow = s.shadow := rfl
@[simp] theorem State.setFn_grdLive (f : Nat) (x : FnSt) : (s.setFn f x).grdLive = s.grdLive := rfl
@[simp] theorem State.setFn_grdWait (f : Nat) (x : FnSt) : (s.setFn f x).grdWait = s.grdWait := rfl
@[simp] theorem State.setFn_latch (f : Nat) (x : FnSt) : (s.setFn f x).latch = s.latch := rfl
@[simp] theorem State.setFn_held (f : Nat) (x : FnSt) : (s.setFn f x).held = s.held := rfl
@[simp] theorem State.setFn_routes (f : Nat) (x : FnSt) : (s.setFn f x).routes = s.routes := rfl
@[simp] theorem State.setFn_faultPin (f : Nat) (x : FnSt) : (s.setFn f x).faultPin = s.faultPin := rfl
@[simp] theorem State.setFn_intLow (f : Nat) (x : FnSt) : (s.setFn f x).intLow = s.intLow := rfl
@[simp] theorem State.setFn_fcPin (f : Nat) (x : FnSt) : (s.setFn f x).fcPin = s.fcPin := rfl
@[simp] theorem State.setFn_msix (f : Nat) (x : FnSt) : (s.setFn f x).msix = s.msix := rfl
@[simp] theorem State.setFn_msixPend (f : Nat) (x : FnSt) : (s.setFn f x).msixPend = s.msixPend := rfl
@[simp] theorem State.setFn_modSt (f : Nat) (x : FnSt) : (s.setFn f x).modSt = s.modSt := rfl
@[simp] theorem State.setFn_fns (f : Nat) (x : FnSt) : (s.setFn f x).fns = tset s.fns f x := rfl
@[simp] theorem State.setFn_cmt (f : Nat) (x : FnSt) : (s.setFn f x).cmt = s.cmt := rfl
@[simp] theorem State.setFn_doms (f : Nat) (x : FnSt) : (s.setFn f x).doms = s.doms := rfl
@[simp] theorem State.setFn_ramps (f : Nat) (x : FnSt) : (s.setFn f x).ramps = s.ramps := rfl
@[simp] theorem State.setFn_rampAt (f : Nat) (x : FnSt) : (s.setFn f x).rampAt = s.rampAt := rfl
@[simp] theorem State.setFn_outHeld (f : Nat) (x : FnSt) : (s.setFn f x).outHeld = s.outHeld := rfl
@[simp] theorem State.setFn_ingress (f : Nat) (x : FnSt) : (s.setFn f x).ingress = s.ingress := rfl
@[simp] theorem State.setFn_csoTx (f : Nat) (x : FnSt) : (s.setFn f x).csoTx = s.csoTx := rfl
@[simp] theorem State.setFn_avsGood (f : Nat) (x : FnSt) : (s.setFn f x).avsGood = s.avsGood := rfl
@[simp] theorem State.setFn_tm (f : Nat) (x : FnSt) : (s.setFn f x).tm = s.tm := rfl
@[simp] theorem State.setFn_grps (f : Nat) (x : FnSt) : (s.setFn f x).grps = s.grps := rfl
@[simp] theorem State.setFn_syncOn (f : Nat) (x : FnSt) : (s.setFn f x).syncOn = s.syncOn := rfl
@[simp] theorem State.setFn_fsoHigh (f : Nat) (x : FnSt) : (s.setFn f x).fsoHigh = s.fsoHigh := rfl
@[simp] theorem State.setFn_chans (f : Nat) (x : FnSt) : (s.setFn f x).chans = s.chans := rfl
@[simp] theorem State.setFn_ents (f : Nat) (x : FnSt) : (s.setFn f x).ents = s.ents := rfl
@[simp] theorem State.setFn_heldDown (f : Nat) (x : FnSt) : (s.setFn f x).heldDown = s.heldDown := rfl
@[simp] theorem State.setFn_eqSeen (f : Nat) (x : FnSt) : (s.setFn f x).eqSeen = s.eqSeen := rfl
@[simp] theorem State.setFn_plc (f : Nat) (x : FnSt) : (s.setFn f x).plc = s.plc := rfl
@[simp] theorem State.setFn_strms (f : Nat) (x : FnSt) : (s.setFn f x).strms = s.strms := rfl
@[simp] theorem State.setFn_frames (f : Nat) (x : FnSt) : (s.setFn f x).frames = s.frames := rfl
@[simp] theorem State.setFn_strokes (f : Nat) (x : FnSt) : (s.setFn f x).strokes = s.strokes := rfl
@[simp] theorem State.setFn_eas (f : Nat) (x : FnSt) : (s.setFn f x).eas = s.eas := rfl
@[simp] theorem State.setFn_lawQ (f : Nat) (x : FnSt) : (s.setFn f x).lawQ = s.lawQ := rfl
@[simp] theorem State.setFn_rings (f : Nat) (x : FnSt) : (s.setFn f x).rings = s.rings := rfl
@[simp] theorem State.setFn_pour (f : Nat) (x : FnSt) : (s.setFn f x).pour = s.pour := rfl
@[simp] theorem State.setFn_reads (f : Nat) (x : FnSt) : (s.setFn f x).reads = s.reads := rfl
@[simp] theorem State.setFn_atc (f : Nat) (x : FnSt) : (s.setFn f x).atc = s.atc := rfl
@[simp] theorem State.setFn_pubs (f : Nat) (x : FnSt) : (s.setFn f x).pubs = s.pubs := rfl
@[simp] theorem State.setFn_trl (f : Nat) (x : FnSt) : (s.setFn f x).trl = s.trl := rfl
@[simp] theorem State.setFn_cells (f : Nat) (x : FnSt) : (s.setFn f x).cells = s.cells := rfl
@[simp] theorem State.setFn_pal (f : Nat) (x : FnSt) : (s.setFn f x).pal = s.pal := rfl
@[simp] theorem State.setFn_palFlip (f : Nat) (x : FnSt) : (s.setFn f x).palFlip = s.palFlip := rfl
@[simp] theorem State.setFn_palOpen (f : Nat) (x : FnSt) : (s.setFn f x).palOpen = s.palOpen := rfl
@[simp] theorem State.setFn_ques (f : Nat) (x : FnSt) : (s.setFn f x).ques = s.ques := rfl
@[simp] theorem State.setFn_cen (f : Nat) (x : FnSt) : (s.setFn f x).cen = s.cen := rfl
@[simp] theorem State.setFn_chk (f : Nat) (x : FnSt) : (s.setFn f x).chk = s.chk := rfl
@[simp] theorem State.setFn_sig (f : Nat) (x : FnSt) : (s.setFn f x).sig = s.sig := rfl
@[simp] theorem State.setFn_txe (f : Nat) (x : FnSt) : (s.setFn f x).txe = s.txe := rfl
@[simp] theorem State.setFn_txePick (f : Nat) (x : FnSt) : (s.setFn f x).txePick = s.txePick := rfl
@[simp] theorem State.setFn_txeLast (f : Nat) (x : FnSt) : (s.setFn f x).txeLast = s.txeLast := rfl
@[simp] theorem State.setFn_spdm (f : Nat) (x : FnSt) : (s.setFn f x).spdm = s.spdm := rfl
@[simp] theorem State.setFn_erk (f : Nat) (x : FnSt) : (s.setFn f x).erk = s.erk := rfl
@[simp] theorem State.setFn_bist (f : Nat) (x : FnSt) : (s.setFn f x).bist = s.bist := rfl
@[simp] theorem State.setFn_debug (f : Nat) (x : FnSt) : (s.setFn f x).debug = s.debug := rfl
@[simp] theorem State.setFn_reord (f : Nat) (x : FnSt) : (s.setFn f x).reord = s.reord := rfl
@[simp] theorem State.setFn_forced (f : Nat) (x : FnSt) : (s.setFn f x).forced = s.forced := rfl
@[simp] theorem State.setFn_hot (f : Nat) (x : FnSt) : (s.setFn f x).hot = s.hot := rfl
@[simp] theorem State.setFn_sbSent (f : Nat) (x : FnSt) : (s.setFn f x).sbSent = s.sbSent := rfl
@[simp] theorem State.setFn_hlReset (f : Nat) (x : FnSt) : (s.setFn f x).hlReset = s.hlReset := rfl
@[simp] theorem State.setFn_reg (f : Nat) (x : FnSt) (of : Nat) : (s.setFn f x).reg of = s.reg of := rfl
@[simp] theorem State.setFn_get (f : Nat) (x : FnSt) (fd : Fld) : (s.setFn f x).get fd = s.get fd := rfl
@[simp] theorem State.setFn_flag (f : Nat) (x : FnSt) (fd : Fld) : (s.setFn f x).flag fd = s.flag fd := rfl

/-! ## setDom -/

@[simp] theorem State.setDom_pending (d : Nat) (x : DomSt) : (s.setDom d x).pending = s.pending := rfl
@[simp] theorem State.setDom_out (d : Nat) (x : DomSt) : (s.setDom d x).out = s.out := rfl
@[simp] theorem State.setDom_free (d : Nat) (x : DomSt) : (s.setDom d x).free = s.free := rfl
@[simp] theorem State.setDom_phase (d : Nat) (x : DomSt) : (s.setDom d x).phase = s.phase := rfl
@[simp] theorem State.setDom_pw (d : Nat) (x : DomSt) : (s.setDom d x).pw = s.pw := rfl
@[simp] theorem State.setDom_otp (d : Nat) (x : DomSt) : (s.setDom d x).otp = s.otp := rfl
@[simp] theorem State.setDom_warm (d : Nat) (x : DomSt) : (s.setDom d x).warm = s.warm := rfl
@[simp] theorem State.setDom_life (d : Nat) (x : DomSt) : (s.setDom d x).life = s.life := rfl
@[simp] theorem State.setDom_nor (d : Nat) (x : DomSt) : (s.setDom d x).nor = s.nor := rfl
@[simp] theorem State.setDom_norOp (d : Nat) (x : DomSt) : (s.setDom d x).norOp = s.norOp := rfl
@[simp] theorem State.setDom_img (d : Nat) (x : DomSt) : (s.setDom d x).img = s.img := rfl
@[simp] theorem State.setDom_shadow (d : Nat) (x : DomSt) : (s.setDom d x).shadow = s.shadow := rfl
@[simp] theorem State.setDom_grdLive (d : Nat) (x : DomSt) : (s.setDom d x).grdLive = s.grdLive := rfl
@[simp] theorem State.setDom_grdWait (d : Nat) (x : DomSt) : (s.setDom d x).grdWait = s.grdWait := rfl
@[simp] theorem State.setDom_latch (d : Nat) (x : DomSt) : (s.setDom d x).latch = s.latch := rfl
@[simp] theorem State.setDom_held (d : Nat) (x : DomSt) : (s.setDom d x).held = s.held := rfl
@[simp] theorem State.setDom_routes (d : Nat) (x : DomSt) : (s.setDom d x).routes = s.routes := rfl
@[simp] theorem State.setDom_faultPin (d : Nat) (x : DomSt) : (s.setDom d x).faultPin = s.faultPin := rfl
@[simp] theorem State.setDom_intLow (d : Nat) (x : DomSt) : (s.setDom d x).intLow = s.intLow := rfl
@[simp] theorem State.setDom_fcPin (d : Nat) (x : DomSt) : (s.setDom d x).fcPin = s.fcPin := rfl
@[simp] theorem State.setDom_msix (d : Nat) (x : DomSt) : (s.setDom d x).msix = s.msix := rfl
@[simp] theorem State.setDom_msixPend (d : Nat) (x : DomSt) : (s.setDom d x).msixPend = s.msixPend := rfl
@[simp] theorem State.setDom_modSt (d : Nat) (x : DomSt) : (s.setDom d x).modSt = s.modSt := rfl
@[simp] theorem State.setDom_fns (d : Nat) (x : DomSt) : (s.setDom d x).fns = s.fns := rfl
@[simp] theorem State.setDom_cmt (d : Nat) (x : DomSt) : (s.setDom d x).cmt = s.cmt := rfl
@[simp] theorem State.setDom_doms (d : Nat) (x : DomSt) : (s.setDom d x).doms = tset s.doms d x := rfl
@[simp] theorem State.setDom_ramps (d : Nat) (x : DomSt) : (s.setDom d x).ramps = s.ramps := rfl
@[simp] theorem State.setDom_rampAt (d : Nat) (x : DomSt) : (s.setDom d x).rampAt = s.rampAt := rfl
@[simp] theorem State.setDom_outHeld (d : Nat) (x : DomSt) : (s.setDom d x).outHeld = s.outHeld := rfl
@[simp] theorem State.setDom_ingress (d : Nat) (x : DomSt) : (s.setDom d x).ingress = s.ingress := rfl
@[simp] theorem State.setDom_csoTx (d : Nat) (x : DomSt) : (s.setDom d x).csoTx = s.csoTx := rfl
@[simp] theorem State.setDom_avsGood (d : Nat) (x : DomSt) : (s.setDom d x).avsGood = s.avsGood := rfl
@[simp] theorem State.setDom_tm (d : Nat) (x : DomSt) : (s.setDom d x).tm = s.tm := rfl
@[simp] theorem State.setDom_grps (d : Nat) (x : DomSt) : (s.setDom d x).grps = s.grps := rfl
@[simp] theorem State.setDom_syncOn (d : Nat) (x : DomSt) : (s.setDom d x).syncOn = s.syncOn := rfl
@[simp] theorem State.setDom_fsoHigh (d : Nat) (x : DomSt) : (s.setDom d x).fsoHigh = s.fsoHigh := rfl
@[simp] theorem State.setDom_chans (d : Nat) (x : DomSt) : (s.setDom d x).chans = s.chans := rfl
@[simp] theorem State.setDom_ents (d : Nat) (x : DomSt) : (s.setDom d x).ents = s.ents := rfl
@[simp] theorem State.setDom_heldDown (d : Nat) (x : DomSt) : (s.setDom d x).heldDown = s.heldDown := rfl
@[simp] theorem State.setDom_eqSeen (d : Nat) (x : DomSt) : (s.setDom d x).eqSeen = s.eqSeen := rfl
@[simp] theorem State.setDom_plc (d : Nat) (x : DomSt) : (s.setDom d x).plc = s.plc := rfl
@[simp] theorem State.setDom_strms (d : Nat) (x : DomSt) : (s.setDom d x).strms = s.strms := rfl
@[simp] theorem State.setDom_frames (d : Nat) (x : DomSt) : (s.setDom d x).frames = s.frames := rfl
@[simp] theorem State.setDom_strokes (d : Nat) (x : DomSt) : (s.setDom d x).strokes = s.strokes := rfl
@[simp] theorem State.setDom_eas (d : Nat) (x : DomSt) : (s.setDom d x).eas = s.eas := rfl
@[simp] theorem State.setDom_lawQ (d : Nat) (x : DomSt) : (s.setDom d x).lawQ = s.lawQ := rfl
@[simp] theorem State.setDom_rings (d : Nat) (x : DomSt) : (s.setDom d x).rings = s.rings := rfl
@[simp] theorem State.setDom_pour (d : Nat) (x : DomSt) : (s.setDom d x).pour = s.pour := rfl
@[simp] theorem State.setDom_reads (d : Nat) (x : DomSt) : (s.setDom d x).reads = s.reads := rfl
@[simp] theorem State.setDom_atc (d : Nat) (x : DomSt) : (s.setDom d x).atc = s.atc := rfl
@[simp] theorem State.setDom_pubs (d : Nat) (x : DomSt) : (s.setDom d x).pubs = s.pubs := rfl
@[simp] theorem State.setDom_trl (d : Nat) (x : DomSt) : (s.setDom d x).trl = s.trl := rfl
@[simp] theorem State.setDom_cells (d : Nat) (x : DomSt) : (s.setDom d x).cells = s.cells := rfl
@[simp] theorem State.setDom_pal (d : Nat) (x : DomSt) : (s.setDom d x).pal = s.pal := rfl
@[simp] theorem State.setDom_palFlip (d : Nat) (x : DomSt) : (s.setDom d x).palFlip = s.palFlip := rfl
@[simp] theorem State.setDom_palOpen (d : Nat) (x : DomSt) : (s.setDom d x).palOpen = s.palOpen := rfl
@[simp] theorem State.setDom_ques (d : Nat) (x : DomSt) : (s.setDom d x).ques = s.ques := rfl
@[simp] theorem State.setDom_cen (d : Nat) (x : DomSt) : (s.setDom d x).cen = s.cen := rfl
@[simp] theorem State.setDom_chk (d : Nat) (x : DomSt) : (s.setDom d x).chk = s.chk := rfl
@[simp] theorem State.setDom_sig (d : Nat) (x : DomSt) : (s.setDom d x).sig = s.sig := rfl
@[simp] theorem State.setDom_txe (d : Nat) (x : DomSt) : (s.setDom d x).txe = s.txe := rfl
@[simp] theorem State.setDom_txePick (d : Nat) (x : DomSt) : (s.setDom d x).txePick = s.txePick := rfl
@[simp] theorem State.setDom_txeLast (d : Nat) (x : DomSt) : (s.setDom d x).txeLast = s.txeLast := rfl
@[simp] theorem State.setDom_spdm (d : Nat) (x : DomSt) : (s.setDom d x).spdm = s.spdm := rfl
@[simp] theorem State.setDom_erk (d : Nat) (x : DomSt) : (s.setDom d x).erk = s.erk := rfl
@[simp] theorem State.setDom_bist (d : Nat) (x : DomSt) : (s.setDom d x).bist = s.bist := rfl
@[simp] theorem State.setDom_debug (d : Nat) (x : DomSt) : (s.setDom d x).debug = s.debug := rfl
@[simp] theorem State.setDom_reord (d : Nat) (x : DomSt) : (s.setDom d x).reord = s.reord := rfl
@[simp] theorem State.setDom_forced (d : Nat) (x : DomSt) : (s.setDom d x).forced = s.forced := rfl
@[simp] theorem State.setDom_hot (d : Nat) (x : DomSt) : (s.setDom d x).hot = s.hot := rfl
@[simp] theorem State.setDom_sbSent (d : Nat) (x : DomSt) : (s.setDom d x).sbSent = s.sbSent := rfl
@[simp] theorem State.setDom_hlReset (d : Nat) (x : DomSt) : (s.setDom d x).hlReset = s.hlReset := rfl

/-! ## advance: time passes in tm alone -/

@[simp] theorem State.advance_pending (ns : Nat) : (s.advance ns).pending = s.pending := by unfold State.advance; split <;> rfl
@[simp] theorem State.advance_out (ns : Nat) : (s.advance ns).out = s.out := by unfold State.advance; split <;> rfl
@[simp] theorem State.advance_free (ns : Nat) : (s.advance ns).free = s.free := by unfold State.advance; split <;> rfl
@[simp] theorem State.advance_phase (ns : Nat) : (s.advance ns).phase = s.phase := by unfold State.advance; split <;> rfl
@[simp] theorem State.advance_pw (ns : Nat) : (s.advance ns).pw = s.pw := by unfold State.advance; split <;> rfl
@[simp] theorem State.advance_otp (ns : Nat) : (s.advance ns).otp = s.otp := by unfold State.advance; split <;> rfl
@[simp] theorem State.advance_warm (ns : Nat) : (s.advance ns).warm = s.warm := by unfold State.advance; split <;> rfl
@[simp] theorem State.advance_life (ns : Nat) : (s.advance ns).life = s.life := by unfold State.advance; split <;> rfl
@[simp] theorem State.advance_nor (ns : Nat) : (s.advance ns).nor = s.nor := by unfold State.advance; split <;> rfl
@[simp] theorem State.advance_norOp (ns : Nat) : (s.advance ns).norOp = s.norOp := by unfold State.advance; split <;> rfl
@[simp] theorem State.advance_img (ns : Nat) : (s.advance ns).img = s.img := by unfold State.advance; split <;> rfl
@[simp] theorem State.advance_regs (ns : Nat) : (s.advance ns).regs = s.regs := by unfold State.advance; split <;> rfl
@[simp] theorem State.advance_shadow (ns : Nat) : (s.advance ns).shadow = s.shadow := by unfold State.advance; split <;> rfl
@[simp] theorem State.advance_grdLive (ns : Nat) : (s.advance ns).grdLive = s.grdLive := by unfold State.advance; split <;> rfl
@[simp] theorem State.advance_grdWait (ns : Nat) : (s.advance ns).grdWait = s.grdWait := by unfold State.advance; split <;> rfl
@[simp] theorem State.advance_latch (ns : Nat) : (s.advance ns).latch = s.latch := by unfold State.advance; split <;> rfl
@[simp] theorem State.advance_held (ns : Nat) : (s.advance ns).held = s.held := by unfold State.advance; split <;> rfl
@[simp] theorem State.advance_routes (ns : Nat) : (s.advance ns).routes = s.routes := by unfold State.advance; split <;> rfl
@[simp] theorem State.advance_faultPin (ns : Nat) : (s.advance ns).faultPin = s.faultPin := by unfold State.advance; split <;> rfl
@[simp] theorem State.advance_intLow (ns : Nat) : (s.advance ns).intLow = s.intLow := by unfold State.advance; split <;> rfl
@[simp] theorem State.advance_fcPin (ns : Nat) : (s.advance ns).fcPin = s.fcPin := by unfold State.advance; split <;> rfl
@[simp] theorem State.advance_msix (ns : Nat) : (s.advance ns).msix = s.msix := by unfold State.advance; split <;> rfl
@[simp] theorem State.advance_msixPend (ns : Nat) : (s.advance ns).msixPend = s.msixPend := by unfold State.advance; split <;> rfl
@[simp] theorem State.advance_modSt (ns : Nat) : (s.advance ns).modSt = s.modSt := by unfold State.advance; split <;> rfl
@[simp] theorem State.advance_fns (ns : Nat) : (s.advance ns).fns = s.fns := by unfold State.advance; split <;> rfl
@[simp] theorem State.advance_cmt (ns : Nat) : (s.advance ns).cmt = s.cmt := by unfold State.advance; split <;> rfl
@[simp] theorem State.advance_doms (ns : Nat) : (s.advance ns).doms = s.doms := by unfold State.advance; split <;> rfl
@[simp] theorem State.advance_ramps (ns : Nat) : (s.advance ns).ramps = s.ramps := by unfold State.advance; split <;> rfl
@[simp] theorem State.advance_rampAt (ns : Nat) : (s.advance ns).rampAt = s.rampAt := by unfold State.advance; split <;> rfl
@[simp] theorem State.advance_outHeld (ns : Nat) : (s.advance ns).outHeld = s.outHeld := by unfold State.advance; split <;> rfl
@[simp] theorem State.advance_ingress (ns : Nat) : (s.advance ns).ingress = s.ingress := by unfold State.advance; split <;> rfl
@[simp] theorem State.advance_csoTx (ns : Nat) : (s.advance ns).csoTx = s.csoTx := by unfold State.advance; split <;> rfl
@[simp] theorem State.advance_avsGood (ns : Nat) : (s.advance ns).avsGood = s.avsGood := by unfold State.advance; split <;> rfl
@[simp] theorem State.advance_grps (ns : Nat) : (s.advance ns).grps = s.grps := by unfold State.advance; split <;> rfl
@[simp] theorem State.advance_syncOn (ns : Nat) : (s.advance ns).syncOn = s.syncOn := by unfold State.advance; split <;> rfl
@[simp] theorem State.advance_fsoHigh (ns : Nat) : (s.advance ns).fsoHigh = s.fsoHigh := by unfold State.advance; split <;> rfl
@[simp] theorem State.advance_chans (ns : Nat) : (s.advance ns).chans = s.chans := by unfold State.advance; split <;> rfl
@[simp] theorem State.advance_ents (ns : Nat) : (s.advance ns).ents = s.ents := by unfold State.advance; split <;> rfl
@[simp] theorem State.advance_heldDown (ns : Nat) : (s.advance ns).heldDown = s.heldDown := by unfold State.advance; split <;> rfl
@[simp] theorem State.advance_eqSeen (ns : Nat) : (s.advance ns).eqSeen = s.eqSeen := by unfold State.advance; split <;> rfl
@[simp] theorem State.advance_plc (ns : Nat) : (s.advance ns).plc = s.plc := by unfold State.advance; split <;> rfl
@[simp] theorem State.advance_strms (ns : Nat) : (s.advance ns).strms = s.strms := by unfold State.advance; split <;> rfl
@[simp] theorem State.advance_frames (ns : Nat) : (s.advance ns).frames = s.frames := by unfold State.advance; split <;> rfl
@[simp] theorem State.advance_strokes (ns : Nat) : (s.advance ns).strokes = s.strokes := by unfold State.advance; split <;> rfl
@[simp] theorem State.advance_eas (ns : Nat) : (s.advance ns).eas = s.eas := by unfold State.advance; split <;> rfl
@[simp] theorem State.advance_lawQ (ns : Nat) : (s.advance ns).lawQ = s.lawQ := by unfold State.advance; split <;> rfl
@[simp] theorem State.advance_rings (ns : Nat) : (s.advance ns).rings = s.rings := by unfold State.advance; split <;> rfl
@[simp] theorem State.advance_pour (ns : Nat) : (s.advance ns).pour = s.pour := by unfold State.advance; split <;> rfl
@[simp] theorem State.advance_reads (ns : Nat) : (s.advance ns).reads = s.reads := by unfold State.advance; split <;> rfl
@[simp] theorem State.advance_atc (ns : Nat) : (s.advance ns).atc = s.atc := by unfold State.advance; split <;> rfl
@[simp] theorem State.advance_pubs (ns : Nat) : (s.advance ns).pubs = s.pubs := by unfold State.advance; split <;> rfl
@[simp] theorem State.advance_trl (ns : Nat) : (s.advance ns).trl = s.trl := by unfold State.advance; split <;> rfl
@[simp] theorem State.advance_cells (ns : Nat) : (s.advance ns).cells = s.cells := by unfold State.advance; split <;> rfl
@[simp] theorem State.advance_pal (ns : Nat) : (s.advance ns).pal = s.pal := by unfold State.advance; split <;> rfl
@[simp] theorem State.advance_palFlip (ns : Nat) : (s.advance ns).palFlip = s.palFlip := by unfold State.advance; split <;> rfl
@[simp] theorem State.advance_palOpen (ns : Nat) : (s.advance ns).palOpen = s.palOpen := by unfold State.advance; split <;> rfl
@[simp] theorem State.advance_ques (ns : Nat) : (s.advance ns).ques = s.ques := by unfold State.advance; split <;> rfl
@[simp] theorem State.advance_cen (ns : Nat) : (s.advance ns).cen = s.cen := by unfold State.advance; split <;> rfl
@[simp] theorem State.advance_chk (ns : Nat) : (s.advance ns).chk = s.chk := by unfold State.advance; split <;> rfl
@[simp] theorem State.advance_sig (ns : Nat) : (s.advance ns).sig = s.sig := by unfold State.advance; split <;> rfl
@[simp] theorem State.advance_txe (ns : Nat) : (s.advance ns).txe = s.txe := by unfold State.advance; split <;> rfl
@[simp] theorem State.advance_txePick (ns : Nat) : (s.advance ns).txePick = s.txePick := by unfold State.advance; split <;> rfl
@[simp] theorem State.advance_txeLast (ns : Nat) : (s.advance ns).txeLast = s.txeLast := by unfold State.advance; split <;> rfl
@[simp] theorem State.advance_spdm (ns : Nat) : (s.advance ns).spdm = s.spdm := by unfold State.advance; split <;> rfl
@[simp] theorem State.advance_erk (ns : Nat) : (s.advance ns).erk = s.erk := by unfold State.advance; split <;> rfl
@[simp] theorem State.advance_bist (ns : Nat) : (s.advance ns).bist = s.bist := by unfold State.advance; split <;> rfl
@[simp] theorem State.advance_debug (ns : Nat) : (s.advance ns).debug = s.debug := by unfold State.advance; split <;> rfl
@[simp] theorem State.advance_reord (ns : Nat) : (s.advance ns).reord = s.reord := by unfold State.advance; split <;> rfl
@[simp] theorem State.advance_forced (ns : Nat) : (s.advance ns).forced = s.forced := by unfold State.advance; split <;> rfl
@[simp] theorem State.advance_hot (ns : Nat) : (s.advance ns).hot = s.hot := by unfold State.advance; split <;> rfl
@[simp] theorem State.advance_sbSent (ns : Nat) : (s.advance ns).sbSent = s.sbSent := by unfold State.advance; split <;> rfl
@[simp] theorem State.advance_hlReset (ns : Nat) : (s.advance ns).hlReset = s.hlReset := by unfold State.advance; split <;> rfl
@[simp] theorem State.advance_reg (ns : Nat) (o : Nat) : (s.advance ns).reg o = s.reg o := by unfold State.advance; split <;> rfl
@[simp] theorem State.advance_get (ns : Nat) (o : Fld) : (s.advance ns).get o = s.get o := by unfold State.advance; split <;> rfl
@[simp] theorem State.advance_flag (ns : Nat) (o : Fld) : (s.advance ns).flag o = s.flag o := by unfold State.advance; split <;> rfl

/-- Where Falith does not run, no time passes on its clocks (R150). -/
theorem State.advance_stopped (ns : Nat) (h : s.runs = false) : s.advance ns = s := by
  unfold State.advance
  simp [h]

/-- While Falith runs, the local reference advances by the time that passes (R150). -/
theorem State.advance_loc (ns : Nat) (h : s.runs = true) : (s.advance ns).tm.loc = s.tm.loc + ns := by
  simp [State.advance, TimeSt.after, h]

@[simp] theorem State.advance_runs (ns : Nat) : (s.advance ns).runs = s.runs := by
  unfold State.advance
  split <;> rfl

@[simp] theorem State.advance_loaded (ns : Nat) : (s.advance ns).loaded = s.loaded := by
  unfold State.advance
  split <;> rfl

end Sys2Proof.Machine
end

