-- ==== Sys2Proof/Laws/Fields.lean ====
section
/-! SUPPORT. Laws/Fields.lean: registers and their fields after a write: what is written is read, everything else stays. -/

namespace Sys2Proof.Machine

/-! ## Bit fields -/

/-- The bits of a number with one field replaced. -/
theorem putBits_testBit (w hi lo v i : Nat) (h : lo ≤ hi) :
    (putBits w hi lo v).testBit i =
      if i < lo then w.testBit i else if i ≤ hi then v.testBit (i - lo) else w.testBit i := by
  have e : putBits w hi lo v = 2 ^ lo * (2 ^ (hi + 1 - lo) * (w >>> (hi + 1)) + v % 2 ^ (hi + 1 - lo)) + w % 2 ^ lo := by
    have p : 2 ^ (hi + 1) = 2 ^ lo * 2 ^ (hi + 1 - lo) := by rw [← Nat.pow_add]; congr 1; omega
    simp only [putBits, Nat.shiftLeft_eq]
    rw [p]
    ring
  rw [e, Nat.testBit_two_pow_mul_add _ (Nat.mod_lt _ (Nat.two_pow_pos lo)),
    Nat.testBit_two_pow_mul_add _ (Nat.mod_lt _ (Nat.two_pow_pos _))]
  split
  · rename_i hi1
    simp [Nat.testBit_mod_two_pow, hi1]
  · rename_i hi1
    split
    · rename_i hi2
      have : i ≤ hi := by omega
      simp [Nat.testBit_mod_two_pow, this, hi2]
    · rename_i hi2
      have h3 : ¬ i ≤ hi := by omega
      have h4 : hi + 1 + (i - lo - (hi + 1 - lo)) = i := by omega
      simp [h3, Nat.testBit_shiftRight, h4]

/-- The bits of a field. -/
theorem bits_testBit (w hi lo i : Nat) : (bits w hi lo).testBit i = (decide (i < hi + 1 - lo) && w.testBit (lo + i)) := by
  simp [bits, Nat.testBit_mod_two_pow, Nat.testBit_shiftRight]

/-- A field of a word below bit 32 keeps it below 2^32. -/
theorem putBits_lt {w hi lo v : Nat} (hw : w < 2 ^ 32) (h : lo ≤ hi) (h32 : hi < 32) : putBits w hi lo v < 2 ^ 32 := by
  apply Nat.lt_pow_two_of_testBit
  intro i hi32
  rw [putBits_testBit _ _ _ _ _ h]
  have h1 : ¬ i < lo := by omega
  have h2 : ¬ i ≤ hi := by omega
  simp only [h1, h2, if_false]
  exact Nat.testBit_lt_two_pow (Nat.lt_of_lt_of_le hw (Nat.pow_le_pow_right (by omega) hi32))

/-- The number of a word with one field replaced. -/
theorem fldPut_toNat (f : Fld) (v : Nat) (w : Word) (h : f.lo ≤ f.hi) (h32 : f.hi < 32) :
    (fldPut f v w).toNat = putBits w.toNat f.hi f.lo v := by
  simp only [fldPut, BitVec.toNat_ofNat]
  exact Nat.mod_eq_of_lt (putBits_lt w.isLt h h32)

/-- A field reads as what was written to it, cut to its width. -/
theorem fldGet_fldPut (f : Fld) (v : Nat) (w : Word) (h : f.lo ≤ f.hi) (h32 : f.hi < 32) :
    fldGet f (fldPut f v w) = v % 2 ^ (f.hi + 1 - f.lo) := by
  apply Nat.eq_of_testBit_eq
  intro i
  rw [fldGet, bits_testBit, fldPut_toNat f v w h h32, putBits_testBit _ _ _ _ _ h, Nat.testBit_mod_two_pow]
  by_cases hi : i < f.hi + 1 - f.lo
  · have h1 : ¬ f.lo + i < f.lo := by omega
    have h2 : f.lo + i ≤ f.hi := by omega
    simp [hi, h1, h2]
  · simp [hi]

/-- A write of one field leaves the other fields of the register. -/
theorem fldGet_fldPut_disj (f g : Fld) (v : Nat) (w : Word) (h : f.lo ≤ f.hi) (h32 : f.hi < 32)
    (hd : g.hi < f.lo ∨ f.hi < g.lo) : fldGet g (fldPut f v w) = fldGet g w := by
  apply Nat.eq_of_testBit_eq
  intro i
  rw [fldGet, fldGet, bits_testBit, bits_testBit, fldPut_toNat f v w h h32, putBits_testBit _ _ _ _ _ h]
  by_cases hi : i < g.hi + 1 - g.lo
  · rcases hd with hd | hd
    · have h1 : g.lo + i < f.lo := by omega
      simp [h1]
    · have h1 : ¬ g.lo + i < f.lo := by omega
      have h2 : ¬ g.lo + i ≤ f.hi := by omega
      simp [h1, h2]
  · simp [hi]

/-! ## Registers -/

/-- A register reads as what was stored in it. -/
@[simp] theorem State.reg_setReg_same (s : State) (off : Nat) (w : Word) : (s.setReg off w).reg off = w :=
  cellGet_put_same

/-- A store of one register leaves the others. -/
theorem State.reg_setReg_ne (s : State) {off o : Nat} (w : Word) (h : o ≠ off) : (s.setReg off w).reg o = s.reg o :=
  cellGet_put_ne h

/-- The register of a field after a write of the field. -/
@[simp] theorem State.reg_put_same (s : State) (f : Fld) (v : Nat) : (s.put f v).reg f.off = fldPut f v (s.reg f.off) :=
  cellGet_put_same

/-- A write of a field leaves the other registers. -/
theorem State.reg_put_ne (s : State) {f : Fld} {o : Nat} (v : Nat) (h : o ≠ f.off) : (s.put f v).reg o = s.reg o :=
  cellGet_put_ne h

/-- A counter's increase leaves the other registers. -/
theorem State.reg_bumpBy_ne (s : State) {f : Fld} {o : Nat} (n : Nat) (h : o ≠ f.off) : (s.bumpBy f n).reg o = s.reg o :=
  cellGet_put_ne h

/-- A counter's increment leaves the other registers. -/
theorem State.reg_bump_ne (s : State) {f : Fld} {o : Nat} (h : o ≠ f.off) : (s.bump f).reg o = s.reg o :=
  cellGet_put_ne h

/-- A field reads as what was written to it, cut to its width. -/
theorem State.get_put_same (s : State) (f : Fld) (v : Nat) (h : f.lo ≤ f.hi) (h32 : f.hi < 32) :
    (s.put f v).get f = v % 2 ^ (f.hi + 1 - f.lo) := by
  rw [State.get, State.reg_put_same, fldGet_fldPut f v _ h h32]

/-- A write of a field leaves the fields of the other registers. -/
theorem State.get_put_ne (s : State) {f g : Fld} (v : Nat) (h : g.off ≠ f.off) : (s.put f v).get g = s.get g := by
  rw [State.get, State.get, State.reg_put_ne s v h]

/-- A write of a field leaves the other fields of its register. -/
theorem State.get_put_disj (s : State) {f g : Fld} (v : Nat) (h : f.lo ≤ f.hi) (h32 : f.hi < 32)
    (hd : g.hi < f.lo ∨ f.hi < g.lo) : (s.put f v).get g = s.get g := by
  by_cases ho : g.off = f.off
  · rw [State.get, State.get, ho, State.reg_put_same, fldGet_fldPut_disj f g v _ h h32 hd]
  · exact State.get_put_ne s v ho

/-- A counter below its ceiling counts one up; at the ceiling it stays (R432, R434). -/
theorem State.get_bump (s : State) (f : Fld) (h : f.lo ≤ f.hi) (h32 : f.hi < 32) :
    (s.bump f).get f = Nat.min (fldMax f) (s.get f + 1) := by
  have hp : 0 < 2 ^ (f.hi + 1 - f.lo) := Nat.two_pow_pos _
  rw [State.bump, State.bumpBy, State.get_put_same s f _ h h32, satAdd]
  apply Nat.mod_eq_of_lt
  have : Nat.min (fldMax f) (s.get f + 1) ≤ fldMax f := Nat.min_le_left _ _
  simp only [fldMax] at this ⊢
  omega

/-! ## Operations that change registers alone -/

/-- Nothing but registers has changed. -/
def RegsOnly (s t : State) : Prop := t = { s with regs := t.regs }

theorem RegsOnly.refl (s : State) : RegsOnly s s := rfl

theorem RegsOnly.trans {s t u : State} (h : RegsOnly s t) (g : RegsOnly t u) : RegsOnly s u := by
  unfold RegsOnly at *
  rw [h] at g
  exact g

theorem RegsOnly.setReg (s : State) (off : Nat) (w : Word) : RegsOnly s (s.setReg off w) := rfl

theorem RegsOnly.put (s : State) (f : Fld) (v : Nat) : RegsOnly s (s.put f v) := RegsOnly.setReg s _ _

theorem RegsOnly.bump (s : State) (f : Fld) : RegsOnly s (s.bump f) := RegsOnly.setReg s _ _

theorem RegsOnly.wrapInc (s : State) (f : Fld) : RegsOnly s (s.wrapInc f) := RegsOnly.setReg s _ _

end Sys2Proof.Machine
end

