-- ==== Sys2Proof/Laws/Events.lean ====
section
/-! SUPPORT. Laws/Events.lean: everything that an event's occurrence can change (R432, R435 to R438): the EVT_ registers, the
messages sent, pending and moderated, and the cycle's list of sources. -/

namespace Sys2Proof.Machine

/-- The registers of an operation of the events unit: those outside EVT_ stay. -/
def EvtOnly (s t : State) : Prop :=
  t = { s with regs := t.regs, out := t.out, msixPend := t.msixPend, modSt := t.modSt, outHeld := t.outHeld, hot := t.hot } ∧
  ∀ off, off < 0x030000 ∨ 0x040000 ≤ off → t.reg off = s.reg off

theorem EvtOnly.refl (s : State) : EvtOnly s s := ⟨rfl, fun _ _ => rfl⟩

theorem EvtOnly.trans {s t u : State} (h : EvtOnly s t) (g : EvtOnly t u) : EvtOnly s u := by
  refine ⟨?_, fun off ho => (g.2 off ho).trans (h.2 off ho)⟩
  have h1 := h.1
  have g1 := g.1
  rw [h1] at g1
  exact g1

/-- A store to an EVT_ register. -/
theorem EvtOnly.setReg (s : State) (off : Nat) (w : Word) (h : 0x030000 ≤ off ∧ off < 0x040000) :
    EvtOnly s (s.setReg off w) :=
  ⟨rfl, fun o ho => State.reg_setReg_ne s w (by omega)⟩

/-- A write of a field of an EVT_ register. -/
theorem EvtOnly.put (s : State) (f : Fld) (v : Nat) (h : 0x030000 ≤ f.off ∧ f.off < 0x040000) : EvtOnly s (s.put f v) :=
  EvtOnly.setReg s f.off _ h

/-- What goes to the host, or waits for its link, is an output and what is held (R309). -/
theorem hlPost_eq (o : Out) (s : State) : s.hlPost o = { s with out := (s.hlPost o).out, outHeld := (s.hlPost o).outHeld } := by
  unfold State.hlPost State.exitCall
  split
  · rfl
  · split
    · split <;> rfl
    · rfl

theorem hlPost_evt (o : Out) (s : State) : EvtOnly s (s.hlPost o) := by
  constructor
  · rw [hlPost_eq]
  · intro off _
    rw [hlPost_eq]
    rfl

/-- A message sent, dropped or left pending (R437). -/
theorem msiSend_evt (fn vec : Nat) (s : State) : EvtOnly s (s.msiSend fn vec) := by
  unfold State.msiSend
  split
  · exact EvtOnly.put s _ _ (by simp [Fld.EVT_MSI_DROP_count, Reg.EVT_MSI_DROP])
  · split
    · exact ⟨rfl, fun _ _ => rfl⟩
    · exact hlPost_evt _ s

/-- A message due (R438). -/
theorem msiDue_evt (fn vec mod : Nat) (s : State) : EvtOnly s (s.msiDue fn vec mod) := by
  unfold State.msiDue
  simp only
  split
  · exact msiSend_evt fn vec s
  · split
    · exact ⟨rfl, fun _ _ => rfl⟩
    · exact (msiSend_evt fn vec s).trans ⟨rfl, fun _ _ => rfl⟩

/-- A source becomes active (R435). -/
theorem srcRise_evt (n : Nat) (s : State) : EvtOnly s (s.srcRise n) := by
  unfold State.srcRise
  split
  · exact msiDue_evt _ _ _ s
  · exact EvtOnly.refl s

/-- A message changes one register at most, the count of messages that were not sent (R437). -/
theorem msiSend_reg (fn vec off : Nat) (s : State) (h : off ≠ Reg.EVT_MSI_DROP) : (s.msiSend fn vec).reg off = s.reg off := by
  unfold State.msiSend
  split
  · exact State.reg_bump_ne s h
  · split
    · rfl
    · rw [hlPost_eq]
      rfl

theorem msiDue_reg (fn vec mod off : Nat) (s : State) (h : off ≠ Reg.EVT_MSI_DROP) :
    (s.msiDue fn vec mod).reg off = s.reg off := by
  unfold State.msiDue
  simp only
  split
  · exact msiSend_reg fn vec off s h
  · split
    · rfl
    · exact msiSend_reg fn vec off s h

/-- A source that becomes active changes no register but the count of messages that were not sent (R435). -/
theorem srcRise_reg (n off : Nat) (s : State) (h : off ≠ Reg.EVT_MSI_DROP) : (s.srcRise n).reg off = s.reg off := by
  unfold State.srcRise
  split
  · exact msiDue_reg _ _ _ off s h
  · rfl

/-- An occurrence changes the status word and the counter of its source, and at most the count of messages not sent. -/
theorem raise_reg_ne (s : State) (n off : Nat) (h : off ≠ Reg.EVT_MSI_DROP) (h1 : off ≠ Reg.EVT_STAT (n / 32))
    (h2 : off ≠ Reg.EVT_CNT n) : (s.raise n).reg off = s.reg off := by
  have e : (({ s with hot := n :: s.hot }.put (fStat n) 1).bump (Fld.EVT_CNT_count n)).reg off = s.reg off := by
    rw [State.reg_bump_ne _ h2, State.reg_put_ne _ _ h1]
    rfl
  unfold State.raise
  simp only
  split
  · exact State.reg_put_ne _ _ h1
  · split
    · rw [srcRise_reg n off _ h, e]
    · exact e

/-- The offsets of the registers of a source. -/
theorem evt_off {n : Nat} (h : n < 1536) :
    (0x030000 ≤ (fStat n).off ∧ (fStat n).off < 0x040000) ∧
      (0x030000 ≤ (Fld.EVT_CNT_count n).off ∧ (Fld.EVT_CNT_count n).off < 0x040000) := by
  simp only [fStat, Fld.EVT_CNT_count, Reg.EVT_STAT, Reg.EVT_CNT]
  omega

/-- A source's condition occurs: nothing outside the events unit changes (R432). -/
theorem raise_evt (s : State) (n : Nat) (h : n < 1536) : EvtOnly s (s.raise n) := by
  obtain ⟨h1, h2⟩ := evt_off h
  unfold State.raise
  simp only
  split
  · exact EvtOnly.put s _ _ h1
  · have e1 : EvtOnly s ((({ s with hot := n :: s.hot }).put (fStat n) 1).bump (Fld.EVT_CNT_count n)) :=
      (EvtOnly.trans (t := { s with hot := n :: s.hot }) ⟨rfl, fun _ _ => rfl⟩ (EvtOnly.put _ _ _ h1)).trans
        (EvtOnly.put _ _ _ h2)
    split
    · exact e1.trans (srcRise_evt n _)
    · exact e1

/-- Raising on a condition. -/
theorem raiseIf_evt (s : State) (c : Bool) (n : Nat) (h : n < 1536) : EvtOnly s (s.raiseIf c n) := by
  unfold State.raiseIf
  split
  · exact raise_evt s n h
  · exact EvtOnly.refl s

/-- The loops of the events unit. -/
theorem forEach_evt {α : Type} (l : List α) (f : α → State → State) (h : ∀ x ∈ l, ∀ s, EvtOnly s (f x s)) (s : State) :
    EvtOnly s (forEach l f s) := by
  induction l generalizing s with
  | nil => exact EvtOnly.refl s
  | cons x xs ih =>
    exact (h x (List.mem_cons_self ..) s).trans (ih (fun y hy => h y (List.mem_cons_of_mem _ hy)) (f x s))

/-! ## Fields that an event leaves -/

variable (s : State)

theorem EvtOnly.pending_eq {s t : State} (h : EvtOnly s t) : t.pending = s.pending := by rw [h.1]
theorem EvtOnly.free_eq {s t : State} (h : EvtOnly s t) : t.free = s.free := by rw [h.1]
theorem EvtOnly.phase_eq {s t : State} (h : EvtOnly s t) : t.phase = s.phase := by rw [h.1]
theorem EvtOnly.pw_eq {s t : State} (h : EvtOnly s t) : t.pw = s.pw := by rw [h.1]
theorem EvtOnly.otp_eq {s t : State} (h : EvtOnly s t) : t.otp = s.otp := by rw [h.1]
theorem EvtOnly.warm_eq {s t : State} (h : EvtOnly s t) : t.warm = s.warm := by rw [h.1]
theorem EvtOnly.life_eq {s t : State} (h : EvtOnly s t) : t.life = s.life := by rw [h.1]
theorem EvtOnly.nor_eq {s t : State} (h : EvtOnly s t) : t.nor = s.nor := by rw [h.1]
theorem EvtOnly.norOp_eq {s t : State} (h : EvtOnly s t) : t.norOp = s.norOp := by rw [h.1]
theorem EvtOnly.img_eq {s t : State} (h : EvtOnly s t) : t.img = s.img := by rw [h.1]
theorem EvtOnly.shadow_eq {s t : State} (h : EvtOnly s t) : t.shadow = s.shadow := by rw [h.1]
theorem EvtOnly.grdLive_eq {s t : State} (h : EvtOnly s t) : t.grdLive = s.grdLive := by rw [h.1]
theorem EvtOnly.grdWait_eq {s t : State} (h : EvtOnly s t) : t.grdWait = s.grdWait := by rw [h.1]
theorem EvtOnly.latch_eq {s t : State} (h : EvtOnly s t) : t.latch = s.latch := by rw [h.1]
theorem EvtOnly.held_eq {s t : State} (h : EvtOnly s t) : t.held = s.held := by rw [h.1]
theorem EvtOnly.routes_eq {s t : State} (h : EvtOnly s t) : t.routes = s.routes := by rw [h.1]
theorem EvtOnly.faultPin_eq {s t : State} (h : EvtOnly s t) : t.faultPin = s.faultPin := by rw [h.1]
theorem EvtOnly.intLow_eq {s t : State} (h : EvtOnly s t) : t.intLow = s.intLow := by rw [h.1]
theorem EvtOnly.fcPin_eq {s t : State} (h : EvtOnly s t) : t.fcPin = s.fcPin := by rw [h.1]
theorem EvtOnly.msix_eq {s t : State} (h : EvtOnly s t) : t.msix = s.msix := by rw [h.1]
theorem EvtOnly.fns_eq {s t : State} (h : EvtOnly s t) : t.fns = s.fns := by rw [h.1]
theorem EvtOnly.cmt_eq {s t : State} (h : EvtOnly s t) : t.cmt = s.cmt := by rw [h.1]
theorem EvtOnly.doms_eq {s t : State} (h : EvtOnly s t) : t.doms = s.doms := by rw [h.1]
theorem EvtOnly.ramps_eq {s t : State} (h : EvtOnly s t) : t.ramps = s.ramps := by rw [h.1]
theorem EvtOnly.rampAt_eq {s t : State} (h : EvtOnly s t) : t.rampAt = s.rampAt := by rw [h.1]
theorem EvtOnly.ingress_eq {s t : State} (h : EvtOnly s t) : t.ingress = s.ingress := by rw [h.1]
theorem EvtOnly.csoTx_eq {s t : State} (h : EvtOnly s t) : t.csoTx = s.csoTx := by rw [h.1]
theorem EvtOnly.avsGood_eq {s t : State} (h : EvtOnly s t) : t.avsGood = s.avsGood := by rw [h.1]
theorem EvtOnly.tm_eq {s t : State} (h : EvtOnly s t) : t.tm = s.tm := by rw [h.1]
theorem EvtOnly.grps_eq {s t : State} (h : EvtOnly s t) : t.grps = s.grps := by rw [h.1]
theorem EvtOnly.syncOn_eq {s t : State} (h : EvtOnly s t) : t.syncOn = s.syncOn := by rw [h.1]
theorem EvtOnly.fsoHigh_eq {s t : State} (h : EvtOnly s t) : t.fsoHigh = s.fsoHigh := by rw [h.1]
theorem EvtOnly.chans_eq {s t : State} (h : EvtOnly s t) : t.chans = s.chans := by rw [h.1]
theorem EvtOnly.ents_eq {s t : State} (h : EvtOnly s t) : t.ents = s.ents := by rw [h.1]
theorem EvtOnly.heldDown_eq {s t : State} (h : EvtOnly s t) : t.heldDown = s.heldDown := by rw [h.1]
theorem EvtOnly.eqSeen_eq {s t : State} (h : EvtOnly s t) : t.eqSeen = s.eqSeen := by rw [h.1]
theorem EvtOnly.plc_eq {s t : State} (h : EvtOnly s t) : t.plc = s.plc := by rw [h.1]
theorem EvtOnly.strms_eq {s t : State} (h : EvtOnly s t) : t.strms = s.strms := by rw [h.1]
theorem EvtOnly.frames_eq {s t : State} (h : EvtOnly s t) : t.frames = s.frames := by rw [h.1]
theorem EvtOnly.strokes_eq {s t : State} (h : EvtOnly s t) : t.strokes = s.strokes := by rw [h.1]
theorem EvtOnly.eas_eq {s t : State} (h : EvtOnly s t) : t.eas = s.eas := by rw [h.1]
theorem EvtOnly.lawQ_eq {s t : State} (h : EvtOnly s t) : t.lawQ = s.lawQ := by rw [h.1]
theorem EvtOnly.rings_eq {s t : State} (h : EvtOnly s t) : t.rings = s.rings := by rw [h.1]
theorem EvtOnly.pour_eq {s t : State} (h : EvtOnly s t) : t.pour = s.pour := by rw [h.1]
theorem EvtOnly.reads_eq {s t : State} (h : EvtOnly s t) : t.reads = s.reads := by rw [h.1]
theorem EvtOnly.atc_eq {s t : State} (h : EvtOnly s t) : t.atc = s.atc := by rw [h.1]
theorem EvtOnly.pubs_eq {s t : State} (h : EvtOnly s t) : t.pubs = s.pubs := by rw [h.1]
theorem EvtOnly.trl_eq {s t : State} (h : EvtOnly s t) : t.trl = s.trl := by rw [h.1]
theorem EvtOnly.cells_eq {s t : State} (h : EvtOnly s t) : t.cells = s.cells := by rw [h.1]
theorem EvtOnly.pal_eq {s t : State} (h : EvtOnly s t) : t.pal = s.pal := by rw [h.1]
theorem EvtOnly.palFlip_eq {s t : State} (h : EvtOnly s t) : t.palFlip = s.palFlip := by rw [h.1]
theorem EvtOnly.palOpen_eq {s t : State} (h : EvtOnly s t) : t.palOpen = s.palOpen := by rw [h.1]
theorem EvtOnly.ques_eq {s t : State} (h : EvtOnly s t) : t.ques = s.ques := by rw [h.1]
theorem EvtOnly.cen_eq {s t : State} (h : EvtOnly s t) : t.cen = s.cen := by rw [h.1]
theorem EvtOnly.chk_eq {s t : State} (h : EvtOnly s t) : t.chk = s.chk := by rw [h.1]
theorem EvtOnly.sig_eq {s t : State} (h : EvtOnly s t) : t.sig = s.sig := by rw [h.1]
theorem EvtOnly.txe_eq {s t : State} (h : EvtOnly s t) : t.txe = s.txe := by rw [h.1]
theorem EvtOnly.txePick_eq {s t : State} (h : EvtOnly s t) : t.txePick = s.txePick := by rw [h.1]
theorem EvtOnly.txeLast_eq {s t : State} (h : EvtOnly s t) : t.txeLast = s.txeLast := by rw [h.1]
theorem EvtOnly.spdm_eq {s t : State} (h : EvtOnly s t) : t.spdm = s.spdm := by rw [h.1]
theorem EvtOnly.erk_eq {s t : State} (h : EvtOnly s t) : t.erk = s.erk := by rw [h.1]
theorem EvtOnly.bist_eq {s t : State} (h : EvtOnly s t) : t.bist = s.bist := by rw [h.1]
theorem EvtOnly.debug_eq {s t : State} (h : EvtOnly s t) : t.debug = s.debug := by rw [h.1]
theorem EvtOnly.reord_eq {s t : State} (h : EvtOnly s t) : t.reord = s.reord := by rw [h.1]
theorem EvtOnly.forced_eq {s t : State} (h : EvtOnly s t) : t.forced = s.forced := by rw [h.1]
theorem EvtOnly.sbSent_eq {s t : State} (h : EvtOnly s t) : t.sbSent = s.sbSent := by rw [h.1]
theorem EvtOnly.hlReset_eq {s t : State} (h : EvtOnly s t) : t.hlReset = s.hlReset := by rw [h.1]

/-- A source's condition occurs: the fields outside the events unit stay, whatever the number. -/
theorem raise_eq (n : Nat) : s.raise n = { s with
    regs := (s.raise n).regs, out := (s.raise n).out, msixPend := (s.raise n).msixPend, modSt := (s.raise n).modSt
    outHeld := (s.raise n).outHeld, hot := (s.raise n).hot } := by
  unfold State.raise
  simp only
  split
  · rfl
  · split
    · rw [(srcRise_evt n _).1]
      rfl
    · rfl

theorem raiseIf_eq (c : Bool) (n : Nat) : s.raiseIf c n = { s with
    regs := (s.raiseIf c n).regs, out := (s.raiseIf c n).out, msixPend := (s.raiseIf c n).msixPend
    modSt := (s.raiseIf c n).modSt, outHeld := (s.raiseIf c n).outHeld, hot := (s.raiseIf c n).hot } := by
  unfold State.raiseIf
  split
  · exact raise_eq s n
  · rfl

@[simp] theorem State.raise_pending (n : Nat) : (s.raise n).pending = s.pending := by rw [raise_eq]
@[simp] theorem State.raise_free (n : Nat) : (s.raise n).free = s.free := by rw [raise_eq]
@[simp] theorem State.raise_phase (n : Nat) : (s.raise n).phase = s.phase := by rw [raise_eq]
@[simp] theorem State.raise_pw (n : Nat) : (s.raise n).pw = s.pw := by rw [raise_eq]
@[simp] theorem State.raise_otp (n : Nat) : (s.raise n).otp = s.otp := by rw [raise_eq]
@[simp] theorem State.raise_warm (n : Nat) : (s.raise n).warm = s.warm := by rw [raise_eq]
@[simp] theorem State.raise_life (n : Nat) : (s.raise n).life = s.life := by rw [raise_eq]
@[simp] theorem State.raise_nor (n : Nat) : (s.raise n).nor = s.nor := by rw [raise_eq]
@[simp] theorem State.raise_norOp (n : Nat) : (s.raise n).norOp = s.norOp := by rw [raise_eq]
@[simp] theorem State.raise_img (n : Nat) : (s.raise n).img = s.img := by rw [raise_eq]
@[simp] theorem State.raise_shadow (n : Nat) : (s.raise n).shadow = s.shadow := by rw [raise_eq]
@[simp] theorem State.raise_grdLive (n : Nat) : (s.raise n).grdLive = s.grdLive := by rw [raise_eq]
@[simp] theorem State.raise_grdWait (n : Nat) : (s.raise n).grdWait = s.grdWait := by rw [raise_eq]
@[simp] theorem State.raise_latch (n : Nat) : (s.raise n).latch = s.latch := by rw [raise_eq]
@[simp] theorem State.raise_held (n : Nat) : (s.raise n).held = s.held := by rw [raise_eq]
@[simp] theorem State.raise_routes (n : Nat) : (s.raise n).routes = s.routes := by rw [raise_eq]
@[simp] theorem State.raise_faultPin (n : Nat) : (s.raise n).faultPin = s.faultPin := by rw [raise_eq]
@[simp] theorem State.raise_intLow (n : Nat) : (s.raise n).intLow = s.intLow := by rw [raise_eq]
@[simp] theorem State.raise_fcPin (n : Nat) : (s.raise n).fcPin = s.fcPin := by rw [raise_eq]
@[simp] theorem State.raise_msix (n : Nat) : (s.raise n).msix = s.msix := by rw [raise_eq]
@[simp] theorem State.raise_fns (n : Nat) : (s.raise n).fns = s.fns := by rw [raise_eq]
@[simp] theorem State.raise_cmt (n : Nat) : (s.raise n).cmt = s.cmt := by rw [raise_eq]
@[simp] theorem State.raise_doms (n : Nat) : (s.raise n).doms = s.doms := by rw [raise_eq]
@[simp] theorem State.raise_ramps (n : Nat) : (s.raise n).ramps = s.ramps := by rw [raise_eq]
@[simp] theorem State.raise_rampAt (n : Nat) : (s.raise n).rampAt = s.rampAt := by rw [raise_eq]
@[simp] theorem State.raise_ingress (n : Nat) : (s.raise n).ingress = s.ingress := by rw [raise_eq]
@[simp] theorem State.raise_csoTx (n : Nat) : (s.raise n).csoTx = s.csoTx := by rw [raise_eq]
@[simp] theorem State.raise_avsGood (n : Nat) : (s.raise n).avsGood = s.avsGood := by rw [raise_eq]
@[simp] theorem State.raise_tm (n : Nat) : (s.raise n).tm = s.tm := by rw [raise_eq]
@[simp] theorem State.raise_grps (n : Nat) : (s.raise n).grps = s.grps := by rw [raise_eq]
@[simp] theorem State.raise_syncOn (n : Nat) : (s.raise n).syncOn = s.syncOn := by rw [raise_eq]
@[simp] theorem State.raise_fsoHigh (n : Nat) : (s.raise n).fsoHigh = s.fsoHigh := by rw [raise_eq]
@[simp] theorem State.raise_chans (n : Nat) : (s.raise n).chans = s.chans := by rw [raise_eq]
@[simp] theorem State.raise_ents (n : Nat) : (s.raise n).ents = s.ents := by rw [raise_eq]
@[simp] theorem State.raise_heldDown (n : Nat) : (s.raise n).heldDown = s.heldDown := by rw [raise_eq]
@[simp] theorem State.raise_eqSeen (n : Nat) : (s.raise n).eqSeen = s.eqSeen := by rw [raise_eq]
@[simp] theorem State.raise_plc (n : Nat) : (s.raise n).plc = s.plc := by rw [raise_eq]
@[simp] theorem State.raise_strms (n : Nat) : (s.raise n).strms = s.strms := by rw [raise_eq]
@[simp] theorem State.raise_frames (n : Nat) : (s.raise n).frames = s.frames := by rw [raise_eq]
@[simp] theorem State.raise_strokes (n : Nat) : (s.raise n).strokes = s.strokes := by rw [raise_eq]
@[simp] theorem State.raise_eas (n : Nat) : (s.raise n).eas = s.eas := by rw [raise_eq]
@[simp] theorem State.raise_lawQ (n : Nat) : (s.raise n).lawQ = s.lawQ := by rw [raise_eq]
@[simp] theorem State.raise_rings (n : Nat) : (s.raise n).rings = s.rings := by rw [raise_eq]
@[simp] theorem State.raise_pour (n : Nat) : (s.raise n).pour = s.pour := by rw [raise_eq]
@[simp] theorem State.raise_reads (n : Nat) : (s.raise n).reads = s.reads := by rw [raise_eq]
@[simp] theorem State.raise_atc (n : Nat) : (s.raise n).atc = s.atc := by rw [raise_eq]
@[simp] theorem State.raise_pubs (n : Nat) : (s.raise n).pubs = s.pubs := by rw [raise_eq]
@[simp] theorem State.raise_trl (n : Nat) : (s.raise n).trl = s.trl := by rw [raise_eq]
@[simp] theorem State.raise_cells (n : Nat) : (s.raise n).cells = s.cells := by rw [raise_eq]
@[simp] theorem State.raise_pal (n : Nat) : (s.raise n).pal = s.pal := by rw [raise_eq]
@[simp] theorem State.raise_palFlip (n : Nat) : (s.raise n).palFlip = s.palFlip := by rw [raise_eq]
@[simp] theorem State.raise_palOpen (n : Nat) : (s.raise n).palOpen = s.palOpen := by rw [raise_eq]
@[simp] theorem State.raise_ques (n : Nat) : (s.raise n).ques = s.ques := by rw [raise_eq]
@[simp] theorem State.raise_cen (n : Nat) : (s.raise n).cen = s.cen := by rw [raise_eq]
@[simp] theorem State.raise_chk (n : Nat) : (s.raise n).chk = s.chk := by rw [raise_eq]
@[simp] theorem State.raise_sig (n : Nat) : (s.raise n).sig = s.sig := by rw [raise_eq]
@[simp] theorem State.raise_txe (n : Nat) : (s.raise n).txe = s.txe := by rw [raise_eq]
@[simp] theorem State.raise_txePick (n : Nat) : (s.raise n).txePick = s.txePick := by rw [raise_eq]
@[simp] theorem State.raise_txeLast (n : Nat) : (s.raise n).txeLast = s.txeLast := by rw [raise_eq]
@[simp] theorem State.raise_spdm (n : Nat) : (s.raise n).spdm = s.spdm := by rw [raise_eq]
@[simp] theorem State.raise_erk (n : Nat) : (s.raise n).erk = s.erk := by rw [raise_eq]
@[simp] theorem State.raise_bist (n : Nat) : (s.raise n).bist = s.bist := by rw [raise_eq]
@[simp] theorem State.raise_debug (n : Nat) : (s.raise n).debug = s.debug := by rw [raise_eq]
@[simp] theorem State.raise_reord (n : Nat) : (s.raise n).reord = s.reord := by rw [raise_eq]
@[simp] theorem State.raise_forced (n : Nat) : (s.raise n).forced = s.forced := by rw [raise_eq]
@[simp] theorem State.raise_sbSent (n : Nat) : (s.raise n).sbSent = s.sbSent := by rw [raise_eq]
@[simp] theorem State.raise_hlReset (n : Nat) : (s.raise n).hlReset = s.hlReset := by rw [raise_eq]

@[simp] theorem State.raiseIf_pending (c : Bool) (n : Nat) : (s.raiseIf c n).pending = s.pending := by rw [raiseIf_eq]
@[simp] theorem State.raiseIf_free (c : Bool) (n : Nat) : (s.raiseIf c n).free = s.free := by rw [raiseIf_eq]
@[simp] theorem State.raiseIf_phase (c : Bool) (n : Nat) : (s.raiseIf c n).phase = s.phase := by rw [raiseIf_eq]
@[simp] theorem State.raiseIf_pw (c : Bool) (n : Nat) : (s.raiseIf c n).pw = s.pw := by rw [raiseIf_eq]
@[simp] theorem State.raiseIf_otp (c : Bool) (n : Nat) : (s.raiseIf c n).otp = s.otp := by rw [raiseIf_eq]
@[simp] theorem State.raiseIf_warm (c : Bool) (n : Nat) : (s.raiseIf c n).warm = s.warm := by rw [raiseIf_eq]
@[simp] theorem State.raiseIf_life (c : Bool) (n : Nat) : (s.raiseIf c n).life = s.life := by rw [raiseIf_eq]
@[simp] theorem State.raiseIf_nor (c : Bool) (n : Nat) : (s.raiseIf c n).nor = s.nor := by rw [raiseIf_eq]
@[simp] theorem State.raiseIf_norOp (c : Bool) (n : Nat) : (s.raiseIf c n).norOp = s.norOp := by rw [raiseIf_eq]
@[simp] theorem State.raiseIf_img (c : Bool) (n : Nat) : (s.raiseIf c n).img = s.img := by rw [raiseIf_eq]
@[simp] theorem State.raiseIf_shadow (c : Bool) (n : Nat) : (s.raiseIf c n).shadow = s.shadow := by rw [raiseIf_eq]
@[simp] theorem State.raiseIf_grdLive (c : Bool) (n : Nat) : (s.raiseIf c n).grdLive = s.grdLive := by rw [raiseIf_eq]
@[simp] theorem State.raiseIf_grdWait (c : Bool) (n : Nat) : (s.raiseIf c n).grdWait = s.grdWait := by rw [raiseIf_eq]
@[simp] theorem State.raiseIf_latch (c : Bool) (n : Nat) : (s.raiseIf c n).latch = s.latch := by rw [raiseIf_eq]
@[simp] theorem State.raiseIf_held (c : Bool) (n : Nat) : (s.raiseIf c n).held = s.held := by rw [raiseIf_eq]
@[simp] theorem State.raiseIf_routes (c : Bool) (n : Nat) : (s.raiseIf c n).routes = s.routes := by rw [raiseIf_eq]
@[simp] theorem State.raiseIf_faultPin (c : Bool) (n : Nat) : (s.raiseIf c n).faultPin = s.faultPin := by rw [raiseIf_eq]
@[simp] theorem State.raiseIf_intLow (c : Bool) (n : Nat) : (s.raiseIf c n).intLow = s.intLow := by rw [raiseIf_eq]
@[simp] theorem State.raiseIf_fcPin (c : Bool) (n : Nat) : (s.raiseIf c n).fcPin = s.fcPin := by rw [raiseIf_eq]
@[simp] theorem State.raiseIf_msix (c : Bool) (n : Nat) : (s.raiseIf c n).msix = s.msix := by rw [raiseIf_eq]
@[simp] theorem State.raiseIf_fns (c : Bool) (n : Nat) : (s.raiseIf c n).fns = s.fns := by rw [raiseIf_eq]
@[simp] theorem State.raiseIf_cmt (c : Bool) (n : Nat) : (s.raiseIf c n).cmt = s.cmt := by rw [raiseIf_eq]
@[simp] theorem State.raiseIf_doms (c : Bool) (n : Nat) : (s.raiseIf c n).doms = s.doms := by rw [raiseIf_eq]
@[simp] theorem State.raiseIf_ramps (c : Bool) (n : Nat) : (s.raiseIf c n).ramps = s.ramps := by rw [raiseIf_eq]
@[simp] theorem State.raiseIf_rampAt (c : Bool) (n : Nat) : (s.raiseIf c n).rampAt = s.rampAt := by rw [raiseIf_eq]
@[simp] theorem State.raiseIf_ingress (c : Bool) (n : Nat) : (s.raiseIf c n).ingress = s.ingress := by rw [raiseIf_eq]
@[simp] theorem State.raiseIf_csoTx (c : Bool) (n : Nat) : (s.raiseIf c n).csoTx = s.csoTx := by rw [raiseIf_eq]
@[simp] theorem State.raiseIf_avsGood (c : Bool) (n : Nat) : (s.raiseIf c n).avsGood = s.avsGood := by rw [raiseIf_eq]
@[simp] theorem State.raiseIf_tm (c : Bool) (n : Nat) : (s.raiseIf c n).tm = s.tm := by rw [raiseIf_eq]
@[simp] theorem State.raiseIf_grps (c : Bool) (n : Nat) : (s.raiseIf c n).grps = s.grps := by rw [raiseIf_eq]
@[simp] theorem State.raiseIf_syncOn (c : Bool) (n : Nat) : (s.raiseIf c n).syncOn = s.syncOn := by rw [raiseIf_eq]
@[simp] theorem State.raiseIf_fsoHigh (c : Bool) (n : Nat) : (s.raiseIf c n).fsoHigh = s.fsoHigh := by rw [raiseIf_eq]
@[simp] theorem State.raiseIf_chans (c : Bool) (n : Nat) : (s.raiseIf c n).chans = s.chans := by rw [raiseIf_eq]
@[simp] theorem State.raiseIf_ents (c : Bool) (n : Nat) : (s.raiseIf c n).ents = s.ents := by rw [raiseIf_eq]
@[simp] theorem State.raiseIf_heldDown (c : Bool) (n : Nat) : (s.raiseIf c n).heldDown = s.heldDown := by rw [raiseIf_eq]
@[simp] theorem State.raiseIf_eqSeen (c : Bool) (n : Nat) : (s.raiseIf c n).eqSeen = s.eqSeen := by rw [raiseIf_eq]
@[simp] theorem State.raiseIf_plc (c : Bool) (n : Nat) : (s.raiseIf c n).plc = s.plc := by rw [raiseIf_eq]
@[simp] theorem State.raiseIf_strms (c : Bool) (n : Nat) : (s.raiseIf c n).strms = s.strms := by rw [raiseIf_eq]
@[simp] theorem State.raiseIf_frames (c : Bool) (n : Nat) : (s.raiseIf c n).frames = s.frames := by rw [raiseIf_eq]
@[simp] theorem State.raiseIf_strokes (c : Bool) (n : Nat) : (s.raiseIf c n).strokes = s.strokes := by rw [raiseIf_eq]
@[simp] theorem State.raiseIf_eas (c : Bool) (n : Nat) : (s.raiseIf c n).eas = s.eas := by rw [raiseIf_eq]
@[simp] theorem State.raiseIf_lawQ (c : Bool) (n : Nat) : (s.raiseIf c n).lawQ = s.lawQ := by rw [raiseIf_eq]
@[simp] theorem State.raiseIf_rings (c : Bool) (n : Nat) : (s.raiseIf c n).rings = s.rings := by rw [raiseIf_eq]
@[simp] theorem State.raiseIf_pour (c : Bool) (n : Nat) : (s.raiseIf c n).pour = s.pour := by rw [raiseIf_eq]
@[simp] theorem State.raiseIf_reads (c : Bool) (n : Nat) : (s.raiseIf c n).reads = s.reads := by rw [raiseIf_eq]
@[simp] theorem State.raiseIf_atc (c : Bool) (n : Nat) : (s.raiseIf c n).atc = s.atc := by rw [raiseIf_eq]
@[simp] theorem State.raiseIf_pubs (c : Bool) (n : Nat) : (s.raiseIf c n).pubs = s.pubs := by rw [raiseIf_eq]
@[simp] theorem State.raiseIf_trl (c : Bool) (n : Nat) : (s.raiseIf c n).trl = s.trl := by rw [raiseIf_eq]
@[simp] theorem State.raiseIf_cells (c : Bool) (n : Nat) : (s.raiseIf c n).cells = s.cells := by rw [raiseIf_eq]
@[simp] theorem State.raiseIf_pal (c : Bool) (n : Nat) : (s.raiseIf c n).pal = s.pal := by rw [raiseIf_eq]
@[simp] theorem State.raiseIf_palFlip (c : Bool) (n : Nat) : (s.raiseIf c n).palFlip = s.palFlip := by rw [raiseIf_eq]
@[simp] theorem State.raiseIf_palOpen (c : Bool) (n : Nat) : (s.raiseIf c n).palOpen = s.palOpen := by rw [raiseIf_eq]
@[simp] theorem State.raiseIf_ques (c : Bool) (n : Nat) : (s.raiseIf c n).ques = s.ques := by rw [raiseIf_eq]
@[simp] theorem State.raiseIf_cen (c : Bool) (n : Nat) : (s.raiseIf c n).cen = s.cen := by rw [raiseIf_eq]
@[simp] theorem State.raiseIf_chk (c : Bool) (n : Nat) : (s.raiseIf c n).chk = s.chk := by rw [raiseIf_eq]
@[simp] theorem State.raiseIf_sig (c : Bool) (n : Nat) : (s.raiseIf c n).sig = s.sig := by rw [raiseIf_eq]
@[simp] theorem State.raiseIf_txe (c : Bool) (n : Nat) : (s.raiseIf c n).txe = s.txe := by rw [raiseIf_eq]
@[simp] theorem State.raiseIf_txePick (c : Bool) (n : Nat) : (s.raiseIf c n).txePick = s.txePick := by rw [raiseIf_eq]
@[simp] theorem State.raiseIf_txeLast (c : Bool) (n : Nat) : (s.raiseIf c n).txeLast = s.txeLast := by rw [raiseIf_eq]
@[simp] theorem State.raiseIf_spdm (c : Bool) (n : Nat) : (s.raiseIf c n).spdm = s.spdm := by rw [raiseIf_eq]
@[simp] theorem State.raiseIf_erk (c : Bool) (n : Nat) : (s.raiseIf c n).erk = s.erk := by rw [raiseIf_eq]
@[simp] theorem State.raiseIf_bist (c : Bool) (n : Nat) : (s.raiseIf c n).bist = s.bist := by rw [raiseIf_eq]
@[simp] theorem State.raiseIf_debug (c : Bool) (n : Nat) : (s.raiseIf c n).debug = s.debug := by rw [raiseIf_eq]
@[simp] theorem State.raiseIf_reord (c : Bool) (n : Nat) : (s.raiseIf c n).reord = s.reord := by rw [raiseIf_eq]
@[simp] theorem State.raiseIf_forced (c : Bool) (n : Nat) : (s.raiseIf c n).forced = s.forced := by rw [raiseIf_eq]
@[simp] theorem State.raiseIf_sbSent (c : Bool) (n : Nat) : (s.raiseIf c n).sbSent = s.sbSent := by rw [raiseIf_eq]
@[simp] theorem State.raiseIf_hlReset (c : Bool) (n : Nat) : (s.raiseIf c n).hlReset = s.hlReset := by rw [raiseIf_eq]

/-- An event leaves the registers outside EVT_. -/
theorem State.raise_reg (n off : Nat) (h : n < 1536) (ho : off < 0x030000 ∨ 0x040000 ≤ off) :
    (s.raise n).reg off = s.reg off := (raise_evt s n h).2 off ho

/-- An event leaves the fields outside EVT_. -/
theorem State.raise_get (n : Nat) (f : Fld) (h : n < 1536) (ho : f.off < 0x030000 ∨ 0x040000 ≤ f.off) :
    (s.raise n).get f = s.get f := by
  unfold State.get
  rw [State.raise_reg s n f.off h ho]

/-- An event on a condition leaves the fields outside EVT_. -/
theorem State.raiseIf_get (c : Bool) (n : Nat) (f : Fld) (h : n < 1536) (ho : f.off < 0x030000 ∨ 0x040000 ≤ f.off) :
    (s.raiseIf c n).get f = s.get f := by
  unfold State.raiseIf
  split
  · exact State.raise_get s n f h ho
  · rfl

end Sys2Proof.Machine
end

