-- ==== Sys2Proof/Laws/Settle.lean ====
section
/-! SUPPORT. Laws/Settle.lean: everything that the end of a command can change: output pins with the registers that show
them, and the cycle's list of sources. -/

namespace Sys2Proof.Machine

variable (s : State)

/-- Registers that the end of a command can change: GPIO levels and flow-control status. -/
def pinReg (off : Nat) : Prop := off = Reg.SIG_GPIO_LVL ∨ ∃ n, n < 8 ∧ off = Reg.QUE_FC_STAT n

/-- What pins that follow can change. -/
structure PinsOnly (s t : State) : Prop where
  eq : t = { s with regs := t.regs, out := t.out, sig := { s.sig with gpioOut := t.sig.gpioOut }, fcPin := t.fcPin
                    intLow := t.intLow, faultPin := t.faultPin, hot := t.hot }
  reg : ∀ off, ¬ pinReg off → t.reg off = s.reg off

theorem PinsOnly.refl : PinsOnly s s := ⟨rfl, fun _ _ => rfl⟩

theorem PinsOnly.trans {s t u : State} (h : PinsOnly s t) (g : PinsOnly t u) : PinsOnly s u := by
  refine ⟨?_, fun off ho => (g.reg off ho).trans (h.reg off ho)⟩
  have h1 := h.eq
  have g1 := g.eq
  rw [h1] at g1
  exact g1

theorem forEach_pins {α : Type} (l : List α) (f : α → State → State) (h : ∀ x ∈ l, ∀ s, PinsOnly s (f x s)) (s : State) :
    PinsOnly s (forEach l f s) := by
  induction l generalizing s with
  | nil => exact PinsOnly.refl s
  | cons x xs ih =>
    exact (h x (List.mem_cons_self ..) s).trans (ih (fun y hy => h y (List.mem_cons_of_mem _ hy)) (f x s))

theorem gpioDrive_pins (n : Nat) (s : State) : PinsOnly s (s.gpioDrive n) := by
  unfold State.gpioDrive
  split
  · exact PinsOnly.refl s
  · simp only
    split
    · exact PinsOnly.refl s
    · exact ⟨rfl, fun off ho => cellGet_put_ne (fun he => ho (Or.inl he))⟩

theorem gpioAll_pins (s : State) : PinsOnly s s.gpioAll := by
  unfold State.gpioAll
  split
  · exact forEach_pins _ _ (fun n _ => gpioDrive_pins n) s
  · exact PinsOnly.refl s

theorem fcMark_pins (n : Nat) (hn : n < 8) (low : Bool) (s : State) : PinsOnly s (s.fcMark n low) := by
  unfold State.fcMark
  simp only
  have h : ∀ off, ¬ pinReg off → off ≠ Reg.QUE_FC_STAT n := fun off ho he => ho (Or.inr ⟨n, hn, he⟩)
  split
  · refine ⟨rfl, fun off ho => ?_⟩
    rw [State.reg_bump_ne _ (by simpa [Fld.QUE_FC_STAT_asserts] using h off ho), State.emit_reg]
    exact State.reg_put_ne _ _ (by simpa [Fld.QUE_FC_STAT_asserted] using h off ho)
  · refine ⟨rfl, fun off ho => ?_⟩
    rw [State.emit_reg]
    exact State.reg_put_ne _ _ (by simpa [Fld.QUE_FC_STAT_asserted] using h off ho)

theorem fcAll_pins (s : State) : PinsOnly s s.fcAll := by
  unfold State.fcAll
  simp only
  exact PinsOnly.trans (t := { s with fcPin := (List.range 8).map s.fcNext }) ⟨rfl, fun _ _ => rfl⟩
    (forEach_pins _ _ (fun n hn _ => fcMark_pins n (by simpa using (List.mem_filter.mp hn).1) _ _) _)

theorem drivePins_pins (s : State) : PinsOnly s s.drivePins := ⟨rfl, fun _ _ => rfl⟩

/-- The end of a command. -/
theorem settle_pins (s : State) : PinsOnly s s.settle := by
  unfold State.settle
  simp only
  exact (((gpioAll_pins s).trans (fcAll_pins _)).trans (drivePins_pins _)).trans ⟨rfl, fun _ _ => rfl⟩

/-- The end of a command leaves the registers that show no pin. -/
theorem State.settle_reg (off : Nat) (h : off ≠ Reg.SIG_GPIO_LVL) (h2 : off < 0x610110 ∨ 0x610200 ≤ off) :
    s.settle.reg off = s.reg off := by
  refine (settle_pins s).reg off ?_
  rintro (he | ⟨n, hn, he⟩)
  · exact h he
  · simp only [Reg.QUE_FC_STAT] at he
    omega

/-- The end of a command leaves the fields of registers that show no pin. -/
theorem State.settle_get (f : Fld) (h : f.off ≠ Reg.SIG_GPIO_LVL) (h2 : f.off < 0x610110 ∨ 0x610200 ≤ f.off) :
    s.settle.get f = s.get f := by
  unfold State.get
  rw [State.settle_reg s f.off h h2]

/-- The cycle of R432 has ended. -/
@[simp] theorem State.settle_hot : s.settle.hot = [] := rfl

@[simp] theorem State.settle_pending : s.settle.pending = s.pending := by rw [(settle_pins s).eq]
@[simp] theorem State.settle_free : s.settle.free = s.free := by rw [(settle_pins s).eq]
@[simp] theorem State.settle_phase : s.settle.phase = s.phase := by rw [(settle_pins s).eq]
@[simp] theorem State.settle_pw : s.settle.pw = s.pw := by rw [(settle_pins s).eq]
@[simp] theorem State.settle_otp : s.settle.otp = s.otp := by rw [(settle_pins s).eq]
@[simp] theorem State.settle_warm : s.settle.warm = s.warm := by rw [(settle_pins s).eq]
@[simp] theorem State.settle_life : s.settle.life = s.life := by rw [(settle_pins s).eq]
@[simp] theorem State.settle_nor : s.settle.nor = s.nor := by rw [(settle_pins s).eq]
@[simp] theorem State.settle_norOp : s.settle.norOp = s.norOp := by rw [(settle_pins s).eq]
@[simp] theorem State.settle_img : s.settle.img = s.img := by rw [(settle_pins s).eq]
@[simp] theorem State.settle_shadow : s.settle.shadow = s.shadow := by rw [(settle_pins s).eq]
@[simp] theorem State.settle_grdLive : s.settle.grdLive = s.grdLive := by rw [(settle_pins s).eq]
@[simp] theorem State.settle_grdWait : s.settle.grdWait = s.grdWait := by rw [(settle_pins s).eq]
@[simp] theorem State.settle_latch : s.settle.latch = s.latch := by rw [(settle_pins s).eq]
@[simp] theorem State.settle_held : s.settle.held = s.held := by rw [(settle_pins s).eq]
@[simp] theorem State.settle_routes : s.settle.routes = s.routes := by rw [(settle_pins s).eq]
@[simp] theorem State.settle_msix : s.settle.msix = s.msix := by rw [(settle_pins s).eq]
@[simp] theorem State.settle_msixPend : s.settle.msixPend = s.msixPend := by rw [(settle_pins s).eq]
@[simp] theorem State.settle_modSt : s.settle.modSt = s.modSt := by rw [(settle_pins s).eq]
@[simp] theorem State.settle_fns : s.settle.fns = s.fns := by rw [(settle_pins s).eq]
@[simp] theorem State.settle_cmt : s.settle.cmt = s.cmt := by rw [(settle_pins s).eq]
@[simp] theorem State.settle_doms : s.settle.doms = s.doms := by rw [(settle_pins s).eq]
@[simp] theorem State.settle_ramps : s.settle.ramps = s.ramps := by rw [(settle_pins s).eq]
@[simp] theorem State.settle_rampAt : s.settle.rampAt = s.rampAt := by rw [(settle_pins s).eq]
@[simp] theorem State.settle_outHeld : s.settle.outHeld = s.outHeld := by rw [(settle_pins s).eq]
@[simp] theorem State.settle_ingress : s.settle.ingress = s.ingress := by rw [(settle_pins s).eq]
@[simp] theorem State.settle_csoTx : s.settle.csoTx = s.csoTx := by rw [(settle_pins s).eq]
@[simp] theorem State.settle_avsGood : s.settle.avsGood = s.avsGood := by rw [(settle_pins s).eq]
@[simp] theorem State.settle_tm : s.settle.tm = s.tm := by rw [(settle_pins s).eq]
@[simp] theorem State.settle_grps : s.settle.grps = s.grps := by rw [(settle_pins s).eq]
@[simp] theorem State.settle_syncOn : s.settle.syncOn = s.syncOn := by rw [(settle_pins s).eq]
@[simp] theorem State.settle_fsoHigh : s.settle.fsoHigh = s.fsoHigh := by rw [(settle_pins s).eq]
@[simp] theorem State.settle_chans : s.settle.chans = s.chans := by rw [(settle_pins s).eq]
@[simp] theorem State.settle_ents : s.settle.ents = s.ents := by rw [(settle_pins s).eq]
@[simp] theorem State.settle_heldDown : s.settle.heldDown = s.heldDown := by rw [(settle_pins s).eq]
@[simp] theorem State.settle_eqSeen : s.settle.eqSeen = s.eqSeen := by rw [(settle_pins s).eq]
@[simp] theorem State.settle_plc : s.settle.plc = s.plc := by rw [(settle_pins s).eq]
@[simp] theorem State.settle_strms : s.settle.strms = s.strms := by rw [(settle_pins s).eq]
@[simp] theorem State.settle_frames : s.settle.frames = s.frames := by rw [(settle_pins s).eq]
@[simp] theorem State.settle_strokes : s.settle.strokes = s.strokes := by rw [(settle_pins s).eq]
@[simp] theorem State.settle_eas : s.settle.eas = s.eas := by rw [(settle_pins s).eq]
@[simp] theorem State.settle_lawQ : s.settle.lawQ = s.lawQ := by rw [(settle_pins s).eq]
@[simp] theorem State.settle_rings : s.settle.rings = s.rings := by rw [(settle_pins s).eq]
@[simp] theorem State.settle_pour : s.settle.pour = s.pour := by rw [(settle_pins s).eq]
@[simp] theorem State.settle_reads : s.settle.reads = s.reads := by rw [(settle_pins s).eq]
@[simp] theorem State.settle_atc : s.settle.atc = s.atc := by rw [(settle_pins s).eq]
@[simp] theorem State.settle_pubs : s.settle.pubs = s.pubs := by rw [(settle_pins s).eq]
@[simp] theorem State.settle_trl : s.settle.trl = s.trl := by rw [(settle_pins s).eq]
@[simp] theorem State.settle_cells : s.settle.cells = s.cells := by rw [(settle_pins s).eq]
@[simp] theorem State.settle_pal : s.settle.pal = s.pal := by rw [(settle_pins s).eq]
@[simp] theorem State.settle_palFlip : s.settle.palFlip = s.palFlip := by rw [(settle_pins s).eq]
@[simp] theorem State.settle_palOpen : s.settle.palOpen = s.palOpen := by rw [(settle_pins s).eq]
@[simp] theorem State.settle_ques : s.settle.ques = s.ques := by rw [(settle_pins s).eq]
@[simp] theorem State.settle_cen : s.settle.cen = s.cen := by rw [(settle_pins s).eq]
@[simp] theorem State.settle_chk : s.settle.chk = s.chk := by rw [(settle_pins s).eq]
@[simp] theorem State.settle_txe : s.settle.txe = s.txe := by rw [(settle_pins s).eq]
@[simp] theorem State.settle_txePick : s.settle.txePick = s.txePick := by rw [(settle_pins s).eq]
@[simp] theorem State.settle_txeLast : s.settle.txeLast = s.txeLast := by rw [(settle_pins s).eq]
@[simp] theorem State.settle_spdm : s.settle.spdm = s.spdm := by rw [(settle_pins s).eq]
@[simp] theorem State.settle_erk : s.settle.erk = s.erk := by rw [(settle_pins s).eq]
@[simp] theorem State.settle_bist : s.settle.bist = s.bist := by rw [(settle_pins s).eq]
@[simp] theorem State.settle_debug : s.settle.debug = s.debug := by rw [(settle_pins s).eq]
@[simp] theorem State.settle_reord : s.settle.reord = s.reord := by rw [(settle_pins s).eq]
@[simp] theorem State.settle_forced : s.settle.forced = s.forced := by rw [(settle_pins s).eq]
@[simp] theorem State.settle_sbSent : s.settle.sbSent = s.sbSent := by rw [(settle_pins s).eq]
@[simp] theorem State.settle_hlReset : s.settle.hlReset = s.hlReset := by rw [(settle_pins s).eq]

@[simp] theorem State.settle_runs : s.settle.runs = s.runs := by rw [State.runs, State.runs, State.settle_phase]

@[simp] theorem State.settle_loaded : s.settle.loaded = s.loaded := by rw [State.loaded, State.loaded, State.settle_phase]

/-! ## The pins that follow (R20, R435, R439, R295) -/

/-- The element of a mapped range. -/
theorem nth_range_map {α : Type} (n k : Nat) (f : Nat → α) (d : α) (h : k < n) : nth ((List.range n).map f) k d = f k := by
  simp [nth, h]

/-- The interrupt pins after the end of a command. -/
theorem settle_intLow (k : Nat) (h : k < 4) : nth s.settle.intLow k false =
    (s.settle.loaded && s.settle.intWant (if s.settle.routes then s.settle.activeSrcs else []) k) := by
  simp only [State.settle, State.drivePins]
  rw [nth_range_map _ _ _ _ h]
  rfl

/-- A pin that has followed its wish is low where it is asked for. -/
theorem follow_low (p : PinHold) : (p.follow true).low = true := by
  unfold PinHold.follow
  cases p with
  | mk low hold => cases low <;> rfl

/-- A pin that nothing asks for is released unless its minimum width runs. -/
theorem follow_released (p : PinHold) (h : (p.follow false).hold = false) : (p.follow false).low = false := by
  unfold PinHold.follow at h ⊢
  cases p with
  | mk low hold => cases hold <;> simp_all

/-- Fields of registers that show no pin. -/
theorem PinsOnly.get_eq {s t : State} (h : PinsOnly s t) (f : Fld) (hf : ¬ pinReg f.off) : t.get f = s.get f := by
  unfold State.get
  rw [h.reg _ hf]

/-- Fields of registers that show no pin. -/
theorem PinsOnly.flag_eq {s t : State} (h : PinsOnly s t) (f : Fld) (hf : ¬ pinReg f.off) : t.flag f = s.flag f := by
  unfold State.flag
  rw [h.get_eq f hf]

/-- Which registers show no pin. -/
theorem not_pinReg {off : Nat} (h : off ≠ Reg.SIG_GPIO_LVL) (h2 : off < 0x610110 ∨ 0x610200 ≤ off ∨ off % 32 ≠ 16) :
    ¬ pinReg off := by
  rintro (he | ⟨n, hn, he⟩)
  · exact h he
  · simp only [Reg.QUE_FC_STAT] at he
    omega

/-- What every step of a loop keeps, the loop keeps. -/
theorem forEach_keeps {α β : Type} (g : State → β) (l : List α) (f : α → State → State) (h : ∀ x s, g (f x s) = g s)
    (s : State) : g (forEach l f s) = g s := by
  induction l generalizing s with
  | nil => rfl
  | cons x xs ih => exact (ih (f x s)).trans (h x s)

/-- The flow-control pins after they have followed. -/
theorem fcAll_fcPin (s : State) : s.fcAll.fcPin = (List.range 8).map s.fcNext := by
  unfold State.fcAll
  simp only
  rw [forEach_keeps State.fcPin]
  intro n s
  unfold State.fcMark
  simp only
  split <;> rfl

theorem pins_phase {s t : State} (h : PinsOnly s t) : t.phase = s.phase := by rw [h.eq]

theorem pins_loaded {s t : State} (h : PinsOnly s t) : t.loaded = s.loaded := by
  unfold State.loaded
  rw [pins_phase h]

theorem pins_fcWant {s t : State} (h : PinsOnly s t) (n : Nat) (hn : n < 8) : t.fcWant n = s.fcWant n := by
  have h1 : t.flag (Fld.QUE_FC_CFG_enable n) = s.flag (Fld.QUE_FC_CFG_enable n) :=
    h.flag_eq _ (not_pinReg (by simp only [Fld.QUE_FC_CFG_enable, Reg.QUE_FC_CFG, Reg.SIG_GPIO_LVL]; omega)
      (by simp only [Fld.QUE_FC_CFG_enable, Reg.QUE_FC_CFG]; omega))
  have h2 : ∀ k ∈ List.range 3, t.get (Fld.QUE_FC_MASK_queues n k) = s.get (Fld.QUE_FC_MASK_queues n k) := by
    intro k hk
    have hk3 : k < 3 := List.mem_range.mp hk
    exact h.get_eq _ (not_pinReg (by simp only [Fld.QUE_FC_MASK_queues, Reg.QUE_FC_MASK, Reg.SIG_GPIO_LVL]; omega)
      (by simp only [Fld.QUE_FC_MASK_queues, Reg.QUE_FC_MASK]; omega))
  have h3 : ∀ q, t.flag (Fld.QUE_LEVEL_above q) = s.flag (Fld.QUE_LEVEL_above q) := fun q =>
    h.flag_eq _ (not_pinReg (by simp only [Fld.QUE_LEVEL_above, Reg.QUE_LEVEL, Reg.SIG_GPIO_LVL]; omega)
      (by simp only [Fld.QUE_LEVEL_above, Reg.QUE_LEVEL]; omega))
  unfold State.fcWant
  rw [h1]
  congr 1
  rw [Bool.eq_iff_iff, List.any_eq_true, List.any_eq_true]
  constructor
  · rintro ⟨k, hk, he⟩
    refine ⟨k, hk, ?_⟩
    rw [h2 k hk] at he
    simpa only [h3] using he
  · rintro ⟨k, hk, he⟩
    refine ⟨k, hk, ?_⟩
    rw [h2 k hk]
    simpa only [h3] using he

/-- The flow-control pins after the end of a command. -/
theorem settle_fcPin (s : State) (n : Nat) (h : n < 8) : nth s.settle.fcPin n ⟨false, false⟩ = s.gpioAll.fcNext n := by
  simp only [State.settle, State.drivePins]
  rw [fcAll_fcPin, nth_range_map _ _ _ _ h]

/-- The fault pins after the end of a command. -/
theorem settle_faultPin (s : State) (k : Nat) (h : k < 2) : nth s.settle.faultPin k ⟨false, false⟩ =
    s.gpioAll.fcAll.faultNext (if s.settle.routes then s.settle.activeSrcs else []) k := by
  simp only [State.settle, State.drivePins]
  rw [nth_range_map _ _ _ _ h]
  rfl

/-- Without routes, what is active plays no part. -/
theorem faultWant_active (t : State) (k : Nat) :
    t.faultWant (if t.routes = true then t.activeSrcs else []) k = t.faultWant t.activeSrcs k := by
  cases hr : t.routes
  · unfold State.faultWant
    simp only [hr]
    rfl
  · rfl

/-- After the end of a command every pin is as its rule says (R20, R22, R295, R435, R439). -/
theorem settle_follow (s : State) : s.settle.pinsFollow := by
  refine ⟨fun k hk => ?_, fun k hk h1 h2 hw => ?_, fun k hk h1 h2 hw => ?_, fun n hn => ?_⟩
  · rw [settle_intLow s k hk]
    unfold State.intWant
    cases s.settle.routes <;> simp
  · rw [settle_faultPin s k hk]
    have e : ∀ act, s.gpioAll.fcAll.faultWant act k = s.settle.faultWant act k := fun _ => rfl
    have p : s.gpioAll.fcAll.phase = s.settle.phase := rfl
    unfold State.faultNext
    rw [p]
    have hp : (s.settle.phase == .off || s.settle.phase == .warm) = false := by
      rw [beq_eq_false_iff_ne.mpr h1, beq_eq_false_iff_ne.mpr h2]; rfl
    rw [hp]
    have hw' := (faultWant_active s.settle k).trans hw
    simp only [Bool.false_eq_true, if_false]
    rw [e, hw']
    exact follow_low _
  · rw [settle_faultPin s k hk] at *
    have e : ∀ act, s.gpioAll.fcAll.faultWant act k = s.settle.faultWant act k := fun _ => rfl
    have p : s.gpioAll.fcAll.phase = s.settle.phase := rfl
    have hp : (s.settle.phase == .off || s.settle.phase == .warm) = false := by
      rw [beq_eq_false_iff_ne.mpr h1, beq_eq_false_iff_ne.mpr h2]; rfl
    have hw' := (faultWant_active s.settle k).trans hw
    unfold State.faultNext at *
    rw [p, hp] at *
    simp only [Bool.false_eq_true, if_false] at *
    rw [e, hw'] at *
    intro hh
    exact follow_released _ hh
  · rw [settle_fcPin s n hn]
    have hg := settle_pins s
    have hg1 := gpioAll_pins s
    have hl : s.gpioAll.loaded = s.settle.loaded := by rw [pins_loaded hg1, pins_loaded hg]
    have hw : s.settle.fcWant n = s.gpioAll.fcWant n := by rw [pins_fcWant hg n hn, pins_fcWant hg1 n hn]
    unfold State.fcNext
    rw [hl, hw]
    refine ⟨fun h1 h2 => ?_, fun h1 => ?_, fun h1 => ?_⟩
    · have h3 : s.gpioAll.flag (Fld.QUE_FC_CFG_enable n) = true := by
        unfold State.fcWant at h2
        simp only [Bool.and_eq_true] at h2
        exact h2.1
      rw [h1, h2, h3]
      exact follow_low _
    · rw [h1]
      split
      · exact follow_released _
      · intro _; rfl
    · rw [h1]
      rfl

end Sys2Proof.Machine
end

