-- ==== Sys2Proof/Laws/Shells.lean ====
section
/-! SUPPORT. Laws/Shells.lean: the five ways in which a command reaches the block, and how each of them ends. -/

namespace Sys2Proof.Machine

variable (ns : Nat) (f : State → State) (s : State)

/-- A state that is as before, or whose pins have followed. -/
def Settled (t : State) : Prop := t = s ∨ ∃ x : State, t = x.settle

theorem chip_settled : Settled s (s.chip ns f) := Or.inr ⟨_, rfl⟩

theorem running_settled : Settled s (s.running ns f) := by
  unfold State.running
  split
  · exact Or.inr ⟨_, rfl⟩
  · exact Or.inl rfl

theorem event_settled : Settled s (s.event ns f) := by
  unfold State.event
  split
  · exact Or.inr ⟨_, rfl⟩
  · exact Or.inr ⟨_, rfl⟩

theorem ask_settled (s' : State) : Settled s' (s.ask f) := Or.inr ⟨_, rfl⟩

theorem askPlan_settled (s' : State) : Settled s' (s.askPlan f) := Or.inr ⟨_, rfl⟩

/-- A command that reaches a running block, where it runs. -/
theorem running_runs (h : s.runs = true) : s.running ns f = (f (s.advance ns)).settle := by
  unfold State.running
  simp [h]

/-- A command that needs a running block, where it does not run: nothing happens. -/
theorem running_stopped (h : s.runs = false) : s.running ns f = s := by
  unfold State.running
  simp [h]

/-- What happens while an image is loaded. -/
theorem event_loaded (h : s.loaded = true) : s.event ns f = (f (s.advance ns)).settlePlan := by
  unfold State.event
  simp [h]

/-- What needs an image, without one: time passes where Falith runs, and nothing else happens. -/
theorem event_unloaded (h : s.loaded = false) : s.event ns f = (s.advance ns).settle := by
  unfold State.event
  simp [h]

/-- Every command ends with its pins settled, or has done nothing. -/
theorem exec_settled (c : Instr) (s t : State) (h : exec c s = .next t) : Settled s t := by
  have key : ∀ {x : State}, Settled s x → (Host.Outcome.next x : Host.Outcome State Fault Refusal) = .next t →
      Settled s t := by
    intro x hx he
    cases he
    exact hx
  cases c <;>
    first
      | exact key (event_settled _ _ s) h
      | exact key (ask_settled _ _ s) h
      | exact key (running_settled _ _ s) h

end Sys2Proof.Machine
end

