-- ==== Sys2Proof/Laws/Routes.lean ====
section
/-! SUPPORT. Laws/Routes.lean: which operation a checked write to each command register is. -/

namespace Sys2Proof.Machine

/-- Whether a register of a width stands at an offset outside the MSI-X window. -/
def isReg (off : Nat) (w : RegWidth) : Bool :=
  !inMsix off && (match rowOf off with
    | some row => row.width == w
    | none => false)

theorem isReg_row {off : Nat} {w : RegWidth} (h : isReg off w = true) :
    inMsix off = false ∧ ∃ row, rowOf off = some row ∧ row.width = w := by
  unfold isReg at h
  cases hrow : rowOf off with
  | none => simp [hrow] at h
  | some row =>
    simp only [hrow, Bool.and_eq_true, Bool.not_eq_true', beq_iff_eq] at h
    exact ⟨h.1, row, rfl, h.2⟩

/-- A checked write to a register of one word: the check of R446, the drop of R471, or the register's own effect. -/
theorem busWrite_word {r off v : Nat} (s : State) (hw : isReg off .word = true) :
    s.busWrite r off v = s.busDo r off v (fun s =>
      (if off < 0x100000 then s.writeCtl r off v else s.writePix r off v).getD (s.plainWrite off v)) := by
  obtain ⟨hm, row, hrow, hwid⟩ := isReg_row hw
  unfold State.busWrite State.busDo
  split
  · rfl
  · split
    · rfl
    · simp only [hm, hrow, Option.isSome_some, Bool.and_true, Bool.false_eq_true, if_false]
      unfold State.regWrite
      simp only [hrow, hwid]

/-- A checked write to a register with an effect of its own, in the control blocks. -/
theorem busWrite_ctl {r off v : Nat} {f : State → State} (s : State) (hw : isReg off .word = true) (hl : off < 0x100000)
    (hc : ∀ s : State, s.writeCtl r off v = some (f s)) : s.busWrite r off v = s.busDo r off v f := by
  rw [busWrite_word s hw]
  congr 1
  funext s
  rw [if_pos hl, hc, Option.getD_some]

/-- A checked write to a register with an effect of its own, in the other blocks. -/
theorem busWrite_pix {r off v : Nat} {f : State → State} (s : State) (hw : isReg off .word = true)
    (hl : ¬ off < 0x100000) (hc : ∀ s : State, s.writePix r off v = some (f s)) :
    s.busWrite r off v = s.busDo r off v f := by
  rw [busWrite_word s hw]
  congr 1
  funext s
  rw [if_neg hl, hc, Option.getD_some]

/-- A checked write to a register without an effect of its own. -/
theorem busWrite_plain {r off v : Nat} (s : State) (hw : isReg off .word = true)
    (hc : ∀ s : State, (if off < 0x100000 then s.writeCtl r off v else s.writePix r off v) = none) :
    s.busWrite r off v = s.busDo r off v (State.plainWrite off v) := by
  rw [busWrite_word s hw]
  congr 1
  funext s
  rw [hc]
  rfl

/-- What the guard looks at of an offset that a write names, outside the routes. -/
def guardFacts (off : Nat) : Bool × Bool × Bool × Option Nat × Bool × Bool :=
  (inMsix off, off % 4 == 0, off < 0x010000 || (0x020000 ≤ off && off < 0x030000), accessObj off, holderOnly off,
    0x031000 ≤ off && off < 0x034000 && off % 8 == 0)

/-- The check of a write depends on those alone, and on the value only at a route. -/
theorem denyReason_facts {r off off' v v' : Nat} (s : State) (h : guardFacts off' = guardFacts off)
    (hr : (guardFacts off).2.2.2.2.2 = false) : s.denyReason r off' (some v') = s.denyReason r off (some v) := by
  simp only [guardFacts, Prod.mk.injEq] at h hr
  obtain ⟨h1, h2, h3, h4, h5, h6⟩ := h
  unfold State.denyReason
  rw [h1, h2, h3, h4, h5]
  simp only [h6, hr, Bool.false_and, Bool.false_eq_true, if_false]

/-- An 8-byte write is checked as one of its first half where the guard sees both alike. -/
theorem denyReason64_low {r off v : Nat} (s : State) (h : guardFacts (off + 4) = guardFacts off)
    (hr : (guardFacts off).2.2.2.2.2 = false) : s.denyReason64 r off v = s.denyReason r off (some (halfWord v false)) := by
  unfold State.denyReason64
  rw [denyReason_facts (v := halfWord v false) (v' := halfWord v true) s h hr]
  cases s.denyReason r off (some (halfWord v false)) <;> rfl

/-- A checked 64-bit write to a 64-bit register. -/
theorem busWrite64_low {r off v : Nat} (s : State) (hw : isReg off .low = true)
    (hf : guardFacts (off + 4) = guardFacts off) (hr : (guardFacts off).2.2.2.2.2 = false)
    (hm : ∀ (s : State) (v c : Nat), s.denyMark off v c = s ∧ s.denyMark (off + 4) v c = s) :
    s.busWrite64 r off v = s.busDo r off (halfWord v false) (State.write64 off v) := by
  obtain ⟨hx, row, hrow, hwid⟩ := isReg_row hw
  unfold State.busWrite64 State.busDo
  rw [denyReason64_low s hf hr]
  split
  · rfl
  · split
    · simp only [(hm _ _ _).1, (hm _ _ _).2]
    · simp only [hx, hrow, Option.isSome_some, Bool.and_true, hwid, beq_self_eq_true, Bool.false_eq_true, if_false, if_true]

/-- A checked read of a register of one word. -/
theorem readBy_word {r off : Nat} (s : State) (hw : isReg off .word = true) :
    s.readBy r off = s.sees r off ((s.readEffect r off).getD (s.peek r off, s)).1 ((s.readEffect r off).getD (s.peek r off, s)).2 := by
  obtain ⟨hm, row, hrow, hwid⟩ := isReg_row hw
  unfold State.readBy State.sees State.busRead
  split
  · rfl
  · cases hd : s.denyReason r off none with
    | some c => rfl
    | none =>
      simp only [hm, Bool.false_eq_true, if_false]
      unfold State.regRead
      simp only [hrow, hwid]

/-! ## Command registers, one of each -/

theorem busWrite_PM_CTRL (r v : Nat) (s : State) : s.busWrite r Reg.PM_CTRL v = s.busDo r Reg.PM_CTRL v (fun s => if v % 4 == 1 then s.standbyEnter r else if v % 4 == 2 then s.wakeCmd r else s) :=
  busWrite_ctl s (by decide) (by decide) (fun s => by rfl)

theorem busWrite_BOOT_CMD (r v : Nat) (s : State) : s.busWrite r Reg.BOOT_CMD v = s.busDo r Reg.BOOT_CMD v (State.bootCmd v) :=
  busWrite_ctl s (by decide) (by decide) (fun s => by rfl)

theorem busWrite_BOOT_CMT_CTRL (r v : Nat) (s : State) : s.busWrite r Reg.BOOT_CMT_CTRL v = s.busDo r Reg.BOOT_CMT_CTRL v (fun s => if v % 4 == 1 then s.cmtOpen r else if v % 4 == 2 then s.cmtGo r else if v % 4 == 3 then s.cmtAbort r else s) :=
  busWrite_ctl s (by decide) (by decide) (fun s => by rfl)

theorem busWrite_BOOT_NOR_CTRL (r v : Nat) (s : State) : s.busWrite r Reg.BOOT_NOR_CTRL v = s.busDo r Reg.BOOT_NOR_CTRL v (State.norCmd (v % 4)) :=
  busWrite_ctl s (by decide) (by decide) (fun s => by rfl)

theorem busWrite_EVT_CNT_CLR (r v : Nat) (s : State) : s.busWrite r Reg.EVT_CNT_CLR v = s.busDo r Reg.EVT_CNT_CLR v (State.cntClear r v) :=
  busWrite_ctl s (by decide) (by decide) (fun s => by rfl)

theorem busWrite_GRD_CTRL (r v : Nat) (s : State) : s.busWrite r Reg.GRD_CTRL v = s.busDo r Reg.GRD_CTRL v (fun s => if bit v 1 then (if bit v 0 then s.grdApply else s).grdDiscard else if bit v 0 then s.grdApply else s) :=
  busWrite_ctl s (by decide) (by decide) (fun s => by cases h : bit v 0 <;> cases h' : bit v 1 <;> simp [State.writeCtl, h, h', Reg.GRD_CTRL, within, Reg.PM_CTRL, Reg.BOOT_RST_CAUSE, Reg.BOOT_CMD, Reg.BOOT_CMT_CTRL, Reg.BOOT_CMT_TARGET, Reg.BOOT_CMT_DATA, Reg.BOOT_NOR_CTRL, Reg.EVT_CNT_CLR, Reg.EVT_STAT, Reg.EVT_EN, Reg.PM_DCTRL])

theorem busWrite_ERK_PCTL (r v : Nat) (s : State) : s.busWrite r Reg.ERK_PCTL v = s.busDo r Reg.ERK_PCTL v (State.erkCtl v) :=
  busWrite_ctl s (by decide) (by decide) (fun s => by rfl)

theorem busWrite_BIST_CTRL (r v : Nat) (s : State) : s.busWrite r Reg.BIST_CTRL v = s.busDo r Reg.BIST_CTRL v (State.bistCmd v) :=
  busWrite_ctl s (by decide) (by decide) (fun s => by rfl)

theorem busWrite_FI_CTRL (r v : Nat) (s : State) : s.busWrite r Reg.FI_CTRL v = s.busDo r Reg.FI_CTRL v (State.fiEnable (bit v 31)) :=
  busWrite_ctl s (by decide) (by decide) (fun s => by rfl)

theorem busWrite_PLC_EASEL_CTRL (r v : Nat) (s : State) : s.busWrite r Reg.PLC_EASEL_CTRL v = s.busDo r Reg.PLC_EASEL_CTRL v (State.easelCmd v) :=
  busWrite_pix s (by decide) (by decide) (fun s => rfl)

theorem busWrite_EAS_TRL_CTRL (r v : Nat) (s : State) : s.busWrite r Reg.EAS_TRL_CTRL v = s.busDo r Reg.EAS_TRL_CTRL v (fun s => if v % 4 == 1 then s.trlOpen r else if v % 4 == 2 then s.trlGo r else if v % 4 == 3 then s.trlAbort r else s) :=
  busWrite_pix s (by decide) (by decide) (fun s => rfl)

theorem busWrite64_TIME_TOD (r v : Nat) (s : State) :
    s.busWrite64 r Reg.TIME_TOD v = s.busDo r Reg.TIME_TOD (halfWord v false) (State.write64 Reg.TIME_TOD v) :=
  busWrite64_low s (by decide) (by decide) (by decide) (fun _ _ _ => by simp [State.denyMark, within, Reg.TIME_TOD])

theorem busWrite64_LIFE_CAL_SET (r v : Nat) (s : State) :
    s.busWrite64 r Reg.LIFE_CAL_SET v = s.busDo r Reg.LIFE_CAL_SET (halfWord v false) (State.write64 Reg.LIFE_CAL_SET v) :=
  busWrite64_low s (by decide) (by decide) (by decide) (fun _ _ _ => by simp [State.denyMark, within, Reg.LIFE_CAL_SET])

theorem busWrite64_OUT_FAULT_MBOX (r v : Nat) (s : State) :
    s.busWrite64 r Reg.OUT_FAULT_MBOX v = s.busDo r Reg.OUT_FAULT_MBOX (halfWord v false) (State.write64 Reg.OUT_FAULT_MBOX v) :=
  busWrite64_low s (by decide) (by decide) (by decide) (fun _ _ _ => by simp [State.denyMark, within, Reg.OUT_FAULT_MBOX])

/-! ## Command registers by index -/

theorem isReg_PM_DCTRL : ∀ n : Fin 152, isReg (Reg.PM_DCTRL n.val) .word = true := by decide

theorem busWrite_PM_DCTRL (r v : Nat) (n : Fin 152) (s : State) :
    s.busWrite r (Reg.PM_DCTRL n.val) v = s.busDo r (Reg.PM_DCTRL n.val) v (State.dctrlWrite r n.val v) := by
  refine busWrite_ctl s (isReg_PM_DCTRL n) (by simp only [Reg.PM_DCTRL]; omega) (fun s => ?_)
  have hn := n.isLt
  have h0 : ((Reg.PM_DCTRL n.val) == Reg.PM_CTRL) = false := by
    refine Bool.eq_false_iff.mpr (fun h => ?_)
    simp only [beq_iff_eq, Reg.PM_CTRL, Reg.PM_DCTRL] at h
    omega
  have h1 : (within (Reg.PM_DCTRL n.val) (Reg.PM_DCTRL 0) 0x980 && (Reg.PM_DCTRL n.val) % 16 == 0) = true := by
    simp only [within, Bool.and_eq_true, Nat.ble_eq, Nat.blt_eq, beq_iff_eq, Reg.PM_DCTRL]
    omega
  have hi : (Reg.PM_DCTRL n.val - Reg.PM_DCTRL 0) / 16 = n.val := by
    simp only [Reg.PM_DCTRL]
    omega
  simp only [State.writeCtl, h0, h1, hi, Bool.false_eq_true, if_false, if_true]

theorem isReg_EVT_EN : ∀ n : Fin 48, isReg (Reg.EVT_EN n.val) .word = true := by decide

theorem busWrite_EVT_EN (r v : Nat) (n : Fin 48) (s : State) :
    s.busWrite r (Reg.EVT_EN n.val) v = s.busDo r (Reg.EVT_EN n.val) v (fun s => s.writeEnable n.val (s.srcWriteMask r n.val) v) := by
  refine busWrite_ctl s (isReg_EVT_EN n) (by simp only [Reg.EVT_EN]; omega) (fun s => ?_)
  have hn := n.isLt
  have h0 : ((Reg.EVT_EN n.val) == Reg.PM_CTRL) = false := by
    refine Bool.eq_false_iff.mpr (fun h => ?_)
    simp only [beq_iff_eq, Reg.EVT_EN, Reg.PM_CTRL] at h
    omega
  have h1 : (within (Reg.EVT_EN n.val) (Reg.PM_DCTRL 0) 0x980 && (Reg.EVT_EN n.val) % 16 == 0) = false := by
    refine Bool.eq_false_iff.mpr (fun h => ?_)
    simp only [within, Bool.and_eq_true, Nat.ble_eq, Nat.blt_eq, beq_iff_eq, Reg.EVT_EN, Reg.PM_DCTRL] at h
    omega
  have h2 : ((Reg.EVT_EN n.val) == Reg.BOOT_RST_CAUSE) = false := by
    refine Bool.eq_false_iff.mpr (fun h => ?_)
    simp only [beq_iff_eq, Reg.BOOT_RST_CAUSE, Reg.EVT_EN] at h
    omega
  have h3 : ((Reg.EVT_EN n.val) == Reg.BOOT_CMD) = false := by
    refine Bool.eq_false_iff.mpr (fun h => ?_)
    simp only [beq_iff_eq, Reg.BOOT_CMD, Reg.EVT_EN] at h
    omega
  have h4 : ((Reg.EVT_EN n.val) == Reg.BOOT_CMT_CTRL) = false := by
    refine Bool.eq_false_iff.mpr (fun h => ?_)
    simp only [beq_iff_eq, Reg.BOOT_CMT_CTRL, Reg.EVT_EN] at h
    omega
  have h5 : (within (Reg.EVT_EN n.val) Reg.BOOT_CMT_TARGET 0x10 || within (Reg.EVT_EN n.val) (Reg.BOOT_CMT_DATA 0) 0x1000) = false := by
    refine Bool.eq_false_iff.mpr (fun h => ?_)
    simp only [within, Bool.and_eq_true, Bool.or_eq_true, Nat.ble_eq, Nat.blt_eq, Reg.BOOT_CMT_DATA, Reg.BOOT_CMT_TARGET, Reg.EVT_EN] at h
    omega
  have h6 : ((Reg.EVT_EN n.val) == Reg.BOOT_NOR_CTRL) = false := by
    refine Bool.eq_false_iff.mpr (fun h => ?_)
    simp only [beq_iff_eq, Reg.BOOT_NOR_CTRL, Reg.EVT_EN] at h
    omega
  have h7 : ((Reg.EVT_EN n.val) == Reg.EVT_CNT_CLR) = false := by
    refine Bool.eq_false_iff.mpr (fun h => ?_)
    simp only [beq_iff_eq, Reg.EVT_CNT_CLR, Reg.EVT_EN] at h
    omega
  have h8 : (within (Reg.EVT_EN n.val) (Reg.EVT_STAT 0) 0xC0) = false := by
    refine Bool.eq_false_iff.mpr (fun h => ?_)
    simp only [within, Bool.and_eq_true, Nat.ble_eq, Nat.blt_eq, Reg.EVT_EN, Reg.EVT_STAT] at h
    omega
  have h9 : (within (Reg.EVT_EN n.val) (Reg.EVT_EN 0) 0xC0) = true := by
    simp only [within, Bool.and_eq_true, Nat.ble_eq, Nat.blt_eq, Reg.EVT_EN]
    omega
  have hi : (Reg.EVT_EN n.val - Reg.EVT_EN 0) / 4 = n.val := by
    simp only [Reg.EVT_EN]
    omega
  simp only [State.writeCtl, h0, h1, h2, h3, h4, h5, h6, h7, h8, h9, hi, Bool.false_eq_true, if_false, if_true]

theorem isReg_CHK_CTRL : ∀ n : Fin 16, isReg (Reg.CHK_CTRL n.val) .word = true := by decide

theorem busWrite_CHK_CTRL (r v : Nat) (n : Fin 16) (s : State) :
    s.busWrite r (Reg.CHK_CTRL n.val) v = s.busDo r (Reg.CHK_CTRL n.val) v (State.chkCtrl r n.val v) := by
  refine busWrite_ctl s (isReg_CHK_CTRL n) (by simp only [Reg.CHK_CTRL]; omega) (fun s => ?_)
  have hn := n.isLt
  have h0 : ((Reg.CHK_CTRL n.val) == Reg.PM_CTRL) = false := by
    refine Bool.eq_false_iff.mpr (fun h => ?_)
    simp only [beq_iff_eq, Reg.CHK_CTRL, Reg.PM_CTRL] at h
    omega
  have h1 : (within (Reg.CHK_CTRL n.val) (Reg.PM_DCTRL 0) 0x980 && (Reg.CHK_CTRL n.val) % 16 == 0) = false := by
    refine Bool.eq_false_iff.mpr (fun h => ?_)
    simp only [within, Bool.and_eq_true, Nat.ble_eq, Nat.blt_eq, beq_iff_eq, Reg.CHK_CTRL, Reg.PM_DCTRL] at h
    omega
  have h2 : ((Reg.CHK_CTRL n.val) == Reg.BOOT_RST_CAUSE) = false := by
    refine Bool.eq_false_iff.mpr (fun h => ?_)
    simp only [beq_iff_eq, Reg.BOOT_RST_CAUSE, Reg.CHK_CTRL] at h
    omega
  have h3 : ((Reg.CHK_CTRL n.val) == Reg.BOOT_CMD) = false := by
    refine Bool.eq_false_iff.mpr (fun h => ?_)
    simp only [beq_iff_eq, Reg.BOOT_CMD, Reg.CHK_CTRL] at h
    omega
  have h4 : ((Reg.CHK_CTRL n.val) == Reg.BOOT_CMT_CTRL) = false := by
    refine Bool.eq_false_iff.mpr (fun h => ?_)
    simp only [beq_iff_eq, Reg.BOOT_CMT_CTRL, Reg.CHK_CTRL] at h
    omega
  have h5 : (within (Reg.CHK_CTRL n.val) Reg.BOOT_CMT_TARGET 0x10 || within (Reg.CHK_CTRL n.val) (Reg.BOOT_CMT_DATA 0) 0x1000) = false := by
    refine Bool.eq_false_iff.mpr (fun h => ?_)
    simp only [within, Bool.and_eq_true, Bool.or_eq_true, Nat.ble_eq, Nat.blt_eq, Reg.BOOT_CMT_DATA, Reg.BOOT_CMT_TARGET, Reg.CHK_CTRL] at h
    omega
  have h6 : ((Reg.CHK_CTRL n.val) == Reg.BOOT_NOR_CTRL) = false := by
    refine Bool.eq_false_iff.mpr (fun h => ?_)
    simp only [beq_iff_eq, Reg.BOOT_NOR_CTRL, Reg.CHK_CTRL] at h
    omega
  have h7 : ((Reg.CHK_CTRL n.val) == Reg.EVT_CNT_CLR) = false := by
    refine Bool.eq_false_iff.mpr (fun h => ?_)
    simp only [beq_iff_eq, Reg.CHK_CTRL, Reg.EVT_CNT_CLR] at h
    omega
  have h8 : (within (Reg.CHK_CTRL n.val) (Reg.EVT_STAT 0) 0xC0) = false := by
    refine Bool.eq_false_iff.mpr (fun h => ?_)
    simp only [within, Bool.and_eq_true, Nat.ble_eq, Nat.blt_eq, Reg.CHK_CTRL, Reg.EVT_STAT] at h
    omega
  have h9 : (within (Reg.CHK_CTRL n.val) (Reg.EVT_EN 0) 0xC0) = false := by
    refine Bool.eq_false_iff.mpr (fun h => ?_)
    simp only [within, Bool.and_eq_true, Nat.ble_eq, Nat.blt_eq, Reg.CHK_CTRL, Reg.EVT_EN] at h
    omega
  have h10 : ((Reg.CHK_CTRL n.val) == Reg.GRD_CTRL) = false := by
    refine Bool.eq_false_iff.mpr (fun h => ?_)
    simp only [beq_iff_eq, Reg.CHK_CTRL, Reg.GRD_CTRL] at h
    omega
  have h11 : (within (Reg.CHK_CTRL n.val) 0x058000 0x400) = true := by
    simp only [within, Bool.and_eq_true, Nat.ble_eq, Nat.blt_eq, Reg.CHK_CTRL]
    omega
  have hi : (Reg.CHK_CTRL n.val - 0x058000) / 0x40 = n.val := by
    simp only [Reg.CHK_CTRL]
    omega
  have m0 : (Reg.CHK_CTRL n.val % 0x40 == 0) = true := by
    simp only [Reg.CHK_CTRL, beq_iff_eq]
    omega
  simp only [State.writeCtl, h0, h1, h2, h3, h4, h5, h6, h7, h8, h9, h10, h11, hi, m0, Bool.false_eq_true, if_false, if_true]

theorem isReg_CHK_RUN : ∀ n : Fin 16, isReg (Reg.CHK_RUN n.val) .word = true := by decide

theorem busWrite_CHK_RUN (r v : Nat) (n : Fin 16) (s : State) :
    s.busWrite r (Reg.CHK_RUN n.val) v = s.busDo r (Reg.CHK_RUN n.val) v (State.chkRunWrite r n.val v) := by
  refine busWrite_ctl s (isReg_CHK_RUN n) (by simp only [Reg.CHK_RUN]; omega) (fun s => ?_)
  have hn := n.isLt
  have h0 : ((Reg.CHK_RUN n.val) == Reg.PM_CTRL) = false := by
    refine Bool.eq_false_iff.mpr (fun h => ?_)
    simp only [beq_iff_eq, Reg.CHK_RUN, Reg.PM_CTRL] at h
    omega
  have h1 : (within (Reg.CHK_RUN n.val) (Reg.PM_DCTRL 0) 0x980 && (Reg.CHK_RUN n.val) % 16 == 0) = false := by
    refine Bool.eq_false_iff.mpr (fun h => ?_)
    simp only [within, Bool.and_eq_true, Nat.ble_eq, Nat.blt_eq, beq_iff_eq, Reg.CHK_RUN, Reg.PM_DCTRL] at h
    omega
  have h2 : ((Reg.CHK_RUN n.val) == Reg.BOOT_RST_CAUSE) = false := by
    refine Bool.eq_false_iff.mpr (fun h => ?_)
    simp only [beq_iff_eq, Reg.BOOT_RST_CAUSE, Reg.CHK_RUN] at h
    omega
  have h3 : ((Reg.CHK_RUN n.val) == Reg.BOOT_CMD) = false := by
    refine Bool.eq_false_iff.mpr (fun h => ?_)
    simp only [beq_iff_eq, Reg.BOOT_CMD, Reg.CHK_RUN] at h
    omega
  have h4 : ((Reg.CHK_RUN n.val) == Reg.BOOT_CMT_CTRL) = false := by
    refine Bool.eq_false_iff.mpr (fun h => ?_)
    simp only [beq_iff_eq, Reg.BOOT_CMT_CTRL, Reg.CHK_RUN] at h
    omega
  have h5 : (within (Reg.CHK_RUN n.val) Reg.BOOT_CMT_TARGET 0x10 || within (Reg.CHK_RUN n.val) (Reg.BOOT_CMT_DATA 0) 0x1000) = false := by
    refine Bool.eq_false_iff.mpr (fun h => ?_)
    simp only [within, Bool.and_eq_true, Bool.or_eq_true, Nat.ble_eq, Nat.blt_eq, Reg.BOOT_CMT_DATA, Reg.BOOT_CMT_TARGET, Reg.CHK_RUN] at h
    omega
  have h6 : ((Reg.CHK_RUN n.val) == Reg.BOOT_NOR_CTRL) = false := by
    refine Bool.eq_false_iff.mpr (fun h => ?_)
    simp only [beq_iff_eq, Reg.BOOT_NOR_CTRL, Reg.CHK_RUN] at h
    omega
  have h7 : ((Reg.CHK_RUN n.val) == Reg.EVT_CNT_CLR) = false := by
    refine Bool.eq_false_iff.mpr (fun h => ?_)
    simp only [beq_iff_eq, Reg.CHK_RUN, Reg.EVT_CNT_CLR] at h
    omega
  have h8 : (within (Reg.CHK_RUN n.val) (Reg.EVT_STAT 0) 0xC0) = false := by
    refine Bool.eq_false_iff.mpr (fun h => ?_)
    simp only [within, Bool.and_eq_true, Nat.ble_eq, Nat.blt_eq, Reg.CHK_RUN, Reg.EVT_STAT] at h
    omega
  have h9 : (within (Reg.CHK_RUN n.val) (Reg.EVT_EN 0) 0xC0) = false := by
    refine Bool.eq_false_iff.mpr (fun h => ?_)
    simp only [within, Bool.and_eq_true, Nat.ble_eq, Nat.blt_eq, Reg.CHK_RUN, Reg.EVT_EN] at h
    omega
  have h10 : ((Reg.CHK_RUN n.val) == Reg.GRD_CTRL) = false := by
    refine Bool.eq_false_iff.mpr (fun h => ?_)
    simp only [beq_iff_eq, Reg.CHK_RUN, Reg.GRD_CTRL] at h
    omega
  have h11 : (within (Reg.CHK_RUN n.val) 0x058000 0x400) = true := by
    simp only [within, Bool.and_eq_true, Nat.ble_eq, Nat.blt_eq, Reg.CHK_RUN]
    omega
  have hi : (Reg.CHK_RUN n.val - 0x058000) / 0x40 = n.val := by
    simp only [Reg.CHK_RUN]
    omega
  have m0 : (Reg.CHK_RUN n.val % 0x40 == 0) = false := by
    simp only [Reg.CHK_RUN, beq_eq_false_iff_ne, ne_eq]
    omega
  have m4 : (Reg.CHK_RUN n.val % 0x40 == 0x4) = true := by
    simp only [Reg.CHK_RUN, beq_iff_eq]
    omega
  simp only [State.writeCtl, h0, h1, h2, h3, h4, h5, h6, h7, h8, h9, h10, h11, hi, m0, m4, Bool.false_eq_true, if_false, if_true]

theorem isReg_CHK_FEED : ∀ n : Fin 16, isReg (Reg.CHK_FEED n.val) .word = true := by decide

theorem busWrite_CHK_FEED (r v : Nat) (n : Fin 16) (s : State) :
    s.busWrite r (Reg.CHK_FEED n.val) v = s.busDo r (Reg.CHK_FEED n.val) v (State.chkFeed r n.val v) := by
  refine busWrite_ctl s (isReg_CHK_FEED n) (by simp only [Reg.CHK_FEED]; omega) (fun s => ?_)
  have hn := n.isLt
  have h0 : ((Reg.CHK_FEED n.val) == Reg.PM_CTRL) = false := by
    refine Bool.eq_false_iff.mpr (fun h => ?_)
    simp only [beq_iff_eq, Reg.CHK_FEED, Reg.PM_CTRL] at h
    omega
  have h1 : (within (Reg.CHK_FEED n.val) (Reg.PM_DCTRL 0) 0x980 && (Reg.CHK_FEED n.val) % 16 == 0) = false := by
    refine Bool.eq_false_iff.mpr (fun h => ?_)
    simp only [within, Bool.and_eq_true, Nat.ble_eq, Nat.blt_eq, beq_iff_eq, Reg.CHK_FEED, Reg.PM_DCTRL] at h
    omega
  have h2 : ((Reg.CHK_FEED n.val) == Reg.BOOT_RST_CAUSE) = false := by
    refine Bool.eq_false_iff.mpr (fun h => ?_)
    simp only [beq_iff_eq, Reg.BOOT_RST_CAUSE, Reg.CHK_FEED] at h
    omega
  have h3 : ((Reg.CHK_FEED n.val) == Reg.BOOT_CMD) = false := by
    refine Bool.eq_false_iff.mpr (fun h => ?_)
    simp only [beq_iff_eq, Reg.BOOT_CMD, Reg.CHK_FEED] at h
    omega
  have h4 : ((Reg.CHK_FEED n.val) == Reg.BOOT_CMT_CTRL) = false := by
    refine Bool.eq_false_iff.mpr (fun h => ?_)
    simp only [beq_iff_eq, Reg.BOOT_CMT_CTRL, Reg.CHK_FEED] at h
    omega
  have h5 : (within (Reg.CHK_FEED n.val) Reg.BOOT_CMT_TARGET 0x10 || within (Reg.CHK_FEED n.val) (Reg.BOOT_CMT_DATA 0) 0x1000) = false := by
    refine Bool.eq_false_iff.mpr (fun h => ?_)
    simp only [within, Bool.and_eq_true, Bool.or_eq_true, Nat.ble_eq, Nat.blt_eq, Reg.BOOT_CMT_DATA, Reg.BOOT_CMT_TARGET, Reg.CHK_FEED] at h
    omega
  have h6 : ((Reg.CHK_FEED n.val) == Reg.BOOT_NOR_CTRL) = false := by
    refine Bool.eq_false_iff.mpr (fun h => ?_)
    simp only [beq_iff_eq, Reg.BOOT_NOR_CTRL, Reg.CHK_FEED] at h
    omega
  have h7 : ((Reg.CHK_FEED n.val) == Reg.EVT_CNT_CLR) = false := by
    refine Bool.eq_false_iff.mpr (fun h => ?_)
    simp only [beq_iff_eq, Reg.CHK_FEED, Reg.EVT_CNT_CLR] at h
    omega
  have h8 : (within (Reg.CHK_FEED n.val) (Reg.EVT_STAT 0) 0xC0) = false := by
    refine Bool.eq_false_iff.mpr (fun h => ?_)
    simp only [within, Bool.and_eq_true, Nat.ble_eq, Nat.blt_eq, Reg.CHK_FEED, Reg.EVT_STAT] at h
    omega
  have h9 : (within (Reg.CHK_FEED n.val) (Reg.EVT_EN 0) 0xC0) = false := by
    refine Bool.eq_false_iff.mpr (fun h => ?_)
    simp only [within, Bool.and_eq_true, Nat.ble_eq, Nat.blt_eq, Reg.CHK_FEED, Reg.EVT_EN] at h
    omega
  have h10 : ((Reg.CHK_FEED n.val) == Reg.GRD_CTRL) = false := by
    refine Bool.eq_false_iff.mpr (fun h => ?_)
    simp only [beq_iff_eq, Reg.CHK_FEED, Reg.GRD_CTRL] at h
    omega
  have h11 : (within (Reg.CHK_FEED n.val) 0x058000 0x400) = true := by
    simp only [within, Bool.and_eq_true, Nat.ble_eq, Nat.blt_eq, Reg.CHK_FEED]
    omega
  have hi : (Reg.CHK_FEED n.val - 0x058000) / 0x40 = n.val := by
    simp only [Reg.CHK_FEED]
    omega
  have m0 : (Reg.CHK_FEED n.val % 0x40 == 0) = false := by
    simp only [Reg.CHK_FEED, beq_eq_false_iff_ne, ne_eq]
    omega
  have m4 : (Reg.CHK_FEED n.val % 0x40 == 0x4) = false := by
    simp only [Reg.CHK_FEED, beq_eq_false_iff_ne, ne_eq]
    omega
  have m8 : (Reg.CHK_FEED n.val % 0x40 == 0x8) = true := by
    simp only [Reg.CHK_FEED, beq_iff_eq]
    omega
  simp only [State.writeCtl, h0, h1, h2, h3, h4, h5, h6, h7, h8, h9, h10, h11, hi, m0, m4, m8, Bool.false_eq_true, if_false, if_true]

theorem isReg_CHK_ALIVE : ∀ n : Fin 16, isReg (Reg.CHK_ALIVE n.val) .word = true := by decide

theorem busWrite_CHK_ALIVE (r v : Nat) (n : Fin 16) (s : State) :
    s.busWrite r (Reg.CHK_ALIVE n.val) v = s.busDo r (Reg.CHK_ALIVE n.val) v (State.chkAlive n.val (v % 2 ^ 16)) := by
  refine busWrite_ctl s (isReg_CHK_ALIVE n) (by simp only [Reg.CHK_ALIVE]; omega) (fun s => ?_)
  have hn := n.isLt
  have h0 : ((Reg.CHK_ALIVE n.val) == Reg.PM_CTRL) = false := by
    refine Bool.eq_false_iff.mpr (fun h => ?_)
    simp only [beq_iff_eq, Reg.CHK_ALIVE, Reg.PM_CTRL] at h
    omega
  have h1 : (within (Reg.CHK_ALIVE n.val) (Reg.PM_DCTRL 0) 0x980 && (Reg.CHK_ALIVE n.val) % 16 == 0) = false := by
    refine Bool.eq_false_iff.mpr (fun h => ?_)
    simp only [within, Bool.and_eq_true, Nat.ble_eq, Nat.blt_eq, beq_iff_eq, Reg.CHK_ALIVE, Reg.PM_DCTRL] at h
    omega
  have h2 : ((Reg.CHK_ALIVE n.val) == Reg.BOOT_RST_CAUSE) = false := by
    refine Bool.eq_false_iff.mpr (fun h => ?_)
    simp only [beq_iff_eq, Reg.BOOT_RST_CAUSE, Reg.CHK_ALIVE] at h
    omega
  have h3 : ((Reg.CHK_ALIVE n.val) == Reg.BOOT_CMD) = false := by
    refine Bool.eq_false_iff.mpr (fun h => ?_)
    simp only [beq_iff_eq, Reg.BOOT_CMD, Reg.CHK_ALIVE] at h
    omega
  have h4 : ((Reg.CHK_ALIVE n.val) == Reg.BOOT_CMT_CTRL) = false := by
    refine Bool.eq_false_iff.mpr (fun h => ?_)
    simp only [beq_iff_eq, Reg.BOOT_CMT_CTRL, Reg.CHK_ALIVE] at h
    omega
  have h5 : (within (Reg.CHK_ALIVE n.val) Reg.BOOT_CMT_TARGET 0x10 || within (Reg.CHK_ALIVE n.val) (Reg.BOOT_CMT_DATA 0) 0x1000) = false := by
    refine Bool.eq_false_iff.mpr (fun h => ?_)
    simp only [within, Bool.and_eq_true, Bool.or_eq_true, Nat.ble_eq, Nat.blt_eq, Reg.BOOT_CMT_DATA, Reg.BOOT_CMT_TARGET, Reg.CHK_ALIVE] at h
    omega
  have h6 : ((Reg.CHK_ALIVE n.val) == Reg.BOOT_NOR_CTRL) = false := by
    refine Bool.eq_false_iff.mpr (fun h => ?_)
    simp only [beq_iff_eq, Reg.BOOT_NOR_CTRL, Reg.CHK_ALIVE] at h
    omega
  have h7 : ((Reg.CHK_ALIVE n.val) == Reg.EVT_CNT_CLR) = false := by
    refine Bool.eq_false_iff.mpr (fun h => ?_)
    simp only [beq_iff_eq, Reg.CHK_ALIVE, Reg.EVT_CNT_CLR] at h
    omega
  have h8 : (within (Reg.CHK_ALIVE n.val) (Reg.EVT_STAT 0) 0xC0) = false := by
    refine Bool.eq_false_iff.mpr (fun h => ?_)
    simp only [within, Bool.and_eq_true, Nat.ble_eq, Nat.blt_eq, Reg.CHK_ALIVE, Reg.EVT_STAT] at h
    omega
  have h9 : (within (Reg.CHK_ALIVE n.val) (Reg.EVT_EN 0) 0xC0) = false := by
    refine Bool.eq_false_iff.mpr (fun h => ?_)
    simp only [within, Bool.and_eq_true, Nat.ble_eq, Nat.blt_eq, Reg.CHK_ALIVE, Reg.EVT_EN] at h
    omega
  have h10 : ((Reg.CHK_ALIVE n.val) == Reg.GRD_CTRL) = false := by
    refine Bool.eq_false_iff.mpr (fun h => ?_)
    simp only [beq_iff_eq, Reg.CHK_ALIVE, Reg.GRD_CTRL] at h
    omega
  have h11 : (within (Reg.CHK_ALIVE n.val) 0x058000 0x400) = true := by
    simp only [within, Bool.and_eq_true, Nat.ble_eq, Nat.blt_eq, Reg.CHK_ALIVE]
    omega
  have hi : (Reg.CHK_ALIVE n.val - 0x058000) / 0x40 = n.val := by
    simp only [Reg.CHK_ALIVE]
    omega
  have m0 : (Reg.CHK_ALIVE n.val % 0x40 == 0) = false := by
    simp only [Reg.CHK_ALIVE, beq_eq_false_iff_ne, ne_eq]
    omega
  have m4 : (Reg.CHK_ALIVE n.val % 0x40 == 0x4) = false := by
    simp only [Reg.CHK_ALIVE, beq_eq_false_iff_ne, ne_eq]
    omega
  have m8 : (Reg.CHK_ALIVE n.val % 0x40 == 0x8) = false := by
    simp only [Reg.CHK_ALIVE, beq_eq_false_iff_ne, ne_eq]
    omega
  have m20 : (Reg.CHK_ALIVE n.val % 0x40 == 0x14) = true := by
    simp only [Reg.CHK_ALIVE, beq_iff_eq]
    omega
  simp only [State.writeCtl, h0, h1, h2, h3, h4, h5, h6, h7, h8, h9, h10, h11, hi, m0, m4, m8, m20, Bool.false_eq_true, if_false, if_true]

theorem isReg_SIG_GM_XFER : ∀ n : Fin 2, isReg (Reg.SIG_GM_XFER n.val) .word = true := by decide

theorem busWrite_SIG_GM_XFER (r v : Nat) (n : Fin 2) (s : State) :
    s.busWrite r (Reg.SIG_GM_XFER n.val) v = s.busDo r (Reg.SIG_GM_XFER n.val) v (State.glueGo n.val v) := by
  refine busWrite_ctl s (isReg_SIG_GM_XFER n) (by simp only [Reg.SIG_GM_XFER]; omega) (fun s => ?_)
  have hn := n.isLt
  have h0 : ((Reg.SIG_GM_XFER n.val) == Reg.PM_CTRL) = false := by
    refine Bool.eq_false_iff.mpr (fun h => ?_)
    simp only [beq_iff_eq, Reg.PM_CTRL, Reg.SIG_GM_XFER] at h
    omega
  have h1 : (within (Reg.SIG_GM_XFER n.val) (Reg.PM_DCTRL 0) 0x980 && (Reg.SIG_GM_XFER n.val) % 16 == 0) = false := by
    refine Bool.eq_false_iff.mpr (fun h => ?_)
    simp only [within, Bool.and_eq_true, Nat.ble_eq, Nat.blt_eq, beq_iff_eq, Reg.PM_DCTRL, Reg.SIG_GM_XFER] at h
    omega
  have h2 : ((Reg.SIG_GM_XFER n.val) == Reg.BOOT_RST_CAUSE) = false := by
    refine Bool.eq_false_iff.mpr (fun h => ?_)
    simp only [beq_iff_eq, Reg.BOOT_RST_CAUSE, Reg.SIG_GM_XFER] at h
    omega
  have h3 : ((Reg.SIG_GM_XFER n.val) == Reg.BOOT_CMD) = false := by
    refine Bool.eq_false_iff.mpr (fun h => ?_)
    simp only [beq_iff_eq, Reg.BOOT_CMD, Reg.SIG_GM_XFER] at h
    omega
  have h4 : ((Reg.SIG_GM_XFER n.val) == Reg.BOOT_CMT_CTRL) = false := by
    refine Bool.eq_false_iff.mpr (fun h => ?_)
    simp only [beq_iff_eq, Reg.BOOT_CMT_CTRL, Reg.SIG_GM_XFER] at h
    omega
  have h5 : (within (Reg.SIG_GM_XFER n.val) Reg.BOOT_CMT_TARGET 0x10 || within (Reg.SIG_GM_XFER n.val) (Reg.BOOT_CMT_DATA 0) 0x1000) = false := by
    refine Bool.eq_false_iff.mpr (fun h => ?_)
    simp only [within, Bool.and_eq_true, Bool.or_eq_true, Nat.ble_eq, Nat.blt_eq, Reg.BOOT_CMT_DATA, Reg.BOOT_CMT_TARGET, Reg.SIG_GM_XFER] at h
    omega
  have h6 : ((Reg.SIG_GM_XFER n.val) == Reg.BOOT_NOR_CTRL) = false := by
    refine Bool.eq_false_iff.mpr (fun h => ?_)
    simp only [beq_iff_eq, Reg.BOOT_NOR_CTRL, Reg.SIG_GM_XFER] at h
    omega
  have h7 : ((Reg.SIG_GM_XFER n.val) == Reg.EVT_CNT_CLR) = false := by
    refine Bool.eq_false_iff.mpr (fun h => ?_)
    simp only [beq_iff_eq, Reg.EVT_CNT_CLR, Reg.SIG_GM_XFER] at h
    omega
  have h8 : (within (Reg.SIG_GM_XFER n.val) (Reg.EVT_STAT 0) 0xC0) = false := by
    refine Bool.eq_false_iff.mpr (fun h => ?_)
    simp only [within, Bool.and_eq_true, Nat.ble_eq, Nat.blt_eq, Reg.EVT_STAT, Reg.SIG_GM_XFER] at h
    omega
  have h9 : (within (Reg.SIG_GM_XFER n.val) (Reg.EVT_EN 0) 0xC0) = false := by
    refine Bool.eq_false_iff.mpr (fun h => ?_)
    simp only [within, Bool.and_eq_true, Nat.ble_eq, Nat.blt_eq, Reg.EVT_EN, Reg.SIG_GM_XFER] at h
    omega
  have h10 : ((Reg.SIG_GM_XFER n.val) == Reg.GRD_CTRL) = false := by
    refine Bool.eq_false_iff.mpr (fun h => ?_)
    simp only [beq_iff_eq, Reg.GRD_CTRL, Reg.SIG_GM_XFER] at h
    omega
  have h11 : (within (Reg.SIG_GM_XFER n.val) 0x058000 0x400) = false := by
    refine Bool.eq_false_iff.mpr (fun h => ?_)
    simp only [within, Bool.and_eq_true, Nat.ble_eq, Nat.blt_eq, Reg.SIG_GM_XFER] at h
    omega
  have h12 : (within (Reg.SIG_GM_XFER n.val) 0x080300 0x20 && (Reg.SIG_GM_XFER n.val) % 16 == 4) = true := by
    simp only [within, Bool.and_eq_true, Nat.ble_eq, Nat.blt_eq, beq_iff_eq, Reg.SIG_GM_XFER]
    omega
  have hi : (Reg.SIG_GM_XFER n.val - 0x080300) / 16 = n.val := by
    simp only [Reg.SIG_GM_XFER]
    omega
  simp only [State.writeCtl, h0, h1, h2, h3, h4, h5, h6, h7, h8, h9, h10, h11, h12, hi, Bool.false_eq_true, if_false, if_true]

theorem isReg_SC_XFER : ∀ n : Fin 24, isReg (Reg.SC_XFER n.val) .word = true := by decide

theorem busWrite_SC_XFER (r v : Nat) (n : Fin 24) (s : State) :
    s.busWrite r (Reg.SC_XFER n.val) v = s.busDo r (Reg.SC_XFER n.val) v (State.scXfer n.val v) := by
  refine busWrite_pix s (isReg_SC_XFER n) (by simp only [Reg.SC_XFER]; omega) (fun s => ?_)
  have hn := n.isLt
  have h0 : (within (Reg.SC_XFER n.val) 0x120000 0x1800 && (Reg.SC_XFER n.val) % 0x100 == 8) = true := by
    simp only [within, Bool.and_eq_true, Nat.ble_eq, Nat.blt_eq, beq_iff_eq, Reg.SC_XFER]
    omega
  have hi : (Reg.SC_XFER n.val - 0x120000) / 0x100 = n.val := by
    simp only [Reg.SC_XFER]
    omega
  simp only [State.writePix, h0, hi, Bool.false_eq_true, if_false, if_true]

theorem isReg_LDG_CMD_CTRL : ∀ n : Fin 32, isReg (Reg.LDG_CMD_CTRL n.val) .word = true := by decide

theorem busWrite_LDG_CMD_CTRL (r v : Nat) (n : Fin 32) (s : State) :
    s.busWrite r (Reg.LDG_CMD_CTRL n.val) v = s.busDo r (Reg.LDG_CMD_CTRL n.val) v (fun s => if v % 4 == 1 then s.ldgCmd true n.val false else if v % 4 == 2 then s.ldgCmd true n.val true else s) := by
  refine busWrite_pix s (isReg_LDG_CMD_CTRL n) (by simp only [Reg.LDG_CMD_CTRL]; omega) (fun s => ?_)
  have hn := n.isLt
  have h0 : (within (Reg.LDG_CMD_CTRL n.val) 0x120000 0x1800 && (Reg.LDG_CMD_CTRL n.val) % 0x100 == 8) = false := by
    refine Bool.eq_false_iff.mpr (fun h => ?_)
    simp only [within, Bool.and_eq_true, Nat.ble_eq, Nat.blt_eq, beq_iff_eq, Reg.LDG_CMD_CTRL] at h
    omega
  have h1 : ((Reg.LDG_CMD_CTRL n.val) == Reg.PLC_EASEL_CTRL) = false := by
    refine Bool.eq_false_iff.mpr (fun h => ?_)
    simp only [beq_iff_eq, Reg.LDG_CMD_CTRL, Reg.PLC_EASEL_CTRL] at h
    omega
  have h2 : ((Reg.LDG_CMD_CTRL n.val) == Reg.PLC_ROT) = false := by
    refine Bool.eq_false_iff.mpr (fun h => ?_)
    simp only [beq_iff_eq, Reg.LDG_CMD_CTRL, Reg.PLC_ROT] at h
    omega
  have h3 : ((Reg.LDG_CMD_CTRL n.val) == Reg.EAS_TRL_CTRL) = false := by
    refine Bool.eq_false_iff.mpr (fun h => ?_)
    simp only [beq_iff_eq, Reg.EAS_TRL_CTRL, Reg.LDG_CMD_CTRL] at h
    omega
  have h4 : (within (Reg.LDG_CMD_CTRL n.val) Reg.EAS_TRL_TARGET 0x10 || within (Reg.LDG_CMD_CTRL n.val) (Reg.EAS_TRL_BUF 0) 0x20000) = false := by
    refine Bool.eq_false_iff.mpr (fun h => ?_)
    simp only [within, Bool.and_eq_true, Bool.or_eq_true, Nat.ble_eq, Nat.blt_eq, Reg.EAS_TRL_BUF, Reg.EAS_TRL_TARGET, Reg.LDG_CMD_CTRL] at h
    omega
  have h5 : (within (Reg.LDG_CMD_CTRL n.val) 0x510000 0x40000 && (Reg.LDG_CMD_CTRL n.val) % 0x2000 == 4) = true := by
    simp only [within, Bool.and_eq_true, Nat.ble_eq, Nat.blt_eq, beq_iff_eq, Reg.LDG_CMD_CTRL]
    omega
  have hi : (Reg.LDG_CMD_CTRL n.val - 0x510000) / 0x2000 = n.val := by
    simp only [Reg.LDG_CMD_CTRL]
    omega
  simp only [State.writePix, h0, h1, h2, h3, h4, h5, hi, Bool.false_eq_true, if_false, if_true]

theorem isReg_QUE_PUSH : ∀ n : Fin 96, isReg (Reg.QUE_PUSH n.val) .word = true := by decide

theorem busWrite_QUE_PUSH (r v : Nat) (n : Fin 96) (s : State) :
    s.busWrite r (Reg.QUE_PUSH n.val) v = s.busDo r (Reg.QUE_PUSH n.val) v (State.quePushBy r n.val v) := by
  refine busWrite_pix s (isReg_QUE_PUSH n) (by simp only [Reg.QUE_PUSH]; omega) (fun s => ?_)
  have hn := n.isLt
  have h0 : (within (Reg.QUE_PUSH n.val) 0x120000 0x1800 && (Reg.QUE_PUSH n.val) % 0x100 == 8) = false := by
    refine Bool.eq_false_iff.mpr (fun h => ?_)
    simp only [within, Bool.and_eq_true, Nat.ble_eq, Nat.blt_eq, beq_iff_eq, Reg.QUE_PUSH] at h
    omega
  have h1 : ((Reg.QUE_PUSH n.val) == Reg.PLC_EASEL_CTRL) = false := by
    refine Bool.eq_false_iff.mpr (fun h => ?_)
    simp only [beq_iff_eq, Reg.PLC_EASEL_CTRL, Reg.QUE_PUSH] at h
    omega
  have h2 : ((Reg.QUE_PUSH n.val) == Reg.PLC_ROT) = false := by
    refine Bool.eq_false_iff.mpr (fun h => ?_)
    simp only [beq_iff_eq, Reg.PLC_ROT, Reg.QUE_PUSH] at h
    omega
  have h3 : ((Reg.QUE_PUSH n.val) == Reg.EAS_TRL_CTRL) = false := by
    refine Bool.eq_false_iff.mpr (fun h => ?_)
    simp only [beq_iff_eq, Reg.EAS_TRL_CTRL, Reg.QUE_PUSH] at h
    omega
  have h4 : (within (Reg.QUE_PUSH n.val) Reg.EAS_TRL_TARGET 0x10 || within (Reg.QUE_PUSH n.val) (Reg.EAS_TRL_BUF 0) 0x20000) = false := by
    refine Bool.eq_false_iff.mpr (fun h => ?_)
    simp only [within, Bool.and_eq_true, Bool.or_eq_true, Nat.ble_eq, Nat.blt_eq, Reg.EAS_TRL_BUF, Reg.EAS_TRL_TARGET, Reg.QUE_PUSH] at h
    omega
  have h5 : (within (Reg.QUE_PUSH n.val) 0x510000 0x40000 && (Reg.QUE_PUSH n.val) % 0x2000 == 4) = false := by
    refine Bool.eq_false_iff.mpr (fun h => ?_)
    simp only [within, Bool.and_eq_true, Nat.ble_eq, Nat.blt_eq, beq_iff_eq, Reg.QUE_PUSH] at h
    omega
  have h6 : (within (Reg.QUE_PUSH n.val) 0x620000 0x1800 && (Reg.QUE_PUSH n.val) % 0x40 == 0x18) = true := by
    simp only [within, Bool.and_eq_true, Nat.ble_eq, Nat.blt_eq, beq_iff_eq, Reg.QUE_PUSH]
    omega
  have hi : (Reg.QUE_PUSH n.val - 0x620000) / 0x40 = n.val := by
    simp only [Reg.QUE_PUSH]
    omega
  simp only [State.writePix, h0, h1, h2, h3, h4, h5, h6, hi, Bool.false_eq_true, if_false, if_true]

theorem isReg_QUE_CTRL : ∀ n : Fin 96, isReg (Reg.QUE_CTRL n.val) .word = true := by decide

theorem busWrite_QUE_CTRL (r v : Nat) (n : Fin 96) (s : State) :
    s.busWrite r (Reg.QUE_CTRL n.val) v = s.busDo r (Reg.QUE_CTRL n.val) v (fun s => if bit v 0 then s.queReset n.val else s) := by
  refine busWrite_pix s (isReg_QUE_CTRL n) (by simp only [Reg.QUE_CTRL]; omega) (fun s => ?_)
  have hn := n.isLt
  have h0 : (within (Reg.QUE_CTRL n.val) 0x120000 0x1800 && (Reg.QUE_CTRL n.val) % 0x100 == 8) = false := by
    refine Bool.eq_false_iff.mpr (fun h => ?_)
    simp only [within, Bool.and_eq_true, Nat.ble_eq, Nat.blt_eq, beq_iff_eq, Reg.QUE_CTRL] at h
    omega
  have h1 : ((Reg.QUE_CTRL n.val) == Reg.PLC_EASEL_CTRL) = false := by
    refine Bool.eq_false_iff.mpr (fun h => ?_)
    simp only [beq_iff_eq, Reg.PLC_EASEL_CTRL, Reg.QUE_CTRL] at h
    omega
  have h2 : ((Reg.QUE_CTRL n.val) == Reg.PLC_ROT) = false := by
    refine Bool.eq_false_iff.mpr (fun h => ?_)
    simp only [beq_iff_eq, Reg.PLC_ROT, Reg.QUE_CTRL] at h
    omega
  have h3 : ((Reg.QUE_CTRL n.val) == Reg.EAS_TRL_CTRL) = false := by
    refine Bool.eq_false_iff.mpr (fun h => ?_)
    simp only [beq_iff_eq, Reg.EAS_TRL_CTRL, Reg.QUE_CTRL] at h
    omega
  have h4 : (within (Reg.QUE_CTRL n.val) Reg.EAS_TRL_TARGET 0x10 || within (Reg.QUE_CTRL n.val) (Reg.EAS_TRL_BUF 0) 0x20000) = false := by
    refine Bool.eq_false_iff.mpr (fun h => ?_)
    simp only [within, Bool.and_eq_true, Bool.or_eq_true, Nat.ble_eq, Nat.blt_eq, Reg.EAS_TRL_BUF, Reg.EAS_TRL_TARGET, Reg.QUE_CTRL] at h
    omega
  have h5 : (within (Reg.QUE_CTRL n.val) 0x510000 0x40000 && (Reg.QUE_CTRL n.val) % 0x2000 == 4) = false := by
    refine Bool.eq_false_iff.mpr (fun h => ?_)
    simp only [within, Bool.and_eq_true, Nat.ble_eq, Nat.blt_eq, beq_iff_eq, Reg.QUE_CTRL] at h
    omega
  have h6 : (within (Reg.QUE_CTRL n.val) 0x620000 0x1800 && (Reg.QUE_CTRL n.val) % 0x40 == 0x18) = false := by
    refine Bool.eq_false_iff.mpr (fun h => ?_)
    simp only [within, Bool.and_eq_true, Nat.ble_eq, Nat.blt_eq, beq_iff_eq, Reg.QUE_CTRL] at h
    omega
  have h7 : (within (Reg.QUE_CTRL n.val) 0x620000 0x1800 && (Reg.QUE_CTRL n.val) % 0x40 == 0x1C) = true := by
    simp only [within, Bool.and_eq_true, Nat.ble_eq, Nat.blt_eq, beq_iff_eq, Reg.QUE_CTRL]
    omega
  have hi : (Reg.QUE_CTRL n.val - 0x620000) / 0x40 = n.val := by
    simp only [Reg.QUE_CTRL]
    omega
  simp only [State.writePix, h0, h1, h2, h3, h4, h5, h6, h7, hi, Bool.false_eq_true, if_false, if_true]

theorem isReg_TXE_DB : ∀ n : Fin 128, isReg (Reg.TXE_DB n.val) .word = true := by decide

theorem busWrite_TXE_DB (r v : Nat) (n : Fin 128) (s : State) :
    s.busWrite r (Reg.TXE_DB n.val) v = s.busDo r (Reg.TXE_DB n.val) v (State.txeDoorbell n.val) := by
  refine busWrite_pix s (isReg_TXE_DB n) (by simp only [Reg.TXE_DB]; omega) (fun s => ?_)
  have hn := n.isLt
  have h0 : (within (Reg.TXE_DB n.val) 0x120000 0x1800 && (Reg.TXE_DB n.val) % 0x100 == 8) = false := by
    refine Bool.eq_false_iff.mpr (fun h => ?_)
    simp only [within, Bool.and_eq_true, Nat.ble_eq, Nat.blt_eq, beq_iff_eq, Reg.TXE_DB] at h
    omega
  have h1 : ((Reg.TXE_DB n.val) == Reg.PLC_EASEL_CTRL) = false := by
    refine Bool.eq_false_iff.mpr (fun h => ?_)
    simp only [beq_iff_eq, Reg.PLC_EASEL_CTRL, Reg.TXE_DB] at h
    omega
  have h2 : ((Reg.TXE_DB n.val) == Reg.PLC_ROT) = false := by
    refine Bool.eq_false_iff.mpr (fun h => ?_)
    simp only [beq_iff_eq, Reg.PLC_ROT, Reg.TXE_DB] at h
    omega
  have h3 : ((Reg.TXE_DB n.val) == Reg.EAS_TRL_CTRL) = false := by
    refine Bool.eq_false_iff.mpr (fun h => ?_)
    simp only [beq_iff_eq, Reg.EAS_TRL_CTRL, Reg.TXE_DB] at h
    omega
  have h4 : (within (Reg.TXE_DB n.val) Reg.EAS_TRL_TARGET 0x10 || within (Reg.TXE_DB n.val) (Reg.EAS_TRL_BUF 0) 0x20000) = false := by
    refine Bool.eq_false_iff.mpr (fun h => ?_)
    simp only [within, Bool.and_eq_true, Bool.or_eq_true, Nat.ble_eq, Nat.blt_eq, Reg.EAS_TRL_BUF, Reg.EAS_TRL_TARGET, Reg.TXE_DB] at h
    omega
  have h5 : (within (Reg.TXE_DB n.val) 0x510000 0x40000 && (Reg.TXE_DB n.val) % 0x2000 == 4) = false := by
    refine Bool.eq_false_iff.mpr (fun h => ?_)
    simp only [within, Bool.and_eq_true, Nat.ble_eq, Nat.blt_eq, beq_iff_eq, Reg.TXE_DB] at h
    omega
  have h6 : (within (Reg.TXE_DB n.val) 0x620000 0x1800 && (Reg.TXE_DB n.val) % 0x40 == 0x18) = false := by
    refine Bool.eq_false_iff.mpr (fun h => ?_)
    simp only [within, Bool.and_eq_true, Nat.ble_eq, Nat.blt_eq, beq_iff_eq, Reg.TXE_DB] at h
    omega
  have h7 : (within (Reg.TXE_DB n.val) 0x620000 0x1800 && (Reg.TXE_DB n.val) % 0x40 == 0x1C) = false := by
    refine Bool.eq_false_iff.mpr (fun h => ?_)
    simp only [within, Bool.and_eq_true, Nat.ble_eq, Nat.blt_eq, beq_iff_eq, Reg.TXE_DB] at h
    omega
  have h8 : (within (Reg.TXE_DB n.val) 0x700000 0x8000 && (Reg.TXE_DB n.val) % 0x100 == 0x10) = true := by
    simp only [within, Bool.and_eq_true, Nat.ble_eq, Nat.blt_eq, beq_iff_eq, Reg.TXE_DB]
    omega
  have hi : (Reg.TXE_DB n.val - 0x700000) / 0x100 = n.val := by
    simp only [Reg.TXE_DB]
    omega
  simp only [State.writePix, h0, h1, h2, h3, h4, h5, h6, h7, h8, hi, Bool.false_eq_true, if_false, if_true]

theorem isReg_TXE_CTRL : ∀ n : Fin 128, isReg (Reg.TXE_CTRL n.val) .word = true := by decide

theorem busWrite_TXE_CTRL (r v : Nat) (n : Fin 128) (s : State) :
    s.busWrite r (Reg.TXE_CTRL n.val) v = s.busDo r (Reg.TXE_CTRL n.val) v (State.txeCtrl n.val v) := by
  refine busWrite_pix s (isReg_TXE_CTRL n) (by simp only [Reg.TXE_CTRL]; omega) (fun s => ?_)
  have hn := n.isLt
  have h0 : (within (Reg.TXE_CTRL n.val) 0x120000 0x1800 && (Reg.TXE_CTRL n.val) % 0x100 == 8) = false := by
    refine Bool.eq_false_iff.mpr (fun h => ?_)
    simp only [within, Bool.and_eq_true, Nat.ble_eq, Nat.blt_eq, beq_iff_eq, Reg.TXE_CTRL] at h
    omega
  have h1 : ((Reg.TXE_CTRL n.val) == Reg.PLC_EASEL_CTRL) = false := by
    refine Bool.eq_false_iff.mpr (fun h => ?_)
    simp only [beq_iff_eq, Reg.PLC_EASEL_CTRL, Reg.TXE_CTRL] at h
    omega
  have h2 : ((Reg.TXE_CTRL n.val) == Reg.PLC_ROT) = false := by
    refine Bool.eq_false_iff.mpr (fun h => ?_)
    simp only [beq_iff_eq, Reg.PLC_ROT, Reg.TXE_CTRL] at h
    omega
  have h3 : ((Reg.TXE_CTRL n.val) == Reg.EAS_TRL_CTRL) = false := by
    refine Bool.eq_false_iff.mpr (fun h => ?_)
    simp only [beq_iff_eq, Reg.EAS_TRL_CTRL, Reg.TXE_CTRL] at h
    omega
  have h4 : (within (Reg.TXE_CTRL n.val) Reg.EAS_TRL_TARGET 0x10 || within (Reg.TXE_CTRL n.val) (Reg.EAS_TRL_BUF 0) 0x20000) = false := by
    refine Bool.eq_false_iff.mpr (fun h => ?_)
    simp only [within, Bool.and_eq_true, Bool.or_eq_true, Nat.ble_eq, Nat.blt_eq, Reg.EAS_TRL_BUF, Reg.EAS_TRL_TARGET, Reg.TXE_CTRL] at h
    omega
  have h5 : (within (Reg.TXE_CTRL n.val) 0x510000 0x40000 && (Reg.TXE_CTRL n.val) % 0x2000 == 4) = false := by
    refine Bool.eq_false_iff.mpr (fun h => ?_)
    simp only [within, Bool.and_eq_true, Nat.ble_eq, Nat.blt_eq, beq_iff_eq, Reg.TXE_CTRL] at h
    omega
  have h6 : (within (Reg.TXE_CTRL n.val) 0x620000 0x1800 && (Reg.TXE_CTRL n.val) % 0x40 == 0x18) = false := by
    refine Bool.eq_false_iff.mpr (fun h => ?_)
    simp only [within, Bool.and_eq_true, Nat.ble_eq, Nat.blt_eq, beq_iff_eq, Reg.TXE_CTRL] at h
    omega
  have h7 : (within (Reg.TXE_CTRL n.val) 0x620000 0x1800 && (Reg.TXE_CTRL n.val) % 0x40 == 0x1C) = false := by
    refine Bool.eq_false_iff.mpr (fun h => ?_)
    simp only [within, Bool.and_eq_true, Nat.ble_eq, Nat.blt_eq, beq_iff_eq, Reg.TXE_CTRL] at h
    omega
  have h8 : (within (Reg.TXE_CTRL n.val) 0x700000 0x8000 && (Reg.TXE_CTRL n.val) % 0x100 == 0x10) = false := by
    refine Bool.eq_false_iff.mpr (fun h => ?_)
    simp only [within, Bool.and_eq_true, Nat.ble_eq, Nat.blt_eq, beq_iff_eq, Reg.TXE_CTRL] at h
    omega
  have h9 : (within (Reg.TXE_CTRL n.val) 0x700000 0x8000 && (Reg.TXE_CTRL n.val) % 0x100 == 0x14) = true := by
    simp only [within, Bool.and_eq_true, Nat.ble_eq, Nat.blt_eq, beq_iff_eq, Reg.TXE_CTRL]
    omega
  have hi : (Reg.TXE_CTRL n.val - 0x700000) / 0x100 = n.val := by
    simp only [Reg.TXE_CTRL]
    omega
  simp only [State.writePix, h0, h1, h2, h3, h4, h5, h6, h7, h8, h9, hi, Bool.false_eq_true, if_false, if_true]

set_option maxRecDepth 20000 in
theorem isReg_OUT_DB : ∀ n : Fin 264, (n.val % 8 < 6 ∨ 256 ≤ n.val) → isReg (Reg.OUT_DB n.val) .word = true := by decide

theorem busWrite_OUT_DB (r v : Nat) (n : Fin 264) (s : State) (hr : n.val % 8 < 6 ∨ 256 ≤ n.val) :
    s.busWrite r (Reg.OUT_DB n.val) v = s.busDo r (Reg.OUT_DB n.val) v (State.doorbell n.val) := by
  refine busWrite_pix s (isReg_OUT_DB n hr) (by simp only [Reg.OUT_DB]; omega) (fun s => ?_)
  have hn := n.isLt
  have h0 : (within (Reg.OUT_DB n.val) 0x120000 0x1800 && (Reg.OUT_DB n.val) % 0x100 == 8) = false := by
    refine Bool.eq_false_iff.mpr (fun h => ?_)
    simp only [within, Bool.and_eq_true, Nat.ble_eq, Nat.blt_eq, beq_iff_eq, Reg.OUT_DB] at h
    omega
  have h1 : ((Reg.OUT_DB n.val) == Reg.PLC_EASEL_CTRL) = false := by
    refine Bool.eq_false_iff.mpr (fun h => ?_)
    simp only [beq_iff_eq, Reg.OUT_DB, Reg.PLC_EASEL_CTRL] at h
    omega
  have h2 : ((Reg.OUT_DB n.val) == Reg.PLC_ROT) = false := by
    refine Bool.eq_false_iff.mpr (fun h => ?_)
    simp only [beq_iff_eq, Reg.OUT_DB, Reg.PLC_ROT] at h
    omega
  have h3 : ((Reg.OUT_DB n.val) == Reg.EAS_TRL_CTRL) = false := by
    refine Bool.eq_false_iff.mpr (fun h => ?_)
    simp only [beq_iff_eq, Reg.EAS_TRL_CTRL, Reg.OUT_DB] at h
    omega
  have h4 : (within (Reg.OUT_DB n.val) Reg.EAS_TRL_TARGET 0x10 || within (Reg.OUT_DB n.val) (Reg.EAS_TRL_BUF 0) 0x20000) = false := by
    refine Bool.eq_false_iff.mpr (fun h => ?_)
    simp only [within, Bool.and_eq_true, Bool.or_eq_true, Nat.ble_eq, Nat.blt_eq, Reg.EAS_TRL_BUF, Reg.EAS_TRL_TARGET, Reg.OUT_DB] at h
    omega
  have h5 : (within (Reg.OUT_DB n.val) 0x510000 0x40000 && (Reg.OUT_DB n.val) % 0x2000 == 4) = false := by
    refine Bool.eq_false_iff.mpr (fun h => ?_)
    simp only [within, Bool.and_eq_true, Nat.ble_eq, Nat.blt_eq, beq_iff_eq, Reg.OUT_DB] at h
    omega
  have h6 : (within (Reg.OUT_DB n.val) 0x620000 0x1800 && (Reg.OUT_DB n.val) % 0x40 == 0x18) = false := by
    refine Bool.eq_false_iff.mpr (fun h => ?_)
    simp only [within, Bool.and_eq_true, Nat.ble_eq, Nat.blt_eq, beq_iff_eq, Reg.OUT_DB] at h
    omega
  have h7 : (within (Reg.OUT_DB n.val) 0x620000 0x1800 && (Reg.OUT_DB n.val) % 0x40 == 0x1C) = false := by
    refine Bool.eq_false_iff.mpr (fun h => ?_)
    simp only [within, Bool.and_eq_true, Nat.ble_eq, Nat.blt_eq, beq_iff_eq, Reg.OUT_DB] at h
    omega
  have h8 : (within (Reg.OUT_DB n.val) 0x700000 0x8000 && (Reg.OUT_DB n.val) % 0x100 == 0x10) = false := by
    refine Bool.eq_false_iff.mpr (fun h => ?_)
    simp only [within, Bool.and_eq_true, Nat.ble_eq, Nat.blt_eq, beq_iff_eq, Reg.OUT_DB] at h
    omega
  have h9 : (within (Reg.OUT_DB n.val) 0x700000 0x8000 && (Reg.OUT_DB n.val) % 0x100 == 0x14) = false := by
    refine Bool.eq_false_iff.mpr (fun h => ?_)
    simp only [within, Bool.and_eq_true, Nat.ble_eq, Nat.blt_eq, beq_iff_eq, Reg.OUT_DB] at h
    omega
  have h10 : (within (Reg.OUT_DB n.val) 0x800000 0x4200 && (Reg.OUT_DB n.val) % 0x40 == 0x0C) = true := by
    simp only [within, Bool.and_eq_true, Nat.ble_eq, Nat.blt_eq, beq_iff_eq, Reg.OUT_DB]
    omega
  have hi : (Reg.OUT_DB n.val - 0x800000) / 0x40 = n.val := by
    simp only [Reg.OUT_DB]
    omega
  simp only [State.writePix, h0, h1, h2, h3, h4, h5, h6, h7, h8, h9, h10, hi, Bool.false_eq_true, if_false, if_true]

theorem isReg_PORT_LINK : ∀ n : Fin 24, isReg (Reg.PORT_LINK n.val) .word = true := by decide

theorem busWrite_PORT_LINK (r v : Nat) (n : Fin 24) (s : State) :
    s.busWrite r (Reg.PORT_LINK n.val) v = s.busDo r (Reg.PORT_LINK n.val) v (State.plainWrite (Reg.PORT_LINK n.val) v) := by
  refine busWrite_plain s (isReg_PORT_LINK n) (fun s => ?_)
  have hn := n.isLt
  have h0 : (within (Reg.PORT_LINK n.val) 0x120000 0x1800 && (Reg.PORT_LINK n.val) % 0x100 == 8) = false := by
    refine Bool.eq_false_iff.mpr (fun h => ?_)
    simp only [within, Bool.and_eq_true, Nat.ble_eq, Nat.blt_eq, beq_iff_eq, Reg.PORT_LINK] at h
    omega
  have h1 : ((Reg.PORT_LINK n.val) == Reg.PLC_EASEL_CTRL) = false := by
    refine Bool.eq_false_iff.mpr (fun h => ?_)
    simp only [beq_iff_eq, Reg.PLC_EASEL_CTRL, Reg.PORT_LINK] at h
    omega
  have h2 : ((Reg.PORT_LINK n.val) == Reg.PLC_ROT) = false := by
    refine Bool.eq_false_iff.mpr (fun h => ?_)
    simp only [beq_iff_eq, Reg.PLC_ROT, Reg.PORT_LINK] at h
    omega
  have h3 : ((Reg.PORT_LINK n.val) == Reg.EAS_TRL_CTRL) = false := by
    refine Bool.eq_false_iff.mpr (fun h => ?_)
    simp only [beq_iff_eq, Reg.EAS_TRL_CTRL, Reg.PORT_LINK] at h
    omega
  have h4 : (within (Reg.PORT_LINK n.val) Reg.EAS_TRL_TARGET 0x10 || within (Reg.PORT_LINK n.val) (Reg.EAS_TRL_BUF 0) 0x20000) = false := by
    refine Bool.eq_false_iff.mpr (fun h => ?_)
    simp only [within, Bool.and_eq_true, Bool.or_eq_true, Nat.ble_eq, Nat.blt_eq, Reg.EAS_TRL_BUF, Reg.EAS_TRL_TARGET, Reg.PORT_LINK] at h
    omega
  have h5 : (within (Reg.PORT_LINK n.val) 0x510000 0x40000 && (Reg.PORT_LINK n.val) % 0x2000 == 4) = false := by
    refine Bool.eq_false_iff.mpr (fun h => ?_)
    simp only [within, Bool.and_eq_true, Nat.ble_eq, Nat.blt_eq, beq_iff_eq, Reg.PORT_LINK] at h
    omega
  have h6 : (within (Reg.PORT_LINK n.val) 0x620000 0x1800 && (Reg.PORT_LINK n.val) % 0x40 == 0x18) = false := by
    refine Bool.eq_false_iff.mpr (fun h => ?_)
    simp only [within, Bool.and_eq_true, Nat.ble_eq, Nat.blt_eq, beq_iff_eq, Reg.PORT_LINK] at h
    omega
  have h7 : (within (Reg.PORT_LINK n.val) 0x620000 0x1800 && (Reg.PORT_LINK n.val) % 0x40 == 0x1C) = false := by
    refine Bool.eq_false_iff.mpr (fun h => ?_)
    simp only [within, Bool.and_eq_true, Nat.ble_eq, Nat.blt_eq, beq_iff_eq, Reg.PORT_LINK] at h
    omega
  have h8 : (within (Reg.PORT_LINK n.val) 0x700000 0x8000 && (Reg.PORT_LINK n.val) % 0x100 == 0x10) = false := by
    refine Bool.eq_false_iff.mpr (fun h => ?_)
    simp only [within, Bool.and_eq_true, Nat.ble_eq, Nat.blt_eq, beq_iff_eq, Reg.PORT_LINK] at h
    omega
  have h9 : (within (Reg.PORT_LINK n.val) 0x700000 0x8000 && (Reg.PORT_LINK n.val) % 0x100 == 0x14) = false := by
    refine Bool.eq_false_iff.mpr (fun h => ?_)
    simp only [within, Bool.and_eq_true, Nat.ble_eq, Nat.blt_eq, beq_iff_eq, Reg.PORT_LINK] at h
    omega
  have h10 : (within (Reg.PORT_LINK n.val) 0x800000 0x4200 && (Reg.PORT_LINK n.val) % 0x40 == 0x0C) = false := by
    refine Bool.eq_false_iff.mpr (fun h => ?_)
    simp only [within, Bool.and_eq_true, Nat.ble_eq, Nat.blt_eq, beq_iff_eq, Reg.PORT_LINK] at h
    omega
  have hl : (¬ Reg.PORT_LINK n.val < 0x100000) := by simp only [Reg.PORT_LINK]; omega
  simp only [hl, State.writePix, h0, h1, h2, h3, h4, h5, h6, h7, h8, h9, h10, Bool.false_eq_true, if_false, if_true]

set_option maxRecDepth 20000 in
theorem isReg_EVT_ROUTE : ∀ n : Fin 1536, isReg (Reg.EVT_ROUTE n.val) .word = true := by decide

theorem busWrite_EVT_ROUTE (r v : Nat) (n : Fin 1536) (s : State) :
    s.busWrite r (Reg.EVT_ROUTE n.val) v = s.busDo r (Reg.EVT_ROUTE n.val) v (State.plainWrite (Reg.EVT_ROUTE n.val) v) := by
  refine busWrite_plain s (isReg_EVT_ROUTE n) (fun s => ?_)
  have hn := n.isLt
  have h0 : ((Reg.EVT_ROUTE n.val) == Reg.PM_CTRL) = false := by
    refine Bool.eq_false_iff.mpr (fun h => ?_)
    simp only [beq_iff_eq, Reg.EVT_ROUTE, Reg.PM_CTRL] at h
    omega
  have h1 : (within (Reg.EVT_ROUTE n.val) (Reg.PM_DCTRL 0) 0x980 && (Reg.EVT_ROUTE n.val) % 16 == 0) = false := by
    refine Bool.eq_false_iff.mpr (fun h => ?_)
    simp only [within, Bool.and_eq_true, Nat.ble_eq, Nat.blt_eq, beq_iff_eq, Reg.EVT_ROUTE, Reg.PM_DCTRL] at h
    omega
  have h2 : ((Reg.EVT_ROUTE n.val) == Reg.BOOT_RST_CAUSE) = false := by
    refine Bool.eq_false_iff.mpr (fun h => ?_)
    simp only [beq_iff_eq, Reg.BOOT_RST_CAUSE, Reg.EVT_ROUTE] at h
    omega
  have h3 : ((Reg.EVT_ROUTE n.val) == Reg.BOOT_CMD) = false := by
    refine Bool.eq_false_iff.mpr (fun h => ?_)
    simp only [beq_iff_eq, Reg.BOOT_CMD, Reg.EVT_ROUTE] at h
    omega
  have h4 : ((Reg.EVT_ROUTE n.val) == Reg.BOOT_CMT_CTRL) = false := by
    refine Bool.eq_false_iff.mpr (fun h => ?_)
    simp only [beq_iff_eq, Reg.BOOT_CMT_CTRL, Reg.EVT_ROUTE] at h
    omega
  have h5 : (within (Reg.EVT_ROUTE n.val) Reg.BOOT_CMT_TARGET 0x10 || within (Reg.EVT_ROUTE n.val) (Reg.BOOT_CMT_DATA 0) 0x1000) = false := by
    refine Bool.eq_false_iff.mpr (fun h => ?_)
    simp only [within, Bool.and_eq_true, Bool.or_eq_true, Nat.ble_eq, Nat.blt_eq, Reg.BOOT_CMT_DATA, Reg.BOOT_CMT_TARGET, Reg.EVT_ROUTE] at h
    omega
  have h6 : ((Reg.EVT_ROUTE n.val) == Reg.BOOT_NOR_CTRL) = false := by
    refine Bool.eq_false_iff.mpr (fun h => ?_)
    simp only [beq_iff_eq, Reg.BOOT_NOR_CTRL, Reg.EVT_ROUTE] at h
    omega
  have h7 : ((Reg.EVT_ROUTE n.val) == Reg.EVT_CNT_CLR) = false := by
    refine Bool.eq_false_iff.mpr (fun h => ?_)
    simp only [beq_iff_eq, Reg.EVT_CNT_CLR, Reg.EVT_ROUTE] at h
    omega
  have h8 : (within (Reg.EVT_ROUTE n.val) (Reg.EVT_STAT 0) 0xC0) = false := by
    refine Bool.eq_false_iff.mpr (fun h => ?_)
    simp only [within, Bool.and_eq_true, Nat.ble_eq, Nat.blt_eq, Reg.EVT_ROUTE, Reg.EVT_STAT] at h
    omega
  have h9 : (within (Reg.EVT_ROUTE n.val) (Reg.EVT_EN 0) 0xC0) = false := by
    refine Bool.eq_false_iff.mpr (fun h => ?_)
    simp only [within, Bool.and_eq_true, Nat.ble_eq, Nat.blt_eq, Reg.EVT_EN, Reg.EVT_ROUTE] at h
    omega
  have h10 : ((Reg.EVT_ROUTE n.val) == Reg.GRD_CTRL) = false := by
    refine Bool.eq_false_iff.mpr (fun h => ?_)
    simp only [beq_iff_eq, Reg.EVT_ROUTE, Reg.GRD_CTRL] at h
    omega
  have h11 : (within (Reg.EVT_ROUTE n.val) 0x058000 0x400) = false := by
    refine Bool.eq_false_iff.mpr (fun h => ?_)
    simp only [within, Bool.and_eq_true, Nat.ble_eq, Nat.blt_eq, Reg.EVT_ROUTE] at h
    omega
  have h12 : (within (Reg.EVT_ROUTE n.val) 0x080300 0x20 && (Reg.EVT_ROUTE n.val) % 16 == 4) = false := by
    refine Bool.eq_false_iff.mpr (fun h => ?_)
    simp only [within, Bool.and_eq_true, Nat.ble_eq, Nat.blt_eq, beq_iff_eq, Reg.EVT_ROUTE] at h
    omega
  have h13 : ((Reg.EVT_ROUTE n.val) == Reg.ERK_PCTL) = false := by
    refine Bool.eq_false_iff.mpr (fun h => ?_)
    simp only [beq_iff_eq, Reg.ERK_PCTL, Reg.EVT_ROUTE] at h
    omega
  have h14 : ((Reg.EVT_ROUTE n.val) == Reg.BIST_CTRL) = false := by
    refine Bool.eq_false_iff.mpr (fun h => ?_)
    simp only [beq_iff_eq, Reg.BIST_CTRL, Reg.EVT_ROUTE] at h
    omega
  have h15 : ((Reg.EVT_ROUTE n.val) == Reg.FI_CTRL) = false := by
    refine Bool.eq_false_iff.mpr (fun h => ?_)
    simp only [beq_iff_eq, Reg.EVT_ROUTE, Reg.FI_CTRL] at h
    omega
  have hl : (Reg.EVT_ROUTE n.val < 0x100000) := by simp only [Reg.EVT_ROUTE]; omega
  simp only [hl, State.writeCtl, h0, h1, h2, h3, h4, h5, h6, h7, h8, h9, h10, h11, h12, h13, h14, h15, Bool.false_eq_true, if_false, if_true]

end Sys2Proof.Machine
end

