-- ==== Sys2Proof/Laws/Access.lean ====
section
/-! SUPPORT. Laws/Access.lean: everything that a denial can change, and how denied accesses end (R446, R447). -/

namespace Sys2Proof.Machine

/-- The log entry of a denial, before its event: registers alone. -/
theorem logDeny_regs (r off : Nat) (w p : Bool) (c : Nat) (s : State) :
    ∃ u : State, s.logDeny r off w p c = u.raise (evSec 0) ∧ RegsOnly s u ∧
      (∀ o, o ≠ Reg.GRD_LOG_CNT → (∀ n < 32, o ≠ Reg.GRD_LOG_INFO n ∧ o ≠ Reg.GRD_LOG_ADDR n ∧ o ≠ Reg.GRD_LOG_GEN n) →
        u.reg o = s.reg o) ∧
      u.get Fld.GRD_LOG_CNT_next = (s.get Fld.GRD_LOG_CNT_next + 1) % 2 ^ 5 := by
  have hn : s.get Fld.GRD_LOG_CNT_next < 32 := Nat.mod_lt _ (by decide)
  refine ⟨_, rfl, ?_, ?_, ?_⟩
  · exact ((((RegsOnly.setReg _ _ _).trans (RegsOnly.setReg _ _ _)).trans (RegsOnly.setReg _ _ _)).trans
      (RegsOnly.wrapInc _ _)).trans (RegsOnly.bump _ _)
  · intro o h1 h2
    obtain ⟨a, b, d⟩ := h2 _ hn
    rw [State.reg_bump_ne _ h1]
    unfold State.wrapInc
    rw [State.reg_put_ne _ _ h1, State.reg_setReg_ne _ _ d, State.reg_setReg_ne _ _ b, State.reg_setReg_ne _ _ a]
  · have e : ∀ (x : State) (o : Nat) (w : Word), o ≠ Reg.GRD_LOG_CNT →
        (x.setReg o w).get Fld.GRD_LOG_CNT_next = x.get Fld.GRD_LOG_CNT_next := by
      intro x o w ho
      unfold State.get
      rw [State.reg_setReg_ne x w (o := Fld.GRD_LOG_CNT_next.off) (fun h => ho h.symm)]
    unfold State.bump State.bumpBy
    rw [State.get_put_disj _ _ (by decide) (by decide) (by decide)]
    unfold State.wrapInc
    have h1 : ∀ n, Reg.GRD_LOG_INFO n ≠ Reg.GRD_LOG_CNT := fun n => by
      simp only [Reg.GRD_LOG_INFO, Reg.GRD_LOG_CNT]
      omega
    have h2 : ∀ n, Reg.GRD_LOG_ADDR n ≠ Reg.GRD_LOG_CNT := fun n => by
      simp only [Reg.GRD_LOG_ADDR, Reg.GRD_LOG_CNT]
      omega
    have h3 : ∀ n, Reg.GRD_LOG_GEN n ≠ Reg.GRD_LOG_CNT := fun n => by
      simp only [Reg.GRD_LOG_GEN, Reg.GRD_LOG_CNT]
      omega
    rw [State.get_put_same _ _ _ (by decide) (by decide), e _ _ _ (h3 _), e _ _ _ (h2 _), e _ _ _ (h1 _)]
    rfl

end Sys2Proof.Machine
end

