-- ==== Sys2Proof/Laws/Keys.lean ====
section
/-! SUPPORT. Laws/Keys.lean: what the command words of BIST_CTRL and CHK_n_CTRL decode to (R390 to R395, R417). -/

namespace Sys2Proof.Machine

/-- A bit of a number below 2 to the 28 with one bit of 28 to 31 added. -/
theorem bit_top {c k j : Nat} (h : c < 2 ^ 28) (hk : k < 4) (hj : j < 4) : bit (c + 2 ^ (28 + k)) (28 + j) = (j == k) := by
  have e : c + 2 ^ (28 + k) = c + 2 ^ 28 * 2 ^ k := by rw [Nat.pow_add]
  unfold bit
  rw [e, Nat.shiftRight_eq_div_pow, Nat.pow_add, ← Nat.div_div_eq_div_mul,
    Nat.add_mul_div_left _ _ (by decide), Nat.div_eq_of_lt h]
  match k, hk, j, hj with
  | 0, _, 0, _ => rfl
  | 0, _, 1, _ => rfl
  | 0, _, 2, _ => rfl
  | 0, _, 3, _ => rfl
  | 1, _, 0, _ => rfl
  | 1, _, 1, _ => rfl
  | 1, _, 2, _ => rfl
  | 1, _, 3, _ => rfl
  | 2, _, 0, _ => rfl
  | 2, _, 1, _ => rfl
  | 2, _, 2, _ => rfl
  | 2, _, 3, _ => rfl
  | 3, _, 0, _ => rfl
  | 3, _, 1, _ => rfl
  | 3, _, 2, _ => rfl
  | 3, _, 3, _ => rfl

/-- A write of CHK_n_CTRL with start alone. -/
theorem chkCtrl_start (r n : Nat) {c : Nat} (s : State) (h : c < 2 ^ 28) :
    s.chkCtrl r n (c + 2 ^ 31) = ((s.plainWrite (Reg.CHK_CTRL n) c).chkShow n).chkStart r n := by
  have e : (c + 2 ^ 31) % 2 ^ 28 = c := by omega
  unfold State.chkCtrl
  rw [e, show bit (c + 2 ^ 31) 30 = false from bit_top (k := 3) (j := 2) h (by decide) (by decide),
    show bit (c + 2 ^ 31) 31 = true from bit_top (k := 3) (j := 3) h (by decide) (by decide),
    show bit (c + 2 ^ 31) 29 = false from bit_top (k := 3) (j := 1) h (by decide) (by decide),
    show bit (c + 2 ^ 31) 28 = false from bit_top (k := 3) (j := 0) h (by decide) (by decide)]
  simp only [Bool.false_eq_true, if_false, if_true]

/-- A write of CHK_n_CTRL with close alone. -/
theorem chkCtrl_close (r n : Nat) {c : Nat} (s : State) (h : c < 2 ^ 28) :
    s.chkCtrl r n (c + 2 ^ 30) = ((s.chkClose r n).plainWrite (Reg.CHK_CTRL n) c).chkShow n := by
  have e : (c + 2 ^ 30) % 2 ^ 28 = c := by omega
  unfold State.chkCtrl
  rw [e, show bit (c + 2 ^ 30) 30 = true from bit_top (k := 2) (j := 2) h (by decide) (by decide),
    show bit (c + 2 ^ 30) 31 = false from bit_top (k := 2) (j := 3) h (by decide) (by decide),
    show bit (c + 2 ^ 30) 29 = false from bit_top (k := 2) (j := 1) h (by decide) (by decide),
    show bit (c + 2 ^ 30) 28 = false from bit_top (k := 2) (j := 0) h (by decide) (by decide)]
  simp only [Bool.false_eq_true, if_false, if_true]

/-- A write of CHK_n_CTRL with scan alone. -/
theorem chkCtrl_scan (r n : Nat) {c : Nat} (s : State) (h : c < 2 ^ 28) :
    s.chkCtrl r n (c + 2 ^ 29) = ((s.plainWrite (Reg.CHK_CTRL n) c).chkShow n).chkScan r n := by
  have e : (c + 2 ^ 29) % 2 ^ 28 = c := by omega
  unfold State.chkCtrl
  rw [e, show bit (c + 2 ^ 29) 30 = false from bit_top (k := 1) (j := 2) h (by decide) (by decide),
    show bit (c + 2 ^ 29) 31 = false from bit_top (k := 1) (j := 3) h (by decide) (by decide),
    show bit (c + 2 ^ 29) 29 = true from bit_top (k := 1) (j := 1) h (by decide) (by decide),
    show bit (c + 2 ^ 29) 28 = false from bit_top (k := 1) (j := 0) h (by decide) (by decide)]
  simp only [Bool.false_eq_true, if_false, if_true]

/-- A write of CHK_n_CTRL with abort alone. -/
theorem chkCtrl_abort (r n : Nat) {c : Nat} (s : State) (h : c < 2 ^ 28) :
    s.chkCtrl r n (c + 2 ^ 28) = ((s.plainWrite (Reg.CHK_CTRL n) c).chkShow n).chkAbort n := by
  have e : (c + 2 ^ 28) % 2 ^ 28 = c := by omega
  unfold State.chkCtrl
  rw [e, show bit (c + 2 ^ 28) 30 = false from bit_top (k := 0) (j := 2) h (by decide) (by decide),
    show bit (c + 2 ^ 28) 31 = false from bit_top (k := 0) (j := 3) h (by decide) (by decide),
    show bit (c + 2 ^ 28) 29 = false from bit_top (k := 0) (j := 1) h (by decide) (by decide),
    show bit (c + 2 ^ 28) 28 = true from bit_top (k := 0) (j := 0) h (by decide) (by decide)]
  simp only [Bool.false_eq_true, if_false, if_true]

/-- A value below 2 to the 28 with one bit of 28 to 31 set is their sum. -/
theorem or_top {c k : Nat} (h : c < 2 ^ 28) : c ||| 2 ^ (28 + k) = c + 2 ^ (28 + k) := by
  have := Nat.two_pow_add_eq_or_of_lt h (2 ^ k)
  rw [← Nat.pow_add] at this
  rw [Nat.or_comm, ← this, Nat.add_comm]

/-- BIST_CTRL with its key and operation 1 or 2 starts a run. -/
theorem bistCmd_start {v op d : Nat} (s : State) (hk : v / 2 ^ 16 = 0x5A3C) (ho : bits v 9 8 = op) (hd : v % 256 = d)
    (h : op = 1 ∨ op = 2) : s.bistCmd v = s.bistStart op d := by
  unfold State.bistCmd
  rw [hk, ho, hd]
  rcases h with h | h <;> subst h <;> rw [if_neg (by decide), if_neg (by decide), if_neg (by decide)]

/-- BIST_CTRL with its key and operation 3 fuses a repair. -/
theorem bistCmd_fuse {v d : Nat} (s : State) (hk : v / 2 ^ 16 = 0x5A3C) (ho : bits v 9 8 = 3) (hd : v % 256 = d) :
    s.bistCmd v = s.bistFuse d s.pw.vfuse := by
  unfold State.bistCmd
  rw [hk, ho, hd, if_neg (by decide), if_pos (by decide)]

/-- The operation field of a command word of BIST_CTRL. -/
theorem bits_key (k d : Nat) (h : d < 256) (hk : k < 4) : bits (0x5A3C0000 + 256 * k + d) 9 8 = k := by
  unfold bits
  rw [Nat.shiftRight_eq_div_pow]
  omega

end Sys2Proof.Machine
end

