-- ==== Sys2Proof/Tests/Slice0.lean ====
section
/-! SUPPORT. Tests/Slice0.lean: the WellFormed smoke test, worked examples of the spec, and for every statement with
hypotheses a state and operands that meet them all. -/

namespace Sys2Proof.Tests

open Sys2Proof.Machine

set_option Elab.async false

/-! ## Ill-formed operands, and well-formed ones beside them -/

/-- GLB_UID at 0x10 has two halves (R474). -/
theorem test_wf_low_half : (Instr.reg64LowHalfRead 0 0x10).wf = true ∧ (Instr.reg64LowHalfRead 0 0x14).wf = false ∧
    (Instr.reg64LowHalfRead 0 0).wf = false := by decide +kernel

theorem test_wf_high_half : (Instr.reg64HighHalfWrite 0 0x14 0).wf = true ∧ (Instr.reg64HighHalfWrite 0 0x10 0).wf = false ∧
    (Instr.reg64HighHalfWrite 0 0x18 0).wf = false := by decide +kernel

theorem test_wf_register_write : (Instr.registerWrite 16 0x18 ⟨1, none⟩ 0).wf = true ∧ (Instr.registerWrite 16 0x1A ⟨1, none⟩ 0).wf = false ∧
    (Instr.registerWrite 0 0x18 ⟨1, some 2⟩ 0).wf = true ∧ (Instr.registerWrite 0 0x1C ⟨1, some 2⟩ 0).wf = false ∧
    (Instr.registerWrite 16 0x18 ⟨1, some 2⟩ 0).wf = false := by decide +kernel

theorem test_wf_low_power : (Instr.linkLowPowerEntry 1 4 0).wf = true ∧ (Instr.linkLowPowerEntry 1 1 0).wf = false ∧
    (Instr.linkLowPowerEntry 1 3 0).wf = false := by decide +kernel

theorem test_wf_link_up : (Instr.hostLinkUp 6 8 false 0).wf = true ∧ (Instr.hostLinkUp 0 8 false 0).wf = false ∧
    (Instr.hostLinkUp 7 8 false 0).wf = false ∧ (Instr.hostLinkUp 6 6 false 0).wf = false := by decide +kernel

theorem test_wf_can : (Instr.canFrameReceived 0 0 false 2047 (List.replicate 8 0) 0).wf = true ∧
    (Instr.canFrameReceived 0 0 false 2047 (List.replicate 9 0) 0).wf = false ∧
    (Instr.canFrameReceived 0 1 false 2048 [] 0).wf = false ∧ (Instr.canFrameReceived 0 1 true 2048 [] 0).wf = true := by
  decide +kernel

theorem test_wf_spi : (Instr.spiUnknownCommand 4 0 ⟨[], 0⟩ false 0).wf = true ∧
    (Instr.spiUnknownCommand 3 0 ⟨[], 0⟩ false 0).wf = false := by decide +kernel

/-- At most 8 payload bytes (R147). -/
theorem test_wf_interrupt : (Instr.inBandInterrupt 0 0 (List.replicate 8 0) 0).wf = true ∧
    (Instr.inBandInterrupt 0 0 (List.replicate 9 0) 0).wf = false := by decide +kernel

theorem test_wf_temperature : (Instr.temperatureSample [25000] 0).wf = true ∧ (Instr.temperatureSample [] 0).wf = false := by
  decide +kernel

theorem test_wf_erk_frames :
    (Instr.erkDataFrame 0 0 false true 0 0 0 0 0 (List.replicate 2048 0) 0).wf = true ∧
    (Instr.erkDataFrame 0 0 false true 0 0 0 0 0 (List.replicate 2049 0) 0).wf = false ∧
    (Instr.erkCensusFrame 0 0 false true 0 (List.replicate 16 0) 0).wf = true ∧
    (Instr.erkCensusFrame 0 0 false true 0 (List.replicate 15 0) 0).wf = false ∧
    (Instr.erkNoticeReceived 0 0 false true 0 1 0).wf = true ∧ (Instr.erkNoticeReceived 0 0 false true 0 0 0).wf = false := by
  decide +kernel

theorem test_wf_vectors : (Instr.msixUnmask 0 (some 2047)).wf = true ∧ (Instr.msixUnmask 1 (some 63)).wf = true ∧
    (Instr.msixUnmask 1 (some 64)).wf = false ∧ (Instr.msixUnmask 1 none).wf = true ∧
    (Instr.msixModerationExpiry 15 63 0).wf = true ∧ (Instr.msixModerationExpiry 15 64 0).wf = false := by decide +kernel

theorem test_wf_upset : (Instr.eventOccurrence (.palUpset 0 (2 ^ 39 - 1)) 0).wf = true ∧
    (Instr.eventOccurrence (.palUpset 0 (2 ^ 39)) 0).wf = false := by decide +kernel

theorem test_wf_spdm : (Instr.challenge 0 (List.replicate 32 0)).wf = true ∧ (Instr.challenge 0 []).wf = false ∧
    (Instr.getMeasurements 5 true (List.replicate 32 0)).wf = true ∧
    (Instr.getMeasurements 6 true (List.replicate 32 0)).wf = false ∧ (Instr.getMeasurements 255 false []).wf = false := by
  decide +kernel

/-! ## Helpers -/

/-- A state after a command, read by p; false where the command stopped. -/
def after (i : Instr) (s : State) (p : State → Bool) : Bool :=
  match exec i s with
  | .next t => p t
  | _ => false

/-- Every mask of a guard table open to every domain, and the physical function the holder. -/
def openGuard : List (Nat × Word) :=
  (Reg.GRD_REQ 0, 0x80000000#32) :: (List.range 19).map (fun r => (Reg.GRD_REQ (r + 1), 0x80000001#32)) ++
  ((List.range 45).map Reg.GRD_WIN ++ (List.range 32).map Reg.GRD_STRM ++ (List.range 96).map Reg.GRD_QUE ++
    (List.range 128).map Reg.GRD_TXE ++ (List.range 8).map Reg.GRD_GRP ++ (List.range 16).map Reg.GRD_CHK ++
    (List.range 48).map Reg.GRD_VEC).map (fun o => (o, 0xFFFFFFFF#32))

/-- A device in Active with every domain on, an open guard table, routes in effect and no register set. -/
def live : State := { State.reset with
  phase := .active, regs := [], routes := true, hlReset := false
  doms := (List.range 152).map (fun d => (d, DomSt.on))
  fns := [(0, ⟨true, true, false, true, false, DevCtl.init⟩), (1, ⟨true, true, false, true, false, DevCtl.init⟩)]
  pw := ⟨true, [], [], false, false, false, false, false, 0, 0, false, 0⟩
  grdLive := openGuard }

theorem test_live : live.loaded = true ∧ live.runs = true ∧ live.working = true ∧ live.holder = 0 ∧
    live.reqReaches 0 = true ∧ live.reqReaches 18 = true ∧ live.reqReaches 2 = false := by decide +kernel

/-! ## Worked examples of the spec -/

/-- "123456789", the test string of R391. -/
def digits : List Nat := (List.range 9).map (· + 0x31)

/-- The check values of R391's table. -/
theorem test_check_values : (List.range 4).map (fun c => chkResult c (chkFeedBytes c (chkPoly c).2.2.1 digits)) =
    [0x4B, 0x29B1, 0xCBF43926, 0xE3069283] := by decide +kernel

/-- Chapter 14: a feed that is split over two takings of a unit has the same result. -/
theorem test_check_split : chkResult 0 (chkFeedBytes 0 (chkFeedBytes 0 0xFF (leBytes 4 0x34333231))
    (leBytes 4 0x38373635 ++ [0x39])) = 0x4B := by decide +kernel

/-- Chapter 16: the record of sequence number 100,000. -/
theorem test_record_address : jrAddr 100000 = 0x0321A800 := by decide +kernel

/-- Chapter 16: the calendar at 2030-01-01, set by the host, is taken by the next tick. -/
theorem test_calendar_example : after (.calendarSet 0 0xE1BA540000) live (fun s => after (.calendarTick [] 0) s
    (fun t => t.warm.cal == 969493708800 && t.warm.calValid && t.flag (fStat (evLife 5)))) = true := by decide +kernel

/-- Chapter 6: the edge of group 1 after 5 s at a period of 33,333,333 ns. -/
theorem test_edge_example : planAt 33333333 0 5000000000 = 5033333283 := by decide +kernel

/-- Chapter 5: the sketch bin of 1,000,000; chapter 9: the full bin of 819,200. -/
theorem test_bins : sketchBin 1000000 = 190 ∧ fullBin 819200 = 740 := by decide +kernel

/-- Chapter 10: the pop words of queue 7. -/
theorem test_pop_words :
    popWord [⟨3, false⟩, ⟨0x1111, false⟩, ⟨0x2222, false⟩] true false 1 = 0x0116222211110003 ∧
    popWord [⟨0x3333, false⟩] false true 2 = 0x0222000000003333 ∧ popWord [] false false 2 = 0x0200000000000000 ∧
    popWord [⟨2, false⟩, ⟨0x4444, false⟩, ⟨0x5555, false⟩] true true 3 = 0x0336555544440002 := by decide +kernel

/-- Chapter 11: the generation of stream 5's view 0 for frame 1,234,567 in a ring of depth 8 (2 to the 3). -/
theorem test_generation : (live.put (Fld.OUT_CFG_depth 40) 3).genOf 40 1234567 = 0xD0 := by decide +kernel

/-- Chapter 15: a CRC error of AP3 is bit 23 of EVT_STAT_1 and its route stands at 0311B8H. -/
theorem test_source_place : evPort 3 7 = 55 ∧ Reg.EVT_ROUTE 55 = 0x0311B8 ∧ fStat 55 = ⟨Reg.EVT_STAT 1, 23, 23⟩ ∧
    Reg.EVT_ROUTE 424 = 0x031D40 := by decide +kernel

/-- Chapter 15: what the denied read of VF 3 writes into the log. -/
theorem test_deny_example :
    let s := ({ live with grdLive := (Reg.GRD_REQ 3, 0x80000003) :: (Reg.GRD_STRM 5, 0x00010001) ::
      [] }.put Fld.GRD_STAT_generation 2)
    let t := s.logDeny 3 0x20A010 false false 1
    s.denyReason 3 0x20A010 none = some 1 ∧ t.reg (Reg.GRD_LOG_INFO 0) = 0x83300001 ∧
    t.reg (Reg.GRD_LOG_ADDR 0) = 0x0020A010 ∧ denyWord 1 = 0xDEAD0001 ∧ s.srcRead 3 424 = false := by decide +kernel

/-! ## Witnesses: the hypotheses of the statements are met -/

theorem test_EveryStepKeepsPins_witness : State.reset.pinsFollow ∧
    after .warmMinute State.reset (fun t => t.phase == .reset) = true ∧ State.reset.hot = [] := by
  refine ⟨⟨?_, ?_, ?_, ?_⟩, by decide +kernel, rfl⟩
  · intro k hk; exact (by decide +kernel : ∀ k < 4, nth State.reset.intLow k false = (State.reset.loaded && State.reset.intWant State.reset.activeSrcs k)) k hk
  · intro k hk _ _; exact (by decide +kernel : ∀ k < 2, State.reset.faultWant State.reset.activeSrcs k = true → (nth State.reset.faultPin k ⟨false, false⟩).low = true) k hk
  · intro k hk _ _ _ _; exact (by decide +kernel : ∀ k < 2, (nth State.reset.faultPin k ⟨false, false⟩).low = false) k hk
  · intro n hn
    refine ⟨fun h => ?_, fun _ _ => ?_, fun _ => ?_⟩
    · exact absurd h (by decide +kernel)
    all_goals exact (by decide +kernel : ∀ n < 8, (nth State.reset.fcPin n ⟨false, false⟩).low = false) n hn

theorem test_StepRunsFront_witness : State.reset.pending = [] := by decide

theorem test_StoresReadBack_witness : cellsWf 0#32 [(4, 1#32), (8, 2#32)] = true ∧ cellsWf 0xFF#8 [(65535, 0#8)] = true ∧
    cellsWf 0#32 [(8, 1#32), (4, 2#32)] = false ∧ cellsWf 0#32 [(4, 0#32)] = false ∧
    (State.reset.norProg 65535 [1, 2]).norGet 65536 = 2 ∧
    ((State.reset.norProg 65535 [1, 2]).norErase 65536).norGet 65535 = 1 := by decide +kernel

/-- The last source, once and twice in one cycle, with a full counter. -/
theorem test_OccurrenceRecords_witness :
    (live.raise 1535).get (Fld.EVT_CNT_count 1535) = 1 ∧ ((live.raise 1535).raise 1535).get (Fld.EVT_CNT_count 1535) = 1 ∧
    ((live.put (Fld.EVT_CNT_count 0) 0xFFFF).raise 0).get (Fld.EVT_CNT_count 0) = 0xFFFF := by decide +kernel

/-- A live state whose source n is enabled and routed to a vector of function 0. -/
def routed (n : Nat) : State := { (live.put (fEn n) 1).put (Fld.EVT_ROUTE_kind n) 1 with hot := [] }.put Fld.HL_STAT_up 1

theorem test_RoutesRise_witness :
    (let s := routed 1535
     s.hot.contains 1535 = false ∧ s.flag (fStat 1535) = false ∧ s.flag (fEn 1535) = true ∧ s.routes = true ∧
     s.get (Fld.EVT_ROUTE_kind 1535) = 1 ∧ s.get (Fld.EVT_ROUTE_mod 1535) = 0) ∧
    live.flag (fEn 0) = false ∧ State.reset.routes = false ∧ live.get (Fld.EVT_ROUTE_kind 0) ≠ 1 ∧
    (let s := (routed 0).put (fStat 0) 1
     s.flag (fStat 0) = true ∧ s.flag (fEn 0) = true) := by decide +kernel

theorem test_MessagesByFunctionState_witness :
    (let s := live
     (s.flag Fld.HL_STAT_up && (s.fn 0).present && (s.fn 0).d0 && !(s.fn 0).inReset && (s.fn 0).msixEn) = false) ∧
    (let s := (routed 0).setMsixWord 0 (16 * 2047 + 12) 0
     (s.flag Fld.HL_STAT_up && (s.fn 0).present && (s.fn 0).d0 && !(s.fn 0).inReset && (s.fn 0).msixEn) = true ∧
     ((s.fn 0).fmask || bit (s.msixWord 0 (16 * 2047 + 12)) 0) = false ∧ s.linkLow = false ∧ s.dom 134 = .on ∧
     tget s.outHeld 4 [] = [] ∧ (s.put Fld.HL_STAT_lstate 2).linkLow = true) ∧
    (let s := (routed 0).setMsixWord 0 (16 * 2047 + 12) 1
     ((s.fn 0).fmask || bit (s.msixWord 0 (16 * 2047 + 12)) 0) = true ∧
     (s.msiSend 0 2047).msixPend.contains (vecKey 0 2047) = true) ∧
    (let s := { (routed 0).setMsixWord 0 (16 * 2047 + 12) 0 with msixPend := [vecKey 0 2047] }
     s.msixPend.contains (vecKey 0 2047) = true ∧ (s.fn 0).fmask = false ∧
     bit (s.msixWord 0 (16 * 2047 + 12)) 0 = false) := by decide +kernel

theorem test_StatusClearSetWins_witness :
    live.reqReaches 0 = true ∧ live.denyReason 0 (Reg.EVT_STAT 47) (some 1) = none ∧ live.hot = [] ∧ (routed 1504).hot = [] ∧ [(1504 : Fin 1536)].Nodup ∧
    srcReserved 1504 = false ∧
    (let s := routed 1504
     s.reqReaches 0 = true ∧ s.denyReason 0 (Reg.EVT_STAT (1504 / 32)) (some (1 <<< (1504 % 32))) = none ∧
     s.srcWrite 0 1504 = true ∧ s.flag (fEn 1504) = true ∧ s.routes = true ∧ s.get (Fld.EVT_ROUTE_kind 1504) = 1 ∧
     s.get (Fld.EVT_ROUTE_mod 1504) = 0) ∧
    (after (.eventStatusClear 0 47 1 []) ((routed 1504).put (fStat 1504) 1) (fun t => t.get (fStat 1504) == 0)) = true ∧
    (after (.eventStatusClear 0 47 1 [1504]) ((routed 1504).put (fStat 1504) 1) (fun t => t.get (fStat 1504) == 1)) = true := by
  decide +kernel

theorem test_CounterClears_witness : live.reqReaches 0 = true ∧ live.domOff Reg.EVT_CNT_CLR = false ∧
    live.denyReason 0 Reg.EVT_CNT_CLR (some 0x80000000) = none ∧ live.denyReason 0 Reg.EVT_CNT_CLR (some 1535) = none ∧
    live.runs = true ∧ live.hot = [] ∧ srcReserved 1504 = false ∧ live.get (Fld.EVT_CNT_count 1504) = 0 := by
  decide +kernel

/-- Domain 1 without a route bit: requester 1 in domain 1 may write the source but not route to vector block 0. -/
def noRoute : State := { live with grdLive := openGuard.map (fun e => if e.1 = Reg.GRD_VEC 0 then (e.1, 1#32) else e) }

theorem test_EnablesAndRoutes_witness :
    live.reqReaches 0 = true ∧ live.denyReason 0 (Reg.EVT_EN 47) (some 0xFFFFFFFF) = none ∧
    live.denyReason 0 (Reg.EVT_ROUTE 1535) (some 0x40000000) = none ∧
    (let s := noRoute
     s.reqReaches 1 = true ∧ s.reqEnabled 1 = true ∧ s.phase ≠ .boot ∧ s.phase ≠ .failed ∧ s.srcWrite 1 1535 = true ∧
     s.mayRoute (s.reqDomain 1) 0x40000000 = false) := by decide +kernel

theorem test_ModerationAndUnmask_witness : live.loaded = true ∧ live.runs = true ∧ (live.fn 0).present = true ∧
    (live.fn 1).present = true ∧ ((0 : Fin 16).val = 0 ∨ (2047 : Fin 2048).val < 64) ∧
    ((1 : Fin 16).val = 0 ∨ (63 : Fin 2048).val < 64) := by decide +kernel

theorem test_ConditionsThatOccur_witness : State.reset.runs = false ∧ live.runs = true ∧
    (let a := (live.put (Fld.QUE_CFG_enable 95) 1).advance 0
     a.reqReaches 0 = true ∧ a.denyReason 0 (Reg.QUE_POP 95) none = none ∧ a.denyReason 0 (Reg.QUE_PUSH 95) (some 0) = none ∧
     a.domOff (Reg.QUE_PUSH 95) = false ∧ a.queMayPush 0 95 = true ∧ a.flag (Fld.QUE_CFG_enable 95) = true ∧ bit 0 18 = false) := by
  decide +kernel

theorem test_DeniedWriteDoesNothing_witness :
    noRoute.reqReaches 1 = true ∧ noRoute.denyReason 1 (Reg.EVT_ROUTE 0) (some 0x40000000) = some 8 ∧
    live.denyReason 0 0x034000 none = some 4 ∧ live.denyReason 0 0x010000 (some 0) = none ∧
    ({ live with grdLive := [(Reg.GRD_REQ 1, 0x80000001), (Reg.GRD_WIN 4, 3), (Reg.GRD_WIN 1, 3), (Reg.GRD_REQ 0, 0x80000000)] }.denyReason 1
      Reg.PM_STATE (some 0) = none) ∧
    ({ live with grdLive := [(Reg.GRD_REQ 1, 0x80000001), (Reg.GRD_WIN 4, 3), (Reg.GRD_WIN 1, 3), (Reg.GRD_REQ 0, 0x80000000)] }.denyReason 1
      Reg.PM_CTRL (some 0) = some 3) ∧ (0x40000000 : Nat) < 2 ^ 32 ∧
    (∀ st < 32, ∀ q < 96, Reg.LDG_CMD_CTRL st ≠ Reg.QUE_PUSH q) ∧
    (∀ st < 32, Reg.EVT_ROUTE 0 ≠ Reg.LDG_CMD_CTRL st) ∧ (∀ q < 96, Reg.EVT_ROUTE 0 ≠ Reg.QUE_PUSH q) := by decide +kernel

theorem test_DenialReasonsInOrder_witness :
    State.reset.reqEnabled 1 = false ∧
    (live.reqEnabled 16 = true ∧ live.denyReason 16 1 none = some 9) ∧
    (let s := { State.reset with phase := .boot }
     s.reqEnabled 0 = true ∧ s.denyReason 0 0 none = some 5) ∧
    (let s := { State.reset with phase := .failed }
     s.reqEnabled 0 = true ∧ s.denyReason 0 0x010000 none = some 5 ∧ s.denyReason 0 0x00FFFC none = none ∧
     s.denyReason 0 0x020000 none = none ∧ s.denyReason 0 0x030000 none = some 5) ∧
    (live.reqEnabled 1 = true ∧ inMsix 0x91FFFC = true ∧ live.denyReason 1 0x91FFFC none = none ∧
     inMsix 0x920000 = false ∧ accessObj 0x920000 = none ∧ accessObj 0x91FFFC = none) ∧
    accessObj 0 = some (Reg.GRD_WIN 0) ∧ live.mayRead (Reg.GRD_WIN 0) 0 = true ∧
    live.denyReason 1 (Reg.PM_CTRL) (some 1) = some 3 ∧ noRoute.denyReason 1 (Reg.EVT_ROUTE 0) (some 0x40000000) = some 8 ∧
    { live with grdLive := [(Reg.GRD_REQ 1, 0x80000001)] }.denyReason 1 0 none = some 1 ∧
    { live with grdLive := [(Reg.GRD_REQ 1, 0x80000001)] }.denyReason 1 0 (some 0) = some 2 := by decide +kernel

theorem test_GuardTableChanges_witness : { live with grdWait := [[], []] }.loaded = true ∧
    { live with grdWait := [[], []] }.grdWait = [] :: [[]] ∧ live.grdWait = [] := by decide +kernel

theorem test_FullResets_witness : live.phase ≠ .off ∧ live.phase ≠ .warm ∧ live.phase ≠ .reset ∧ { State.reset with pw := live.pw }.pw.porst = false ∧
    (live.put (Fld.CK_PLL_running 6) 1).flag (Fld.CK_PLL_running 6) = true ∧ live.reqReaches 0 = true ∧
    live.denyReason 0 Reg.BOOT_CMD (some 0x5A3C0001) = none ∧ { State.reset with phase := .warm }.phase = .warm ∧
    { State.reset with phase := .off }.phase = .off ∧
    after (.softwareReset 0) live (fun t => t.phase == .reset && t.warm.causes == (live.warm.causes ||| 8)) = true := by
  decide +kernel

theorem test_PowerLosses_witness : live.phase ≠ .off ∧ live.norOp = none ∧ live.life.op = none ∧ live.life.parked = none ∧
    { live.pw with internal := true }.internal = true ∧ Rail.io33 ∈ [Rail.io33] ∧ Rail.io33 ∉ [Rail.io18] ∧
    { State.reset with phase := .off }.phase = .off ∧
    after (.vddCoreLoss 0) live (fun t => t.phase == .warm) = true := by decide +kernel

theorem test_BootBeginsAndEnds_witness : live.runs = true ∧ State.reset.phase = .reset ∧ (47 : Nat) < 48 ∧ 72 ≤ (72 : Nat) ∧
    (let s := ({ State.reset with phase := .boot }.put Fld.BIST_STAT_keyon 1).put Fld.BIST_STAT_wave 6
     s.runs = true ∧ (s.advance 0).loaded = false ∧ (s.advance 0).flag Fld.BIST_STAT_keyon = true ∧
     (s.advance 0).get Fld.BIST_STAT_wave = (5 : Fin 6).val + 1 ∧ live.flag Fld.BIST_STAT_keyon = false) := by decide +kernel

theorem test_HostLinkReset_witness : live.hlReset = false ∧ live.runs = true ∧ live.pw.perst = false ∧ live.loaded = true ∧
    (let s := { live with hlReset := true }
     s.runs = true ∧ s.hlReset = true ∧ s.pw.perst = false) ∧
    (let s := { State.reset with phase := .boot, pw := live.pw }
     s.runs = true ∧ s.loaded = false ∧ s.pw.perst = false) ∧ (0x900000 : Nat) ≠ Reg.HL_FN := by decide +kernel

theorem test_ClockSources_witness : (5 : Fin 8).val < 6 ∧ (live.put (Fld.CK_PLL_running 5) 1).flag (Fld.CK_PLL_running 5) = true ∧
    live.loaded = true := by decide +kernel

theorem test_DomainsWakeAndDrain_witness : live.loaded = true ∧
    (let s := { live.setDom 151 .powerdown with tm := { live.tm with loc := 1 } }
     s.dom 151 = .powerdown ∧ tget s.rampAt 151 0 < s.tm.loc) := by decide +kernel

theorem test_StandbyAndWake_witness : live.loaded = true := by decide +kernel

/-- The margins at 3 % and 6 %, the code at vmax, and the hundredth good check. -/
theorem test_VoltageScaling_witness : live.runs = true ∧ live.flag Fld.PM_AVS_CTRL_enable = false ∧
    State.reset.loaded = false ∧ { State.reset with phase := .boot }.runs = true ∧
    (let s := live.put Fld.PM_AVS_CTRL_enable 1
     s.loaded = true ∧ s.flag Fld.PM_AVS_CTRL_enable = true ∧ s.get Fld.PM_AVS_STAT_code = s.get Fld.PM_AVS_CTRL_vmax ∧
     (11 : Fin 256).val < 12 ∧ after (.avsTick 11 true 0) s (fun t => t.flag (fStat (evPm 7))) = true) ∧
    (let s := { ((live.put Fld.PM_AVS_CTRL_enable 1).put Fld.PM_AVS_CTRL_vmax 60).put Fld.PM_AVS_STAT_code 40 with avsGood := 99 }
     after (.avsTick 11 true 0) s (fun t => t.get Fld.PM_AVS_STAT_code == 41) = true ∧
     after (.avsTick 12 true 0) s (fun t => t.get Fld.PM_AVS_STAT_code == 40) = true ∧
     after (.avsTick 24 true 0) s (fun t => t.get Fld.PM_AVS_STAT_code == 40) = true ∧
     after (.avsTick 25 true 0) s (fun t => t.get Fld.PM_AVS_STAT_code == 39) = true) := by decide +kernel

theorem test_OnlyTimePassesOtherwise_witness : imageTime (.digestPublish 5) = some 5 ∧ State.reset.loaded = false ∧
    runTime (.poweredMinute 5) = some 5 ∧ State.reset.runs = false := by decide +kernel

theorem test_LinkGoesUpAndDown_witness : live.runs = true ∧ (134 : Nat) = 134 ∧
    (live.put (Fld.BIST_DOM_fenced 134) 1).flag (Fld.BIST_DOM_fenced 134) = true ∧ live.flag (Fld.BIST_DOM_fenced 137) = false ∧
    (live.hlWant 136 || live.flag (Fld.PM_DCTRL_hold_on 136)) = true ∧ live.dom 136 ≠ .off ∧
    (let s := { live with doms := [] }
     (s.hlWant 136 || s.flag (Fld.PM_DCTRL_hold_on 136)) = true ∧ s.dom 136 = .off ∧ s.domBarred 136 = false ∧
     (∀ e ∈ s.doms, e.2 ≠ .waking) ∧ (s.hlWant 137 || s.flag (Fld.PM_DCTRL_hold_on 137)) = false ∧ s.dom 137 = .off) ∧
    (live.hlWant 137 || live.flag (Fld.PM_DCTRL_hold_on 137)) = false ∧ live.dom 137 = .on ∧ live.loaded = true ∧
    (live.setDom 136 .draining).dom 136 = .draining ∧ (live.setDom 137 .draining).dom 137 = .draining ∧
    (live.setDom 137 .waking).dom 137 = .waking ∧ (live.setDom 137 .powerdown).dom 137 = .powerdown ∧
    (let s := { State.reset with phase := .boot, doms := [(137, .on)] }
     (s.hlWant 137 || s.flag (Fld.PM_DCTRL_hold_on 137)) = false ∧ s.dom 137 = .on ∧ s.loaded = false) ∧
    (live.put Fld.HL_STAT_up 1).flag Fld.HL_STAT_up = true := by decide +kernel

theorem test_FunctionStates_witness : live.runs = true ∧ (live.fn 0).present = true ∧ (live.fn 15).present = false := by
  decide +kernel

/-- A read of the descriptor of frame 7 of ring 263 is outstanding. -/
def fetch7 : Fetch := ⟨7, 0, 0x1000, true, false, 0, none, false, false⟩

theorem test_DescriptorsAreFetched_witness :
    let s := { live with rings := [(263, ⟨[fetch7], [], 0⟩)] }
    s.loaded = true ∧ (s.ring 263).fetches.find? (fun f => f.busy) = some fetch7 := by decide +kernel

/-- A window of a frame, and the frame that has it. -/
def win0 (p : WinPhase) : WinSt := ⟨0, p, 0x2000, 4096, 0, 0x1000, 0, 0, 0, 0, 0, false, false, false⟩
def frame7 (p : WinPhase) : Frame := ⟨31, 7, ⟨0, []⟩, [], 0, [], (0, false), (0, false), 1, 0, 0, 0, false, false, false, none, 0, [],
  0, 0, none, none, [], false, false, [], false, false, [], [], false, none, none, false, 0, 0, none, [win0 p], 0, 0, 0, false, none, false⟩

theorem test_OutputsBindAndPublish_witness :
    (let s := { live with frames := [frame7 .written] }
     s.loaded = true ∧ (s.advance 0).erkPourOf 248 = none ∧ s.erkPourOf 248 = none ∧
     s.winHead (248 / 8) (248 % 8) = some (frame7 .written, win0 .written) ∧ (win0 .written).phase = .written ∧
     s.frame 31 7 = some (frame7 .written) ∧
     (frame7 .written).wins.find? (fun y => y.w == (win0 .written).w) = some (win0 .written) ∧ (win0 .written).hold = false ∧
     s.linkLow = false ∧ s.dom 134 = .on ∧ tget s.outHeld 4 [] = [] ∧ (s.setDom 134 .waking).dom 134 ≠ .on) := by
  decide +kernel

theorem test_MissingMembersAndFaultPages_witness :
    let s := { live with frames := [frame7 .bound] }
    s.loaded = true ∧ frame7 .bound ∈ s.frames ∧ win0 .bound ∈ (frame7 .bound).wins ∧ (win0 .bound).w < 8 ∧
    (win0 .bound).phase = .bound ∧ (win0 .bound).fn = 0 ∧ overlaps 2 (win0 .bound).addr (win0 .bound).len = true ∧
    overlaps 3 (win0 .bound).addr (win0 .bound).len = false ∧ overlaps 1 (win0 .bound).desc 64 = true ∧
    (let x : ErkPour := ⟨7, 0, 5, 9, [], [], .written, 0, 0x1000, 0x2000, 4096, false, false⟩
     x ∈ { live with erk := { live.erk with pours := [x] } }.erk.pours ∧ x.phase = .written ∧ x.fn = 0 ∧
     overlaps 2 x.addr x.len = true ∧ overlaps 1 x.desc 64 = true) := by decide +kernel

theorem test_SpdmSessions_witness : live.runs = true ∧
    (let s := { live.put Fld.HL_STAT_up 1 with spdm := { Spdm.init with stage := 3 } }
     s.doeOpen = true ∧ 3 ≤ s.spdm.stage) := by decide +kernel

/-- A configuration that keeps every rule, with records that may change at runtime. -/
def legal : State := (((({ live with img := { Image.init with recs := (typMust.map (Rec.mk · 0 2 [])) ++
    (([2, 3, 5, 6, 7] : List Nat).map (Rec.mk · 0 0 [])) ++
    [Rec.mk 9 0 2 [1, 0, 0, 0, 0, 0, 0, 0]] } }.put (Fld.PM_DCTRL_sb_keep 146) 1).put (Fld.PM_DCTRL_sb_keep 147) 1).put
    Fld.HL_CFG_max_rate 6).put Fld.HL_CFG_max_width 8).put (Fld.GRD_REQ_enable 0) 1

/-- One commit entry: PM_3_CTRL with sb_keep. -/
def asked : State := ((legal.put Fld.BOOT_CMT_STAT_count 1).setReg (Reg.BOOT_CMT_DATA 0) (BitVec.ofNat 32 (Reg.PM_DCTRL 3))).setReg
  (Reg.BOOT_CMT_DATA 1) 4

theorem test_ConfigurationCommits_go : (asked.cmtReason 0).1 = 0 := by decide +kernel

theorem test_ConfigurationCommits_witness :
    (asked.put Fld.BOOT_CMT_EPOCH_epoch 1).get Fld.BOOT_CMT_EPOCH_epoch ≠ (asked.put Fld.BOOT_CMT_EPOCH_epoch 1).get Fld.CEN_EPOCH_epoch ∧
    (let s := { live with cmt := ⟨none, [⟨[], none, []⟩], [], []⟩ }
     s.loaded = true ∧ (s.advance 0).cmt.waiting.find? (fun c => (s.advance 0).deadlineFell c.target) = some ⟨[], none, []⟩) ∧
    (let s := (asked.setReg (Reg.BOOT_CMT_DATA 0) 0x038000)
     s.get Fld.BOOT_CMT_EPOCH_epoch = s.get Fld.CEN_EPOCH_epoch ∧ s.cmtEntries = [(0x038000, 4)] ∧ accessObj 0x038000 = none ∧
     s.ownsEntry 0 (0x038000, 4) = true ∧ (s.cmtReason 0).1 = 0x23) ∧
    (let s := { (asked.setReg (Reg.BOOT_CMT_DATA 0) (BitVec.ofNat 32 (Reg.PM_DCTRL 3))) with grdLive := [(Reg.GRD_REQ 1, 0x80000001)] }
     s.ownsEntry 1 (Reg.PM_DCTRL 3, 4) = false) ∧
    enWord (Reg.EVT_EN 47) = some 47 ∧ enWord (Reg.PM_DCTRL 3) = none ∧ within (Reg.PM_DCTRL 3) 0x071000 0x100 = false ∧
    (live.advance 0).cmt.waiting.find? (fun c => (live.advance 0).deadlineFell c.target) = none := by decide +kernel

theorem test_FlashCommands_witness :
    live.runs = true ∧ live.norOp = none ∧ (live.phase == .active) = true ∧
    (∀ op < 4, { live with norOp := some ⟨op, 0, [1], true⟩ }.norOp = some ⟨op, 0, [1], true⟩) ∧ live.life.op = none ∧
    after (.norOpDone false 0) { live with norOp := some ⟨2, 65535, [1], true⟩ } (fun t => t.norGet 65535 == 1 && t.norOp.isNone) = true := by
  decide +kernel

/-- A reload of stream 0's defect list with an empty one. -/
def reload0 : State := (((legal.put Fld.EAS_TRL_TARGET_kind 3).put Fld.EAS_TRL_LEN_length 8).setReg (Reg.EAS_TRL_BUF 0) 1).put
  Fld.PLC_CELLS_free 1

theorem test_TableReloads_witness : live.loaded = true ∧ live.trl.waiting = none ∧
    { live with trl := ⟨none, some ⟨9, 0, [], none, []⟩, none⟩ }.trl.waiting = some ⟨9, 0, [], none, []⟩ ∧
    reload0.trlReason 0 = 0 := by decide +kernel

theorem test_PortLinks_witness : live.loaded = true := by decide +kernel

theorem test_PacketsReachTheirPort_witness : live.loaded = true ∧ (live.advance 7).fiOn = false ∧
    live.vcEntries 23 true 31 = [] := by decide +kernel

/-- Stream 0 is 4 wide and 2 high, of one sample a pixel; the port counts its lines; a unit serves port 0. -/
def lined : State := ((((live.put (Fld.STRM_GEOM_width 0) 4).put (Fld.STRM_GEOM_height 0) 2).put (Fld.PORT_CFG_line_num 0) 1).put
  (Fld.CHK_CTRL_mode 0) 1)

theorem test_LinesAndTimeouts_witness : live.loaded = true ∧ live.flag (Fld.PORT_CFG_line_num 0) = false ∧
    lined.flag (Fld.PORT_CFG_line_num 0) = true ∧ lined.cseServed 0 = true ∧ lined.cseServed 1 = false ∧
    dtSamples (lined.curDt 0) (lined.curW 0) = 4 ∧ [1, 2, 3].length < 4 ∧ 4 ≤ [1, 2, 3, 4].length ∧
    (23 : Nat) < 24 ∧ (3 : Nat) < 4 ∧ live.flag (fOpen 23 3) = false ∧ live.entExp 23 3 = 0 := by decide +kernel

/-- A channel with a job that waits. -/
def chanWith (w : JobWait) (nacks backs : Nat) : State :=
  (live.put (Fld.SC_CFG_retries 15) 3).setChan 15 { Chan.init with job := some (.init 0 0), wait := w, nacks := nacks, backs := backs }

theorem test_ControlTransfers_witness : live.loaded = true ∧ (live.chan 15).job = none ∧ ((15 : Fin 16).val = (15 : Fin 24).val) ∧
    (let s := chanWith .transfer 2 7
     s.loaded = true ∧ (s.chan 15).job = some (.init 0 0) ∧ (s.chan 15).wait = .transfer ∧ (Job.init 0 0) ≠ .busClear ∧
     (s.chan 15).wait ≠ .nack ∧ (s.chan 15).wait ≠ .backoff ∧ (s.chan 15).wait ≠ .delay ∧
     (s.chan 15).nacks < s.get (Fld.SC_CFG_retries 15) ∧ (s.chan 15).backs < 8) ∧
    (let s := chanWith .transfer 3 8
     s.get (Fld.SC_CFG_retries 15) ≤ (s.chan 15).nacks ∧ 8 ≤ (s.chan 15).backs) ∧
    (let s := live.setChan 23 { Chan.init with job := some .busClear, wait := .transfer }
     (s.chan 23).job = some .busClear ∧ (s.chan 23).wait = .transfer) ∧
    ((chanWith .nack 1 0).chan 15).wait = .nack ∧ ((chanWith .backoff 0 1).chan 15).wait = .backoff ∧
    ((chanWith .delay 0 0).chan 15).wait = .delay := by decide +kernel

theorem test_ControlChannelEvents_witness : live.loaded = true ∧ ((15 : Fin 16).val = (15 : Fin 24).val) ∧ ((23 : Fin 26).val = (23 : Fin 24).val) := by decide +kernel

/-- The limits of 1 ms and of 1 us. -/
theorem test_VehicleTimeIsDisciplined_witness : live.loaded = true ∧ 1000000 < (1000001 : Int).natAbs ∧
    (-1000000 : Int).natAbs ≤ 1000000 ∧ (-1000 : Int).natAbs ≤ 1000 ∧ 1000 < (1001 : Int).natAbs ∧ { live.tm with good := 6 }.good < 7 ∧
    7 ≤ { live with tm := { live.tm with good := 7 } }.tm.good ∧
    ({ live with tm := { live.tm with good := 7 } }.timeOffset (-1000)).get Fld.TIME_STAT_state = 2 ∧
    (live.timeOffset 1000001).get Fld.TIME_STAT_state = 1 := by decide +kernel

theorem test_SyncEdgesArePlanned_witness : live.loaded = true ∧ (0 : Nat) < 1 ∧ planAt 1 0 5 = 5 ∧ planAt 10 3 3 = 3 ∧
    planAt 10 3 4 = 13 := by decide +kernel

theorem test_EaselsWork_witness : live.loaded = true ∧
    (let f := { frame7 .waiting with stats := some [], sigBound := true }
     { live with frames := [f], lawQ := [(5, 31, 7)] }.lawFrame 31 = some f) := by decide +kernel

theorem test_EaselsRestAndRetire_witness : live.loaded = true ∧
    thas { live with plc := { live.plc with retired := [(11, 5)] } }.plc.retired 11 = true := by decide +kernel

/-- Stream 31 open, a command for the gain of all exposures waiting to be given, with n commands pending. -/
def led (n mask : Nat) : State := (live.setStrm 31 { Strm.init with opened := true, cmds := List.replicate n ⟨1, 0, false, 1, [], false, false⟩ }).setReg
  (Reg.LDG_CMD_MASK 31) (BitVec.ofNat 32 mask)

theorem test_LedgerCommands_witness :
    4 ≤ ((led 4 1).strm 31).cmds.length ∧ ((led 3 0).strm 31).cmds.length < 4 ∧
    ((led 3 0x20000).reg (Reg.LDG_CMD_MASK 31)).toNat % 2 ^ 17 = 0 ∧
    (led 3 0x1000).cmdReason true 31 false = 0 ∧ (led 4 0x1000).cmdReason true 31 true ≠ 0 ∧ ((1 : Nat) = 1 ∨ (1 : Nat) = 2) := by decide +kernel

/-- Queue 7 with two items of an item queue, and one free cell's worth of room. -/
def queued (items : List QItem) : State :=
  { ((live.put (Fld.QUE_CFG_enable 7) 1).put (Fld.QUE_CFG_cap_cells 7) 2) with ques := [(7, ⟨[⟨items, false, true, false⟩], false, 0, [false]⟩)] }

theorem test_QueuesAreFirstInFirstOut_witness : live.runs = true ∧ live.loaded = true ∧ live.reqReaches 0 = true ∧
    live.denyReason 0 (Reg.QUE_POP 95) none = none ∧ live.domOff (Reg.QUE_POP 95) = false ∧
    (let s := queued [⟨1, false⟩, ⟨2, false⟩]
     (s.que 7).pkts = [⟨[⟨1, false⟩, ⟨2, false⟩], false, true, false⟩] ∧ s.quePacket 7 = false ∧ 2 < s.queCap 7 ∧
     (s.que 7).off + 2 < 32 * (s.que 7).cells.length ∧ s.flag (Fld.QUE_CFG_enable 7) = true ∧ s.halfOn (7 / 48) = true ∧
     s.domFenced (132 + 7 / 48) = false ∧ (s.put (Fld.BIST_DOM_fenced 132) 1).domFenced (132 + 7 / 48) = true ∧ 65535 < 65536) ∧
    (live.que 7).pkts = [] ∧
    ((queued [⟨1, false⟩, ⟨2, false⟩]).quePush 7 65535).que 7 =
      ⟨[⟨[⟨1, false⟩, ⟨2, false⟩, ⟨65535, false⟩], false, true, false⟩], false, 0, [false]⟩ := by decide +kernel

theorem test_RegisterAccesses_writeCtl (t : State) : t.writeCtl 0 Reg.GLB_SCRATCH 1 = none := by
  simp [State.writeCtl, within, Reg.GLB_SCRATCH, Reg.PM_CTRL, Reg.PM_DCTRL, Reg.BOOT_RST_CAUSE, Reg.BOOT_CMD, Reg.BOOT_CMT_CTRL,
    Reg.BOOT_CMT_TARGET, Reg.BOOT_CMT_DATA, Reg.BOOT_NOR_CTRL, Reg.EVT_CNT_CLR, Reg.EVT_STAT, Reg.EVT_EN, Reg.GRD_CTRL,
    Reg.ERK_PCTL, Reg.BIST_CTRL, Reg.FI_CTRL]

theorem test_RegisterAccesses_witness : (0x19 : Nat) % 4 ≠ 0 ∧ inMsix Reg.GLB_SCRATCH = false ∧
    (rowOf Reg.GLB_SCRATCH).map (fun r => r.width) = some .word ∧ Reg.GLB_SCRATCH % 4 = 0 ∧
    (rowOf 0x10).map (fun r => r.width) = some .low ∧ (rowOf 0x14).map (fun r => r.width) = some .high ∧
    (0x10 : Nat) % 8 = 0 ∧ (0x14 : Nat) % 4 = 0 ∧ (0x10 : Nat) < 0x620000 ∧ (0 : Nat) < 16 ∧ (16 : Nat) ≤ 16 ∧
    (rowOf Reg.GLB_SCRATCH).all (fun r => r.rw < 2 ^ 32) = true ∧ Reg.GLB_SCRATCH < 0x070000 ∧
    live.reqReaches 0 = true ∧ live.denyReason 0 0x10 (some 1) = none ∧ live.denyReason 0 (0x10 + 4) (some (setWins (0x10 + 4) 2 0)) = none ∧
    live.domOff 0x10 = false ∧ (rowOf (Reg.EVT_STAT 0)).map (fun r => r.width) = some .word ∧
    Reg.EVT_STAT 0 % 8 = 0 ∧ (rowOf (Reg.EVT_STAT 0 + 4)).isSome = true ∧ live.domOff (Reg.EVT_STAT 0) = false ∧
    live.denyReason 0 (Reg.EVT_STAT 0) (some 1) = none ∧ live.denyReason 0 (Reg.EVT_STAT 0 + 4) (some 1) = none := by decide +kernel

/-- Channel 127 in a phase, with a descriptor: op, words, source and destination. -/
def chan127 (ph : TxePhase) (w0 len : Nat) : State :=
  { live.put Fld.HL_STAT_up 1 with txe := [(127, { TxeCh.init with phase := ph, desc := some ⟨w0, len, 0x100, 0x200⟩ })] }

theorem test_TransferRings_witness : live.loaded = true ∧ (live.txeCh 127).phase ≠ .fetching ∧ (live.txeCh 127).phase ≠ .flushing ∧
    ((chan127 .fetching 0 4).txeCh 127).phase = .fetching ∧ ((chan127 .flushing 0 4).txeCh 127).phase = .flushing ∧
    live.txeRefusal 127 ⟨0x21, 0x10000000, 0, 0⟩ ≠ 0 ∧ live.txeRefusal 127 ⟨1, 0x10000000, 0, 0⟩ = 0 ∧
    live.txeRefusal 127 ⟨0x27, 96 * 2 ^ 20, 0, 0⟩ = 0 ∧ bit 0x27 5 = true ∧ bits 0x27 3 1 = 3 := by decide +kernel

theorem test_TransferDrips_witness :
    (let s := chan127 .running 0 8
     s.loaded = true ∧ (s.txeCh 127).desc = some ⟨0, 8, 0x100, 0x200⟩ ∧ s.txeNow = some 127 ∧ bit 0 5 = false ∧ bits 0 3 1 = 0 ∧
     4 ≤ Nat.min 32768 8 ∧ s.pourCh 127 = false ∧ s.flag (Fld.TXE_CTRL_pause 127) = false) ∧
    (chan127 .idle 0 8).txeNow ≠ some 127 ∧ bits 2 3 1 = 1 ∧ bits 4 3 1 = 2 ∧ bits 6 3 1 = 3 ∧ bit 6 5 = false ∧ bit 0x20 5 = true ∧
    bits 0x20 3 1 = 0 ∧ (chan127 .running 0x20 8).txeNow = some 127 ∧ (chan127 .running 2 8).txeNow = some 127 ∧
    (chan127 .running 4 8).txeNow = some 127 ∧ (chan127 .running 6 8).txeNow = some 127 ∧
    Nat.min (Nat.min 32768 8) ([1, 2, 3, 4, 5].length / 4 * 4) = 4 ∧
    (let s := { live with txe := [(127, { TxeCh.init with reset := true, desc := some ⟨0, 8, 0x100, 0x200⟩ })] }
     (s.txeCh 127).reset = true ∧ s.bufBad 127 4 = [] ∧ (live.txeCh 127).reset = false) ∧
    { live with palFlip := [(8192 * 127, 3)] }.bufBad 127 4 ≠ [] ∧
    (let s := { live.put (Fld.TXE_CTRL_pause 127) 1 with txe := [(127, { TxeCh.init with phase := .running, paused := true })] }
     s.flag (Fld.TXE_CTRL_pause 127) = true ∧ s.pourCh 127 = false ∧ (s.txeCh 127).phase = .running ∧ (s.txeCh 127).drip = false ∧
     (s.txeCh 127).paused = true ∧ (s.txeCh 127).unit = false) ∧
    (let s := { live.put (Fld.TXE_CTRL_pause 127) 1 with
        txe := [(127, { TxeCh.init with phase := .running, unit := true, desc := some ⟨6, 8, 0, 0⟩ })] }
     (s.flag (Fld.TXE_CTRL_pause 127) && !s.pourCh 127 || (s.txeCh 127).drain) = true ∧ (s.txeCh 127).unit = true ∧
     (s.txeCh 127).drip = false) ∧
    (let s := { live with txe := [(127, { TxeCh.init with drained := true })] }
     (s.txeCh 127).drained = true ∧ (s.txeCh 127).drain = false ∧ s.pourCh 127 = false ∧ s.flag (Fld.TXE_CTRL_pause 127) = false) := by
  decide +kernel

/-- Controller 3 enabled, and message definition 63 for its standard frames of every kind with identifier 0. -/
def bridged : State := (((live.put (Fld.SIG_CAN_CFG_enable 3) 1).put (Fld.SIG_MSG_ID_enable 63) 1).put (Fld.SIG_MSG_CFG_ctrl 63) 8).put
  (Fld.SIG_MSG_CFG_kind 63) 3

theorem test_VehicleInputs_witness : live.loaded = true ∧ live.canTakes 3 0 = false ∧ bridged.msgOf 3 0 false 1 = none ∧
    bridged.canTakes 3 0 = true ∧ bridged.canTakes 3 3 = false ∧ bridged.msgOf 3 0 false 0 = some 63 := by decide +kernel

/-- Glue bus 1 with a transfer in hand. -/
def glued : State := { live with sig := { live.sig with gm := [(1, ⟨0x50, true, false, 0, 4, [], 0, false⟩)] } }

theorem test_GlueAndTargets_witness :
    tget? glued.sig.gm 1 = some ⟨0x50, true, false, 0, 4, [], 0, false⟩ ∧ live.runs = true ∧ live.loaded = true ∧ live.domHurt 146 = false ∧
    (live.put (Fld.BIST_DOM_fenced 146) 1).domHurt 146 = true ∧ bit 0x80000000 31 = true ∧
    bit (live.reg (Reg.SIG_GM_XFER 1)).toNat 31 = false ∧
    (live.setReg (Reg.SIG_GM_XFER 1) 0).flag (Fld.SIG_GM_CFG_enable 1) = false ∧
    ((live.put (Fld.SIG_GM_CFG_enable 1) 1).setReg (Reg.SIG_GM_XFER 1) 0).flag (Fld.SIG_GM_CFG_enable 1) = true ∧
    bit live.sig.stuck 1 = false ∧ (25 : Nat) = 24 + (1 : Fin 2).val ∧ 4 ≤ (4 : Fin 256).val ∧
    ((live.put Fld.SIG_I2CT_CFG_enable 1).put Fld.SIG_I2CT_CFG_addr 0x50).i2ctOn 0x50 = true := by decide +kernel

/-- Unit 14 scans 8 bytes of the register space. -/
def scanning (ab : Bool) : State :=
  { ((live.put (Fld.CHK_STAT_taker 14) 2).put (Fld.CHK_SCAN_LEN_length 14) 8) with chk := [(14, ⟨0, false, 0, ab, (0, 8, 0), []⟩)] }

theorem test_CheckUnits_witness :
    2 ^ 28 - 1 < 2 ^ 28 ∧ live.flag (Fld.CHK_CTRL_cmp 15) = false ∧
    (let u := (live.put (Fld.CHK_CTRL_cmp 15) 1).put (Fld.CHK_RESULT_value 15) 1
     u.flag (Fld.CHK_CTRL_cmp 15) = true ∧
     u.get (Fld.CHK_RESULT_value 15) ≠ u.get (Fld.CHK_EXPECT_value 15) % 2 ^ (chkPoly (u.get (Fld.CHK_CTRL_poly 15))).1) ∧
    ((scanning false).chkTaker 14 ≠ 0) ∧ live.chkTaker 14 = 0 ∧ live.get (Fld.CHK_SCAN_LEN_length 14) = 0 ∧
    (let u := (live.put (Fld.CHK_SCAN_LEN_length 14) 4).put (Fld.CHK_SCAN_START_start 14) 0xFFFFFC
     u.chkTaker 14 = 0 ∧ u.get (Fld.CHK_SCAN_LEN_space 14) < 3 ∧ u.get (Fld.CHK_SCAN_START_start 14) % 4 = 0 ∧
     u.get (Fld.CHK_SCAN_LEN_length 14) % 4 = 0 ∧ 0 < u.get (Fld.CHK_SCAN_LEN_length 14) ∧
     u.get (Fld.CHK_SCAN_START_start 14) + u.get (Fld.CHK_SCAN_LEN_length 14) ≤ scanSize 0) ∧
    live.loaded = true ∧ (∀ n < 15, (live.advance 0).chkTaker n ≠ 2) ∧
    (let a := (scanning false).advance 0
     a.chkTaker 14 = 2 ∧ (∀ m < 14, a.chkTaker m ≠ 2) ∧ (a.unit 14).abort = false ∧ (a.unit 14).scan = (0, 8, 0)) ∧
    (((scanning true).advance 0).unit 14).abort = true := by decide +kernel

/-- The link up with n frames not acknowledged and r replays done. -/
def linked (n r : Nat) : State := { live.put Fld.ERK_STAT_up 1 with erk := { Erk.init with txSeq := n, reps := [(0, r)] } }

theorem test_ErkuharLink_witness : live.loaded = true ∧ live.flag Fld.ERK_STAT_up = false ∧
    (linked 0 0).flag Fld.ERK_STAT_up = true ∧ (linked 0 0).erk.open_ = 0 ∧ (linked 1 6).erk.open_ ≠ 0 ∧ tget (linked 1 7).erk.reps 0 0 = 7 ∧ (linked 0 0).fiOn = false ∧ (linked 0 0).reord = [] ∧
    { (linked 255 0).erk with store := List.replicate 255 (0, []) }.store.length < 256 := by decide +kernel

/-- Mirror 7 receives windows of stream 31, and has begun one. -/
def mirrored : State := { ((((linked 0 0).put (Fld.ERK_MIR_CFG_enable 7) 1).put (Fld.ERK_MIR_CFG_dir 7) 1).put (Fld.ERK_MIR_CFG_stream 7) 31).put
  (Fld.ERK_MIR_CFG_windows 7) 0x20 with erk := { Erk.init with ins := [⟨7, 0, 5, 9, [1, 2]⟩] } }

theorem test_ErkuharFrames_witness : live.loaded = true ∧
    mirrored.erk.ins.find? (fun (z : ErkIn) => z.m == 7 && z.w == 5) = some ⟨7, 0, 5, 9, [1, 2]⟩ ∧
    (List.replicate 48 0).length = 48 ∧ (List.replicate 16 (0 : Byte)).length = 16 := by decide +kernel

/-- A census check in progress at member i of set m. -/
def checking (m i run : Nat) : State := { live with cen := { live.cen with cur := some (m, i, run) } }

theorem test_CensusAndDigest_members : 0 + 256 < (setMembers 152).length := by
  have h : (setMembers 152).length = (((allRows.filter (fun r => !(r.img == 0))).flatMap (fun r => (rowOffs r).map (fun o =>
      (o, r.img)))).filter (fun e : Nat × Nat => Machine.setOf e.1 == 152)).length :=
    ((List.mergeSort_perm _ _).filter _).length_eq
  rw [h]
  decide +kernel

/-- Set m is being checked anew from member i, or waits for its repair. -/
def repairing (m i : Nat) (s : State) : State := { s with cen := { s.cen with re := [(m, i, 0)], fix := [(m, true)] } }

theorem test_CensusAndDigest_repair : live.cen.re = [] ∧ live.cen.fix = [] ∧ (repairing 152 0 live).cen.re = [(152, 0, 0)] ∧
    { (repairing 152 0 live) with cen := { live.cen with fix := [(152, true)] } }.cen.fix = [(152, true)] ∧
    (repairing 152 0 live).cenSkip 152 = false ∧ (152 : Nat) ≤ 152 ∧
    (live.put Fld.CEN_CTRL_repair_dom 1).flag Fld.CEN_CTRL_repair_dom = true ∧ tget? live.cen.fixed 152 = none := by decide +kernel

theorem test_CensusAndDigest_witness : live.loaded = true ∧ live.cen.cur = none ∧
    (checking 151 0 0).cen.cur = some (151, 0, 0) ∧ (151 : Nat) ≠ 153 ∧
    { live with doms := [] }.cenSkip 151 = true ∧ (checking 152 0 0).cenSkip 152 = false ∧
    (setMembers 152).length ≤ (setMembers 152).length + 256 ∧ (checking 152 0 0).get (Fld.CEN_SET_GOLD_golden 152) = crc32cFrom 0 [] ∧
    (checking 152 0 1).get (Fld.CEN_SET_GOLD_golden 152) ≠ crc32cFrom 1 [] ∧
    live.cenHits 0 [] 0 0 = true ∧ live.cenHits 227 [] 0 0 = false ∧ live.get (Fld.CEN_SET_STAT_state 152) ≠ 3 ∧ live.cen.stop.contains 152 = false ∧ live.flag Fld.CEN_CTRL_repair_dom = false := by
  refine ⟨by decide +kernel, by decide +kernel, rfl, by decide, by decide +kernel, by decide +kernel, Nat.le_add_right _ _, ?_⟩
  decide +kernel

theorem test_SelfTestCommands_witness : live.loaded = true ∧ (live.advance 0).bist = none ∧ bistBlock 150 ≠ [] ∧ bistBlock 147 ≠ [] ∧
    ({ live with bist := some (135, 1) }.advance 0).bist = some (135, 1) ∧ (135 : Nat) ≠ 134 ∧
    (true && bistLogic 83 || false) = true ∧ (true && bistLogic 84 || false) = false := by decide +kernel

/-- A journal operation in hand. -/
def writing (k : JKind) : State := { live with life := { live.life with op := some ⟨k, 0x03000000, [], false⟩ } }

theorem test_CalendarAndJournal_witness : { State.reset with phase := .off }.phase = .off ∧ live.phase ≠ .off ∧
    live.warm.calSet = none ∧ { live.warm with calSet := some 1 }.calSet = some 1 ∧ live.runs = true ∧ live.life.op = none ∧
    (writing (.record 2)).life.op = some ⟨.record 2, 0x03000000, [], false⟩ ∧ (writing (.record 2)).life.supwAt = none ∧
    (writing (.erase 63)).life.op = some ⟨.erase 63, 0x03000000, [], false⟩ ∧ State.reset.runs = false := by decide +kernel

end Sys2Proof.Tests
end

section
/-! ## Chapter 15: fields of the events unit after an occurrence (R432) -/

namespace Sys2Proof.Machine

variable (s : State)

/-- A message changes no field but the count of messages that were not sent (R437). -/
theorem msiSend_get (fn vec : Nat) (f : Fld) (h : f.off ≠ Reg.EVT_MSI_DROP) :
    (s.msiSend fn vec).get f = s.get f := by
  rw [State.get, State.get, msiSend_reg fn vec f.off s h]

/-- A rise changes no field but the count of messages that were not sent (R435). -/
theorem srcRise_get (n : Nat) (f : Fld) (h : f.off ≠ Reg.EVT_MSI_DROP) : (s.srcRise n).get f = s.get f := by
  rw [State.get, State.get, srcRise_reg n f.off s h]

/-- An occurrence leaves the fields of every register but its own two and the count of messages not sent. -/
theorem raise_get_ne (n : Nat) (f : Fld) (h : f.off ≠ Reg.EVT_MSI_DROP) (h1 : f.off ≠ Reg.EVT_STAT (n / 32))
    (h2 : f.off ≠ Reg.EVT_CNT n) : (s.raise n).get f = s.get f := by
  rw [State.get, State.get, raise_reg_ne s n f.off h h1 h2]

/-- The record that the first occurrence of a source in a cycle leaves, before any rise (R432). -/
def State.recordOcc (s : State) (n : Nat) : State :=
  ({ s with hot := n :: s.hot }.put (fStat n) 1).bump (Fld.EVT_CNT_count n)

/-- A source that has occurred in the cycle already only has its status bit set again. -/
theorem raise_of_hot {n : Nat} (h : s.hot.contains n = true) : s.raise n = s.put (fStat n) 1 := by
  unfold State.raise
  rw [if_pos h]

/-- The first occurrence of a source in a cycle is its record, and a rise where the source becomes active. -/
theorem raise_of_fresh {n : Nat} (h : s.hot.contains n = false) :
    s.raise n = if !s.srcActive n && (s.recordOcc n).srcActive n then (s.recordOcc n).srcRise n else s.recordOcc n := by
  unfold State.raise
  rw [h]
  rfl

/-- A first occurrence leaves what its record leaves in every field but the count of messages not sent. -/
theorem raise_get_of_fresh {n : Nat} (f : Fld) (h : s.hot.contains n = false) (hf : f.off ≠ Reg.EVT_MSI_DROP) :
    (s.raise n).get f = (s.recordOcc n).get f := by
  rw [raise_of_fresh s h]
  split
  · exact srcRise_get _ n f hf
  · rfl

/-! ### Where the fields of a source stand -/

/-- No status word stands at the count of messages not sent. -/
theorem fStat_off_ne_drop (n : Nat) : (fStat n).off ≠ Reg.EVT_MSI_DROP := by
  simp only [fStat, Reg.EVT_STAT, Reg.EVT_MSI_DROP]
  omega

/-- No counter stands at the count of messages not sent. -/
theorem cnt_off_ne_drop (n : Nat) : (Fld.EVT_CNT_count n).off ≠ Reg.EVT_MSI_DROP := by
  simp only [Fld.EVT_CNT_count, Reg.EVT_CNT, Reg.EVT_MSI_DROP]
  omega

/-- No status word stands at a counter. -/
theorem fStat_off_ne_cnt {m : Nat} (n : Nat) (hm : m < 1536) : (fStat m).off ≠ Reg.EVT_CNT n := by
  simp only [fStat, Reg.EVT_STAT, Reg.EVT_CNT]
  omega

/-- Each source has a counter of its own. -/
theorem cnt_off_ne_cnt {m n : Nat} (h : m ≠ n) : Reg.EVT_CNT m ≠ Reg.EVT_CNT n := by
  simp only [Reg.EVT_CNT]
  omega

/-- Two sources of one status word have different bits. -/
theorem fStat_disj {m n : Nat} (h : m ≠ n) (hw : m / 32 = n / 32) :
    (fStat m).hi < (fStat n).lo ∨ (fStat n).hi < (fStat m).lo := by
  simp only [fStat]
  omega

/-- A status bit lies within its word. -/
theorem fStat_hi_lt (n : Nat) : (fStat n).hi < 32 := Nat.mod_lt _ (by decide)

/-! ### Status and counter -/

/-- A status bit after one has been set. -/
theorem get_fStat_setStatus (m n : Nat) :
    (s.put (fStat n) 1).get (fStat m) = if m = n then 1 else s.get (fStat m) := by
  split
  · next h =>
    subst h
    rw [State.get_put_same s _ _ (Nat.le_refl _) (fStat_hi_lt m)]
    simp [fStat]
  · next h =>
    by_cases hw : m / 32 = n / 32
    · exact State.get_put_disj s _ (Nat.le_refl _) (fStat_hi_lt n) (fStat_disj h hw)
    · exact State.get_put_ne s _ (by simp only [fStat, Reg.EVT_STAT]; omega)

/-- The status bits after a record. -/
theorem recordOcc_status {m : Nat} (n : Nat) (hm : m < 1536) :
    (s.recordOcc n).get (fStat m) = if m = n then 1 else s.get (fStat m) := by
  have hb : (s.recordOcc n).get (fStat m) = ({ s with hot := n :: s.hot }.put (fStat n) 1).get (fStat m) :=
    State.get_put_ne _ _ (fStat_off_ne_cnt n hm)
  rw [hb, get_fStat_setStatus]
  rfl

/-- The counters after a record. -/
theorem recordOcc_count {m n : Nat} (hn : n < 1536) :
    (s.recordOcc n).get (Fld.EVT_CNT_count m) =
      if m = n then Nat.min 0xFFFF (s.get (Fld.EVT_CNT_count m) + 1) else s.get (Fld.EVT_CNT_count m) := by
  have hset : ∀ k, ({ s with hot := n :: s.hot }.put (fStat n) 1).get (Fld.EVT_CNT_count k) = s.get (Fld.EVT_CNT_count k) :=
    fun k => State.get_put_ne _ _ (fStat_off_ne_cnt k hn).symm
  split
  · next h =>
    subst h
    rw [State.recordOcc, State.get_bump _ _ (Nat.zero_le _) (by decide : 15 < 32), hset]
    rfl
  · next h => exact (State.get_put_ne _ _ (cnt_off_ne_cnt h)).trans (hset m)

/-- A record leaves the fields of the other registers. -/
theorem recordOcc_get_ne {n : Nat} {f : Fld} (h1 : f.off ≠ Reg.EVT_STAT (n / 32)) (h2 : f.off ≠ Reg.EVT_CNT n) :
    (s.recordOcc n).get f = s.get f :=
  (State.get_put_ne _ _ h2).trans (State.get_put_ne _ _ h1)

/-- A record leaves the route of its source. -/
theorem recordOcc_route {n : Nat} {f : Fld} (hf : f.off = Reg.EVT_ROUTE n) :
    (s.recordOcc n).get f = s.get f := by
  apply recordOcc_get_ne <;> simp only [hf, Reg.EVT_ROUTE, Reg.EVT_STAT, Reg.EVT_CNT] <;> omega

/-- A record leaves the enables. -/
theorem recordOcc_enable (n : Nat) : (s.recordOcc n).flag (fEn n) = s.flag (fEn n) := by
  have hget : (s.recordOcc n).get (fEn n) = s.get (fEn n) := by
    apply recordOcc_get_ne <;> simp only [fEn, Reg.EVT_EN, Reg.EVT_STAT, Reg.EVT_CNT] <;> omega
  rw [State.flag, State.flag, hget]

/-- The status bits after an occurrence: that of the source is set, the others stay (R432). -/
theorem raise_status {m : Nat} (n : Nat) (hm : m < 1536) :
    (s.raise n).get (fStat m) = if m = n then 1 else s.get (fStat m) := by
  cases h : s.hot.contains n with
  | true => rw [raise_of_hot s h, get_fStat_setStatus]
  | false => rw [raise_get_of_fresh s _ h (fStat_off_ne_drop m), recordOcc_status s n hm]

/-- The counters after an occurrence: that of the source counts once in a cycle, the others stay (R432). -/
theorem raise_count {m n : Nat} (hn : n < 1536) :
    (s.raise n).get (Fld.EVT_CNT_count m) =
      if m = n ∧ s.hot.contains n = false then Nat.min 0xFFFF (s.get (Fld.EVT_CNT_count m) + 1)
      else s.get (Fld.EVT_CNT_count m) := by
  cases h : s.hot.contains n with
  | true =>
    rw [raise_of_hot s h, State.get_put_ne s _ (fStat_off_ne_cnt m hn).symm]
    simp
  | false =>
    rw [raise_get_of_fresh s _ h (cnt_off_ne_drop m), recordOcc_count s hn]
    simp

/-- Settles O6, from the status bits and the counters after an occurrence, and its frame over the registers. -/
theorem occurrenceRecords : Obligations.OccurrenceRecords := by
  intro s n hn
  refine ⟨?_, ?_, fun m hm hmn => ⟨?_, ?_⟩, fun m hm => ⟨?_, ?_⟩, fun off ho => State.raise_reg s n off hn ho⟩
  · rw [raise_status s n hn, if_pos rfl]
  · rw [raise_count s hn]
    cases s.hot.contains n <;> simp
  · rw [raise_status s n hm, if_neg hmn]
  · rw [raise_count s hn, if_neg (fun h => hmn h.1)]
  · apply raise_get_ne <;> simp only [fEn, Reg.EVT_EN, Reg.EVT_MSI_DROP, Reg.EVT_STAT, Reg.EVT_CNT] <;> omega
  · apply raise_reg_ne <;> simp only [Reg.EVT_ROUTE, Reg.EVT_MSI_DROP, Reg.EVT_STAT, Reg.EVT_CNT] <;> omega

end Sys2Proof.Machine
end

section
/-! ## Chapter 15: messages (R306, R309, R437, R438) -/

namespace Sys2Proof.Machine

variable (s : State)

/-- The entry of a key that has been set. -/
theorem tget_tset_same {α : Type} (t : Tbl α) (k : Nat) (v d : α) : tget (tset t k v) k d = v := by
  induction t with
  | nil => simp [tset, tget]
  | cons e rest ih =>
    obtain ⟨k', v'⟩ := e
    unfold tset
    split
    · simp [tget]
    · split
      · simp [tget]
      · next hne => simpa only [tget, hne, Bool.false_eq_true, if_false] using ih

/-- The entry of a key that has been changed. -/
theorem tget_tmod_same {α : Type} (t : Tbl α) (k : Nat) (d : α) (f : α → α) : tget (tmod t k d f) k d = f (tget t k d) :=
  tget_tset_same t k _ d

/-! ### What goes to the host -/

/-- On a link that is awake, with its controller on and nothing waiting, an output goes to the host at once (R309). -/
theorem hlPost_goes (o : Out) (hlow : s.linkLow = false) (hdom : s.dom 134 = .on) (hheld : tget s.outHeld 4 [] = []) :
    s.hlPost o = s.emit o := by
  unfold State.hlPost
  rw [hlow, hdom, hheld]
  rfl

/-- Otherwise it waits behind what waits already, after the call of an exit (R41, R309). -/
theorem hlPost_waits (o : Out) (h : s.linkLow = true ∨ s.dom 134 ≠ .on ∨ tget s.outHeld 4 [] ≠ []) :
    s.hlPost o = { s.exitCall with outHeld := tmod s.outHeld 4 [] (fun l => l ++ [o]) } := by
  unfold State.hlPost
  refine if_neg (fun hgo => ?_)
  simp only [Bool.and_eq_true, Bool.not_eq_true', beq_iff_eq, List.isEmpty_iff] at hgo
  obtain ⟨⟨hlow, hdom⟩, hheld⟩ := hgo
  simp [hlow, hdom, hheld] at h

/-- An exit is called from a low-power state alone, for the first output that waits (R309). -/
theorem exitCall_out : s.exitCall.out = s.out ∨
    s.linkLow = true ∧ tget s.outHeld 4 [] = [] ∧ .linkExit ∈ s.exitCall.out := by
  unfold State.exitCall
  split
  · next h =>
    simp only [Bool.and_eq_true, List.isEmpty_iff] at h
    exact Or.inr ⟨h.1, h.2, List.mem_cons_self ..⟩
  · exact Or.inl rfl

/-! ### A message by the state of its function -/

/-- What a message carries: the address and the data of its vector (R306). -/
def State.msixOut (s : State) (fn vec : Nat) : Out :=
  .msix fn (s.msixWord fn (16 * vec) + 2 ^ 32 * s.msixWord fn (16 * vec + 4)) (s.msixWord fn (16 * vec + 8))

/-- A message that its function or the link does not allow is counted (R437). -/
theorem msiSend_dropped {fn : Nat} (vec : Nat) (h : s.msiMay fn = false) :
    s.msiSend fn vec = s.bump Fld.EVT_MSI_DROP_count := by
  unfold State.msiSend
  rw [h]
  rfl

/-- A message to a masked vector is left pending (R306, R437). -/
theorem msiSend_masked {fn vec : Nat} (h : s.msiMay fn = true) (hm : s.msiMasked fn vec = true) :
    s.msiSend fn vec =
      { s with msixPend := if s.msixPend.contains (vecKey fn vec) then s.msixPend else s.msixPend ++ [vecKey fn vec] } := by
  unfold State.msiSend
  rw [h, hm]
  rfl

/-- Any other message goes to the host. -/
theorem msiSend_posted {fn vec : Nat} (h : s.msiMay fn = true) (hm : s.msiMasked fn vec = false) :
    s.msiSend fn vec = s.hlPost (s.msixOut fn vec) := by
  unfold State.msiSend
  rw [h, hm]
  rfl

/-- A masked vector is pending after a message. -/
theorem msiSend_pends {fn vec : Nat} (h : s.msiMay fn = true) (hm : s.msiMasked fn vec = true) :
    (s.msiSend fn vec).msixPend.contains (vecKey fn vec) = true := by
  rw [msiSend_masked s h hm]
  cases hp : s.msixPend.contains (vecKey fn vec) with
  | true => rw [if_pos rfl, hp]
  | false => simp

/-- Without moderation a message that falls due is sent (R438). -/
theorem msiDue_unmoderated (fn vec : Nat) {mod : Nat} (h : s.modInterval mod = 0) : s.msiDue fn vec mod = s.msiSend fn vec := by
  unfold State.msiDue
  rw [h]
  rfl

/-- The pending message of a vector without a mask falls due (R437). -/
theorem msiUnmasked_due {fn vec : Nat} (hp : s.msixPend.contains (vecKey fn vec) = true) (hm : s.msiMasked fn vec = false) :
    s.msiUnmasked fn vec =
      { s with msixPend := s.msixPend.filter (fun k => !(k == vecKey fn vec)) }.msiDue fn vec (s.vecMod fn vec) := by
  unfold State.msiUnmasked
  exact if_pos (by rw [hp, hm]; rfl)

/-- Settles O8, by the three things that a message can come to, and the two ways of one that goes to the host. -/
theorem messagesByFunctionState : Obligations.MessagesByFunctionState := by
  constructor
  · intro s fn vec
    refine ⟨fun n _ => msiSend_get s fn vec _ (fStat_off_ne_drop n), fun hmay => msiSend_dropped s vec hmay,
      fun hmay hmask => ⟨?_, msiSend_pends s hmay hmask⟩, fun hmay hmask => ⟨fun hlow hdom hheld => ?_, fun hwait => ?_⟩⟩
    · rw [msiSend_masked s hmay hmask]
    · exact (msiSend_posted s hmay hmask).trans (hlPost_goes s _ hlow hdom hheld)
    · have hpost := (msiSend_posted s hmay hmask).trans (hlPost_waits s (s.msixOut fn vec) hwait)
      refine ⟨?_, ?_, ?_⟩
      · rw [msiSend_posted s hmay hmask]
        exact hlPost_eq _ s
      · rw [hpost]
        exact tget_tmod_same s.outHeld 4 [] (fun l => l ++ [s.msixOut fn vec])
      · rw [hpost]
        exact exitCall_out s
  · intro s fn vec hpend hfn hvec
    have hmask : s.msiMasked fn vec = false := by
      unfold State.msiMasked
      rw [hfn, hvec]
      rfl
    have hdue := msiUnmasked_due s hpend hmask
    exact ⟨hdue, fun hmod => hdue.trans (msiDue_unmoderated _ fn vec hmod)⟩

end Sys2Proof.Machine
end

section
/-! ## Chapter 15: a status bit written 1 in the cycle of an occurrence (R433) -/

namespace Sys2Proof.Machine

variable (s : State)

/-! ### The cycle's list of sources -/

/-- A message leaves the cycle's list of sources. -/
@[simp] theorem msiSend_hot (fn vec : Nat) : (s.msiSend fn vec).hot = s.hot := by
  unfold State.msiSend
  split
  · rfl
  · split
    · rfl
    · rw [hlPost_eq]

/-- A message that falls due leaves it. -/
@[simp] theorem msiDue_hot (fn vec mod : Nat) : (s.msiDue fn vec mod).hot = s.hot := by
  unfold State.msiDue
  simp only
  split
  · exact msiSend_hot s fn vec
  · split
    · rfl
    · exact msiSend_hot s fn vec

/-- A rise leaves it. -/
@[simp] theorem srcRise_hot (n : Nat) : (s.srcRise n).hot = s.hot := by
  unfold State.srcRise
  split
  · exact msiDue_hot s _ _ _
  · rfl

/-- A source is among the cycle's sources after an occurrence where it was, or where it is the one that occurs. -/
theorem raise_hot_contains (m n : Nat) : (s.raise n).hot.contains m = (m == n || s.hot.contains m) := by
  cases h : s.hot.contains n with
  | true =>
    rw [raise_of_hot s h, State.put_hot]
    by_cases hmn : m = n
    · subst hmn
      rw [h, Bool.or_true]
    · simp [hmn]
  | false =>
    have hhot : (s.raise n).hot = n :: s.hot := by
      rw [raise_of_fresh s h]
      split
      · exact srcRise_hot _ n
      · rfl
    rw [hhot, List.contains_cons]

/-! ### Several occurrences in one cycle -/

/-- The status bits after the occurrences of a list. -/
theorem raiseAll_status {m : Nat} (l : List Nat) (hm : m < 1536) :
    (forEach l (fun n s => s.raise n) s).get (fStat m) = if m ∈ l then 1 else s.get (fStat m) := by
  induction l generalizing s with
  | nil => rfl
  | cons n rest ih =>
    refine (ih (s.raise n)).trans ?_
    rw [raise_status s n hm]
    by_cases hr : m ∈ rest <;> simp [hr]

/-- A source of the list that has not occurred yet in the cycle counts once, however often the list names it (R432). -/
theorem raiseAll_count (l : List Nat) (hl : ∀ n ∈ l, n < 1536) (m : Nat) :
    (forEach l (fun n s => s.raise n) s).get (Fld.EVT_CNT_count m) =
      if m ∈ l ∧ s.hot.contains m = false then Nat.min 0xFFFF (s.get (Fld.EVT_CNT_count m) + 1)
      else s.get (Fld.EVT_CNT_count m) := by
  induction l generalizing s with
  | nil => simp [forEach]
  | cons n rest ih =>
    refine (ih (s.raise n) (fun k hk => hl k (List.mem_cons_of_mem _ hk))).trans ?_
    rw [raise_hot_contains, raise_count s (hl n (List.mem_cons_self ..))]
    by_cases hmn : m = n
    · subst hmn
      simp
    · simp [hmn]

/-! ### The status word as bits -/

/-- A status bit is a bit of its word. -/
theorem get_fStat (n : Nat) : s.get (fStat n) = b2n ((s.reg (Reg.EVT_STAT (n / 32))).getLsbD (n % 32)) := by
  have hbits : s.get (fStat n) = (s.reg (Reg.EVT_STAT (n / 32))).toNat >>> (n % 32) % 2 := by
    simp [State.get, fldGet, fStat, bits]
  rw [hbits, BitVec.getLsbD, Nat.testBit_eq_decide_div_mod_eq, Nat.shiftRight_eq_div_pow]
  rcases Nat.mod_two_eq_zero_or_one ((s.reg (Reg.EVT_STAT (n / 32))).toNat / 2 ^ (n % 32)) with h | h <;> simp [h, b2n]

/-- A bit of a number, as the library names it. -/
theorem bit_eq_testBit (w b : Nat) : bit w b = w.testBit b := by
  rw [bit, Nat.testBit_eq_decide_div_mod_eq, Nat.shiftRight_eq_div_pow]
  rfl

/-- The bits of a mask are its positions. -/
theorem maskOf_testBit (l : List Nat) (b : Nat) : (maskOf l).testBit b = decide (b ∈ l) := by
  have hacc : ∀ acc : Nat, (l.foldl (fun m k => m ||| (1 <<< k)) acc).testBit b = (acc.testBit b || decide (b ∈ l)) := by
    induction l with
    | nil => simp
    | cons k rest ih =>
      intro acc
      rw [List.foldl_cons, ih, Nat.testBit_or, Nat.one_shiftLeft, Nat.testBit_two_pow, Bool.or_assoc]
      simp only [List.mem_cons, Bool.decide_or, eq_comm]
  rw [maskOf, hacc]
  simp

/-- The write mask of a status word names the sources whose object the requester may write (R444). -/
theorem srcWriteMask_testBit (r n : Nat) : (s.srcWriteMask r (n / 32)).testBit (n % 32) = s.srcWrite r n := by
  have hb : n % 32 < 32 := Nat.mod_lt _ (by decide)
  have hn : 32 * (n / 32) + n % 32 = n := Nat.div_add_mod n 32
  rw [State.srcWriteMask, maskOf_testBit]
  simp [hb, hn]

/-- A clear keeps the bits of the word outside its mask. -/
theorem clearStatus_eq (w mask : Nat) :
    s.clearStatus w mask = s.setReg (Reg.EVT_STAT w) (s.reg (Reg.EVT_STAT w) &&& ~~~(BitVec.ofNat 32 mask)) := by
  unfold State.clearStatus
  congr 1
  apply BitVec.eq_of_toNat_eq
  have hnot : 0xFFFFFFFF - mask % 2 ^ 32 < 2 ^ 32 := by omega
  rw [BitVec.toNat_ofNat, BitVec.toNat_and, BitVec.toNat_not, BitVec.toNat_ofNat,
    Nat.mod_eq_of_lt (Nat.and_lt_two_pow _ hnot)]

/-- The status bits after a clear. -/
theorem clearStatus_status (w mask n : Nat) :
    (s.clearStatus w mask).get (fStat n) = if n / 32 = w ∧ mask.testBit (n % 32) = true then 0 else s.get (fStat n) := by
  rw [clearStatus_eq, get_fStat, get_fStat]
  by_cases hw : n / 32 = w
  · subst hw
    have hb : n % 32 < 32 := Nat.mod_lt _ (by decide)
    rw [State.reg_setReg_same, BitVec.getLsbD_and, BitVec.getLsbD_not, BitVec.getLsbD_ofNat]
    cases hm : mask.testBit (n % 32) <;> simp [hb, b2n]
  · rw [State.reg_setReg_ne s _ (by simp only [Reg.EVT_STAT]; omega), if_neg (fun h => hw h.1)]

/-- A clear of status bits leaves the fields of the other registers. -/
theorem clearStatus_get_ne {w : Nat} (mask : Nat) {f : Fld} (h : f.off ≠ Reg.EVT_STAT w) :
    (s.clearStatus w mask).get f = s.get f := by
  rw [State.get, State.get, State.clearStatus, State.reg_setReg_ne s _ h]

/-! ### The command -/

/-- Every status word is a register of one word. -/
theorem isReg_EVT_STAT : ∀ w : Fin 48, isReg (Reg.EVT_STAT w.val) .word = true := by decide

/-- A checked write to a status word clears its bits that are written 1 and whose source's object the requester may write. -/
theorem busWrite_EVT_STAT (r v : Nat) (w : Fin 48) :
    s.busWrite r (Reg.EVT_STAT w.val) v =
      s.busDo r (Reg.EVT_STAT w.val) v (fun s => s.clearStatus w.val (v &&& s.srcWriteMask r w.val)) := by
  have hw := w.isLt
  have hlt : Reg.EVT_STAT w.val < 0x100000 := by simp only [Reg.EVT_STAT]; omega
  refine busWrite_ctl s (isReg_EVT_STAT w) hlt (fun s => ?_)
  have hne : ∀ c, c < 0x30100 → (Reg.EVT_STAT w.val == c) = false := fun c hc => by
    simp only [Reg.EVT_STAT, beq_eq_false_iff_ne]
    omega
  have hout : ∀ lo k, lo + k ≤ 0x30100 → within (Reg.EVT_STAT w.val) lo k = false := fun lo k hk => by
    refine Bool.eq_false_iff.mpr (fun h => ?_)
    simp only [within, Reg.EVT_STAT, Bool.and_eq_true, Nat.ble_eq, Nat.blt_eq] at h
    omega
  have hin : within (Reg.EVT_STAT w.val) (Reg.EVT_STAT 0) 0xC0 = true := by
    simp only [within, Reg.EVT_STAT, Bool.and_eq_true, Nat.ble_eq, Nat.blt_eq]
    omega
  have hidx : (Reg.EVT_STAT w.val - Reg.EVT_STAT 0) / 4 = w.val := by
    simp only [Reg.EVT_STAT]
    omega
  unfold State.writeCtl
  rw [hne Reg.PM_CTRL (by decide), hout (Reg.PM_DCTRL 0) 0x980 (by decide), hne Reg.BOOT_RST_CAUSE (by decide),
    hne Reg.BOOT_CMD (by decide), hne Reg.BOOT_CMT_CTRL (by decide), hout Reg.BOOT_CMT_TARGET 0x10 (by decide),
    hout (Reg.BOOT_CMT_DATA 0) 0x1000 (by decide), hne Reg.BOOT_NOR_CTRL (by decide), hne Reg.EVT_CNT_CLR (by decide),
    hin, hidx]
  rfl

/-- The registers of the events unit stand in no switched domain (R36). -/
theorem domOff_EVT_STAT (w : Fin 48) : s.domOff (Reg.EVT_STAT w.val) = false := by
  have hdom : domainOf (Reg.EVT_STAT w.val) = none := by
    have hlt : Reg.EVT_STAT w.val < 0x050000 := by simp only [Reg.EVT_STAT]; omega
    unfold domainOf
    rw [if_pos (by omega), if_neg (by simp [hlt])]
  unfold State.domOff
  rw [hdom]

/-- A checked access that passes, to a register whose domain is on, is carried out. -/
theorem busDo_passes {r off v : Nat} (f : State → State) (hr : s.reqReaches r = true)
    (hd : s.denyReason r off (some v) = none) (hoff : s.domOff off = false) : s.busDo r off v f = f s := by
  unfold State.busDo
  rw [hr, hd, hoff]
  rfl

/-- A requester that reaches the block finds it running. -/
theorem runs_of_reqReaches {r : Nat} (h : s.reqReaches r = true) : s.runs = true := by
  unfold State.reqReaches at h
  exact (Bool.and_eq_true_iff.mp h).1

/-- In a running block the sources that occur in the cycle of a write are raised in order. -/
theorem occurAll_runs (now : List Nat) (h : s.runs = true) :
    s.occurAll now = forEach (now.filter (fun n => !srcReserved n)) (fun n s => s.raise n) s := by
  unfold State.occurAll
  rw [if_pos h]

/-- What EVENT_STATUS_CLEAR does where its requester passes the check: the clear, then the occurrences, then the end of
the command. -/
theorem exec_eventStatusClear (r : Fin 19) (w : Fin 48) (v : Word) (now : List (Fin 1536)) (hr : s.reqReaches r.val = true)
    (hd : s.denyReason r.val (Reg.EVT_STAT w.val) (some v.toNat) = none) :
    exec (.eventStatusClear r w v now) s = .next (forEach ((now.map Fin.val).filter (fun n => !srcReserved n))
      (fun n s => s.raise n) (s.clearStatus w.val (v.toNat &&& s.srcWriteMask r.val w.val))).settle := by
  have hwrite : s.busWrite r.val (Reg.EVT_STAT w.val) v.toNat =
      s.clearStatus w.val (v.toNat &&& s.srcWriteMask r.val w.val) := by
    rw [busWrite_EVT_STAT, busDo_passes s _ hr hd (domOff_EVT_STAT s w)]
  have hruns : (s.clearStatus w.val (v.toNat &&& s.srcWriteMask r.val w.val)).runs = true := runs_of_reqReaches s hr
  show Host.Outcome.next ((s.busWrite r.val (Reg.EVT_STAT w.val) v.toNat).occurAll (now.map Fin.val)).settle = _
  rw [hwrite, occurAll_runs _ _ hruns]

/-! ### What does not look at the cycle's list of sources -/

/-- An operation that neither reads nor changes the cycle's list of sources. -/
def HotBlind (f : State → State) : Prop := ∀ (s : State) (h : List Nat), f { s with hot := h } = { f s with hot := h }

/-- A loop of such operations is one. -/
theorem HotBlind.forEach {α : Type} {f : α → State → State} (hf : ∀ x, HotBlind (f x)) (l : List α) :
    HotBlind (forEach l f) := by
  intro s h
  induction l generalizing s with
  | nil => rfl
  | cons x rest ih => exact (congrArg (Machine.forEach rest f) (hf x s h)).trans (ih (f x s))

/-- A choice between two of them, by what does not look at the list either, is one. -/
theorem HotBlind.ite {c : State → Bool} {f g : State → State} (hc : ∀ (s : State) (h : List Nat), c { s with hot := h } = c s)
    (hf : HotBlind f) (hg : HotBlind g) : HotBlind (fun s => if c s then f s else g s) := by
  intro s h
  simp only [hc]
  cases c s with
  | true => exact hf s h
  | false => exact hg s h

theorem gpioDrive_hotBlind (n : Nat) : HotBlind (State.gpioDrive n) := by
  intro s h
  have hwant : ({ s with hot := h } : State).gpioWant n = s.gpioWant n := rfl
  unfold State.gpioDrive
  rw [hwant]
  cases s.gpioWant n with
  | none => rfl
  | some v =>
    exact HotBlind.ite (c := fun s => bit s.sig.gpioOut n == v && s.flag ⟨Reg.SIG_GPIO_LVL, n, n⟩ == v) (f := fun s => s)
      (g := fun s => ({ s with sig := { s.sig with gpioOut := putBits s.sig.gpioOut n n (b2n v) } }.put
        ⟨Reg.SIG_GPIO_LVL, n, n⟩ (b2n v)).emit (.pin (.gpio n) v))
      (fun _ _ => rfl) (fun _ _ => rfl) (fun _ _ => rfl) s h

theorem gpioAll_hotBlind : HotBlind State.gpioAll :=
  HotBlind.ite (c := State.loaded) (fun _ _ => rfl) (HotBlind.forEach gpioDrive_hotBlind _) (fun _ _ => rfl)

theorem fcMark_hotBlind (n : Nat) (low : Bool) : HotBlind (State.fcMark n low) := by
  intro s h
  cases low <;> rfl

theorem fcAll_hotBlind : HotBlind State.fcAll := fun s h =>
  HotBlind.forEach (fun n => fcMark_hotBlind n _) _ { s with fcPin := (List.range 8).map s.fcNext } h

theorem drivePins_hotBlind : HotBlind State.drivePins := fun _ _ => rfl

/-- The end of a command forgets the cycle's list of sources. -/
theorem settle_forgets_hot (h : List Nat) : { s with hot := h }.settle = s.settle := by
  unfold State.settle
  rw [gpioAll_hotBlind, fcAll_hotBlind, drivePins_hotBlind]

/-- Neither does the call of an exit look at the list. -/
theorem exitCall_hotBlind : HotBlind State.exitCall := by
  have hpull : HotBlind (fun s => if s.get Fld.HL_STAT_lstate == 4 then s.emit (.pull .clkreqN true) else s) :=
    HotBlind.ite (f := fun s => s.emit (.pull .clkreqN true)) (g := fun s => s) (fun _ _ => rfl) (fun _ _ => rfl)
      (fun _ _ => rfl)
  exact HotBlind.ite (c := fun s => s.linkLow && (tget s.outHeld 4 []).isEmpty)
    (f := fun s => (if s.get Fld.HL_STAT_lstate == 4 then s.emit (.pull .clkreqN true) else s).emit .linkExit)
    (fun _ _ => rfl) (fun s h => congrArg (State.emit · .linkExit) (hpull s h)) (fun _ _ => rfl)

/-- Neither does an output for the host. -/
theorem hlPost_hotBlind (o : Out) : HotBlind (State.hlPost o) := by
  intro s h
  by_cases hwait : s.linkLow = true ∨ s.dom 134 ≠ .on ∨ tget s.outHeld 4 [] ≠ []
  · rw [hlPost_waits s o hwait]
    exact (hlPost_waits { s with hot := h } o hwait).trans
      (congrArg (fun t : State => { t with outHeld := tmod s.outHeld 4 [] (fun l => l ++ [o]) }) (exitCall_hotBlind s h))
  · simp only [not_or, Bool.not_eq_true, ne_eq, not_not] at hwait
    obtain ⟨hlow, hdom, hheld⟩ := hwait
    rw [hlPost_goes s o hlow hdom hheld]
    exact hlPost_goes _ o hlow hdom hheld

/-- A message neither reads nor changes the cycle's list of sources. -/
theorem msiSend_hotBlind (fn vec : Nat) : HotBlind (State.msiSend fn vec) := by
  intro s h
  cases hmay : s.msiMay fn with
  | false =>
    rw [msiSend_dropped s vec hmay]
    exact msiSend_dropped _ vec hmay
  | true =>
    cases hmask : s.msiMasked fn vec with
    | true =>
      rw [msiSend_masked s hmay hmask]
      exact msiSend_masked _ hmay hmask
    | false =>
      rw [msiSend_posted s hmay hmask]
      exact (msiSend_posted { s with hot := h } hmay hmask).trans (hlPost_hotBlind (s.msixOut fn vec) s h)

/-! ### The two parts -/

/-- The end of a command leaves the status bits. -/
theorem get_settle_fStat {n : Nat} (hn : n < 1536) : s.settle.get (fStat n) = s.get (fStat n) := by
  apply State.settle_get <;> simp only [fStat, Reg.EVT_STAT, Reg.SIG_GPIO_LVL] <;> omega

/-- The end of a command leaves the counters. -/
theorem get_settle_cnt {n : Nat} (hn : n < 1536) :
    s.settle.get (Fld.EVT_CNT_count n) = s.get (Fld.EVT_CNT_count n) := by
  apply State.settle_get <;> simp only [Fld.EVT_CNT_count, Reg.EVT_CNT, Reg.SIG_GPIO_LVL] <;> omega

/-- The sources of a list that occur in a cycle: those that no chapter reserves (R429). -/
theorem mem_occurring (now : List (Fin 1536)) (n : Fin 1536) :
    n.val ∈ (now.map Fin.val).filter (fun k => !srcReserved k) ↔ n ∈ now ∧ srcReserved n.val = false := by
  simp only [List.mem_filter, List.mem_map, Bool.not_eq_true', Fin.val_inj, exists_eq_right]

/-- The status bits after EVENT_STATUS_CLEAR with a write value: setting wins over the clear (R433). -/
theorem clearThenOccur_status (r : Nat) (w v : Nat) (l : List Nat) {n : Nat} (hn : n < 1536) :
    (forEach l (fun n s => s.raise n) (s.clearStatus w (v &&& s.srcWriteMask r w))).settle.get (fStat n) =
      if n ∈ l then 1
      else if n / 32 = w ∧ bit v (n % 32) = true ∧ s.srcWrite r n = true then 0 else s.get (fStat n) := by
  rw [get_settle_fStat _ hn, raiseAll_status _ l hn, clearStatus_status]
  by_cases hw : n / 32 = w
  · subst hw
    simp only [Nat.testBit_and, srcWriteMask_testBit, bit_eq_testBit, Bool.and_eq_true]
  · simp only [hw, false_and]

/-- The counters after EVENT_STATUS_CLEAR: a source that occurs counts once (R432, R433). -/
theorem clearThenOccur_count (w mask : Nat) (l : List Nat) (hl : ∀ k ∈ l, k < 1536) (hhot : s.hot = []) {n : Nat}
    (hn : n < 1536) (hw : w < 48) :
    (forEach l (fun n s => s.raise n) (s.clearStatus w mask)).settle.get (Fld.EVT_CNT_count n) =
      if n ∈ l then Nat.min 0xFFFF (s.get (Fld.EVT_CNT_count n) + 1) else s.get (Fld.EVT_CNT_count n) := by
  have hoff : (Fld.EVT_CNT_count n).off ≠ Reg.EVT_STAT w := by
    simp only [Fld.EVT_CNT_count, Reg.EVT_CNT, Reg.EVT_STAT]
    omega
  have hfresh : (s.clearStatus w mask).hot = [] := hhot
  rw [get_settle_cnt _ hn, raiseAll_count _ l hl, clearStatus_get_ne s mask hoff, hfresh]
  simp

/-- With the routes in effect, a source of an unmoderated vector that becomes active sends its message (R435, R438). -/
theorem srcRise_sends (n : Nat) (hroutes : s.routes = true) (hkind : s.get (Fld.EVT_ROUTE_kind n) = 1)
    (hmod : s.get (Fld.EVT_ROUTE_mod n) = 0) :
    s.srcRise n = s.msiSend (s.get (Fld.EVT_ROUTE_fn n)) (s.get (Fld.EVT_ROUTE_vector n)) := by
  unfold State.srcRise
  rw [if_pos (by rw [hroutes, hkind]; rfl), hmod]
  exact msiDue_unmoderated s _ _ rfl

/-- An enabled source whose status bit is 0 becomes active with its first occurrence of a cycle; on an unmoderated vector
that is one message (R435). -/
theorem raise_sends {n : Nat} (hn : n < 1536) (hfresh : s.hot.contains n = false) (hstat : s.get (fStat n) = 0)
    (hen : s.flag (fEn n) = true) (hroutes : s.routes = true) (hkind : s.get (Fld.EVT_ROUTE_kind n) = 1)
    (hmod : s.get (Fld.EVT_ROUTE_mod n) = 0) :
    s.raise n = (s.recordOcc n).msiSend (s.get (Fld.EVT_ROUTE_fn n)) (s.get (Fld.EVT_ROUTE_vector n)) := by
  have hwas : s.srcActive n = false := by
    rw [State.srcActive, State.flag, hstat]
    rfl
  have hnow : (s.recordOcc n).srcActive n = true := by
    rw [State.srcActive, recordOcc_enable s n, hen, State.flag, recordOcc_status s n hn, if_pos rfl]
    rfl
  have hrise := srcRise_sends (s.recordOcc n) n hroutes ((recordOcc_route s rfl).trans hkind)
    ((recordOcc_route s rfl).trans hmod)
  rw [recordOcc_route s (f := Fld.EVT_ROUTE_fn n) rfl, recordOcc_route s (f := Fld.EVT_ROUTE_vector n) rfl] at hrise
  rw [raise_of_fresh s hfresh, hwas, hnow]
  exact hrise

/-- At the end of a command nothing tells a message after a record from one after the record's register writes. -/
theorem settle_msiSend_recordOcc (fn vec n : Nat) :
    ((s.recordOcc n).msiSend fn vec).settle =
      (((s.put (fStat n) 1).bump (Fld.EVT_CNT_count n)).msiSend fn vec).settle := by
  have hblind := msiSend_hotBlind fn vec ((s.put (fStat n) 1).bump (Fld.EVT_CNT_count n)) (n :: s.hot)
  exact (congrArg State.settle hblind).trans (settle_forgets_hot _ _)

/-- The occurrence of an enabled source whose bit a clear of the same cycle covers is a rise, be the bit set before or not:
on an unmoderated vector its message is sent (R433). -/
theorem raise_cleared_sends {n mask : Nat} (hn : n < 1536) (hmask : mask.testBit (n % 32) = true) (hhot : s.hot = [])
    (hen : s.flag (fEn n) = true) (hroutes : s.routes = true) (hkind : s.get (Fld.EVT_ROUTE_kind n) = 1)
    (hmod : s.get (Fld.EVT_ROUTE_mod n) = 0) :
    ((s.clearStatus (n / 32) mask).raise n).settle =
      ((((s.clearStatus (n / 32) mask).put (fStat n) 1).bump (Fld.EVT_CNT_count n)).msiSend
        (s.get (Fld.EVT_ROUTE_fn n)) (s.get (Fld.EVT_ROUTE_vector n))).settle := by
  have hroute : ∀ f : Fld, f.off = Reg.EVT_ROUTE n → (s.clearStatus (n / 32) mask).get f = s.get f := fun f hf =>
    clearStatus_get_ne s mask (by simp only [hf, Reg.EVT_ROUTE, Reg.EVT_STAT]; omega)
  have hfresh : (s.clearStatus (n / 32) mask).hot.contains n = false := by
    rw [State.clearStatus, State.setReg_hot, hhot]
    rfl
  have hstat : (s.clearStatus (n / 32) mask).get (fStat n) = 0 := by
    rw [clearStatus_status, if_pos ⟨rfl, hmask⟩]
  have henable : (s.clearStatus (n / 32) mask).flag (fEn n) = true := by
    rw [State.flag, clearStatus_get_ne s mask (by simp only [fEn, Reg.EVT_EN, Reg.EVT_STAT]; omega)]
    exact hen
  have hsend := raise_sends (s.clearStatus (n / 32) mask) hn hfresh hstat henable hroutes ((hroute _ rfl).trans hkind)
    ((hroute _ rfl).trans hmod)
  rw [hroute (Fld.EVT_ROUTE_fn n) rfl, hroute (Fld.EVT_ROUTE_vector n) rfl] at hsend
  rw [hsend, settle_msiSend_recordOcc]

/-- The word with one bit of a source's place, as a number. -/
theorem toNat_oneShifted {b : Nat} (h : b < 32) : (BitVec.ofNat 32 (1 <<< b)).toNat = 1 <<< b := by
  rw [BitVec.toNat_ofNat, Nat.one_shiftLeft]
  exact Nat.mod_eq_of_lt (Nat.pow_lt_pow_right (by decide) h)

/-- Settles O9: the command is a clear and then the occurrences of its cycle; a cleared bit makes its source's occurrence
a rise, and the end of the command forgets which sources occurred. -/
theorem statusClearSetWins : Obligations.StatusClearSetWins := by
  constructor
  · intro r w v now s hr hd hhot
    have hl : ∀ k ∈ (now.map Fin.val).filter (fun k => !srcReserved k), k < 1536 := fun k hk => by
      obtain ⟨m, _, rfl⟩ := List.mem_map.mp (List.mem_filter.mp hk).1
      exact m.isLt
    refine ⟨_, exec_eventStatusClear s r w v now hr hd, fun n => ⟨fun hnow hres => ?_, fun hout => ?_⟩⟩
    · have hmem := (mem_occurring now n).mpr ⟨hnow, hres⟩
      rw [clearThenOccur_status s _ _ _ _ n.isLt, clearThenOccur_count s _ _ _ hl hhot n.isLt w.isLt, if_pos hmem, if_pos hmem]
      exact ⟨rfl, rfl⟩
    · have hmem : n.val ∉ (now.map Fin.val).filter (fun k => !srcReserved k) := fun hm => by
        obtain ⟨hnow, hres⟩ := (mem_occurring now n).mp hm
        rcases hout with h | h
        · exact h hnow
        · simp [hres] at h
      rw [clearThenOccur_status s _ _ _ _ n.isLt, clearThenOccur_count s _ _ _ hl hhot n.isLt w.isLt, if_neg hmem, if_neg hmem]
      exact ⟨rfl, rfl⟩
  · intro r n s w cleared hr hd hres hwrite hen hroutes hkind hmod hhot
    have hv := toNat_oneShifted (Nat.mod_lt n.val (by decide : 0 < 32))
    have hclear : s.clearStatus w.val (1 <<< (n.val % 32) &&& s.srcWriteMask r.val w.val) = cleared := clearStatus_eq s _ _
    have hmask : (1 <<< (n.val % 32) &&& s.srcWriteMask r.val w.val).testBit (n.val % 32) = true := by
      rw [Nat.testBit_and, srcWriteMask_testBit, hwrite, Nat.one_shiftLeft, Nat.testBit_two_pow_self, Bool.and_self]
    have hone : (([n] : List (Fin 1536)).map Fin.val).filter (fun k => !srcReserved k) = [n.val] := by
      simp [hres]
    rw [exec_eventStatusClear s r w _ [n] hr (by rw [hv]; exact hd), hv, hone, ← hclear]
    exact congrArg Host.Outcome.next (raise_cleared_sends s n.isLt hmask hhot hen hroutes hkind hmod)

end Sys2Proof.Machine
end

section
/-! Proofs/Steps.lean: what every step of the block does: it runs the command at the front of the queue, never stops, keeps
the pins at their rules, and leaves what needs an image or a running Falith undone without one. -/

namespace Sys2Proof.Machine

/-- The pins' rules do not look at the queue. -/
theorem pinsFollow_pending {s : State} (l : List Instr) (h : s.pinsFollow) : ({ s with pending := l } : State).pinsFollow := h

/-- A state that a command leaves follows its rules, where the state before did. -/
theorem Settled.pinsFollow {s t : State} (ht : Settled s t) (h : s.pinsFollow) : t.pinsFollow := by
  rcases ht with rfl | ⟨x, rfl⟩
  · exact h
  · exact settle_follow x

/-- No occurrence outlives the command in whose cycle it falls. -/
theorem Settled.hot_nil {s t : State} (ht : Settled s t) (h : s.hot = []) : t.hot = [] := by
  rcases ht with rfl | ⟨x, rfl⟩
  · exact h
  · rfl

/-- What a step can do: nothing, with an empty queue, or the command at the front, after which the pins have followed. -/
theorem step_cases {s t : State} (h : step s = .next t) : t = s ∨ ∃ rest, Settled { s with pending := rest } t := by
  unfold step at h
  cases hq : s.pending with
  | nil =>
    rw [hq] at h
    cases h
    exact Or.inl rfl
  | cons c rest =>
    rw [hq] at h
    exact Or.inr ⟨rest, exec_settled c _ t h⟩

/-- Settles O3: every command ends in settle or does nothing (exec_settled), and settle brings each pin to its rule
(settle_follow) and forgets the occurrences of the cycle. -/
theorem everyStepKeepsPins : Obligations.EveryStepKeepsPins := by
  refine ⟨fun s t hpins hstep => ?_, fun s t hhot hstep => ?_⟩
  · rcases step_cases hstep with rfl | ⟨rest, ht⟩
    · exact hpins
    · exact ht.pinsFollow (pinsFollow_pending rest hpins)
  · rcases step_cases hstep with rfl | ⟨rest, ht⟩
    · exact hhot
    · exact ht.hot_nil hhot

/-- Settles O1: step looks at the front of the queue and at nothing else. -/
theorem stepRunsFront : Obligations.StepRunsFront := by
  refine ⟨fun c rest s => rfl, fun s hq => ?_⟩
  unfold step
  rw [hq]

/-- Every command answers with a next state. -/
theorem exec_next (c : Instr) (s : State) : ∃ t, exec c s = .next t := by
  cases c <;> exact ⟨_, rfl⟩

/-- Settles O2: every arm of exec answers with a next state, and an empty queue idles. -/
theorem noCommandStopsTheBlock : Obligations.NoCommandStopsTheBlock := by
  refine ⟨exec_next, fun s => ?_⟩
  unfold step
  cases s.pending with
  | nil => exact ⟨s, rfl⟩
  | cons c rest => exact exec_next c _

/-- A command of imageTime is an event: what it does waits for an image. -/
theorem exec_imageTime {i : Instr} {ns : Nat} (h : imageTime i = some ns) (s : State) : ∃ f, exec i s = .next (s.event ns f) := by
  cases i <;> first
    | (cases h; exact ⟨_, rfl⟩)
    | cases h

/-- A command of runTime needs a running Falith. -/
theorem exec_runTime {i : Instr} {ns : Nat} (h : runTime i = some ns) (s : State) : ∃ f, exec i s = .next (s.running ns f) := by
  cases i <;> first
    | (cases h; exact ⟨_, rfl⟩)
    | cases h

/-- Settles O26: each of the commands reaches the block by the shell that checks for an image, or for a running Falith. -/
theorem onlyTimePassesOtherwise : Obligations.OnlyTimePassesOtherwise := by
  refine ⟨fun i ns s hi hs => ?_, fun i ns s hi hs => ?_⟩
  · obtain ⟨f, hf⟩ := exec_imageTime hi s
    rw [hf, event_unloaded ns f s hs]
  · obtain ⟨f, hf⟩ := exec_runTime hi s
    rw [hf, running_stopped ns f s hs]

end Sys2Proof.Machine
end

section
/-! Proofs/Stores.lean: the sparse stores read back what was written, and the flash erases by sectors and programs by clearing
bits (R98). -/

namespace Sys2Proof.Machine

/-- A cell after a write: the written one reads as the value, the others as before. -/
theorem cellGet_put {n : Nat} (d : BitVec n) (m : List (Nat × BitVec n)) (a b : Nat) (v : BitVec n) :
    cellGet d (cellPut d m a v) b = if b = a then v else cellGet d m b := by
  split
  · next h => rw [h, cellGet_put_same]
  · next h => exact cellGet_put_ne h

/-! ## Erasing -/

theorem norErase_get (s : State) (a b : Nat) :
    (s.norErase a).norGet b = if b / 65536 = a / 65536 then 0xFF else s.norGet b := by
  unfold State.norGet State.norErase
  simp only [cellGet_filter (fun k => !(k / 65536 == a / 65536))]
  by_cases h : b / 65536 = a / 65536 <;> simp [h]

/-! ## Programming -/

/-- One programmed byte: its bits are cleared where the new byte has zeros. -/
def State.norProgByte (a : Nat) (e : Nat × Nat) (s : State) : State :=
  { s with nor := cellPut 0xFF#8 s.nor (a + e.1) (cellGet 0xFF#8 s.nor (a + e.1) &&& BitVec.ofNat 8 e.2) }

theorem norProg_eq (a : Nat) (bs : List Nat) (s : State) :
    s.norProg a bs = forEach (List.zip (List.range' 0 bs.length) bs) (State.norProgByte a) s := by
  rw [← List.range_eq_range']
  rfl

theorem norProgByte_get (s : State) (a b : Nat) (e : Nat × Nat) :
    (s.norProgByte a e).norGet b = if b = a + e.1 then s.norGet b &&& (e.2 % 256) else s.norGet b := by
  unfold State.norGet State.norProgByte
  simp only [cellGet_put]
  by_cases h : b = a + e.1
  · rw [if_pos h, if_pos h, h, BitVec.toNat_and, BitVec.toNat_ofNat]
  · rw [if_neg h, if_neg h]

/-- Bytes programmed one after the other from a first position. -/
theorem norProgFrom_get (a b : Nat) (bs : List Nat) (k : Nat) (s : State) :
    (forEach (List.zip (List.range' k bs.length) bs) (State.norProgByte a) s).norGet b =
      if a + k ≤ b ∧ b < a + k + bs.length then s.norGet b &&& (nth bs (b - (a + k)) 0 % 256) else s.norGet b := by
  induction bs generalizing k s with
  | nil =>
    rw [if_neg (by simp only [List.length_nil]; omega)]
    rfl
  | cons x xs ih =>
    have hstep := ih (k + 1) (s.norProgByte a (k, x))
    rw [norProgByte_get] at hstep
    have hloop : forEach (List.zip (List.range' k (x :: xs).length) (x :: xs)) (State.norProgByte a) s =
      forEach (List.zip (List.range' (k + 1) xs.length) xs) (State.norProgByte a) (s.norProgByte a (k, x)) := rfl
    rw [hloop, hstep]
    simp only [List.length_cons]
    rcases Nat.lt_trichotomy b (a + k) with hb | hb | hb
    · rw [if_neg (by omega), if_neg (by omega), if_neg (by omega)]
    · rw [if_neg (by omega), if_pos hb, if_pos (by omega), hb, Nat.sub_self]
      rfl
    · have hn : nth (x :: xs) (b - (a + k)) 0 = nth xs (b - (a + (k + 1))) 0 := by
        rw [show b - (a + k) = b - (a + (k + 1)) + 1 by omega]
        rfl
      simp only [if_neg (Nat.ne_of_gt hb), hn, show (a + (k + 1) ≤ b ∧ b < a + (k + 1) + xs.length) ↔
        (a + k ≤ b ∧ b < a + k + (xs.length + 1)) by omega]

/-- What a program changes: the flash alone, which keeps its canonical form. -/
def NorOnly (s t : State) : Prop :=
  ∃ m, t = { s with nor := m } ∧ (cellsWf 0xFF#8 s.nor = true → cellsWf 0xFF#8 m = true)

theorem NorOnly.trans {s t u : State} (h : NorOnly s t) (g : NorOnly t u) : NorOnly s u := by
  obtain ⟨m, rfl, hm⟩ := h
  obtain ⟨m', rfl, hm'⟩ := g
  exact ⟨m', rfl, fun hw => hm' (hm hw)⟩

theorem forEach_norOnly {α : Type} (l : List α) (f : α → State → State) (h : ∀ x s, NorOnly s (f x s)) (s : State) :
    NorOnly s (forEach l f s) := by
  induction l generalizing s with
  | nil => exact ⟨s.nor, rfl, id⟩
  | cons x xs ih => exact (h x s).trans (ih (f x s))

theorem norProg_norOnly (a : Nat) (bs : List Nat) (s : State) : NorOnly s (s.norProg a bs) :=
  forEach_norOnly _ _ (fun _ _ => ⟨_, rfl, cellsWf_put⟩) s

theorem norErase_norOnly (a : Nat) (s : State) : NorOnly s (s.norErase a) := ⟨_, rfl, cellsWf_filter _⟩

/-- Settles O5: the laws of the sparse stores, an erase as a filter of the listed cells, and a program byte by byte, by
induction on its bytes. -/
theorem storesReadBack : Obligations.StoresReadBack := by
  refine ⟨⟨fun n d m a b v => cellGet_put d m a b v, fun n d m a v => cellsWf_put, fun n d m m' h h' he => cellsFrom_ext h h' he⟩,
    norErase_get, fun s a b bs => ?_, fun s a => norErase_norOnly a s, fun s a bs => norProg_norOnly a bs s⟩
  rw [norProg_eq, norProgFrom_get]
  rfl

/-! ## Routes that rise -/

/-- Settles O7: of a source that is not yet recorded in its cycle, raise records and, where the source was not active and is
now, calls srcRise, which looks at the routes and at the kind. -/
theorem routesRise : Obligations.RoutesRise := by
  intro s n hn hfresh
  refine ⟨fun hstat hen hroutes hkind hmod => ?_, fun h => ?_⟩
  · have h0 : s.get (fStat n) = 0 := by simpa [State.flag] using hstat
    exact raise_sends s hn hfresh h0 hen hroutes hkind hmod
  · have hraise := raise_of_fresh s hfresh
    have hact : (s.recordOcc n).flag (fEn n) = s.flag (fEn n) := recordOcc_enable s n
    have hstill : (s.recordOcc n).srcRise n = s.recordOcc n ∨
        (!s.srcActive n && (s.recordOcc n).srcActive n) = false := by
      rcases h with hen | ⟨hstat, hen⟩ | hroutes | hkind
      · exact Or.inr (by simp [State.srcActive, hact, hen])
      · exact Or.inr (by simp [State.srcActive, hstat, hen])
      · exact Or.inl (by simp [State.srcRise, State.recordOcc, hroutes])
      · have hk : (s.recordOcc n).get (Fld.EVT_ROUTE_kind n) = s.get (Fld.EVT_ROUTE_kind n) := recordOcc_route s rfl
        exact Or.inl (by simp [State.srcRise, hk, hkind])
    rw [hraise]
    rcases hstill with hs | hs
    · rw [hs, ite_self]
      rfl
    · rw [hs]
      rfl

end Sys2Proof.Machine
end

section
/-! Proofs/Guard.lean: the reasons for which an access is denied, in their order (R446). -/

namespace Sys2Proof.Machine

variable {s : State} {r off : Nat} {wv : Option Nat}

/-- An access that the guard looks at: not of the control island, nor of a function at its own MSI-X table. -/
theorem guarded_iff : (r == 19 || (s.loaded && inMsix off && Nat.ble r 15)) = false ↔
    r ≠ 19 ∧ (s.loaded = false ∨ inMsix off = false ∨ 16 ≤ r) := by
  have hle : Nat.ble r 15 = false ↔ 16 ≤ r := by
    rw [← Bool.not_eq_true, Nat.ble_eq]
    omega
  rw [Bool.or_eq_false_iff, beq_eq_false_iff_ne, Bool.and_eq_false_iff, Bool.and_eq_false_iff, hle, or_assoc]

theorem denyReason_free (h : (r == 19 || (s.loaded && inMsix off && Nat.ble r 15)) = true) : s.denyReason r off wv = none := by
  unfold State.denyReason
  rw [if_pos h]

theorem denyReason_disabled (hg : (r == 19 || (s.loaded && inMsix off && Nat.ble r 15)) = false) (he : s.reqEnabled r = false) :
    s.denyReason r off wv = some 7 := by
  unfold State.denyReason
  simp only [hg, he, Bool.not_false, Bool.false_eq_true, if_false, if_true]

/-- An enabled requester's access is checked for its alignment next. -/
theorem denyReason_unaligned (hg : (r == 19 || (s.loaded && inMsix off && Nat.ble r 15)) = false) (he : s.reqEnabled r = true)
    (hr : 16 ≤ r) (ho : off % 4 ≠ 0) : s.denyReason r off wv = some 9 := by
  unfold State.denyReason
  simp [hg, he, hr, ho]

/-- The offsets that a failed Boot leaves open: GLB_ and BOOT_. -/
theorem bootOpen_iff : (decide (off < 0x010000) || (decide (0x020000 ≤ off) && decide (off < 0x030000))) = true ↔
    off < 0x010000 ∨ (0x020000 ≤ off ∧ off < 0x030000) := by
  rw [Bool.or_eq_true, Bool.and_eq_true, decide_eq_true_iff, decide_eq_true_iff, decide_eq_true_iff]

/-- Whether Boot or a failed Boot keeps an offset from every requester. -/
def bootBars (s : State) (off : Nat) : Prop :=
  s.phase = .boot ∨ (s.phase = .failed ∧ ¬(off < 0x010000 ∨ (0x020000 ≤ off ∧ off < 0x030000)))

theorem denyReason_boot (hg : (r == 19 || (s.loaded && inMsix off && Nat.ble r 15)) = false) (he : s.reqEnabled r = true)
    (ha : r < 16 ∨ off % 4 = 0) (hb : bootBars s off) : s.denyReason r off wv = some 5 := by
  have haligned : (Nat.ble 16 r && !(off % 4 == 0)) = false := by
    rcases ha with h | h
    · simp [h]
    · simp [h]
  unfold State.denyReason
  rcases hb with hb | ⟨hb, ho⟩
  · simp [hg, he, haligned, hb]
  · rw [← bootOpen_iff, Bool.not_eq_true] at ho
    simp only [hg, he, haligned, hb, ho, Bool.not_true, Bool.not_false, Bool.and_true, Bool.false_eq_true, if_false]
    rfl

/-- The masks of the object, the holder's registers and the route bits come last. -/
theorem denyReason_object (hg : (r == 19 || (s.loaded && inMsix off && Nat.ble r 15)) = false) (he : s.reqEnabled r = true)
    (ha : r < 16 ∨ off % 4 = 0) (hboot : s.phase ≠ .boot)
    (hfail : s.phase = .failed → off < 0x010000 ∨ (0x020000 ≤ off ∧ off < 0x030000)) :
    s.denyReason r off wv = (match accessObj off with
      | none => some 4
      | some obj => match wv with
        | none => if s.mayRead obj (s.reqDomain r) then none else some 1
        | some v =>
          if !s.mayWrite obj (s.reqDomain r) then some 2
          else if holderOnly off && r != s.holder then some 3
          else if 0x031000 ≤ off && off < 0x034000 && off % 8 == 0 && !s.mayRoute (s.reqDomain r) v then some 8
          else none) := by
  have haligned : (Nat.ble 16 r && !(off % 4 == 0)) = false := by
    rcases ha with h | h
    · simp [h]
    · simp [h]
  have hphase : (s.phase == .boot) = false := beq_eq_false_iff_ne.mpr hboot
  have hfailed : (s.phase == .failed && !(off < 0x010000 || (0x020000 ≤ off && off < 0x030000))) = false := by
    rw [Bool.and_eq_false_iff]
    by_cases h : s.phase = .failed
    · exact Or.inr (by rw [bootOpen_iff.mpr (hfail h), Bool.not_true])
    · exact Or.inl (beq_eq_false_iff_ne.mpr h)
  unfold State.denyReason
  simp only [hg, he, haligned, hphase, hfailed, Bool.not_true, Bool.false_eq_true, if_false]
  rfl

/-- Settles O15: the premises of the clauses are the branches of denyReason, in its order. -/
theorem denialReasonsInOrder : Obligations.DenialReasonsInOrder := by
  intro s r off
  refine ⟨fun hr wv => ?_, fun hl hm hr wv => ?_, fun hr hout wv => ?_⟩
  · exact denyReason_free (by simp [hr])
  · exact denyReason_free (by simp [hl, hm, show r ≤ 15 by omega])
  · have hg := guarded_iff.mpr ⟨hr, hout⟩
    refine ⟨denyReason_disabled hg, denyReason_unaligned hg, fun he ha hb => denyReason_boot hg he ha hb, fun he ha hb hf => ?_⟩
    have hobj := denyReason_object (wv := wv) hg he ha hb hf
    refine ⟨fun hnone => ?_, fun obj hsome => ⟨fun hread => ?_, fun v hwrite => ?_⟩⟩
    · rw [hobj, hnone]
    · rw [hobj, hsome, hread]
    · rw [hobj, hsome, hwrite]

end Sys2Proof.Machine
end

section
/-! Proofs/EventWrites.lean: the writes of the event registers: counter clears (R434), enables and routes (R435, R444),
moderation and unmasking (R437, R438). -/

namespace Sys2Proof.Machine

/-! ## Counter clears -/

/-- EVT_CNT_CLR acts on the counter of one source, where the requester may write the source's object. -/
def State.cntClearOne (r n : Nat) (s : State) : State := if s.srcWrite r n then s.setReg (Reg.EVT_CNT n) 0 else s

theorem cntClear_all {v : Nat} (r : Nat) (s : State) (h : bit v 31 = true) :
    s.cntClear r v = forEach (List.range 1536) (State.cntClearOne r) s := by
  unfold State.cntClear
  rw [if_pos h]
  rfl

theorem cntClear_one {n : Nat} (r : Nat) (s : State) (h : n < 1536) : s.cntClear r n = s.cntClearOne r n := by
  have hbit : bit n 31 = false := by
    rw [bit_eq_testBit, Nat.testBit_lt_two_pow (by omega)]
  unfold State.cntClear State.cntClearOne
  simp [hbit, Nat.mod_eq_of_lt (show n < 2048 by omega), h]

theorem cntClearOne_regs (r n : Nat) (s : State) : RegsOnly s (s.cntClearOne r n) := by
  unfold State.cntClearOne
  split
  · exact RegsOnly.setReg s _ _
  · exact RegsOnly.refl s

/-- Who may write a source's object does not depend on the registers. -/
theorem RegsOnly.srcWrite_eq {s t : State} (h : RegsOnly s t) (r n : Nat) : t.srcWrite r n = s.srcWrite r n := by
  rw [h]
  rfl

theorem cntClearOne_reg (r n off : Nat) (s : State) :
    (s.cntClearOne r n).reg off = if off = Reg.EVT_CNT n ∧ s.srcWrite r n = true then 0 else s.reg off := by
  unfold State.cntClearOne
  by_cases hw : s.srcWrite r n = true
  · rw [if_pos hw]
    by_cases ho : off = Reg.EVT_CNT n
    · rw [ho, State.reg_setReg_same, if_pos ⟨rfl, hw⟩]
    · rw [State.reg_setReg_ne s _ ho, if_neg (fun h => ho h.1)]
  · rw [if_neg hw, if_neg (fun h => hw h.2)]

theorem cntClearEach_regs (r : Nat) (l : List Nat) (s : State) : RegsOnly s (forEach l (State.cntClearOne r) s) := by
  induction l generalizing s with
  | nil => exact RegsOnly.refl s
  | cons n rest ih => exact (cntClearOne_regs r n s).trans (ih (s.cntClearOne r n))

/-- Of a list of sources, the counters are cleared whose object the requester may write. -/
theorem cntClearEach_reg (r off : Nat) (l : List Nat) (s : State) :
    (forEach l (State.cntClearOne r) s).reg off =
      if ∃ n ∈ l, off = Reg.EVT_CNT n ∧ s.srcWrite r n = true then 0 else s.reg off := by
  induction l generalizing s with
  | nil => simp [forEach]
  | cons n rest ih =>
    have hstep : (forEach (n :: rest) (State.cntClearOne r) s).reg off =
        (forEach rest (State.cntClearOne r) (s.cntClearOne r n)).reg off := rfl
    rw [hstep, ih, cntClearOne_reg]
    simp only [(cntClearOne_regs r n s).srcWrite_eq, List.exists_mem_cons_iff]
    by_cases h1 : off = Reg.EVT_CNT n ∧ s.srcWrite r n = true <;> simp [h1]

theorem EVT_CNT_inj {m n : Nat} : Reg.EVT_CNT m = Reg.EVT_CNT n ↔ m = n :=
  ⟨fun h => by_contra fun hne => cnt_off_ne_cnt hne h, fun h => by rw [h]⟩

/-- The registers of the control blocks outside the switched domains take every write. -/
theorem domOff_of_lt (s : State) {off : Nat} (h : off < 0x050000) : s.domOff off = false := by
  have hdom : domainOf off = none := by
    unfold domainOf
    rw [if_pos (by omega), if_neg (by simp [h])]
  unfold State.domOff
  rw [hdom]

theorem busWrite_cntClear {r v : Nat} {s : State} (hr : s.reqReaches r = true)
    (hd : s.denyReason r Reg.EVT_CNT_CLR (some v) = none) : s.busWrite r Reg.EVT_CNT_CLR v = s.cntClear r v := by
  rw [busWrite_EVT_CNT_CLR, busDo_passes s _ hr hd (domOff_of_lt s (by decide))]

/-- Settles O10: the clear of all counters is a loop over the sources, that of one its single step; the occurrences of the
cycle come after it. -/
theorem counterClears : Obligations.CounterClears := by
  refine ⟨fun r s hr => ⟨fun hd => ?_, fun n now hd => ?_⟩, fun u n now hruns hhot hres hnow hzero => ?_⟩
  · refine ⟨forEach (List.range 1536) (State.cntClearOne r.val) s, fun now => ?_, cntClearEach_regs _ _ s,
      fun n hn => ?_, fun off hoff => ?_⟩
    · rw [← cntClear_all (v := 0x80000000) r.val s (by decide), ← busWrite_cntClear hr hd]
      rfl
    · rw [cntClearEach_reg]
      simp [EVT_CNT_inj, hn]
    · rw [cntClearEach_reg, if_neg]
      rintro ⟨n, hn, ho, -⟩
      exact hoff n (List.mem_range.mp hn) ho
  · rw [show (if s.srcWrite r.val n.val then s.setReg (Reg.EVT_CNT n.val) 0 else s) = s.cntClear r.val n.val from
      (cntClear_one r.val s n.isLt).symm, ← busWrite_cntClear hr hd]
    rfl
  · have hmem := (mem_occurring now n).mpr ⟨hnow, hres⟩
    have hl : ∀ k ∈ (now.map Fin.val).filter (fun k => !srcReserved k), k < 1536 := fun k hk => by
      obtain ⟨m, _, rfl⟩ := List.mem_map.mp (List.mem_filter.mp hk).1
      exact m.isLt
    rw [occurAll_runs _ _ hruns, raiseAll_count _ _ hl, raiseAll_status _ _ n.isLt, if_pos hmem, hzero,
      if_pos ⟨hmem, by rw [hhot]; rfl⟩]
    exact ⟨rfl, rfl⟩

/-! ## Enables -/

/-- The enable bit of a source, as a bit of its word. -/
theorem get_fEn (s : State) {w b : Nat} (hb : b < 32) :
    s.get (fEn (32 * w + b)) = b2n ((s.reg (Reg.EVT_EN w)).getLsbD b) := by
  have hw : (32 * w + b) / 32 = w := by omega
  have hm : (32 * w + b) % 32 = b := by omega
  have hbits : s.get (fEn (32 * w + b)) = (s.reg (Reg.EVT_EN w)).toNat >>> b % 2 := by
    simp [State.get, fldGet, fEn, bits, hw, hm]
  rw [hbits, BitVec.getLsbD, Nat.testBit_eq_decide_div_mod_eq, Nat.shiftRight_eq_div_pow]
  rcases Nat.mod_two_eq_zero_or_one ((s.reg (Reg.EVT_EN w)).toNat / 2 ^ b) with h | h <;> simp [h, b2n]

/-- The enable word that a write leaves: the bits of the mask from the value, the others from the old word, 0 where a
source is reserved. -/
def enableWord (w mask v old : Nat) : Nat :=
  ((old &&& (0xFFFFFFFF - mask % 2 ^ 32)) ||| (v &&& mask)) &&& (0xFFFFFFFF - enReserved w)

theorem complement_testBit {x b : Nat} (h : x < 2 ^ 32) (hb : b < 32) : (0xFFFFFFFF - x).testBit b = !x.testBit b := by
  have hx : 0xFFFFFFFF - x = 2 ^ 32 - (x + 1) := by omega
  rw [hx, Nat.testBit_two_pow_sub_succ h, decide_eq_true hb, Bool.true_and]

theorem maskOf_lt {l : List Nat} (h : ∀ b ∈ l, b < 32) : maskOf l < 2 ^ 32 := by
  apply Nat.lt_pow_two_of_testBit
  intro i hi
  rw [maskOf_testBit, decide_eq_false_iff_not]
  intro hm
  have := h i hm
  omega

theorem enableWord_testBit (w mask v old : Nat) {b : Nat} (hb : b < 32) :
    (enableWord w mask v old).testBit b =
      (!srcReserved (32 * w + b) && (if mask.testBit b then v.testBit b else old.testBit b)) := by
  have hres : (enReserved w).testBit b = srcReserved (32 * w + b) := by
    rw [enReserved, maskOf_testBit]
    simp [hb]
  have hreslt : enReserved w < 2 ^ 32 := maskOf_lt (fun b hb => List.mem_range.mp (List.mem_filter.mp hb).1)
  rw [enableWord, Nat.testBit_and, Nat.testBit_or, Nat.testBit_and, Nat.testBit_and, complement_testBit hreslt hb, hres,
    complement_testBit (Nat.mod_lt _ (by decide)) hb, Nat.testBit_mod_two_pow, decide_eq_true hb, Bool.true_and]
  cases mask.testBit b <;> simp [Bool.and_comm]

/-- Sources that become active one after the other send messages and nothing else. -/
theorem srcRiseEach_frame (w : Nat) (l : List Nat) (s : State) :
    EvtOnly s (forEach l (fun b s => s.srcRise (32 * w + b)) s) ∧
    (forEach l (fun b s => s.srcRise (32 * w + b)) s).hot = s.hot ∧
    ∀ off, off ≠ Reg.EVT_MSI_DROP → (forEach l (fun b s => s.srcRise (32 * w + b)) s).reg off = s.reg off := by
  induction l generalizing s with
  | nil => exact ⟨EvtOnly.refl s, rfl, fun _ _ => rfl⟩
  | cons b rest ih =>
    obtain ⟨hevt, hhot, hreg⟩ := ih (s.srcRise (32 * w + b))
    exact ⟨(srcRise_evt _ s).trans hevt, hhot.trans (srcRise_hot s _), fun off ho => (hreg off ho).trans (srcRise_reg _ off s ho)⟩

/-- A write of the enables of one word: the word, and the messages of the sources that become active. -/
theorem writeEnable_frame (w mask v : Nat) (s : State) :
    let u := s.writeEnable w mask v
    u = { s with regs := u.regs, out := u.out, outHeld := u.outHeld, msixPend := u.msixPend, modSt := u.modSt } ∧
    ∀ off, off ≠ Reg.EVT_MSI_DROP → u.reg off =
      (s.setReg (Reg.EVT_EN w) (BitVec.ofNat 32 (enableWord w mask v (s.reg (Reg.EVT_EN w)).toNat))).reg off := by
  obtain ⟨⟨hevt, -⟩, hhot, hreg⟩ := srcRiseEach_frame w
    ((onesOf 32 (enableWord w mask v (s.reg (Reg.EVT_EN w)).toNat)).filter
      (fun b => !(bit (s.reg (Reg.EVT_EN w)).toNat b) && s.flag (fStat (32 * w + b))))
    (s.setReg (Reg.EVT_EN w) (BitVec.ofNat 32 (enableWord w mask v (s.reg (Reg.EVT_EN w)).toNat)))
  refine ⟨?_, hreg⟩
  rw [hhot] at hevt
  exact hevt

/-! ## Routes -/

theorem rowOf_EVT_ROUTE : ∀ n : Fin 1536,
    (rowOf (Reg.EVT_ROUTE n.val)).map (fun row => (row.rw, row.w1c, row.w1s)) = some (0xF8F307FF, 0, 0) := by decide +kernel

/-- A write of a register in the event and guard blocks has no effect beyond the register. -/
theorem imgHook_of_lt (off : Nat) (old : Word) (s : State) (h : off < 0x050000) : s.imgHook off old = s := by
  have hw : ∀ lo len, 0x050000 ≤ lo → within off lo len = false := fun lo len hlo => by
    rw [within, Bool.and_eq_false_iff, ← Bool.not_eq_true, Nat.ble_eq]
    exact Or.inl (by omega)
  have he : ∀ o, 0x050000 ≤ o → (off == o) = false := fun o ho => beq_eq_false_iff_ne.mpr (by omega)
  unfold State.imgHook
  simp only [hw _ _ (show 0x050000 ≤ 0x071000 by decide), hw _ _ (show 0x050000 ≤ 0x071200 by decide),
    hw _ _ (show 0x050000 ≤ 0x071300 by decide), hw _ _ (show 0x050000 ≤ 0x100000 by decide),
    hw _ _ (show 0x050000 ≤ 0x080000 by decide), hw _ _ (show 0x050000 ≤ 0x0B0100 by decide),
    hw _ _ (show 0x050000 ≤ 0x120000 by decide), hw _ _ (show 0x050000 ≤ 0x620000 by decide),
    he Reg.ERK_CFG (by decide), he Reg.HL_CFG (by decide), Bool.false_and, Bool.false_eq_true, if_false, ite_self]

/-- A write of a route takes the written bits of its RW fields and has no effect beyond the register. -/
theorem plainWrite_EVT_ROUTE (n : Fin 1536) (v : Word) (s : State) :
    s.plainWrite (Reg.EVT_ROUTE n.val) v.toNat =
      s.setReg (Reg.EVT_ROUTE n.val) ((s.reg (Reg.EVT_ROUTE n.val) &&& 0x070CF800#32) ||| (v &&& 0xF8F307FF#32)) := by
  have hrow := rowOf_EVT_ROUTE n
  cases hr : rowOf (Reg.EVT_ROUTE n.val) with
  | none => rw [hr] at hrow; cases hrow
  | some row =>
    rw [hr, Option.map_some, Option.some.injEq, Prod.mk.injEq, Prod.mk.injEq] at hrow
    obtain ⟨hrw, hc, hs⟩ := hrow
    unfold State.plainWrite
    simp only [hr, hrw, hc, hs, Nat.and_zero, Nat.sub_zero, Nat.or_zero]
    rw [imgHook_of_lt _ _ _ (by simp only [Reg.EVT_ROUTE]; omega)]
    congr 1
    apply BitVec.eq_of_toNat_eq
    simp only [BitVec.toNat_ofNat, BitVec.toNat_or, BitVec.toNat_and]
    exact Nat.mod_eq_of_lt (Nat.or_lt_two_pow (Nat.and_lt_two_pow _ (by decide)) (Nat.and_lt_two_pow _ (by decide)))

/-- What the guard looks at of a route's offset. -/
theorem EVT_ROUTE_facts : ∀ n : Fin 1536, inMsix (Reg.EVT_ROUTE n.val) = false ∧
    accessObj (Reg.EVT_ROUTE n.val) = some (srcObj n.val) ∧ holderOnly (Reg.EVT_ROUTE n.val) = false := by decide +kernel

/-- A route to a block without the route bit is denied with 8, where the source may be written. -/
theorem denyReason_route {r : Nat} {n : Fin 1536} {v : Nat} {s : State} (hr : r < 19) (he : s.reqEnabled r = true)
    (hboot : s.phase ≠ .boot) (hfail : s.phase ≠ .failed) (hw : s.srcWrite r n.val = true)
    (hroute : s.mayRoute (s.reqDomain r) v = false) : s.denyReason r (Reg.EVT_ROUTE n.val) (some v) = some 8 := by
  obtain ⟨hmsix, hobj, hholder⟩ := EVT_ROUTE_facts n
  have hmay : s.mayWrite (srcObj n.val) (s.reqDomain r) = true := by
    have h19 : (r == 19) = false := beq_eq_false_iff_ne.mpr (by omega)
    unfold State.srcWrite at hw
    rwa [h19, Bool.false_or] at hw
  have hin : (decide (0x031000 ≤ Reg.EVT_ROUTE n.val) && decide (Reg.EVT_ROUTE n.val < 0x034000) &&
      (Reg.EVT_ROUTE n.val % 8 == 0)) = true := by
    have := n.isLt
    simp only [Bool.and_eq_true, decide_eq_true_eq, beq_iff_eq]
    simp only [Reg.EVT_ROUTE]
    omega
  rw [denyReason_object (guarded_iff.mpr ⟨by omega, Or.inr (Or.inl hmsix)⟩) he
    (Or.inr (by simp only [Reg.EVT_ROUTE]; omega)) hboot (fun h => absurd h hfail), hobj]
  simp only [hmay, hholder, hin, hroute, Bool.not_true, Bool.not_false, Bool.false_and, Bool.and_true, Bool.false_eq_true,
    if_false, if_true]

/-- Settles O11: an enable write is writeEnable with the mask of the sources that the requester may write; a route write is
a plain write of the register, or denied with 8. -/
theorem enablesAndRoutes : Obligations.EnablesAndRoutes := by
  refine ⟨fun r w v s hr hd => ?_, fun r n v s hr => ⟨fun hd => ?_, fun he hboot hfail hw hroute => ?_⟩⟩
  · obtain ⟨hframe, hreg⟩ := writeEnable_frame w.val (s.srcWriteMask r.val w.val) v.toNat s
    refine ⟨s.writeEnable w.val (s.srcWriteMask r.val w.val) v.toNat, ?_, hframe, fun b hb => ?_, fun off ho hdrop => ?_⟩
    · rw [← busDo_passes s (fun s => s.writeEnable w.val (s.srcWriteMask r.val w.val) v.toNat) hr hd
        (domOff_of_lt s (by simp only [Reg.EVT_EN]; omega)), ← busWrite_EVT_EN]
      rfl
    · have hmask : (s.srcWriteMask r.val w.val).testBit b = s.srcWrite r.val (32 * w.val + b) := by
        rw [State.srcWriteMask, maskOf_testBit]
        simp [hb]
      rw [get_fEn _ hb, hreg _ (by simp only [Reg.EVT_EN, Reg.EVT_MSI_DROP]; omega), State.reg_setReg_same, BitVec.getLsbD_ofNat,
        decide_eq_true hb, Bool.true_and, enableWord_testBit _ _ _ _ hb, hmask, bit_eq_testBit, get_fEn s hb, BitVec.getLsbD]
      cases srcReserved (32 * w.val + b) <;> cases s.srcWrite r.val (32 * w.val + b) <;> rfl
    · rw [hreg off hdrop, State.reg_setReg_ne s _ ho]
  · refine ⟨_, ?_, RegsOnly.setReg s (Reg.EVT_ROUTE n.val) _, State.reg_setReg_same s _ _, fun off ho => State.reg_setReg_ne s _ ho⟩
    rw [← plainWrite_EVT_ROUTE, ← busDo_passes s (State.plainWrite (Reg.EVT_ROUTE n.val) v.toNat) hr hd
      (domOff_of_lt s (by simp only [Reg.EVT_ROUTE]; omega)), ← busWrite_EVT_ROUTE]
    rfl
  · have hd := denyReason_route (n := n) r.isLt he hboot hfail hw hroute
    show Host.Outcome.next (s.busWrite r.val (Reg.EVT_ROUTE n.val) v.toNat).settle = _
    rw [busWrite_EVT_ROUTE]
    unfold State.busDo
    simp only [hr, hd, Bool.not_true, Bool.false_eq_true, if_false]
    rfl

/-! ## Moderation and unmasking -/

/-- MSIX_UNMASK of a vector inside the function's table writes 0 to its control word. -/
theorem unmask_vector {fn vec : Nat} {s : State} (hr : s.reqReaches fn = true) (hv : fn = 0 ∧ vec < 2048 ∨ fn ≠ 0 ∧ vec < 64) :
    s.unmask fn (some vec) = (s.setMsixWord fn (16 * vec + 12) 0).msiUnmasked fn vec := by
  have hlt : Nat.blt (16 * vec + 12) (16 * (if fn == 0 then 2048 else 64)) = true := by
    rw [Nat.blt_eq]
    rcases hv with ⟨h, hv⟩ | ⟨h, hv⟩
    · rw [h]; simp; omega
    · rw [beq_eq_false_iff_ne.mpr h]; simp; omega
  have hmod : ((16 * vec + 12) % 16 == 12) = true := beq_iff_eq.mpr (by omega)
  unfold State.unmask State.msixWrite
  simp only [hr, hlt, hmod, Bool.not_true, Bool.false_eq_true, if_false, if_true]
  rw [show (16 * vec + 12) / 16 = vec by omega]
  rfl

/-- A present function reaches a running block. -/
theorem reqReaches_fn {fn : Fin 16} {s : State} (hruns : s.runs = true) (hp : (s.fn fn.val).present = true) :
    s.reqReaches fn.val = true := by
  unfold State.reqReaches
  rw [hruns, hp, Bool.or_true, Bool.and_true]

/-- Settles O12: each command is its operation of the events unit in its shell; the interval's end has three cases. -/
theorem moderationAndUnmask : Obligations.ModerationAndUnmask := by
  refine ⟨fun fn vec ns s hl => ?_, fun fn vec s hruns hp hv => ?_, fun fn s hruns hp => ?_, fun k ns s => ?_⟩
  · show Host.Outcome.next (s.event ns (State.modExpire fn.val vec.val)) = _
    rw [event_loaded ns _ s hl]
    unfold State.modExpire
    rw [State.advance_modSt]
    cases hrun : (tget s.modSt (vecKey fn.val vec.val) ⟨false, false⟩).running <;>
      cases hwait : (tget s.modSt (vecKey fn.val vec.val) ⟨false, false⟩).waiting <;> simp [hrun, hwait]
  · show Host.Outcome.next (s.unmask fn.val (some vec.val)).settle = _
    rw [unmask_vector (reqReaches_fn hruns hp)]
    rcases Nat.eq_zero_or_pos fn.val with h | h
    · exact Or.inl ⟨h, vec.isLt⟩
    · exact Or.inr ⟨by omega, by omega⟩
  · show Host.Outcome.next (s.unmask fn.val none).settle = _
    unfold State.unmask
    simp only [reqReaches_fn hruns hp, Bool.not_true, Bool.false_eq_true, if_false, beq_iff_eq]
  · show Host.Outcome.next ((s.advance ns).faultExpire k.val).settle = _
    rw [State.faultExpire, State.advance_faultPin]

end Sys2Proof.Machine
end

section
/-! Proofs/Resets.lean: what a full reset and the loss of a supply leave (R22, R37, R38, R67, R456, R465). -/

namespace Sys2Proof.Machine

/-! ## The end of a command without an image -/

/-- Without an image no flow-control pin is asserted, so that pins already released move no register. -/
theorem settle_regs_unloaded {s : State} (hl : s.loaded = false) (hfc : ∀ n < 8, (nth s.fcPin n ⟨false, false⟩).low = false) :
    s.settle.regs = s.regs := by
  have hgpio : s.gpioAll = s := by
    unfold State.gpioAll
    rw [hl]
    rfl
  have hnext : ∀ n, s.fcNext n = ⟨false, false⟩ := fun n => by
    unfold State.fcNext
    rw [hl]
    rfl
  have hnone : (List.range 8).filter (fun n => !((nth ((List.range 8).map s.fcNext) n ⟨false, false⟩).low ==
      (nth s.fcPin n ⟨false, false⟩).low)) = [] := by
    refine List.filter_eq_nil_iff.mpr (fun n hn => ?_)
    have hn8 := List.mem_range.mp hn
    rw [nth_range_map _ _ _ _ hn8, hnext, hfc n hn8]
    decide
  have hregs : s.fcAll.regs = s.regs := by
    unfold State.fcAll
    simp only [hnone]
    rfl
  show s.gpioAll.fcAll.regs = s.regs
  rw [hgpio, hregs]

theorem settle_intLow_unloaded {s : State} (hl : s.loaded = false) (k : Nat) (hk : k < 4) :
    nth s.settle.intLow k false = false := by
  rw [settle_intLow s k hk, State.settle_loaded, hl]
  rfl

/-- Without VDD_CORE nothing drives FAULT_N. -/
theorem settle_faultPin_unpowered {s : State} (hp : s.phase = .off ∨ s.phase = .warm) (k : Nat) (hk : k < 2) :
    (nth s.settle.faultPin k ⟨false, false⟩).low = false := by
  have hphase : s.gpioAll.fcAll.phase = s.phase := State.settle_phase s
  rw [settle_faultPin s k hk]
  unfold State.faultNext
  rw [hphase]
  rcases hp with h | h <;> simp [h]

/-- In Reset FAULT_N follows the latch (R22). -/
theorem settle_faultPin_reset {s : State} (hp : s.phase = .reset) (k : Nat) (hk : k < 2)
    (hh : (nth s.settle.faultPin k ⟨false, false⟩).hold = false) : (nth s.settle.faultPin k ⟨false, false⟩).low = s.pw.latch := by
  obtain ⟨-, hlow, hrel, -⟩ := settle_follow s
  have hphase : s.settle.phase = .reset := (State.settle_phase s).trans hp
  have hwant : s.settle.faultWant s.settle.activeSrcs k = s.pw.latch := by
    unfold State.faultWant
    rw [hphase, State.settle_pw]
  cases hlatch : s.pw.latch with
  | true => exact hlow k hk (by rw [hphase]; decide) (by rw [hphase]; decide) (hwant.trans hlatch)
  | false => exact hrel k hk (by rw [hphase]; decide) (by rw [hphase]; decide) (hwant.trans hlatch) hh

/-! ## What the main domains lose -/

theorem norOpen_eq (a n : Nat) (s : State) :
    s.norOpen a n = { s with nor := (s.norOpen a n).nor, free := (s.norOpen a n).free } := by
  have hloop : ∀ (l : List Nat) (u : State), NorOnly u (forEach l (fun i s =>
      { s with nor := cellPut 0xFF#8 s.nor (a + i) (Config.norByte s.free (a + i)) }) u) := fun l u =>
    forEach_norOnly _ _ (fun _ _ => ⟨_, rfl, cellsWf_put⟩) u
  obtain ⟨m, hm, -⟩ := hloop (List.range n) s
  unfold State.norOpen
  rw [hm]

/-- What a flash operation that is cut short changes: bytes of the flash, a draw, and what the journal owes. -/
def CutOnly (s t : State) : Prop :=
  t = { s with nor := t.nor, free := t.free, warm := { s.warm with owed := t.warm.owed, late := t.warm.late } }

theorem CutOnly.trans {s t u : State} (h : CutOnly s t) (g : CutOnly t u) : CutOnly s u := by
  unfold CutOnly at *
  rw [h] at g
  exact g

theorem norOpen_cut (a n : Nat) (s : State) : CutOnly s (s.norOpen a n) := by
  unfold CutOnly
  rw [norOpen_eq]

theorem norCut_cut (s : State) : CutOnly s s.norCut := by
  have h1 : CutOnly s (match s.norOp with
      | some o => if o.op == 1 then s.norOpen o.addr 65536 else if o.op == 2 then s.norOpen o.addr 256 else s
      | none => s) := by
    split
    · split
      · exact norOpen_cut _ _ s
      · split
        · exact norOpen_cut _ _ s
        · rfl
    · rfl
  have h2 : ∀ u : State, CutOnly u (match u.life.op with
      | some o =>
        (match o.kind with
         | .erase _ => u.norOpen o.addr 65536
         | .record _ => u.norOpen o.addr 64)
      | none => u) := fun u => by
    split
    · split
      · exact norOpen_cut _ _ u
      · exact norOpen_cut _ _ u
    · rfl
  have h3 : ∀ u : State, CutOnly u (match u.life.parked with
      | some o => u.norOpen o.addr 65536
      | none => u) := fun u => by
    split
    · exact norOpen_cut _ _ u
    · rfl
  exact ((h1.trans (h2 _)).trans (h3 _)).trans rfl

/-- With no operation in flight a cut leaves the flash. -/
theorem norCut_nor {s : State} (h1 : s.norOp = none) (h2 : s.life.op = none) (h3 : s.life.parked = none) :
    s.norCut.nor = s.nor := by
  unfold State.norCut
  simp only [h1, h2, h3]

/-- The state whose released pins and debug output `mainGone` shows, before it drops what the main domains held. -/
def State.goneOut (s : State) : State :=
  let s2 := forEach ((List.range 8).filter (fun n => (nth s.norCut.fcPin n ⟨false, false⟩).low))
    (fun n (s : State) => s.emit (.pull (.fc n) false)) s.norCut
  if s2.debug then s2.emit (.debug false) else s2

theorem mainGone_eq (s : State) : s.mainGone = { State.reset with
    pending := s.goneOut.pending, out := s.goneOut.out, free := s.goneOut.free, pw := s.goneOut.pw, otp := s.goneOut.otp
    warm := s.goneOut.warm, nor := s.goneOut.nor, faultPin := s.goneOut.faultPin, intLow := s.goneOut.intLow
    hot := s.goneOut.hot, phase := .reset, life := Life.init } := rfl

theorem emitEach_eq {α : Type} (l : List α) (o : α → Out) (s : State) :
    forEach l (fun x (s : State) => s.emit (o x)) s = { s with out := (forEach l (fun x (s : State) => s.emit (o x)) s).out } := by
  induction l generalizing s with
  | nil => rfl
  | cons x rest ih => exact (ih (s.emit (o x))).trans rfl

/-- What stays beyond the main domains is what the cut left. -/
theorem goneOut_eq (s : State) : s.goneOut = { s.norCut with out := s.goneOut.out } := by
  unfold State.goneOut
  simp only
  rw [emitEach_eq]
  split <;> rfl

theorem mainGone_pw (s : State) : s.mainGone.pw = s.pw := by
  rw [mainGone_eq, goneOut_eq, norCut_cut s]

theorem mainGone_otp (s : State) : s.mainGone.otp = s.otp := by
  rw [mainGone_eq, goneOut_eq, norCut_cut s]

theorem mainGone_pending (s : State) : s.mainGone.pending = s.pending := by
  rw [mainGone_eq, goneOut_eq, norCut_cut s]

theorem mainGone_cal (s : State) : s.mainGone.warm.cal = s.warm.cal := by
  rw [mainGone_eq, goneOut_eq, norCut_cut s]

theorem mainGone_calValid (s : State) : s.mainGone.warm.calValid = s.warm.calValid := by
  rw [mainGone_eq, goneOut_eq, norCut_cut s]

theorem mainGone_causes (s : State) : s.mainGone.warm.causes = s.warm.causes := by
  rw [mainGone_eq, goneOut_eq, norCut_cut s]

theorem mainGone_nor {s : State} (h1 : s.norOp = none) (h2 : s.life.op = none) (h3 : s.life.parked = none) :
    s.mainGone.nor = s.nor := by
  rw [mainGone_eq, goneOut_eq]
  exact norCut_nor h1 h2 h3

/-- The pins of the main domains are released. -/
theorem mainGone_fcPin (s : State) : ∀ n < 8, (nth s.mainGone.fcPin n ⟨false, false⟩).low = false := by
  show ∀ n < 8, (nth State.reset.fcPin n ⟨false, false⟩).low = false
  decide

/-! ## A full reset -/

/-- What a full reset looks at of the state before it. -/
def SameKept (s x : State) : Prop :=
  x.warm.causes = s.warm.causes ∧ x.otp = s.otp ∧ x.warm.cal = s.warm.cal ∧ x.warm.calValid = s.warm.calValid ∧
  x.pending = s.pending ∧ x.norOp = s.norOp ∧ x.life.op = s.life.op ∧ x.life.parked = s.life.parked ∧ x.nor = s.nor

theorem SameKept.refl (s : State) : SameKept s s := ⟨rfl, rfl, rfl, rfl, rfl, rfl, rfl, rfl, rfl⟩

theorem lifeFold_kept (s : State) : SameKept s s.lifeFold := ⟨rfl, rfl, rfl, rfl, rfl, rfl, rfl, rfl, rfl⟩

theorem advance_kept (s : State) (ns : Nat) : SameKept s (s.advance ns) := by
  simp [SameKept]

/-- The latch that a full reset leaves: set by a fault, kept unless the reset is a power-on's. -/
def resetLatch (cause : Nat) (latch : Bool) (s : State) : Bool := latch || (s.pw.latch && !(cause == 1))

/-- What a full reset leaves, once its pins have followed. -/
theorem fullReset_settled {s x : State} (cause : Nat) (latch : Bool) (hk : SameKept s x) :
    FullReset cause (resetLatch cause latch x) s (x.fullReset cause latch).settle := by
  obtain ⟨y, hy, hkept, hpw⟩ : ∃ y : State, SameKept x y ∧ y.pw = x.pw ∧ x.fullReset cause latch = { y.mainGone with
      pw := { y.mainGone.pw with latch := latch || (y.mainGone.pw.latch && !(cause == 1)) }
      faultPin := y.mainGone.faultPin.map (fun p => { p with
        hold := p.hold && (latch || (y.mainGone.pw.latch && !(cause == 1))) })
      warm := { y.mainGone.warm with causes := y.mainGone.warm.causes ||| cause }
      life := { y.mainGone.life with core := [0, (if x.runs then 0 else nth x.life.core 1 0) + b2n (cause == 1), 0, 0] } } :=
    ⟨if x.runs then x.lifeFold else x, by split; exact lifeFold_kept x; exact SameKept.refl x, by split <;> rfl, rfl⟩
  obtain ⟨hc, ho, hcal, hval, hpend, hop, hlop, hpark, hnor⟩ := hk
  obtain ⟨hc', ho', hcal', hval', hpend', hop', hlop', hpark', hnor'⟩ := hy
  have hphase : (x.fullReset cause latch).phase = .reset := by rw [hpw]; rfl
  have hl : (x.fullReset cause latch).loaded = false := by unfold State.loaded; rw [hphase]
  have hlatch : (x.fullReset cause latch).pw.latch = resetLatch cause latch x := by
    rw [hpw, resetLatch, ← hkept, ← mainGone_pw y]
  refine ⟨?_, ?_, ?_, ?_, ?_, ?_, ?_, ?_, ?_, ?_, ?_, ?_, ?_, ?_, ?_, ?_, ?_, ?_, ?_, ?_, ?_, ?_, ?_⟩
  · rw [State.settle_phase, hphase]
  · rw [settle_regs_unloaded hl (by rw [hpw]; exact mainGone_fcPin y), hpw]
    rfl
  · rw [State.settle_img, hpw]; rfl
  · rw [State.settle_grdLive, hpw]; rfl
  · rw [State.settle_frames, hpw]; rfl
  · rw [State.settle_strokes, hpw]; rfl
  · rw [State.settle_doms, hpw]; rfl
  · rw [State.settle_pal, hpw]; rfl
  · rw [State.settle_ques, hpw]; rfl
  · rw [State.settle_fns, hpw]; rfl
  · rw [State.settle_hlReset, hpw]; rfl
  · rw [State.settle_routes, hpw]; rfl
  · rw [State.settle_spdm, hpw]; rfl
  · rw [State.settle_debug, hpw]; rfl
  · rw [State.settle_warm, hpw, ← hc, ← hc', ← mainGone_causes y]
  · rw [State.settle_pw, hlatch]
  · rw [State.settle_otp, hpw, ← ho, ← ho', ← mainGone_otp y]
  · rw [State.settle_warm, hpw, ← hcal, ← hcal', ← mainGone_cal y]
  · rw [State.settle_warm, hpw, ← hval, ← hval', ← mainGone_calValid y]
  · rw [State.settle_pending, hpw, ← hpend, ← hpend', ← mainGone_pending y]
  · intro h1 h2 h3
    rw [State.settle_nor, hpw, ← hnor, ← hnor']
    exact mainGone_nor (by rw [hop', hop, h1]) (by rw [hlop', hlop, h2]) (by rw [hpark', hpark, h3])
  · exact settle_intLow_unloaded hl
  · intro k hk hh
    rw [settle_faultPin_reset hphase k hk hh, hlatch]

end Sys2Proof.Machine
end

section
/-! Proofs/ResetCommands.lean: each trigger of a full reset (R67), and the supplies that take Falith to Warm or Off (R37, R38). -/

namespace Sys2Proof.Machine

/-- A full reset as the answer of a command. -/
theorem fullReset_answer {s x : State} {cause : Nat} {latch l : Bool} (hk : SameKept s x) (hl : resetLatch cause latch x = l) :
    FullReset cause l s (x.fullReset cause latch).settle := hl ▸ fullReset_settled cause latch hk

/-- A fault resets the device unless PORST_N holds it in Reset, or it has no power. -/
theorem faultReset_eq {s : State} (cause : Nat) (h1 : s.phase ≠ .off) (h2 : s.phase ≠ .warm)
    (h3 : s.phase ≠ .reset ∨ s.pw.porst = false) : s.faultReset cause = s.fullReset cause true := by
  unfold State.faultReset
  split
  · next h => exact absurd h h1
  · next h => exact absurd h h2
  · next h =>
    rcases h3 with h3 | h3
    · exact absurd h h3
    · rw [h3]
      rfl
  · rfl

theorem fault_answer {s x : State} {cause : Nat} (hk : SameKept s x) (hphase : x.phase = s.phase) (hpw : x.pw = s.pw)
    (h1 : s.phase ≠ .off) (h2 : s.phase ≠ .warm) (h3 : s.phase ≠ .reset ∨ s.pw.porst = false) :
    FullReset cause true s (x.faultReset cause).settle := by
  rw [faultReset_eq cause (hphase ▸ h1) (hphase ▸ h2) (hphase ▸ hpw ▸ h3)]
  exact fullReset_answer hk rfl

/-- What a loss of lock, or of the reference, counts and raises before its reset. -/
theorem raise_kept {s x : State} (n : Nat) (h : SameKept s x) : SameKept s (x.raise n) := by
  simpa [SameKept] using h

theorem supply_out (l : List Rail) (x : Rail) : x ∈ (if l.contains x then l else l ++ [x]) := by
  split
  · next h => simpa using h
  · simp

theorem supply_absent (l : List Rail) (x : Rail) : x ∈ (if true && !l.contains x then l ++ [x] else l) := by
  cases h : l.contains x
  · simp
  · simpa using h

/-- Where Falith has neither VDD_CORE nor its warmer it does not run, and no time passes. -/
theorem advance_unpowered {s : State} (ns : Nat) (h : s.phase = .off ∨ s.phase = .warm) : s.advance ns = s :=
  State.advance_stopped s ns (by unfold State.runs; rcases h with h | h <;> rw [h])

/-- The levels that a main supply's loss leaves. -/
def State.supplyGone (rail : Rail) (absent : Bool) (s : State) : State :=
  { s with pw := { s.pw with
    out := if s.pw.out.contains rail then s.pw.out else s.pw.out ++ [rail]
    absent := if absent && !s.pw.absent.contains rail then s.pw.absent ++ [rail] else s.pw.absent
    latch := s.pw.latch && !(rail == Rail.io33) } }

/-- A main supply that does not feed the warmer. -/
theorem supplyOut_eq {s : State} {rail : Rail} {absent : Bool}
    (h : s.phase = .off ∨ ¬(rail = Rail.io33 ∧ absent = true ∧ s.pw.internal = true)) :
    s.supplyOut rail absent = (match s.phase with
      | .off | .warm => s.supplyGone rail absent
      | _ => (s.supplyGone rail absent).fullReset 1 (s.supplyGone rail absent).pw.latch) := by
  have hfeed : (rail == Rail.io33 && absent && s.pw.internal && !(s.phase == .off)) = false := by
    rcases h with h | h
    · simp [h]
    · rw [Bool.and_eq_false_iff]
      left
      rw [← Bool.not_eq_true, Bool.and_eq_true, Bool.and_eq_true, beq_iff_eq, and_assoc]
      exact h
  unfold State.supplyOut
  rw [hfeed]
  rfl

/-- Outside Off and Warm a power-on resets. -/
theorem porstFall_eq {s : State} (h1 : s.phase ≠ .off) (h2 : s.phase ≠ .warm) :
    s.porstFall = State.fullReset 1 false { s with pw := { s.pw with porst := true, latch := false } } := by
  unfold State.porstFall
  simp only

/-- The pins' levels and the supplies, which a full reset leaves. -/
theorem fullReset_pw (cause : Nat) (latch : Bool) (s : State) :
    (s.fullReset cause latch).pw = { s.pw with latch := resetLatch cause latch s } := by
  have hpw : (if s.runs then s.lifeFold else s).pw = s.pw := by split <;> rfl
  have hgone := (mainGone_pw (if s.runs then s.lifeFold else s)).trans hpw
  show ({ (if s.runs then s.lifeFold else s).mainGone.pw with
    latch := latch || ((if s.runs then s.lifeFold else s).mainGone.pw.latch && !(cause == 1)) } : Power) = _
  rw [hgone]
  rfl

/-- A requester that may write BOOT_CMD resets by software. -/
theorem busWrite_softwareReset {r : Nat} {s : State} (hr : s.reqReaches r = true)
    (hd : s.denyReason r Reg.BOOT_CMD (some 0x5A3C0001) = none) :
    s.busWrite r Reg.BOOT_CMD 0x5A3C0001 = s.fullReset 8 false := by
  rw [busWrite_BOOT_CMD, busDo_passes s _ hr hd (domOff_of_lt s (by decide))]
  rfl

/-- A loss of lock of the control island's PLL, or of the reference's PLL while it runs. -/
theorem pllUnlock_island {n : Nat} {s : State} (hn : n = 7 ∨ (n = 6 ∧ s.flag (Fld.CK_PLL_running 6) = true)) :
    s.pllUnlock n = State.faultReset 4
      (if s.runs then ((s.put (Fld.CK_PLL_locked n) 0).bump (Fld.CK_PLL_unlocks n)).raise (evPm (8 + n)) else s) := by
  unfold State.pllUnlock
  rcases hn with rfl | ⟨rfl, h⟩
  · rfl
  · simp [h]

/-- A loss of lock that is shown changes no more than a fault's reset drops. -/
theorem unlockShown_kept (n : Nat) (s : State) :
    let x := if s.runs then ((s.put (Fld.CK_PLL_locked n) 0).bump (Fld.CK_PLL_unlocks n)).raise (evPm (8 + n)) else s
    SameKept s x ∧ x.phase = s.phase ∧ x.pw = s.pw := by
  intro x
  simp only [x]
  split
  · exact ⟨raise_kept _ (SameKept.refl s), State.raise_phase _ _, State.raise_pw _ _⟩
  · exact ⟨SameKept.refl s, rfl, rfl⟩

theorem SameKept.trans {s x y : State} (h : SameKept s x) (g : SameKept x y) : SameKept s y := by
  obtain ⟨h1, h2, h3, h4, h5, h6, h7, h8, h9⟩ := h
  obtain ⟨g1, g2, g3, g4, g5, g6, g7, g8, g9⟩ := g
  exact ⟨g1.trans h1, g2.trans h2, g3.trans h3, g4.trans h4, g5.trans h5, g6.trans h6, g7.trans h7, g8.trans h8, g9.trans h9⟩

/-- A loss of lock of CK_6 or CK_7 is a fault of the control island. -/
theorem pllUnlock_answer {s : State} {n ns : Nat} (hn : n = 7 ∨ (n = 6 ∧ s.flag (Fld.CK_PLL_running 6) = true))
    (h1 : s.phase ≠ .off) (h2 : s.phase ≠ .warm) (h3 : s.phase ≠ .reset ∨ s.pw.porst = false) :
    FullReset 4 true s ((s.advance ns).pllUnlock n).settle := by
  rw [pllUnlock_island (by simpa using hn)]
  obtain ⟨hk, hp, hw⟩ := unlockShown_kept n (s.advance ns)
  exact fault_answer ((advance_kept s ns).trans hk) (hp.trans (State.advance_phase s ns)) (hw.trans (State.advance_pw s ns)) h1 h2 h3

/-- The loss of the reference raises its event while Falith runs, and is a fault of the clocks. -/
theorem refLost_answer {s : State} {ns : Nat} (h1 : s.phase ≠ .off) (h2 : s.phase ≠ .warm)
    (h3 : s.phase ≠ .reset ∨ s.pw.porst = false) : FullReset 2 true s (s.advance ns).refLost.settle := by
  refine fault_answer ?_ ?_ ?_ h1 h2 h3
  · simp [SameKept]
  · simp
  · simp

/-- Settles O17: each trigger is a full reset of a state that differs from the one before in nothing that the reset keeps. -/
theorem fullResets : Obligations.FullResets := by
  refine ⟨fun ns s h1 h2 => ⟨?_, fun rail absent hfeed => ?_, fun h3 => ?_⟩, fun r s hr hd => ?_, fun out absent s hw => ?_,
    fun ns s hoff => ⟨?_, fun rail absent hfeed => ?_⟩⟩
  · refine ⟨(s.advance ns).porstFall.settle, rfl, ?_⟩
    rw [porstFall_eq (by simpa using h1) (by simpa using h2)]
    refine ⟨fullReset_answer (advance_kept s ns) rfl, ?_⟩
    rw [State.settle_pw, fullReset_pw]
  · refine ⟨((s.advance ns).supplyOut rail absent).settle, rfl, ?_⟩
    have heq : (s.advance ns).supplyOut rail absent = ((s.advance ns).supplyGone rail absent).fullReset 1
        ((s.advance ns).supplyGone rail absent).pw.latch := by
      rw [supplyOut_eq (Or.inr (by simpa using hfeed)), State.advance_phase]
      split
      · next h => exact absurd h h1
      · next h => exact absurd h h2
      · rfl
    have hpw : ((s.advance ns).supplyGone rail absent).pw = (s.supplyGone rail absent).pw := by
      simp [State.supplyGone]
    have hout := supply_out s.pw.out rail
    rw [heq]
    refine ⟨fullReset_answer (advance_kept s ns) ?_, ?_, fun ha => ?_, ?_⟩
    · simp [resetLatch, State.supplyGone]
    · rw [State.settle_pw, fullReset_pw, hpw]
      exact hout
    · rw [State.settle_pw, fullReset_pw, hpw, ha]
      exact supply_absent _ _
    · rw [State.settle_pw, fullReset_pw, hpw]
      exact List.isEmpty_eq_false_iff.mpr (List.ne_nil_of_mem hout)
  · have hfault : ∀ cause, FullReset cause true s ((s.advance ns).faultReset cause).settle := fun cause =>
      fault_answer (advance_kept s ns) (State.advance_phase s ns) (State.advance_pw s ns) h1 h2 h3
    exact ⟨⟨_, rfl, refLost_answer h1 h2 h3⟩, ⟨_, rfl, hfault 4⟩, ⟨_, rfl, hfault 4⟩, ⟨_, rfl, pllUnlock_answer (Or.inl rfl) h1 h2 h3⟩,
      fun hck => ⟨_, rfl, pllUnlock_answer (Or.inr ⟨rfl, hck⟩) h1 h2 h3⟩⟩
  · refine ⟨(s.busWrite r.val Reg.BOOT_CMD 0x5A3C0001).settle, rfl, ?_⟩
    rw [busWrite_softwareReset hr hd]
    exact fullReset_answer (SameKept.refl s) (by simp [resetLatch])
  · refine ⟨(State.fullReset 1 false { s with phase := .reset, pw := { s.pw with
      core := true, out := out, absent := absent, porst := true } }).settle, ?_, ?_, ?_⟩
    · show Host.Outcome.next ((s.advance 0).coreBack out absent).settle = _
      rw [advance_unpowered 0 (Or.inr hw)]
      unfold State.coreBack
      rw [hw]
    · exact fullReset_answer (SameKept.refl s) (by simp [resetLatch])
    · rw [State.settle_pw, fullReset_pw]
      exact ⟨rfl, rfl, rfl, rfl⟩
  · show Host.Outcome.next (s.advance ns).porstFall.settle = _
    rw [advance_unpowered ns hoff]
    unfold State.porstFall
    rcases hoff with h | h <;> simp only [h]
  · show Host.Outcome.next ((s.advance ns).supplyOut rail absent).settle = _
    have hlevels : s.supplyOut rail absent = s.supplyGone rail absent := by
      rw [supplyOut_eq hfeed]
      rcases hoff with h | h <;> rw [h]
    rw [advance_unpowered ns hoff, hlevels]
    rfl

end Sys2Proof.Machine
end

section
/-! Proofs/Supplies.lean: without VDD_CORE Falith is in Warm, without the warmer it is Off; the supply warning (R38, R456,
R465). -/

namespace Sys2Proof.Machine

/-- Without the warmer Falith is Off, and everything but OTP and flash is gone. -/
theorem warmerOff_settled {s x : State} (hk : SameKept s x) :
    let t := x.warmerOff.settle
    t.phase = .off ∧ t.warm = Warm.init ∧ t.regs = resetRegs ∧ t.img = Image.init ∧ t.otp = s.otp ∧ t.pw.latch = false ∧
      (s.norOp = none → s.life.op = none → s.life.parked = none → t.nor = s.nor) ∧
      ∀ k < 2, (nth t.faultPin k ⟨false, false⟩).low = false := by
  obtain ⟨-, hotp, -, -, -, hop, hlop, hpark, hnor⟩ := hk
  have hphase : x.warmerOff.phase = .off := rfl
  refine ⟨State.settle_phase _, State.settle_warm _, ?_, State.settle_img _, ?_, ?_, fun h1 h2 h3 => ?_,
    settle_faultPin_unpowered (Or.inl hphase)⟩
  · exact Eq.trans (settle_regs_unloaded rfl (mainGone_fcPin x)) rfl
  · rw [State.settle_otp, ← hotp]
    exact mainGone_otp x
  · rw [State.settle_pw]
    rfl
  · rw [State.settle_nor, ← hnor]
    exact mainGone_nor (hop.trans h1) (hlop.trans h2) (hpark.trans h3)

/-- Without VDD_CORE Falith is in Warm, and the warmer keeps its data. -/
theorem coreLoss_settled {s x : State} (hk : SameKept s x) (hoff : x.phase ≠ .off) :
    let t := x.coreLoss.settle
    t.phase = .warm ∧ t.pw.core = false ∧ t.regs = resetRegs ∧ t.img = Image.init ∧ t.frames = [] ∧ t.doms = [] ∧ t.pal = [] ∧
      t.warm.cal = s.warm.cal ∧ t.warm.causes = s.warm.causes ∧ t.otp = s.otp ∧
      (s.norOp = none → s.life.op = none → s.life.parked = none → t.nor = s.nor) ∧
      (∀ k < 2, (nth t.faultPin k ⟨false, false⟩).low = false) ∧ ∀ k < 4, nth t.intLow k false = false := by
  obtain ⟨hcauses, hotp, hcal, -, -, hop, hlop, hpark, hnor⟩ := hk
  have heq : x.coreLoss = { x.mainGone with phase := .warm, pw := { x.pw with core := false } } := by
    unfold State.coreLoss
    split
    · next h => exact absurd h hoff
    · rfl
  rw [heq]
  refine ⟨State.settle_phase _, ?_, ?_, State.settle_img _, State.settle_frames _, State.settle_doms _, State.settle_pal _, ?_, ?_, ?_,
    fun h1 h2 h3 => ?_, settle_faultPin_unpowered (Or.inr rfl), settle_intLow_unloaded rfl⟩
  · rw [State.settle_pw]
  · exact Eq.trans (settle_regs_unloaded rfl (mainGone_fcPin x)) rfl
  · rw [State.settle_warm, ← hcal]
    exact mainGone_cal x
  · rw [State.settle_warm, ← hcauses]
    exact mainGone_causes x
  · rw [State.settle_otp, ← hotp]
    exact mainGone_otp x
  · rw [State.settle_nor, ← hnor]
    exact mainGone_nor (hop.trans h1) (hlop.trans h2) (hpark.trans h3)

/-- The absence of VDDIO_33 takes the warmer off where the internal regulator feeds it from there. -/
theorem supplyOut_feeds {s : State} (hint : s.pw.internal = true) (hoff : s.phase ≠ .off) :
    s.supplyOut .io33 true = (s.supplyGone .io33 true).warmerOff := by
  have hfeed : (Rail.io33 == Rail.io33 && true && s.pw.internal && !(s.phase == .off)) = true := by simp [hint, hoff]
  unfold State.supplyOut
  rw [if_pos hfeed]
  rfl

/-- The powers-up state of the warmer: its own reset state, with what it finds of the supplies. -/
def State.warmerFound (coreOk : Bool) (out absent : List Rail) (internal : Bool) (s : State) : State :=
  { s with warm := Warm.init, phase := .warm, pw := { s.pw with
    core := coreOk, out := out, absent := absent, internal := internal, porst := true } }

theorem warmerUp_eq {coreOk internal : Bool} {out absent : List Rail} {s : State} (hoff : s.phase = .off)
    (hfed : internal = false ∨ Rail.io33 ∉ absent) :
    s.warmerUp coreOk out absent internal = (let c := (s.warmerFound coreOk out absent internal).calRestart
      if coreOk then { c with phase := .reset }.fullReset 1 false else c) := by
  have hcond : (!(s.phase == .off) || (internal && absent.contains Rail.io33)) = false := by
    rcases hfed with h | h <;> simp [hoff, h]
  unfold State.warmerUp
  rw [hcond]
  rfl

/-- The calendar restarts from the newest valid journal record and is not valid (R456). -/
theorem calRestart_warm (s : State) : s.calRestart.warm = { s.warm with
    cal := (match s.jrNewest with
      | some (_, b) => leAt b 8 6
      | none => 0)
    calValid := false } := by
  unfold State.calRestart
  rw [State.raise_warm] <;> rfl

/-- What the warmer's power-up leaves. -/
theorem warmerUp_settled {coreOk internal : Bool} {out absent : List Rail} {s : State} (hoff : s.phase = .off)
    (hfed : internal = false ∨ Rail.io33 ∉ absent) :
    let t := (s.warmerUp coreOk out absent internal).settle
    t.phase = (if coreOk then .reset else .warm) ∧ t.warm.calValid = false ∧ t.warm.causes = 1 ∧ t.pw.core = coreOk ∧
      t.pw.out = out ∧ t.pw.absent = absent ∧ t.pw.internal = internal ∧ (coreOk = true → t.regs = resetRegs) ∧
      t.warm.cal = (match s.jrNewest with
        | some (_, b) => leAt b 8 6
        | none => 0) := by
  have hwarm := calRestart_warm (s.warmerFound coreOk out absent internal)
  have hpw : (s.warmerFound coreOk out absent internal).calRestart.pw = (s.warmerFound coreOk out absent internal).pw :=
    State.raise_pw _ _
  have hphase : (s.warmerFound coreOk out absent internal).calRestart.phase = .warm := State.raise_phase _ _
  rw [warmerUp_eq hoff hfed]
  cases coreOk with
  | false =>
    simp only [Bool.false_eq_true, if_false, State.settle_phase, State.settle_warm, State.settle_pw, hwarm, hpw, hphase]
    exact ⟨trivial, trivial, rfl, rfl, rfl, rfl, rfl, fun h => h.elim, rfl⟩
  | true =>
    obtain ⟨hp, hregs, -, -, -, -, -, -, -, -, -, -, -, -, hcauses, -, -, hcal, hval, -⟩ := fullReset_answer
      (s := { (s.warmerFound true out absent internal).calRestart with phase := .reset }) (cause := 1) (latch := false)
      (SameKept.refl _) rfl
    simp only [if_true]
    refine ⟨hp, hval.trans ?_, hcauses.trans ?_, ?_, ?_, ?_, ?_, fun _ => hregs, hcal.trans ?_⟩
    · rw [hwarm]
    · rw [hwarm]
      show (1 : Nat) ||| 1 = 1
      rfl
    · rw [State.settle_pw, fullReset_pw, hpw]; rfl
    · rw [State.settle_pw, fullReset_pw, hpw]; rfl
    · rw [State.settle_pw, fullReset_pw, hpw]; rfl
    · rw [State.settle_pw, fullReset_pw, hpw]; rfl
    · rw [hwarm]
      rfl

/-- Whether a supply-warning record was written in the last second: by local time, or after a reset by the calendar. -/
def State.warnRecent (s : State) : Bool :=
  match s.life.supwAt, s.warm.supwCal with
  | some t, _ => decide (s.tm.loc < t + 1000000000)
  | none, some c => decide ((s.warm.cal + 2 ^ 48 - c) % 2 ^ 48 < 1024)
  | none, none => false

theorem warnMay_eq (s : State) : s.warnMay = !s.warnRecent := by
  have hble : ∀ m n : Nat, Nat.ble m n = !decide (n < m) := fun m n => by
    rw [Bool.eq_iff_iff, Nat.ble_eq, Bool.not_eq_true', decide_eq_false_iff_not, Nat.not_lt]
  unfold State.warnMay State.warnRecent
  cases s.life.supwAt with
  | some t => exact hble _ _
  | none =>
    cases s.warm.supwCal with
    | some c => exact hble _ _
    | none => rfl

/-- A supply warning in each of its conditions (R465). -/
theorem supplyWarning_eq (ages : List (Nat × Nat)) (s : State) :
    let w := { s with pw := { s.pw with supw := true } }
    let f := (w.raise (evPm 3)).lifeFold
    s.supplyWarning ages = (if s.pw.supw then s else if !s.runs then w else if f.warnRecent then f
      else State.jrWrite 2 ages { f with
        life := { f.life with supwAt := some f.tm.loc }
        warm := { f.warm with supwCal := some f.warm.cal } }) := by
  intro w f
  have hruns : w.runs = s.runs := rfl
  have hmay := warnMay_eq f
  unfold State.supplyWarning
  simp only [w, f] at hruns hmay ⊢
  rw [hruns, hmay]
  cases s.pw.supw <;> cases s.runs <;> simp only [Bool.not_true, Bool.not_false, Bool.false_eq_true, if_false, if_true]
  split <;> simp_all

/-- Settles O18: the losses of VDD_CORE and of the warmer drop what the main domains hold; the warmer's power-up restarts
the calendar; the supply warning has one branch for each of its conditions. -/
theorem powerLosses : Obligations.PowerLosses := by
  refine ⟨fun ns s hoff => ?_, fun i s hi => ?_, fun coreOk out absent internal s hoff => ⟨fun hint hio => ?_, fun hfed => ?_⟩,
    fun ages ns s => ?_, fun ns s => ?_⟩
  · exact ⟨_, rfl, coreLoss_settled (advance_kept s ns) (by simpa using hoff)⟩
  · rcases hi with rfl | ⟨⟨ns, rfl⟩, hint, hoff⟩
    · exact ⟨_, rfl, warmerOff_settled (advance_kept s 0)⟩
    · refine ⟨((s.advance ns).supplyOut .io33 true).settle, rfl, ?_⟩
      rw [supplyOut_feeds (by simpa using hint) (by simpa using hoff)]
      exact warmerOff_settled (advance_kept s ns)
  · show Host.Outcome.next ((s.advance 0).warmerUp coreOk out absent internal).settle = _
    rw [advance_unpowered 0 (Or.inl hoff)]
    unfold State.warmerUp
    simp [hint, hio]
  · refine ⟨((s.advance 0).warmerUp coreOk out absent internal).settle, rfl, ?_⟩
    rw [advance_unpowered 0 (Or.inl hoff)]
    exact warmerUp_settled hoff hfed
  · show Host.Outcome.next ((s.advance ns).supplyWarning (ageVals ages)).settle = _
    rw [supplyWarning_eq, State.advance_runs, State.advance_pw]
    rfl
  · show Host.Outcome.next ((s.advance ns).supplyRelease).settle = _
    unfold State.supplyRelease
    rw [State.advance_pw]

end Sys2Proof.Machine
end

section
/-! Proofs/Domains.lean: what the states of a switched domain and of the host link's domains are, and what changes them
(R41, R46, R58, R309). -/

namespace Sys2Proof.Machine

theorem ble_eq_decide (m n : Nat) : Nat.ble m n = decide (m ≤ n) := by
  rw [Bool.eq_iff_iff, Nat.ble_eq, decide_eq_true_iff]

theorem blt_eq_decide (m n : Nat) : Nat.blt m n = decide (m < n) := by
  rw [Bool.eq_iff_iff, Nat.blt_eq, decide_eq_true_iff]

/-! ## Tables -/

theorem tget_tset_ne {α : Type} (t : Tbl α) {k j : Nat} (v d : α) (h : j ≠ k) : tget (tset t k v) j d = tget t j d := by
  have hkj : (k == j) = false := beq_eq_false_iff_ne.mpr (Ne.symm h)
  induction t with
  | nil => simp only [tset, tget, hkj, Bool.false_eq_true, if_false]
  | cons e rest ih =>
    obtain ⟨k', v'⟩ := e
    unfold tset
    split
    · simp only [tget, hkj, Bool.false_eq_true, if_false]
    · split
      · next hk =>
        have hk' : (k' == j) = false := by rw [beq_iff_eq.mp hk, hkj]
        simp only [tget, hkj, hk', Bool.false_eq_true, if_false]
      · simp only [tget]
        split
        · rfl
        · exact ih

/-! ## A domain's state -/

variable (s : State) (d : Nat)

theorem setDom_dom (x : DomSt) : (s.setDom d x).dom d = x := tget_tset_same s.doms d x .off

theorem setDom_dom_ne {e : Nat} (x : DomSt) (h : e ≠ d) : (s.setDom d x).dom e = s.dom e := tget_tset_ne s.doms x .off h

theorem DomSt.code_lt (x : DomSt) : x.code < 2 ^ 3 := by cases x <;> decide

theorem setDom_shown (x : DomSt) : (s.setDom d x).get (Fld.PM_DSTAT_state d) = x.code := by
  have hput := State.get_put_same { s with doms := tset s.doms d x } (Fld.PM_DSTAT_state d) x.code (Nat.zero_le _)
    (show 2 < 32 by decide)
  exact hput.trans (Nat.mod_eq_of_lt x.code_lt)

/-- What the power of the domains changes: their table and ramps, draws, and registers of PM_ and CK_. -/
def DomsOnly (s t : State) : Prop :=
  t = { s with doms := t.doms, ramps := t.ramps, rampAt := t.rampAt, free := t.free, regs := t.regs } ∧
  ∀ off, off < 0x010000 ∨ 0x020000 ≤ off → t.reg off = s.reg off

theorem DomsOnly.refl (s : State) : DomsOnly s s := ⟨rfl, fun _ _ => rfl⟩

theorem DomsOnly.trans {s t u : State} (h : DomsOnly s t) (g : DomsOnly t u) : DomsOnly s u := by
  obtain ⟨h1, h2⟩ := h
  obtain ⟨g1, g2⟩ := g
  refine ⟨?_, fun off ho => (g2 off ho).trans (h2 off ho)⟩
  rw [h1] at g1
  exact g1

theorem DomsOnly.put {f : Fld} (v : Nat) (h : 0x010000 ≤ f.off ∧ f.off < 0x020000) : DomsOnly s (s.put f v) :=
  ⟨rfl, fun off ho => State.reg_put_ne s v (by omega)⟩

theorem forEach_domsOnly {α : Type} (l : List α) (f : α → State → State) (h : ∀ x ∈ l, ∀ s, DomsOnly s (f x s)) (s : State) :
    DomsOnly s (forEach l f s) := by
  induction l generalizing s with
  | nil => exact DomsOnly.refl s
  | cons x xs ih =>
    exact (h x (List.mem_cons_self ..) s).trans (ih (fun y hy => h y (List.mem_cons_of_mem _ hy)) (f x s))

variable {d}

theorem setDom_doms (hd : d < 152) (x : DomSt) : DomsOnly s (s.setDom d x) :=
  DomsOnly.trans (t := { s with doms := tset s.doms d x }) ⟨rfl, fun _ _ => rfl⟩
    (DomsOnly.put _ _ (by simp only [Fld.PM_DSTAT_state, Reg.PM_DSTAT]; omega))

theorem pllOf_lt {n : Nat} (hd : d < 152) (h : pllOf d = some n) : n < 8 := by
  unfold pllOf at h
  split at h
  · next e he =>
    have hlt : e < 12 := by
      unfold easelOf at he
      split at he
      · cases he
      · split at he
        · cases he; omega
        · split at he
          · cases he; omega
          · cases he
    cases h
    omega
  · split at h
    · cases h; omega
    · cases h

theorem pllPut_doms {n : Nat} (hn : n < 8) (v w : Nat) :
    DomsOnly s ((s.put (Fld.CK_PLL_running n) v).put (Fld.CK_PLL_locked n) w) :=
  (DomsOnly.put s v (by simp only [Fld.CK_PLL_running, Reg.CK_PLL]; omega)).trans
    (DomsOnly.put _ w (by simp only [Fld.CK_PLL_locked, Reg.CK_PLL]; omega))

theorem pllStart_doms (hd : d < 152) : DomsOnly s (s.pllStart d) := by
  unfold State.pllStart
  split
  · exact DomsOnly.refl s
  · next n hn =>
    have hlt := pllOf_lt hd hn
    split
    · exact DomsOnly.refl s
    · exact ((pllPut_doms s hlt 1 1).trans (DomsOnly.put _ _ (by simp only [Fld.CK_PLL_last_lock, Reg.CK_PLL]; omega))).trans
        ⟨rfl, fun _ _ => rfl⟩

theorem pllStop_doms (hd : d < 152) : DomsOnly s (s.pllStop d) := by
  unfold State.pllStop
  split
  · exact DomsOnly.refl s
  · next n hn =>
    split
    · exact DomsOnly.refl s
    · exact pllPut_doms s (pllOf_lt hd hn) 0 0

theorem domWake_doms (hd : d < 152) : DomsOnly s (s.domWake d) := by
  unfold State.domWake
  split
  · exact (DomsOnly.trans (t := { s with rampAt := tset s.rampAt d s.tm.loc, ramps := tdel s.ramps d })
      ⟨rfl, fun _ _ => rfl⟩ (setDom_doms _ hd .waking)).trans (pllStart_doms _ hd)
  · exact DomsOnly.refl s

theorem domCut_doms (hd : d < 152) : DomsOnly s (s.domCut d) :=
  (DomsOnly.trans (t := { s with ramps := tdel s.ramps d, rampAt := tdel s.rampAt d }) ⟨rfl, fun _ _ => rfl⟩
    (setDom_doms _ hd .off)).trans (pllStop_doms _ hd)

/-- A domain of no queue-store half powers down. -/
theorem domDown_doms (hd : d < 152) (h1 : d ≠ 132) (h2 : d ≠ 133) : DomsOnly s (s.domDown d) := by
  have hhalf : (if d == 132 || d == 133 then s.halfDown (d - 132) else s) = s := by simp [h1, h2]
  unfold State.domDown
  simp only [hhalf]
  exact DomsOnly.trans (t := { s with ramps := tdel s.ramps d, rampAt := tset s.rampAt d s.tm.loc }) ⟨rfl, fun _ _ => rfl⟩
    (setDom_doms _ hd .powerdown)

/-- A domain of the host link follows the link's state (R309). -/
theorem hlDom_doms (h1 : 134 ≤ d) (h2 : d < 138) : DomsOnly s (s.hlDom d) := by
  have hd : d < 152 := by omega
  have hdown := domDown_doms s hd (by omega) (by omega)
  unfold State.hlDom
  split
  · split
    · exact setDom_doms s hd .on
    · exact domWake_doms s hd
  · split
    · split
      · exact setDom_doms s hd .draining
      · exact hdown.trans (domCut_doms _ hd)
    · split
      · exact hdown
      · exact hdown.trans (domCut_doms _ hd)
    · exact DomsOnly.refl s

theorem hlDoms_doms : DomsOnly s s.hlDoms :=
  forEach_domsOnly _ _ (fun d hd s => by
    simp only [List.mem_cons, List.not_mem_nil, or_false] at hd
    exact hlDom_doms s (by omega) (by omega)) s

end Sys2Proof.Machine
end

section
/-! Proofs/HostLinkReset.lean: the reset of the host link and its training (R56, R67 to R72). -/

namespace Sys2Proof.Machine

/-! ## Registers back at their Reset column -/

theorem cellGet_append {n : Nat} (d : BitVec n) (l m : List (Nat × BitVec n)) (a : Nat) :
    cellGet d (l ++ m) a = if l.any (fun e => e.1 == a) then cellGet d l a else cellGet d m a := by
  induction l with
  | nil => rfl
  | cons e rest ih =>
    obtain ⟨k, v⟩ := e
    by_cases h : (k == a) = true
    · simp [cellGet, h]
    · simp [cellGet, h, ih]

/-- Cells none of which has the key leave a read to those behind them. -/
theorem cellGet_append_skip {n : Nat} {d : BitVec n} {l m : List (Nat × BitVec n)} {a : Nat} (h : ∀ e ∈ l, e.1 ≠ a) :
    cellGet d (l ++ m) a = cellGet d m a := by
  rw [cellGet_append, if_neg]
  rw [List.any_eq_true]
  rintro ⟨e, he, hk⟩
  exact h e he (beq_iff_eq.mp hk)

theorem cellGet_none {n : Nat} {d : BitVec n} {l : List (Nat × BitVec n)} {a : Nat} (h : ∀ e ∈ l, e.1 ≠ a) :
    cellGet d l a = d := by
  have hskip := cellGet_append_skip (d := d) (m := []) h
  rwa [List.append_nil] at hskip

/-- A register of a range that is reset reads as its Reset column, the others as before. -/
theorem resetRange_reg (s : State) (lo hi off : Nat) (hle : lo ≤ hi) :
    (s.resetRange lo hi).reg off = if lo ≤ off ∧ off < hi then cellGet 0#32 resetRegs off else s.reg off := by
  have hlow := cellGet_filter (d := 0#32) (m := s.regs) (fun k => Nat.blt k lo) off
  have hmid := cellGet_filter (d := 0#32) (m := resetRegs) (fun k => Nat.ble lo k && Nat.blt k hi) off
  have hhigh := cellGet_filter (d := 0#32) (m := s.regs) (fun k => Nat.ble hi k) off
  have klow : ∀ e ∈ s.regs.filter (fun e => Nat.blt e.1 lo), e.1 < lo := fun e he => by
    simpa using (List.mem_filter.mp he).2
  have kmid : ∀ e ∈ regsIn resetRegs lo hi, lo ≤ e.1 ∧ e.1 < hi := fun e he => by
    simpa using (List.mem_filter.mp he).2
  have khigh : ∀ e ∈ s.regs.filter (fun e => Nat.ble hi e.1), hi ≤ e.1 := fun e he => by
    simpa using (List.mem_filter.mp he).2
  have hsplit : (s.resetRange lo hi).reg off = cellGet 0#32 (s.regs.filter (fun e => Nat.blt e.1 lo) ++
      (regsIn resetRegs lo hi ++ s.regs.filter (fun e => Nat.ble hi e.1))) off := by
    rw [← List.append_assoc]
    rfl
  rw [hsplit]
  rcases Nat.lt_or_ge off lo with h1 | h1
  · have hrest : cellGet 0#32 (regsIn resetRegs lo hi ++ s.regs.filter (fun e => Nat.ble hi e.1)) off = 0#32 := by
      rw [cellGet_append_skip (fun e he => by have := kmid e he; omega), cellGet_none (fun e he => by have := khigh e he; omega)]
    have hb : Nat.blt off lo = true := by simpa using h1
    rw [hb, if_pos rfl] at hlow
    rw [if_neg (by omega), cellGet_append, hrest, hlow]
    split
    · rfl
    · next hany =>
      refine Eq.trans ?_ hlow
      rw [Bool.not_eq_true, List.any_eq_false] at hany
      exact (cellGet_none (fun e he h => hany e he (beq_iff_eq.mpr h))).symm
  · rw [cellGet_append_skip (fun e he => by have := klow e he; omega)]
    rcases Nat.lt_or_ge off hi with h2 | h2
    · have hb : (Nat.ble lo off && Nat.blt off hi) = true := by simp [h1, h2]
      rw [hb, if_pos rfl] at hmid
      rw [if_pos ⟨h1, h2⟩, cellGet_append]
      split
      · exact hmid
      · next hany =>
        rw [cellGet_none (fun e he => by have := khigh e he; omega), ← hmid]
        rw [Bool.not_eq_true, List.any_eq_false] at hany
        exact (cellGet_none (fun e he h => hany e he (beq_iff_eq.mpr h))).symm
    · have hb : Nat.ble hi off = true := by simpa using h2
      rw [hb, if_pos rfl] at hhigh
      rw [if_neg (by omega), cellGet_append_skip (fun e he => by have := kmid e he; omega), hhigh]
      rfl

/-! ## The reset of the link -/

/-- The functions' states are shown in HL_FN alone. -/
theorem fnShow_regs (s : State) : RegsOnly s s.fnShow := (RegsOnly.put s _ _).trans (RegsOnly.put _ _ _)

theorem fnShow_reg_ne (s : State) {off : Nat} (h : off ≠ Reg.HL_FN) : s.fnShow.reg off = s.reg off := by
  unfold State.fnShow
  rw [State.reg_put_ne _ _ h, State.reg_put_ne _ _ h]

/-- What the reset of the functions leaves of them. -/
theorem fnsReset_frame (s : State) :
    s.fnsReset.fns = [(0, FnSt.init true)] ∧ s.fnsReset.msix = [] ∧ s.fnsReset.msixPend = [] ∧ s.fnsReset.atc = [] :=
  ⟨rfl, rfl, rfl, rfl⟩

theorem hlResetGo_eq {s : State} (h : s.hlReset = false) : s.hlResetGo =
    ({ ((s.hlDown.ideDrop).sessEnd).fnsReset.resetRange 0x900000 0x910000 with hlReset := true }.fnShow).hlDoms := by
  unfold State.hlResetGo
  exact if_neg (by simp [h])

/-- What the start of a host-link reset leaves of the link, once what hung on it is gone. -/
theorem hlResetGo_frame {s : State} (h : s.hlReset = false) :
    let t := s.hlResetGo
    t.hlReset = true ∧ t.fns = [(0, FnSt.init true)] ∧ t.msix = [] ∧ t.msixPend = [] ∧ t.atc = [] ∧
    ∀ off, 0x900000 ≤ off → off < 0x910000 → off ≠ Reg.HL_FN → t.reg off = cellGet 0#32 resetRegs off := by
  simp only
  rw [hlResetGo_eq h]
  obtain ⟨hfns, hmsix, hpend, hatc⟩ := fnsReset_frame ((s.hlDown.ideDrop).sessEnd)
  generalize ((s.hlDown.ideDrop).sessEnd).fnsReset = u at hfns hmsix hpend hatc ⊢
  obtain ⟨hd, hreg⟩ := hlDoms_doms { u.resetRange 0x900000 0x910000 with hlReset := true }.fnShow
  refine ⟨?_, ?_, ?_, ?_, ?_, fun off h1 h2 h3 => ?_⟩
  · rw [hd]; rfl
  · rw [hd]; exact hfns
  · rw [hd]; exact hmsix
  · rw [hd]; exact hpend
  · rw [hd]; exact hatc
  · rw [hreg off (by omega), fnShow_reg_ne _ h3]
    exact (resetRange_reg u _ _ off (by decide)).trans (if_pos ⟨h1, h2⟩)

/-- A link in reset takes no further one. -/
theorem hlResetGo_again {s : State} (h : s.hlReset = true) : s.hlResetGo = s := by
  unfold State.hlResetGo
  rw [if_pos h]

/-! ## Training -/

theorem hlTrainNow_eq (s : State) : s.hlTrainNow =
    if s.flag Fld.HL_STAT_up then s
    else
      let go := fun (rate width : Nat) (sris : Bool) => ((s.emit (.train rate width sris)).put Fld.HL_STAT_lstate 5).hlDoms
      if s.loaded then go (s.get Fld.HL_CFG_max_rate) (s.get Fld.HL_CFG_max_width) (s.flag Fld.HL_CFG_sris)
      else match s.earlyHlCfg with
        | some w => go (bits w 19 16) (bits w 11 8) (bit w 24)
        | none => go 6 8 false := by
  unfold State.hlTrainNow State.hlTrain
  cases s.flag Fld.HL_STAT_up with
  | false =>
    cases s.earlyHlCfg <;> simp only [Bool.false_eq_true, if_false]
  | true =>
    simp only [if_true]
    split
    · rfl
    · split <;> rfl

/-- The end of a host-link reset with PERST_N high: HL_ from the shadow copy, the declared budget, and training (R69). -/
theorem hlResetEnd_eq {s : State} (h1 : s.runs = true) (h2 : s.hlReset = true) (h3 : s.pw.perst = false) :
    s.hlResetEnd = (({ s with hlReset := false }.restore 0x900000 0x910000).hlDeclared).hlTrainNow := by
  unfold State.hlResetEnd
  simp only [h1, h2, h3, Bool.not_true, Bool.or_self, Bool.false_eq_true, if_false]

theorem trainStart_eq {s : State} (h1 : s.runs = true) (h3 : s.pw.perst = false) :
    s.trainStart = if s.loaded && s.hlReset then s.hlResetEnd else { s with hlReset := false }.hlTrainNow := by
  unfold State.trainStart
  simp only [h1, h3, Bool.not_true, Bool.or_self, Bool.false_eq_true, if_false]

/-- BOOT_CMD with op 0x2 resets the host link and adds its cause. -/
theorem bootCmd_hostLink : State.bootCmd 0x5A3C0002 =
    fun s => if s.runs then State.hlResetGo { s with warm := { s.warm with causes := s.warm.causes ||| 16 } } else s := by
  funext s
  have hkey : (!(0x5A3C0002 / 2 ^ 16 == 0x5A3C)) = false := by decide
  have hop1 : (0x5A3C0002 % 16 == 1) = false := by decide
  have hop2 : (0x5A3C0002 % 16 == 2) = true := by decide
  unfold State.bootCmd State.hlResetCause
  rw [hkey, hop1, hop2]
  simp only [Bool.false_eq_true, if_false, if_true]

theorem exec_hostLinkResetCommand (r : Fin 19) (s : State) :
    exec (.hostLinkResetCommand r) s = .next (s.busWrite r.val Reg.BOOT_CMD 0x5A3C0002).settle := rfl

theorem exec_perstAssert (ns : Nat) (s : State) : exec (.perstAssert ns) s = .next (s.advance ns).perstFall.settle := rfl

theorem exec_perstRelease (ns : Nat) (s : State) : exec (.perstRelease ns) s = .next (s.advance ns).perstRise.settle := rfl

theorem exec_hostLinkResetEnd (ns : Nat) (s : State) : exec (.hostLinkResetEnd ns) s = .next (s.running ns State.hlResetEnd) := rfl

theorem exec_linkTrainingStart (ns : Nat) (s : State) :
    exec (.linkTrainingStart ns) s = .next (s.running ns State.trainStart) := rfl

theorem exec_configRequestDuringBoot (fn : Fin 16) (s : State) : exec (.configRequestDuringBoot fn) s =
    .next (if s.phase == .boot && s.flag Fld.HL_STAT_up then s.emit (.retryStatus fn.val) else s).settle := rfl

/-- The fall of PERST_N adds the cause of a Falith that runs, and resets a link that is not in reset. -/
theorem perstFall_eq (s : State) : s.perstFall =
    if !s.runs then { s with pw := { s.pw with perst := true } }
    else if s.hlReset then { s with pw := { s.pw with perst := true }, warm := { s.warm with causes := s.warm.causes ||| 16 } }
    else State.hlResetGo { s with pw := { s.pw with perst := true }, warm := { s.warm with causes := s.warm.causes ||| 16 } } := by
  let a : State := { s with pw := { s.pw with perst := true } }
  show (if a.runs then State.hlResetGo { a with warm := { a.warm with causes := a.warm.causes ||| 16 } } else a) = _
  have hruns : a.runs = s.runs := rfl
  rw [hruns]
  by_cases h1 : s.runs = true
  · rw [if_pos h1, if_neg (by simp [h1])]
    by_cases h2 : s.hlReset = true
    · rw [if_pos h2]
      exact hlResetGo_again h2
    · rw [if_neg h2]
  · rw [if_neg h1, if_pos (by simp [h1])]

/-- Settles O20: a reset drops the link and puts its registers back (hlResetGo_frame); its end and the training are their
operations in the shell of a running Falith. -/
theorem hostLinkReset : Obligations.HostLinkReset := by
  refine ⟨fun s h => hlResetGo_frame h, fun ns s => ?_, fun r s => ?_, fun ns s => ?_, fun ns s h1 h2 h3 => ⟨?_, fun hl => ?_⟩,
    fun ns s h1 h2 h3 => ?_, hlTrainNow_eq, exec_configRequestDuringBoot⟩
  · rw [exec_perstAssert, perstFall_eq]
    simp only [State.advance_runs, State.advance_hlReset]
  · rw [exec_hostLinkResetCommand, busWrite_BOOT_CMD, bootCmd_hostLink]
  · rw [exec_perstRelease]
    unfold State.perstRise
    rw [State.advance_pw]
  · rw [exec_hostLinkResetEnd, running_runs ns _ s h1, hlResetEnd_eq (by simpa using h1) (by simpa using h2) (by simpa using h3)]
  · rw [exec_linkTrainingStart, running_runs ns _ s h1, trainStart_eq (by simpa using h1) (by simpa using h3), if_pos (by simp [hl, h2]),
      hlResetEnd_eq (by simpa using h1) (by simpa using h2) (by simpa using h3)]
  · rw [exec_linkTrainingStart, running_runs ns _ s h1, trainStart_eq (by simpa using h1) (by simpa using h3), if_neg]
    rcases h2 with h | h <;> simp [h]

end Sys2Proof.Machine
end

section
/-! Proofs/PowerDown.lean: power-down requests, waking and draining of domains, adaptive voltage scaling (R39 to R49, R62 to R64). -/

namespace Sys2Proof.Machine

/-! ## Requests (R47) -/

theorem bit_or (x y b : Nat) : bit (x ||| y) b = (bit x b || bit y b) := by
  simp only [bit_eq_testBit, Nat.testBit_or]

/-- The refusal of a power-down request, with its cases as propositions. -/
theorem pdRefusal_eq (s : State) (d : Nat) : s.pdRefusal d =
    if s.phase == .entering || s.phase == .waking then some 6
    else if s.domBist d then some 4
    else if 84 ≤ d && d < 132 && s.groupLive (d - 84) != 0 then some 1
    else if d < 48 && s.portBusy (d / 2) then some 2
    else if s.domSoon d then some 3
    else none := by
  unfold State.pdRefusal
  simp only [ble_eq_decide, blt_eq_decide, bne]

/-- The three fields that a write of PM_n_DCTRL sets. -/
def dctrlPut (s : State) (d keep on off : Nat) : State :=
  ((s.put (Fld.PM_DCTRL_sb_keep d) keep).put (Fld.PM_DCTRL_hold_on d) on).put (Fld.PM_DCTRL_hold_off d) off

/-- Setting hold_off asks for a power-down, unless hold_on is set, which wakes the domain. -/
theorem dctrlWrite_off (r d old : Nat) (s : State) : s.dctrlWrite r d (old ||| 2) =
    (let w := dctrlPut s d (b2n (bit old 2 || d == 146 || d == 147)) (b2n (bit old 0)) 1
    if bit old 0 then (if w.phase == .active then w.domWake d else w)
    else match w.pdRefusal d with
    | some c => (w.put (Fld.PM_DCTRL_hold_off d) 0).pmRefuse c (s.reqDomain r) (some d)
    | none => w.domDrain d) := by
  have b0 : bit (old ||| 2) 0 = bit old 0 := by rw [bit_or, show bit 2 0 = false from rfl, Bool.or_false]
  have b1 : bit (old ||| 2) 1 = true := by rw [bit_or, show bit 2 1 = true from rfl, Bool.or_true]
  have b2 : bit (old ||| 2) 2 = bit old 2 := by rw [bit_or, show bit 2 2 = false from rfl, Bool.or_false]
  unfold State.dctrlWrite dctrlPut
  rw [b0, b1, b2]
  cases bit old 0 <;> rfl

/-- Setting hold_on wakes the domain in Active. -/
theorem dctrlWrite_on (r d old : Nat) (s : State) : s.dctrlWrite r d (old ||| 1) =
    (let w := dctrlPut s d (b2n (bit old 2 || d == 146 || d == 147)) 1 (b2n (bit old 1))
    if w.phase == .active then w.domWake d else w) := by
  have b0 : bit (old ||| 1) 0 = true := by rw [bit_or, show bit 1 0 = true from rfl, Bool.or_true]
  have b1 : bit (old ||| 1) 1 = bit old 1 := by rw [bit_or, show bit 1 1 = false from rfl, Bool.or_false]
  have b2 : bit (old ||| 1) 2 = bit old 2 := by rw [bit_or, show bit 1 2 = false from rfl, Bool.or_false]
  unfold State.dctrlWrite dctrlPut
  rw [b0, b1, b2]
  cases bit old 1 <;> rfl

/-- Settles O22: both requests are writes of PM_n_DCTRL with one bit set (dctrlWrite_off, dctrlWrite_on). -/
theorem powerDownRequests : Obligations.PowerDownRequests := by
  intro r n s
  constructor
  · show Host.Outcome.next (s.busWrite r.val (Reg.PM_DCTRL n.val) ((s.reg (Reg.PM_DCTRL n.val)).toNat ||| 2)).settlePlan = _
    rw [busWrite_PM_DCTRL, show State.dctrlWrite r.val n.val ((s.reg (Reg.PM_DCTRL n.val)).toNat ||| 2) = _ from
      funext (dctrlWrite_off r.val n.val _)]
    simp only [pdRefusal_eq]
    rfl
  · show Host.Outcome.next (s.busWrite r.val (Reg.PM_DCTRL n.val) ((s.reg (Reg.PM_DCTRL n.val)).toNat ||| 1)).settlePlan = _
    rw [busWrite_PM_DCTRL, show State.dctrlWrite r.val n.val ((s.reg (Reg.PM_DCTRL n.val)).toNat ||| 1) = _ from
      funext (dctrlWrite_on r.val n.val _)]
    rfl

/-! ## Waking and draining (R41, R42, R46) -/

/-- What bars a domain from waking, as hold_on and hold_off say it. -/
theorem domWake_eq (s : State) (d : Nat) : s.domWake d =
    if s.dom d == .off && !s.domFenced d && (s.flag (Fld.PM_DCTRL_hold_on d) || !s.flag (Fld.PM_DCTRL_hold_off d)) &&
      decide (s.ramping < 8) then
      State.pllStart d ({ s with rampAt := tset s.rampAt d s.tm.loc, ramps := tdel s.ramps d }.setDom d .waking)
    else s := by
  have hbar : (!s.domBarred d) = (!s.domFenced d && (s.flag (Fld.PM_DCTRL_hold_on d) || !s.flag (Fld.PM_DCTRL_hold_off d))) := by
    unfold State.domBarred State.domHeld
    cases s.domFenced d <;> cases s.flag (Fld.PM_DCTRL_hold_on d) <;> cases s.flag (Fld.PM_DCTRL_hold_off d) <;> rfl
  unfold State.domWake
  rw [hbar, blt_eq_decide]
  simp only [Bool.and_assoc]

theorem pllStop_dom (s : State) (d e : Nat) : (s.pllStop d).dom e = s.dom e := by
  unfold State.pllStop
  split
  · rfl
  · split <;> rfl

/-- Cutting a domain's power leaves it off, and another one that was off too. -/
theorem domCut_dom (s : State) {d e : Nat} (h : e = d ∨ s.dom e = .off) : (s.domCut d).dom e = .off := by
  unfold State.domCut
  rw [pllStop_dom]
  by_cases he : e = d
  · rw [he, setDom_dom]
  · rw [setDom_dom_ne _ _ _ he]
    exact h.resolve_left he

theorem forEach_domCut_off (l : List Nat) (s : State) {e : Nat} (h : e ∈ l ∨ s.dom e = .off) :
    (forEach l State.domCut s).dom e = .off := by
  induction l generalizing s with
  | nil => exact h.resolve_left (List.not_mem_nil)
  | cons d ds ih =>
    rcases h with h | h
    · rcases List.mem_cons.mp h with h | h
      · exact ih _ (Or.inr (domCut_dom s (Or.inl h)))
      · exact ih _ (Or.inl h)
    · exact ih _ (Or.inr (domCut_dom s (Or.inr h)))

/-- An entry that a table shows stands in it. -/
theorem mem_of_tget {α : Type} {t : Tbl α} {k : Nat} {v d : α} (h : tget t k d = v) (hv : v ≠ d) : (k, v) ∈ t := by
  induction t with
  | nil => exact absurd h.symm hv
  | cons e rest ih =>
    obtain ⟨j, w⟩ := e
    unfold tget at h
    split at h
    · next hj => rw [beq_iff_eq.mp hj, h]; exact List.mem_cons_self ..
    · exact List.mem_cons_of_mem _ (ih h)

/-- A domain powering down is off once time has passed. -/
theorem domsOff_off {s : State} {d : Nat} (h : s.dom d = .powerdown) (ht : tget s.rampAt d 0 < s.tm.loc) : s.domsOff.dom d = .off := by
  refine forEach_domCut_off _ s (Or.inl (List.mem_map.mpr ⟨(d, .powerdown), List.mem_filter.mpr ⟨mem_of_tget h (by decide), ?_⟩, rfl⟩))
  simpa using ht

/-- A domain that is powered, with what follows its restore spelled out. -/
theorem domUp_eq (s : State) (d : Nat) : s.domUp d =
    (let b := forEach (domRanges d) (fun x u => State.restore u x.1 x.2)
        (({ s with ramps := tdel s.ramps d, rampAt := tdel s.rampAt d }.setDom d .on).bump (Fld.PM_DSTAT_wakes d))
    let k := State.cenCheckSet d (if d == 136 then b.hlDeclared else b)
    let c := if 84 ≤ d && d < 132 then State.groupClear (d - 84) k else k
    let p := if 138 ≤ d && d < 142 then State.csoFlush (d - 138) c
      else if d == 134 then c.hlFlush else if Nat.blt d 48 then c.portWoke (d / 2) else c
    let q := if p.domOn 144 && p.domOn 145 then p.txeWake (p.txeOf d) else p
    let r := if (easelOf d).isSome then q.takenOver else q
    if 84 ≤ d && d < 132 && r.working then r.applyIdle else r) := by
  unfold State.domUp State.domPowered State.domRestore
  simp only [ble_eq_decide, blt_eq_decide]

/-- The domains of the easels. -/
theorem easelOf_isSome (d : Nat) : (easelOf d).isSome = (48 ≤ d && d < 84) := by
  unfold easelOf
  split
  · next h => simp [show ¬ 48 ≤ d by omega]
  · split
    · next h => simp [show 48 ≤ d by omega, show d < 84 by omega]
    · split
      · next h => simp [show 48 ≤ d by omega, h]
      · next h => simp [h]

theorem rampStart_eq (s : State) (d : Nat) : s.rampStart d =
    if (s.phase == .active || s.phase == .waking) && (thas s.ramps d || s.domNeed d || s.domHeld d) then s.domWake d else s := by
  unfold State.rampStart
  cases s.phase <;> rfl

theorem drainDone_eq (s : State) (d : Nat) : s.drainDone d =
    if !(s.dom d == .draining) || s.dripHeld d then s
    else if (s.phase == .active && (s.domHeld d || s.domSoon d)) || (Nat.ble 134 d && Nat.blt d 138 && s.hlWant d) then
      let on := s.setDom d .on
      if on.domOn 144 && on.domOn 145 then on.txeWake (on.txeOf d) else on
    else
      let h := if d == 132 || d == 133 then State.halfDown (d - 132) s else s
      { h with ramps := tdel h.ramps d, rampAt := tset h.rampAt d h.tm.loc }.setDom d .powerdown := rfl

/-- Settles O23: each command is its operation in the shell of a loaded image (rampStart_eq, domUp_eq, drainDone_eq). -/
theorem domainsWakeAndDrain : Obligations.DomainsWakeAndDrain := by
  refine ⟨fun n ns s hl => ⟨?_, ?_, ?_⟩, domWake_eq, fun s d h ht => domsOff_off h ht, fun s d x hd => ⟨setDom_dom s d x, setDom_shown s d x⟩⟩
  · show Host.Outcome.next (s.event ns (State.rampStart n.val)) = _
    rw [event_loaded ns _ s hl, rampStart_eq, State.advance_phase]
  · show Host.Outcome.next (s.event ns (fun s => (s.wakeDone n.val).awoken)) = _
    rw [event_loaded ns _ s hl]
    unfold State.wakeDone
    simp only [domUp_eq, easelOf_isSome]
  · show Host.Outcome.next (s.event ns (State.drainDone n.val)) = _
    rw [event_loaded ns _ s hl, drainDone_eq, State.advance_phase]

end Sys2Proof.Machine
end

section
/-! Proofs/Voltage.lean: what Falith has put out stays put out; adaptive voltage scaling (R62 to R64). -/

namespace Sys2Proof.Machine

/-! ## Outputs stay -/

theorem forEach_out {α : Type} (l : List α) (f : α → State → State) (h : ∀ x s, s.out ⊆ (f x s).out) (s : State) :
    s.out ⊆ (forEach l f s).out := by
  induction l generalizing s with
  | nil => exact List.Subset.refl _
  | cons x xs ih => exact List.Subset.trans (h x s) (ih (f x s))

theorem hlPost_out (o : Out) (s : State) : s.out ⊆ (s.hlPost o).out := by
  unfold State.hlPost
  split
  · exact List.subset_cons_self _ _
  · show s.out ⊆ s.exitCall.out
    unfold State.exitCall
    split
    · split <;> simp only [State.emit_out] <;> intro x hx <;> simp [hx]
    · exact List.Subset.refl _

theorem msiSend_out (fn vec : Nat) (s : State) : s.out ⊆ (s.msiSend fn vec).out := by
  unfold State.msiSend
  split
  · exact List.Subset.refl _
  · split
    · exact List.Subset.refl _
    · exact hlPost_out _ s

theorem srcRise_out (n : Nat) (s : State) : s.out ⊆ (s.srcRise n).out := by
  unfold State.srcRise
  split
  · unfold State.msiDue
    split
    · exact msiSend_out _ _ s
    · dsimp only
      split
      · exact List.Subset.refl _
      · exact msiSend_out _ _ s
  · exact List.Subset.refl _

theorem raise_out (n : Nat) (s : State) : s.out ⊆ (s.raise n).out := by
  unfold State.raise
  split
  · exact List.Subset.refl _
  · dsimp only
    split
    · exact srcRise_out n ((({ s with hot := n :: s.hot }).put (fStat n) 1).bump (Fld.EVT_CNT_count n))
    · exact List.Subset.refl _

theorem gpioDrive_out (n : Nat) (s : State) : s.out ⊆ (s.gpioDrive n).out := by
  unfold State.gpioDrive
  split
  · exact List.Subset.refl _
  · dsimp only
    split
    · exact List.Subset.refl _
    · exact List.subset_cons_self _ _

theorem fcMark_out (n : Nat) (low : Bool) (s : State) : s.out ⊆ (s.fcMark n low).out := by
  unfold State.fcMark
  split <;> exact List.subset_cons_self _ _

/-- The end of a command takes no output back. -/
theorem settle_out (s : State) : s.out ⊆ s.settle.out := by
  have hgpio : s.out ⊆ s.gpioAll.out := by
    unfold State.gpioAll
    split
    · exact forEach_out _ _ gpioDrive_out s
    · exact List.Subset.refl _
  have hfc : s.gpioAll.out ⊆ s.gpioAll.fcAll.out :=
    forEach_out _ _ (fun n u => fcMark_out n _ u) { s.gpioAll with fcPin := (List.range 8).map s.gpioAll.fcNext }
  exact List.Subset.trans (List.Subset.trans hgpio hfc) (List.subset_append_right _ _)

/-! ## Adaptive voltage scaling -/

/-- The count of good checks in a row that a tick finds. -/
def avsCount (margin : Nat) (s : State) : Nat := if Nat.blt 24 margin then s.avsGood + 1 else 0

/-- Whether a tick may lower the code. -/
def avsLower (margin : Nat) (s : State) : Bool :=
  Nat.ble 100 (avsCount margin s) && Nat.blt (s.get Fld.PM_AVS_CTRL_vmin) (s.get Fld.PM_AVS_STAT_code)

/-- The code that a tick sends. -/
def avsCode (margin : Nat) (s : State) : Nat :=
  if Nat.blt margin 12 && Nat.blt (s.get Fld.PM_AVS_STAT_code) (s.get Fld.PM_AVS_CTRL_vmax) then s.get Fld.PM_AVS_STAT_code + 1
  else if avsLower margin s then s.get Fld.PM_AVS_STAT_code - 1 else s.get Fld.PM_AVS_STAT_code

/-- The state of a tick once its code is sent. -/
def avsSent (margin : Nat) (s : State) : State :=
  (({ s with avsGood := if avsLower margin s then 0 else Nat.min 100 (avsCount margin s) }.put Fld.PM_AVS_STAT_margin margin).raiseIf
    (Nat.blt margin 12 && s.get Fld.PM_AVS_STAT_code == s.get Fld.PM_AVS_CTRL_vmax) (evPm 7)).emit (.pmbus (avsCode margin s))

variable {s : State} {margin : Nat}

/-- A tick sends its code and records how the transfer ended. -/
theorem avsTick_eq (busOk : Bool) (hl : s.loaded = true) (he : s.flag Fld.PM_AVS_CTRL_enable = true) :
    s.avsTick margin busOk =
      if busOk then
        { ((avsSent margin s).put Fld.PM_AVS_STAT_code (avsCode margin s)).put Fld.PM_AVS_STAT_bus_fail 0 with
          life := { (avsSent margin s).life with maxCode := Nat.max (avsSent margin s).life.maxCode (avsCode margin s)
                                                 lastCode := some (avsCode margin s) } }
      else ((avsSent margin s).put Fld.PM_AVS_STAT_bus_fail 1).raise (evPm 6) := by
  unfold State.avsTick
  rw [hl, he, if_neg (by decide)]
  rfl

theorem avsTick_off (busOk : Bool) (h : s.loaded = false ∨ s.flag Fld.PM_AVS_CTRL_enable = false) : s.avsTick margin busOk = s := by
  unfold State.avsTick
  exact if_pos (by rcases h with h | h <;> simp [h])

theorem avsCount_eq : avsCount margin s = if 24 < margin then s.avsGood + 1 else 0 := by
  simp only [avsCount, Nat.blt_eq]

theorem avsLower_iff : avsLower margin s = true ↔
    100 ≤ avsCount margin s ∧ s.get Fld.PM_AVS_CTRL_vmin < s.get Fld.PM_AVS_STAT_code := by
  simp only [avsLower, Bool.and_eq_true, Nat.ble_eq, Nat.blt_eq]

theorem avsCode_eq : avsCode margin s =
    if margin < 12 ∧ s.get Fld.PM_AVS_STAT_code < s.get Fld.PM_AVS_CTRL_vmax then s.get Fld.PM_AVS_STAT_code + 1
    else if 100 ≤ avsCount margin s ∧ s.get Fld.PM_AVS_CTRL_vmin < s.get Fld.PM_AVS_STAT_code then s.get Fld.PM_AVS_STAT_code - 1
    else s.get Fld.PM_AVS_STAT_code := by
  simp only [avsCode, Bool.and_eq_true, Nat.blt_eq, avsLower_iff]

/-- What a tick has sent stands beside the event in the registers. -/
theorem avsSent_get {f : Fld} (h : f.off = Reg.PM_AVS_STAT) :
    (avsSent margin s).get f = (s.put Fld.PM_AVS_STAT_margin margin).get f := by
  unfold avsSent
  rw [State.emit_get, State.raiseIf_get _ _ _ f (by decide) (by rw [h]; decide)]
  rfl

theorem avsSent_code : (avsSent margin s).get Fld.PM_AVS_STAT_code = s.get Fld.PM_AVS_STAT_code :=
  (avsSent_get rfl).trans (State.get_put_disj s margin (by decide) (by decide) (Or.inl (by decide)))

theorem avsSent_margin (h : margin < 256) : (avsSent margin s).get Fld.PM_AVS_STAT_margin = margin :=
  ((avsSent_get rfl).trans (State.get_put_same s Fld.PM_AVS_STAT_margin margin (by decide) (by decide))).trans (Nat.mod_eq_of_lt h)

theorem avsSent_limit (h : margin < 12) (hv : s.get Fld.PM_AVS_STAT_code = s.get Fld.PM_AVS_CTRL_vmax) :
    (avsSent margin s).get (fStat (evPm 7)) = 1 := by
  have hc : (Nat.blt margin 12 && s.get Fld.PM_AVS_STAT_code == s.get Fld.PM_AVS_CTRL_vmax) = true := by
    simp [h, hv]
  unfold avsSent State.raiseIf
  rw [hc, if_pos rfl, State.emit_get, raise_status _ _ (by decide), if_pos rfl]

theorem avsSent_good : (avsSent margin s).avsGood = if avsLower margin s then 0 else Nat.min 100 (avsCount margin s) := by
  unfold avsSent
  rw [State.emit_avsGood, State.raiseIf_avsGood, State.put_avsGood]

theorem avsSent_out : .pmbus (avsCode margin s) ∈ (avsSent margin s).out := List.mem_cons_self ..

/-- A tick whose transfer goes through. -/
theorem avsTick_sent (hl : s.loaded = true) (he : s.flag Fld.PM_AVS_CTRL_enable = true) (h : margin < 256) :
    let t := (s.avsTick margin true).settle
    (.pmbus (avsCode margin s)) ∈ t.out ∧ t.get Fld.PM_AVS_STAT_code = avsCode margin s % 256 ∧
    t.get Fld.PM_AVS_STAT_margin = margin ∧ t.get Fld.PM_AVS_STAT_bus_fail = 0 ∧
    t.avsGood = (if avsLower margin s then 0 else Nat.min 100 (avsCount margin s)) ∧
    (margin < 12 → s.get Fld.PM_AVS_STAT_code = s.get Fld.PM_AVS_CTRL_vmax → t.get (fStat (evPm 7)) = 1) := by
  dsimp only
  rw [avsTick_eq true hl he, if_pos rfl]
  let a := (avsSent margin s).put Fld.PM_AVS_STAT_code (avsCode margin s)
  have hget (f : Fld) (h1 : f.off ≠ Reg.SIG_GPIO_LVL) (h2 : f.off < 0x610110 ∨ 0x610200 ≤ f.off) (l : Life) :
      ({ a.put Fld.PM_AVS_STAT_bus_fail 0 with life := l } : State).settle.get f = (a.put Fld.PM_AVS_STAT_bus_fail 0).get f :=
    State.settle_get _ f h1 h2
  refine ⟨settle_out _ avsSent_out, ?_, ?_, ?_, ?_, fun h1 h2 => ?_⟩
  · rw [hget _ (by decide) (by decide), State.get_put_disj a _ (by decide) (by decide) (Or.inl (by decide))]
    exact State.get_put_same _ Fld.PM_AVS_STAT_code _ (by decide) (by decide)
  · rw [hget _ (by decide) (by decide), State.get_put_disj a _ (by decide) (by decide) (Or.inl (by decide)),
      State.get_put_disj _ _ (by decide) (by decide) (Or.inr (by decide)), avsSent_margin h]
  · rw [hget _ (by decide) (by decide)]
    exact State.get_put_same a Fld.PM_AVS_STAT_bus_fail 0 (by decide) (by decide)
  · rw [State.settle_avsGood]
    exact avsSent_good
  · rw [hget _ (by decide) (by decide), State.get_put_ne _ _ (by decide), State.get_put_ne _ _ (by decide)]
    exact avsSent_limit h1 h2

/-- A tick whose transfer fails three times. -/
theorem avsTick_failed (hl : s.loaded = true) (he : s.flag Fld.PM_AVS_CTRL_enable = true) :
    let t := (s.avsTick margin false).settle
    (.pmbus (avsCode margin s)) ∈ t.out ∧ t.get Fld.PM_AVS_STAT_code = s.get Fld.PM_AVS_STAT_code ∧
    t.get Fld.PM_AVS_STAT_bus_fail = 1 ∧ t.get (fStat (evPm 6)) = 1 := by
  dsimp only
  rw [avsTick_eq false hl he, if_neg (by decide)]
  refine ⟨settle_out _ (raise_out _ _ avsSent_out), ?_, ?_, ?_⟩
  · rw [State.settle_get _ _ (by decide) (by decide), State.raise_get _ _ _ (by decide) (by decide),
      State.get_put_disj _ _ (by decide) (by decide) (Or.inl (by decide)), avsSent_code]
  · rw [State.settle_get _ _ (by decide) (by decide), State.raise_get _ _ _ (by decide) (by decide)]
    exact State.get_put_same _ Fld.PM_AVS_STAT_bus_fail 1 (by decide) (by decide)
  · rw [State.settle_get _ _ (by decide) (by decide), raise_status _ _ (by decide), if_pos rfl]

theorem runs_of_loaded (h : s.loaded = true) : s.runs = true := by
  unfold State.loaded at h
  unfold State.runs
  cases hp : s.phase <;> rw [hp] at h <;> simp_all

/-- Settles O25: a tick without an enabled loop only lets time pass, one with it sends its code (avsTick_sent, avsTick_failed). -/
theorem voltageScaling : Obligations.VoltageScaling := by
  refine ⟨fun margin busOk ns s hr h => ?_, fun ns s hr => ?_, fun margin ns s hl he => ?_⟩
  · show Host.Outcome.next (s.running ns (State.avsTick margin.val busOk)) = _
    rw [running_runs ns _ s hr, avsTick_off busOk (by simpa using h)]
  · show Host.Outcome.next (s.running ns State.avsAlert) = _
    rw [running_runs ns _ s hr]
    unfold State.avsAlert
    rw [State.advance_loaded]
  · have hr : s.runs = true := runs_of_loaded hl
    have hl' : (s.advance ns).loaded = true := by simpa using hl
    have he' : (s.advance ns).flag Fld.PM_AVS_CTRL_enable = true := by simpa using he
    have hgood := avsCount_eq (margin := margin.val) (s := s.advance ns)
    have hcode := avsCode_eq (margin := margin.val) (s := s.advance ns)
    have hlower := avsLower_iff (margin := margin.val) (s := s.advance ns)
    rw [hgood] at hcode hlower
    simp only [State.advance_get, State.advance_avsGood] at hgood hcode hlower
    refine ⟨⟨((s.advance ns).avsTick margin.val true).settle, ?_, ?_⟩, ⟨((s.advance ns).avsTick margin.val false).settle, ?_, ?_⟩⟩
    · exact congrArg _ (running_runs ns _ s hr)
    · have ht := avsTick_sent hl' he' margin.isLt
      simp only [hgood, hcode, hlower, State.advance_get] at ht
      exact ht
    · exact congrArg _ (running_runs ns _ s hr)
    · have ht := avsTick_failed (margin := margin.val) hl' he'
      simp only [hcode, State.advance_get] at ht
      exact ht

end Sys2Proof.Machine
end

section
/-! Proofs/HostLink.lean: the host link goes up and down, and the domains 134 to 137 follow it (R308, R309). -/

namespace Sys2Proof.Machine

/-! ## Steps of other domains of the link -/

/-- How many entries of the domain table show a domain that wakes. -/
def State.wakings (s : State) : Nat := (s.doms.filter (fun e => e.2 == .waking)).length

/-- What a change of domains other than d leaves, k of which may have started to wake. -/
structure DomBeside (d k : Nat) (s t : State) : Prop where
  eq : t = { s with doms := t.doms, ramps := t.ramps, rampAt := t.rampAt, regs := t.regs }
  dom : t.dom d = s.dom d
  reg : ∀ off, (∀ e < 152, off ≠ Reg.PM_DSTAT e) → t.reg off = s.reg off
  wakings : t.wakings ≤ s.wakings + k

namespace DomBeside

theorem refl (d k : Nat) (s : State) : DomBeside d k s s := ⟨rfl, rfl, fun _ _ => rfl, Nat.le_add_right ..⟩

theorem trans {d j k : Nat} {s t u : State} (h : DomBeside d j s t) (g : DomBeside d k t u) : DomBeside d (j + k) s u := by
  obtain ⟨h1, h2, h3, h4⟩ := h
  obtain ⟨g1, g2, g3, g4⟩ := g
  refine ⟨?_, g2.trans h2, fun off ho => (g3 off ho).trans (h3 off ho), by omega⟩
  rw [h1] at g1
  exact g1

theorem mono {d j k : Nat} {s t : State} (h : DomBeside d j s t) (hk : j ≤ k) : DomBeside d k s t :=
  ⟨h.eq, h.dom, h.reg, h.wakings.trans (Nat.add_le_add_left hk _)⟩

end DomBeside

theorem tset_filter_length {α : Type} (p : Nat × α → Bool) (t : Tbl α) (k : Nat) (v : α) :
    ((tset t k v).filter p).length ≤ (t.filter p).length + 1 := by
  induction t with
  | nil =>
    have hlen := List.length_filter_le p [(k, v)]
    exact hlen
  | cons e rest ih =>
    unfold tset
    split
    · rw [List.filter_cons]
      split
      · exact Nat.le_refl _
      · exact Nat.le_succ _
    · split
      · have h1 := List.length_filter_le p [(k, v)]
        have h2 : ((e :: rest).filter p).length = ([e].filter p).length + (rest.filter p).length := by
          rw [← List.length_append, ← List.filter_append]
          rfl
        have h3 : (((k, v) :: rest).filter p).length = ([(k, v)].filter p).length + (rest.filter p).length := by
          rw [← List.length_append, ← List.filter_append]
          rfl
        simp only [List.length_singleton] at h1
        omega
      · rw [List.filter_cons, List.filter_cons]
        split
        · simp only [List.length_cons]
          omega
        · exact ih

variable {s : State} {d e : Nat}

theorem setDom_beside (x : DomSt) (r ra : Tbl Nat) (he : e < 152) (hd : d ≠ e) :
    DomBeside d 1 s ({ s with ramps := r, rampAt := ra }.setDom e x) :=
  ⟨rfl, setDom_dom_ne _ e x hd, fun _ ho => State.reg_put_ne _ _ (ho e he), tset_filter_length _ _ _ _⟩

theorem pllOf_link (h1 : 134 ≤ e) (h2 : e < 138) : pllOf e = none := by
  unfold pllOf easelOf
  rw [if_neg (by omega), if_neg (by omega), if_neg (by omega)]
  simp
  omega

theorem pllStart_link (s : State) (h1 : 134 ≤ e) (h2 : e < 138) : s.pllStart e = s := by
  unfold State.pllStart
  rw [pllOf_link h1 h2]

theorem pllStop_link (s : State) (h1 : 134 ≤ e) (h2 : e < 138) : s.pllStop e = s := by
  unfold State.pllStop
  rw [pllOf_link h1 h2]

theorem domWake_beside (h1 : 134 ≤ e) (h2 : e < 138) (hd : d ≠ e) : DomBeside d 1 s (s.domWake e) := by
  unfold State.domWake
  split
  · rw [pllStart_link _ h1 h2]
    exact setDom_beside _ _ _ (by omega) hd
  · exact DomBeside.refl ..

theorem domDown_link (s : State) (h1 : 134 ≤ e) (h2 : e < 138) :
    s.domDown e = { s with ramps := tdel s.ramps e, rampAt := tset s.rampAt e s.tm.loc }.setDom e .powerdown := by
  have hhalf : (if e == 132 || e == 133 then s.halfDown (e - 132) else s) = s := by
    rw [if_neg]
    simp
    omega
  unfold State.domDown
  simp only [hhalf]

theorem domCut_beside (h1 : 134 ≤ e) (h2 : e < 138) (hd : d ≠ e) : DomBeside d 2 s ((s.domDown e).domCut e) := by
  unfold State.domCut
  rw [pllStop_link _ h1 h2, domDown_link _ h1 h2]
  exact (setDom_beside _ _ _ (by omega) hd).trans (setDom_beside _ _ _ (by omega) hd)

theorem hlDom_beside (h1 : 134 ≤ e) (h2 : e < 138) (hd : d ≠ e) : DomBeside d 2 s (s.hlDom e) := by
  have hset (x : DomSt) : DomBeside d 2 s (s.setDom e x) :=
    (setDom_beside x s.ramps s.rampAt (by omega) hd).mono (by decide)
  have hdown : DomBeside d 2 s (s.domDown e) := by
    rw [domDown_link s h1 h2]
    exact (setDom_beside _ _ _ (by omega) hd).mono (by decide)
  unfold State.hlDom
  split
  · split
    · exact hset .on
    · exact (domWake_beside h1 h2 hd).mono (by decide)
  · split
    · split
      · exact hset .draining
      · exact domCut_beside h1 h2 hd
    · split
      · exact hdown
      · exact domCut_beside h1 h2 hd
    · exact DomBeside.refl ..

theorem forEach_hlDom_beside (l : List Nat) (hl : ∀ e ∈ l, 134 ≤ e ∧ e < 138 ∧ d ≠ e) (s : State) :
    DomBeside d (2 * l.length) s (forEach l State.hlDom s) := by
  induction l generalizing s with
  | nil => exact DomBeside.refl ..
  | cons e es ih =>
    obtain ⟨h1, h2, h3⟩ := hl e (List.mem_cons_self ..)
    have hstep := (hlDom_beside (s := s) h1 h2 h3).trans (ih (fun x hx => hl x (List.mem_cons_of_mem _ hx)) (s.hlDom e))
    exact hstep.mono (by rw [List.length_cons]; omega)

/-- The steps of the other domains of the link leave what a domain's own step looks at. -/
theorem hlDoms_dom (h1 : 134 ≤ d) (h2 : d < 138) (s : State) :
    ∃ u, s.hlDoms.dom d = (u.hlDom d).dom d ∧ DomBeside d 6 s u := by
  have hsplit : ∃ pre post, [134, 135, 136, 137] = pre ++ d :: post ∧ pre.length ≤ 3 ∧
      (∀ e ∈ pre ++ post, 134 ≤ e ∧ e < 138 ∧ d ≠ e) := by
    have h : d = 134 ∨ d = 135 ∨ d = 136 ∨ d = 137 := by omega
    rcases h with rfl | rfl | rfl | rfl
    · exact ⟨[], [135, 136, 137], rfl, by decide, by decide⟩
    · exact ⟨[134], [136, 137], rfl, by decide, by decide⟩
    · exact ⟨[134, 135], [137], rfl, by decide, by decide⟩
    · exact ⟨[134, 135, 136], [], rfl, by decide, by decide⟩
  obtain ⟨pre, post, hlist, hlen, hne⟩ := hsplit
  have hpre := forEach_hlDom_beside pre (fun e he => hne e (List.mem_append_left _ he)) s
  refine ⟨forEach pre State.hlDom s, ?_, hpre.mono (by omega)⟩
  have hpost := forEach_hlDom_beside post (fun e he => hne e (List.mem_append_right _ he)) ((forEach pre State.hlDom s).hlDom d)
  rw [← hpost.dom]
  unfold State.hlDoms forEach
  rw [hlist, List.foldl_append, List.foldl_cons]

/-! ## A domain's own step (R309) -/

theorem DomBeside.get {k : Nat} {u : State} (h : DomBeside d k s u) (f : Fld) (hf : ∀ e < 152, f.off ≠ Reg.PM_DSTAT e) :
    u.get f = s.get f := by
  unfold State.get
  rw [h.reg _ hf]

theorem DomBeside.flag {k : Nat} {u : State} (h : DomBeside d k s u) (f : Fld) (hf : ∀ e < 152, f.off ≠ Reg.PM_DSTAT e) :
    u.flag f = s.flag f := by
  unfold State.flag
  rw [h.get f hf]

/-- The need of the link, its hold and what bars the domain stand. -/
theorem DomBeside.asked {k : Nat} {u : State} (h : DomBeside d k s u) :
    u.hlWant d = s.hlWant d ∧ u.domHeld d = s.domHeld d ∧ u.domBarred d = s.domBarred d ∧ u.loaded = s.loaded := by
  have hctl (f : Fld) (hf : f.off = Reg.PM_DCTRL d) : u.flag f = s.flag f :=
    h.flag f (fun e _ => by rw [hf]; simp only [Reg.PM_DCTRL, Reg.PM_DSTAT]; omega)
  have hhl (f : Fld) (hf : 0x900000 ≤ f.off) : u.get f = s.get f := h.get f (fun e he => by simp only [Reg.PM_DSTAT]; omega)
  have hheld : u.domHeld d = s.domHeld d := hctl _ rfl
  refine ⟨?_, hheld, ?_, by rw [h.eq]; rfl⟩
  · have hreset : u.hlReset = s.hlReset := by rw [h.eq]
    have hide : u.spdm = s.spdm := by rw [h.eq]
    unfold State.hlWant State.flag
    rw [hhl _ (by decide), hhl _ (by decide), hhl _ (by decide), hreset, hide]
  · unfold State.domBarred State.domFenced
    rw [hheld, hctl (Fld.PM_DCTRL_hold_off d) rfl, h.flag (Fld.BIST_DOM_fenced d) (fun e he => by simp only [Fld.BIST_DOM_fenced, Reg.BIST_DOM, Reg.PM_DSTAT]; omega)]

theorem ramping_le (s : State) : s.ramping ≤ s.wakings := by
  unfold State.ramping State.wakings
  exact List.Sublist.length_le (List.monotone_filter_right s.doms (fun e he => (Bool.and_eq_true_iff.mp he).1))

theorem hlDom_drains (h : (s.hlWant d || s.domHeld d) = true) (hd : s.dom d = .draining) : (s.hlDom d).dom d = .on := by
  unfold State.hlDom
  rw [if_pos h, if_pos (by simp [hd]), setDom_dom]

theorem hlDom_stays (h : (s.hlWant d || s.domHeld d) = true) (hd : s.dom d ≠ .draining)
    (hb : s.dom d ≠ .off ∨ s.domBarred d = true) : s.hlDom d = s := by
  unfold State.hlDom State.domWake
  rw [if_pos h, if_neg (by simpa using hd), if_neg]
  rcases hb with hb | hb <;> simp [hb]

theorem hlDom_wakes (h1 : 134 ≤ d) (h2 : d < 138) (h : (s.hlWant d || s.domHeld d) = true) (hd : s.dom d = .off)
    (hb : s.domBarred d = false) (hr : s.ramping < 8) : (s.hlDom d).dom d = .waking := by
  unfold State.hlDom State.domWake
  rw [if_pos h, if_neg (by simp [hd]), if_pos (by simp [hd, hb, hr]), pllStart_link _ h1 h2, setDom_dom]

theorem hlDom_idle (h : (s.hlWant d || s.domHeld d) = false) (hd : s.dom d = .off ∨ s.dom d = .powerdown ∨ s.dom d = .draining) :
    s.hlDom d = s := by
  unfold State.hlDom
  rw [if_neg (by simp [h])]
  rcases hd with hd | hd | hd <;> rw [hd]

theorem hlDom_leaves (h : (s.hlWant d || s.domHeld d) = false) (hd : s.dom d = .on) :
    (s.hlDom d).dom d = if s.loaded then .draining else .off := by
  unfold State.hlDom
  rw [if_neg (by simp [h]), hd]
  dsimp only
  split
  · exact setDom_dom ..
  · exact domCut_dom _ (Or.inl rfl)

theorem hlDom_gives_up (h1 : 134 ≤ d) (h2 : d < 138) (h : (s.hlWant d || s.domHeld d) = false) (hd : s.dom d = .waking) :
    (s.hlDom d).dom d = if s.loaded then .powerdown else .off := by
  unfold State.hlDom
  rw [if_neg (by simp [h]), hd]
  dsimp only
  split
  · rw [domDown_link s h1 h2, setDom_dom]
  · exact domCut_dom _ (Or.inl rfl)

/-- A domain of the link follows the link's state. -/
theorem hlDoms_follow (h1 : 134 ≤ d) (h2 : d < 138) (s : State) :
    let asked := s.hlWant d || s.flag (Fld.PM_DCTRL_hold_on d)
    (asked = true → s.dom d = .draining → s.hlDoms.dom d = .on) ∧
    (asked = true → s.dom d ≠ .draining → s.dom d ≠ .off ∨ s.domBarred d = true → s.hlDoms.dom d = s.dom d) ∧
    (asked = true → s.dom d = .off → s.domBarred d = false → (∀ e ∈ s.doms, e.2 ≠ .waking) → s.hlDoms.dom d = .waking) ∧
    (asked = false → s.dom d = .off ∨ s.dom d = .powerdown ∨ s.dom d = .draining → s.hlDoms.dom d = s.dom d) ∧
    (asked = false → s.dom d = .on → s.hlDoms.dom d = if s.loaded then .draining else .off) ∧
    (asked = false → s.dom d = .waking → s.hlDoms.dom d = if s.loaded then .powerdown else .off) := by
  obtain ⟨u, hu, hb⟩ := hlDoms_dom h1 h2 s
  obtain ⟨hwant, hheld, hbar, hload⟩ := hb.asked
  have hasked : (s.hlWant d || s.flag (Fld.PM_DCTRL_hold_on d)) = (u.hlWant d || u.domHeld d) := by
    rw [hwant, hheld]
    rfl
  dsimp only
  rw [hasked, hu, ← hb.dom, ← hbar, ← hload]
  refine ⟨hlDom_drains, fun ha hd hs => ?_, fun ha hd hs hw => hlDom_wakes h1 h2 ha hd hs ?_, fun ha hd => ?_, hlDom_leaves,
    hlDom_gives_up h1 h2⟩
  · rw [hlDom_stays ha hd hs]
  · have hnone : s.wakings = 0 := by
      unfold State.wakings
      rw [List.length_eq_zero_iff, List.filter_eq_nil_iff]
      intro e he hx
      exact hw e he (beq_iff_eq.mp hx)
    have hcount := hb.wakings
    have hle := ramping_le u
    omega
  · rw [hlDom_idle ha hd]

/-! ## Link events -/

theorem hlUp_eq (rate width : Nat) (cxl : Bool) {s : State} (hr : s.runs = true) : s.hlUp rate width cxl =
    if s.hlReset || s.pw.perst || [134, 135, 136, 137].any s.domHurt then s
    else
      let was := s.flag Fld.HL_STAT_up
      let c := (if was then s.flag Fld.HL_STAT_cxl else cxl && s.flag Fld.HL_CFG_cxl_offer) && Nat.ble 5 rate
      let u := (((((s.put Fld.HL_STAT_up 1).put Fld.HL_STAT_cxl (b2n c)).put Fld.HL_STAT_cache_on (b2n c)).put
        Fld.HL_STAT_rate_now rate).put Fld.HL_STAT_width_now width).put Fld.HL_STAT_lstate 0
      let slow := Nat.blt rate (s.get Fld.HL_CFG_max_rate) || Nat.blt width (s.get Fld.HL_CFG_max_width)
      let e := ((u.raise (evHl 0)).raiseIf slow (evHl 2)).raiseIf (!(c == s.flag Fld.HL_STAT_cache_on)) (evHl 9)
      let b := e.put Fld.HL_BUDGET_trained (hlBudget rate width)
      let d := (State.hlFlush (State.hlDoms (forEach [134, 135, 136, 137] (fun d (u : State) =>
        if u.hlWant d then u.domBring d else u) b))).fnShow
      if !d.loaded then d else if was then d.chooseDrops
      else forEach ((List.range 16).filter d.fnOk) State.fnResume d.chooseDrops := by
  unfold State.hlUp State.hlBring
  rw [hr, Bool.not_true, Bool.or_false]

theorem hlLost_eq {s : State} (hr : s.runs = true) : s.hlLost =
    if !s.flag Fld.HL_STAT_up then s else State.hlResetGo { s with warm := { s.warm with causes := s.warm.causes ||| 16 } } := by
  unfold State.hlLost State.hlResetCause
  rw [hr, if_pos rfl]
  cases s.flag Fld.HL_STAT_up with
  | false => rw [if_neg (by decide), if_pos (by decide)]
  | true => rw [if_pos rfl, if_neg (by decide)]

theorem hlSleep_eq (l width : Nat) (s : State) : s.hlSleep l width =
    if !s.flag Fld.HL_STAT_up || (l == 0 && s.get Fld.HL_STAT_lstate != 1) then s
    else if l == 5 then s.hlDown
    else (if l < 2 then (s.put Fld.HL_STAT_lstate l).put Fld.HL_STAT_width_now width else s.put Fld.HL_STAT_lstate l).hlDoms := by
  unfold State.hlSleep
  cases hup : s.flag Fld.HL_STAT_up with
  | false => rfl
  | true =>
    by_cases h5 : l = 5
    · subst h5
      rfl
    · have h5' : (l == 5) = false := beq_eq_false_iff_ne.mpr h5
      simp only [h5', ble_eq_decide, bne, Bool.not_true, Bool.false_or, Bool.false_eq_true, if_false, decide_eq_true_eq, Nat.lt_succ_iff]

theorem hlExit_eq (s : State) : s.hlExit =
    if s.flag Fld.HL_STAT_up && Nat.ble 2 (s.get Fld.HL_STAT_lstate) && Nat.ble (s.get Fld.HL_STAT_lstate) 4 then
      State.hlFlush (((if (tget s.outHeld 4 []).isEmpty then
        (if s.get Fld.HL_STAT_lstate == 4 then s.emit (.pull .clkreqN true) else s).emit .linkExit else s).put Fld.HL_STAT_lstate 0).hlDoms)
    else s := by
  unfold State.hlExit State.exitCall
  show (if s.linkLow = true then _ else s) = if s.linkLow = true then _ else s
  cases s.linkLow with
  | false => rfl
  | true => rw [Bool.true_and]

/-- Settles O27: each event is its operation in the shell of a running Falith, and the domains follow the link (hlDoms_follow). -/
theorem linkGoesUpAndDown : Obligations.LinkGoesUpAndDown := by
  refine ⟨fun s ns hr => ⟨fun rate width cxl => ?_, ?_, fun hup => ?_, fun l width => ?_, ?_, fun fn => ?_, fun addr => ?_⟩, fun s d hd =>
    hlDoms_follow (by omega) (by omega) s⟩
  · show Host.Outcome.next (s.running ns (fun s => (s.hlUp rate.val width.val cxl).awoken)) = _
    rw [running_runs ns _ s hr, hlUp_eq _ _ _ (by simpa using hr)]
  · show Host.Outcome.next (s.running ns State.hlLost) = _
    rw [running_runs ns _ s hr, hlLost_eq (by simpa using hr)]
  · unfold State.hlDown
    rw [hup, if_neg (by decide)]
  · show Host.Outcome.next (s.running ns (State.hlSleep l.val width.val)) = _
    rw [running_runs ns _ s hr, hlSleep_eq]
  · show Host.Outcome.next (s.running ns State.hlExit) = _
    rw [running_runs ns _ s hr, hlExit_eq]
  · show Host.Outcome.next (s.running ns (State.atsInval fn.val)) = _
    rw [running_runs ns _ s hr]
    rfl
  · show Host.Outcome.next (s.running ns (State.cxlSnoop addr.toNat)) = _
    rw [running_runs ns _ s hr]
    rfl

end Sys2Proof.Machine
end

section
/-! Proofs/Outputs.lean: outputs bind, are flushed and published (R316 to R322). -/

namespace Sys2Proof.Machine

/-! ## Outputs stay: the pour log -/

theorem hlFlush_out (s : State) : s.out ⊆ s.hlFlush.out := by
  unfold State.hlFlush
  split
  · exact List.Subset.refl _
  · exact forEach_out _ _ (fun o s => List.subset_cons_self o s.out) { s with outHeld := tdel s.outHeld 4 }

theorem exitCall_outs (s : State) : s.out ⊆ s.exitCall.out := by
  unfold State.exitCall
  split
  · split
    · exact List.subset_cons_of_subset _ (List.subset_cons_self _ _)
    · exact List.subset_cons_self _ _
  · exact List.Subset.refl _

theorem hlExit_out (s : State) : s.out ⊆ s.hlExit.out := by
  unfold State.hlExit
  split
  · obtain ⟨hdoms, -⟩ := hlDoms_doms (s.exitCall.put Fld.HL_STAT_lstate 0)
    have hout : (s.exitCall.put Fld.HL_STAT_lstate 0).hlDoms.out = s.exitCall.out := by rw [hdoms]; rfl
    exact List.Subset.trans (exitCall_outs s) (hout ▸ hlFlush_out _)
  · exact List.Subset.refl _

theorem hostPut_out (fn addr : Nat) (ro : Bool) (bytes : List Nat) (s : State) : s.out ⊆ (s.hostPut fn addr ro bytes).out :=
  List.Subset.trans (hlExit_out s) (hlPost_out _ _)

theorem fiStep_out (cls idx k : Nat) (a : FiEffect × State) : (State.fiStep cls idx k a).2.out = a.2.out := by
  unfold State.fiStep
  dsimp only
  split
  · rfl
  · split
    · rfl
    · split
      · split <;> rfl
      · rfl

theorem inject_out (cls idx : Nat) (s : State) : (s.inject cls idx).2.out = s.out := by
  have hfold (l : List Nat) (a : FiEffect × State) : (l.foldl (fun a k => State.fiStep cls idx k a) a).2.out = a.2.out := by
    induction l generalizing a with
    | nil => rfl
    | cons k ks ih => exact (ih _).trans (fiStep_out cls idx k a)
  unfold State.inject
  split
  · exact hfold _ _
  · rfl

theorem logWrite_out (fn at_ : Nat) (body : List Nat) (s : State) : s.out ⊆ (s.logWrite fn at_ body).out := by
  have hfold (l : List (List Nat)) (a : Nat × State) :
      a.2.out ⊆ (forEach l (fun b (a : Nat × State) => (a.1 + b.length, a.2.hostPut fn a.1 false b)) a).2.out := by
    induction l generalizing a with
    | nil => exact List.Subset.refl _
    | cons b bs ih => exact List.Subset.trans (hostPut_out fn a.1 false b a.2) (ih (a.1 + b.length, a.2.hostPut fn a.1 false b))
  exact hfold _ (at_, s)

theorem logFlush_out (g n : Nat) (s : State) : s.out ⊆ (s.logFlush g n).out := by
  induction n generalizing s with
  | zero => exact List.Subset.refl _
  | succ n ih =>
    unfold State.logFlush
    dsimp only
    split
    · exact List.Subset.refl _
    · next p rest _ =>
      split
      · exact List.Subset.refl _
      · refine List.Subset.trans ?_ (ih _)
        show s.out ⊆ State.out (if _ then _ else _)
        have hput : s.out ⊆ ((s.inject 4 (256 + g)).2.setGrp g { s.grp g with periods := rest }).out := by
          rw [State.setGrp_out, inject_out]
          exact List.Subset.refl _
        split
        · exact List.Subset.trans hput (logWrite_out _ _ _ _)
        · exact List.Subset.trans (List.Subset.trans hput (logWrite_out _ _ _ _)) (hostPut_out _ _ _ _ _)

theorem logDrop_out (g : Nat) (c : DropCause) (s : State) : s.out ⊆ (s.logDrop g c).out := by
  unfold State.logDrop
  dsimp only
  split
  · exact List.Subset.trans (raise_out _ (s.bump (Fld.OUT_CNT_held (256 + g)))) (raise_out _ _)
  · exact raise_out _ (s.bump (Fld.OUT_CNT_not_owned (256 + g)))

theorem fetchDrop_out (r F : Nat) (s : State) : (s.fetchDrop r F).out = s.out := rfl

theorem fetchLose_out (r F : Nat) (s : State) : (s.fetchLose r F).out = s.out := by
  unfold State.fetchLose
  split
  · split
    · split <;> rfl
    · rfl
  · rfl

theorem logCheck_out (g num : Nat) (expiry : Bool) (s : State) : s.out ⊆ (s.logCheck g num expiry).out := by
  unfold State.logCheck
  dsimp only
  split
  · exact List.Subset.refl _
  · split
    · exact List.Subset.refl _
    · refine List.Subset.trans ?_ (logFlush_out ..)
      split
      · exact List.Subset.refl _
      · split
        · refine List.Subset.trans ?_ (logDrop_out ..)
          rw [State.setGrp_out, fetchLose_out]
          exact List.Subset.refl _
        · split
          · refine List.Subset.trans ?_ (logDrop_out ..)
            rw [State.setGrp_out, fetchDrop_out]
            exact List.Subset.refl _
          · rw [State.setGrp_out, fetchDrop_out]
            exact List.Subset.refl _

theorem frameDone_out (st F : Nat) (s : State) : s.out ⊆ (s.frameDone st F).out := by
  unfold State.frameDone
  split
  · exact List.Subset.refl _
  · next f _ =>
    split
    · exact List.Subset.refl _
    · dsimp only
      have hlog (u : State) : u.out ⊆ (u.logDone f).out := by
        unfold State.logDone
        split
        · exact List.Subset.refl _
        · next g num _ => exact logCheck_out g num false (u.modMember g num f.st _)
      have hdone : s.out ⊆ (((s.modFrame st F (fun f => { f with done := true })).raise (evStrm st 0)).logDone f).out :=
        List.Subset.trans (raise_out _ (s.modFrame st F (fun f => { f with done := true }))) (hlog _)
      split <;> exact hdone

/-! ## Publication (R320) -/

variable {s : State}

/-- Over a link in L0 for which nothing waits, a write goes out at once. -/
theorem hostPut_goes (fn addr : Nat) (ro : Bool) (bytes : List Nat) (hlow : s.linkLow = false) (hdom : s.dom 134 = .on)
    (hheld : tget s.outHeld 4 [] = []) : s.hostPut fn addr ro bytes = s.emit (.hostWrite fn addr ro bytes) := by
  have hexit : s.hlExit = s := by
    unfold State.hlExit
    rw [hlow, if_neg (by decide)]
  unfold State.hostPut
  rw [hexit, hlPost_goes s _ hlow hdom hheld]

/-- What a publication has put out once its descriptor is written. -/
def published (s : State) (f : Frame) (x : WinSt) : State :=
  let s1 := s.hostPut x.fn (x.desc + 0x10) false (s.descBody f x (s.ring (8 * f.st + x.w)).lost)
  if x.hold then s1 else s1.hostPut x.fn x.desc false (leBytes 4 (s.genOf (8 * f.st + x.w) f.num * 256))

theorem modFrame_out (st num : Nat) (g : Frame → Frame) (s : State) : (s.modFrame st num g).out = s.out := rfl

theorem modWin_out (st F w : Nat) (g : WinSt → WinSt) (s : State) : (s.modWin st F w g).out = s.out := rfl

/-- What follows the writes of a publication takes nothing back. -/
theorem publish_out {f : Frame} {x : WinSt} (hf : s.frame f.st f.num = some f) (hx : f.wins.find? (fun y => y.w == x.w) = some x) :
    (published s f x).out ⊆ (s.publish f.st f.num x.w).out := by
  unfold State.publish
  rw [hf]
  dsimp only
  rw [hx]
  dsimp only
  refine List.Subset.trans ?_ (frameDone_out ..)
  rw [modFrame_out, modWin_out]
  have hnote : (published s f x).out ⊆ ((((published s f x).setRing (8 * f.st + x.w)
      { (published s f x).ring (8 * f.st + x.w) with lost := 0 }).setReg (Reg.OUT_PUB (8 * f.st + x.w)) (BitVec.ofNat 32 f.num)).wrapInc
      (Fld.OUT_LOSS_published (8 * f.st + x.w))).out := List.Subset.refl _
  split
  · refine List.Subset.trans ?_ (raise_out ..)
    exact hnote
  · exact hnote

theorem publish_writes {f : Frame} {x : WinSt} (hf : s.frame f.st f.num = some f)
    (hx : f.wins.find? (fun y => y.w == x.w) = some x) (hlow : s.linkLow = false) (hdom : s.dom 134 = .on)
    (hheld : tget s.outHeld 4 [] = []) :
    (Out.hostWrite x.fn (x.desc + 0x10) false (s.descBody f x (s.ring (8 * f.st + x.w)).lost)) ∈ (s.publish f.st f.num x.w).out ∧
    (x.hold = false →
      (Out.hostWrite x.fn x.desc false (leBytes 4 (s.genOf (8 * f.st + x.w) f.num * 256))) ∈ (s.publish f.st f.num x.w).out) := by
  have hsub := publish_out hf hx
  unfold published at hsub
  dsimp only at hsub
  rw [hostPut_goes _ _ _ _ hlow hdom hheld] at hsub
  refine ⟨hsub ?_, fun hh => hsub ?_⟩
  · split
    · exact List.mem_cons_self ..
    · exact hostPut_out _ _ _ _ _ (List.mem_cons_self ..)
  · rw [if_neg (by simp [hh]), hostPut_goes (s := s.emit _) _ _ _ _ hlow hdom hheld]
    exact List.mem_cons_self ..

/-! ## The end of a flush read (R321) -/

/-- What the end of a flush read does to its output. -/
def flushEnds (r : Nat) (f : Frame) (x : WinSt) (failed : Bool) (u : State) : State :=
  let v := u.readEnd true x.fn (x.addr + x.vb - 4) 0
  ((if failed then v.modWin (r / 8) f.num (r % 8) (fun y => { y with failed := true }) else v).publish (r / 8) f.num (r % 8)).pourAll (r / 8)

theorem flushDone_eq {r : Nat} {f : Frame} {x : WinSt} (ok : Bool) (h : s.winHead (r / 8) (r % 8) = some (f, x)) (hx : x.phase = .written) :
    s.flushDone r ok = flushEnds r f x (!ok) s := by
  unfold State.flushDone flushEnds
  dsimp only
  rw [h]
  dsimp only
  rw [if_pos (by simp [hx])]
  cases ok <;> rfl

theorem winHead_of_frames {u : State} (h : u.frames = s.frames) (st w : Nat) : u.winHead st w = s.winHead st w := by
  unfold State.winHead
  rw [h]

theorem hostErr_frames (res : HostRead) (s : State) : (s.hostErr res).frames = s.frames := by
  unfold State.hostErr
  split
  · rw [State.raise_frames]
    rfl
  · unfold State.palUncorr
    dsimp only
    split
    · rw [State.raise_frames]
      rfl
    · rw [State.setReg_frames, State.setReg_frames, State.raise_frames]
      rfl
  · rfl

theorem flushing_eq {r : Nat} {f : Frame} {x : WinSt} (he : s.erkPourOf r = none) (h : s.winHead (r / 8) (r % 8) = some (f, x))
    (hx : x.phase = .written) : s.flushing r = (false, true) := by
  unfold State.flushing
  rw [he, h]
  simp [hx]

/-- A flush read of a frame's output ends with its result. -/
theorem flushEnd_eq {r : Nat} {f : Frame} {x : WinSt} (res : HostRead) (he : s.erkPourOf r = none)
    (h : s.winHead (r / 8) (r % 8) = some (f, x)) (hx : x.phase = .written) :
    s.flushEnd r res = flushEnds r f x (!(hostData res).isSome) (s.hostErr res) := by
  unfold State.flushEnd
  rw [flushing_eq he h hx]
  exact flushDone_eq _ ((winHead_of_frames (hostErr_frames res s) _ _).trans h) hx

/-- A flush read past its time is counted and has failed. -/
theorem flushTimeout_eq {r : Nat} {f : Frame} {x : WinSt} (h : s.winHead (r / 8) (r % 8) = some (f, x)) (hx : x.phase = .written) :
    s.flushTimeout r = flushEnds r f x true ((s.bump Fld.HL_ERR_cto).raise (evHl 6)) := by
  unfold State.flushTimeout
  rw [h]
  dsimp only
  rw [if_pos (by simp [hx])]
  exact flushDone_eq false ((winHead_of_frames (State.raise_frames _ _) _ _).trans h) hx

theorem advance_erkPourOf (ns r : Nat) : (s.advance ns).erkPourOf r = s.erkPourOf r := by
  unfold State.erkPourOf State.mirRing
  rw [State.advance_erk]
  simp only [State.advance_get]

theorem outputReady_eq {r : Nat} (ok : Bool) (he : s.erkPourOf r = none) : s.readyAt r ok = s.outputReady r ok := by
  unfold State.readyAt
  rw [he, if_neg (by decide)]

/-- Settles O30: an output that is ready, a flush read's end (flushEnd_eq, flushTimeout_eq), a publication (publish_writes), and
what waits for the link (hlPost_waits). -/
theorem outputsBindAndPublish : Obligations.OutputsBindAndPublish := by
  refine ⟨fun ring ok ns s hl => ?_, fun ring ns f x s hl he hh hx => ?_, fun s f x hf hx => publish_writes hf hx, fun o s h => ⟨?_, hlPost_eq o s⟩⟩
  · intro a st w he
    show Host.Outcome.next (s.event ns (State.readyAt ring.val ok)) = _
    rw [event_loaded ns _ s hl, outputReady_eq ok he]
    rfl
  · have he' := (advance_erkPourOf ns ring.val).trans he
    have hh' := (winHead_of_frames (State.advance_frames s ns) (ring.val / 8) (ring.val % 8)).trans hh
    have hend (res : HostRead) : exec (.flushReadComplete ring res ns) s =
        .next (flushEnds ring.val f x (!(hostData res).isSome) ((s.advance ns).hostErr res)).settlePlan := by
      show Host.Outcome.next (s.event ns (State.flushEnd ring.val res)) = _
      rw [event_loaded ns _ s hl, flushEnd_eq res he' hh' hx]
    refine ⟨fun b => hend (.data b), hend .unsupported, fun res hres => ?_, fun word => hend (.bufferError word), ?_⟩
    · rcases hres with rfl | rfl
      · exact hend .poisoned
      · exact hend .untranslated
    · show Host.Outcome.next (s.event ns (State.readLate (.ringFlush ring))) = _
      rw [event_loaded ns _ s hl]
      unfold State.readLate
      dsimp only
      rw [flushing_eq he' hh' hx]
      exact congrArg (fun t : State => Host.Outcome.next t.settlePlan) (flushTimeout_eq hh' hx)
  · rw [hlPost_waits s o h]
    exact tget_tmod_same s.outHeld 4 [] (fun l => l ++ [o])

end Sys2Proof.Machine
end

section
/-! Proofs/FaultPages.lean: missing members and faulty pages (R11, R323). -/

namespace Sys2Proof.Machine

variable {s : State}

/-! ## Marked outputs -/

/-- Every output of window w of frame num of stream st is marked failed. -/
def Marked (st num w : Nat) (s : State) : Prop :=
  ∀ f ∈ s.frames, f.st = st → f.num = num → ∀ y ∈ f.wins, y.w = w → y.failed = true

/-- A member of the frames after one frame's windows were changed. -/
theorem mem_modWin {st num w : Nat} {g : WinSt → WinSt} {f : Frame} (h : f ∈ (s.modWin st num w g).frames) :
    ∃ f0 ∈ s.frames, f = if f0.st == st && f0.num == num then
      { f0 with wins := f0.wins.map (fun x => if x.w == w then g x else x) } else f0 := by
  obtain ⟨f0, hf0, hf⟩ := List.mem_map.mp h
  exact ⟨f0, hf0, hf.symm⟩

/-- The mark of an output. -/
def failWin (x : WinSt) : WinSt := { x with failed := true }

theorem marked_modWin (st num w : Nat) (s : State) : Marked st num w (s.modWin st num w failWin) := by
  intro f hf hst hnum y hy hw
  obtain ⟨f0, -, rfl⟩ := mem_modWin hf
  by_cases hc : (f0.st == st && f0.num == num) = true
  · rw [if_pos hc] at hy
    obtain ⟨x, -, rfl⟩ := List.mem_map.mp hy
    by_cases hx : (x.w == w) = true
    · rw [if_pos hx]
      rfl
    · rw [if_neg hx] at hw
      exact absurd (beq_iff_eq.mpr hw) hx
  · rw [if_neg hc] at hst hnum
    exact absurd (by simp [hst, hnum]) hc

theorem Marked.modWin {st num w : Nat} (h : Marked st num w s) (st' num' w' : Nat) : Marked st num w (s.modWin st' num' w' failWin) := by
  intro f hf hst hnum y hy hw
  obtain ⟨f0, hf0, rfl⟩ := mem_modWin hf
  by_cases hc : (f0.st == st' && f0.num == num') = true
  · rw [if_pos hc] at hst hnum hy
    obtain ⟨x, hx, rfl⟩ := List.mem_map.mp hy
    by_cases hxw : (x.w == w') = true
    · rw [if_pos hxw]
      rfl
    · rw [if_neg hxw] at hw ⊢
      exact h f0 hf0 hst hnum x hx hw
  · rw [if_neg hc] at hst hnum hy
    exact h f0 hf0 hst hnum y hy hw

/-- Marks of a list of outputs, by ring and frame number. -/
def markAll (l : List (Nat × Nat)) (s : State) : State :=
  forEach l (fun e s => s.modWin (e.1 / 8) e.2 (e.1 % 8) failWin) s

theorem marked_markAll {st num w : Nat} {l : List (Nat × Nat)} (hw : w < 8) (h : (8 * st + w, num) ∈ l ∨ Marked st num w s) :
    Marked st num w (markAll l s) := by
  induction l generalizing s with
  | nil => exact h.resolve_left List.not_mem_nil
  | cons e es ih =>
    refine ih (s := s.modWin (e.1 / 8) e.2 (e.1 % 8) failWin) ?_
    rcases h with h | h
    · rcases List.mem_cons.mp h with h | h
      · rw [← h, show (8 * st + w) / 8 = st by omega, show (8 * st + w) % 8 = w by omega]
        exact Or.inr (marked_modWin st num w s)
      · exact Or.inl h
    · exact Or.inr (h.modWin _ _ _)

theorem markAll_erk (l : List (Nat × Nat)) (s : State) : (markAll l s).erk = s.erk :=
  forEach_keeps (fun s => s.erk) l (fun e s => s.modWin (e.1 / 8) e.2 (e.1 % 8) failWin) (fun _ _ => rfl) s

/-! ## The fault mailbox (R323) -/

/-- Whether a received output lies on a page of a function. -/
def pourHit (page fn : Nat) (x : ErkPour) : Bool :=
  (x.phase == .bound || x.phase == .written) && x.fn == fn && (overlaps page x.addr x.len || overlaps page x.desc 64)

/-- The outputs of frames that are open on a page of a function. -/
def openOn (page fn : Nat) (s : State) : List (Nat × Nat) :=
  s.frames.flatMap (fun f => (f.wins.filter (fun x => (x.phase == .bound || x.phase == .written) && x.fn == fn &&
    (overlaps page x.addr x.len || overlaps page x.desc 64))).map (fun x => (8 * f.st + x.w, f.num)))

/-- The state of a fault report once what lies on the page is marked. -/
def faultMarks (page fn : Nat) (s : State) : State :=
  markAll (openOn page fn (s.raise (evHl 14))) { s.raise (evHl 14) with erk := { (s.raise (evHl 14)).erk with
    pours := (s.raise (evHl 14)).erk.pours.map (fun x => if pourHit page fn x then { x with failed := true } else x) } }

/-- What follows the marks counts, raises and shows only. -/
theorem faultMail_keeps {β : Type} (g : State → β) (hr : ∀ n (s : State), g (s.raise n) = g s)
    (hs : ∀ off w (s : State), g (s.setReg off w) = g s) (page fn : Nat) (s : State) :
    g (s.faultMail page fn) = g (faultMarks page fn s) := by
  have hif (c : Bool) (n : Nat) (u : State) : g (u.raiseIf c n) = g u := by
    unfold State.raiseIf
    split
    · exact hr n u
    · rfl
  have hlogs (l : List (Nat × Nat)) (u : State) :
      g (forEach l (fun e s => (s.bump (Fld.OUT_CNT_failed e.1)).raise (evHl 13)) u) = g u :=
    forEach_keeps g l _ (fun e u => (hr (evHl 13) (u.bump (Fld.OUT_CNT_failed e.1))).trans (hs _ _ u)) u
  unfold State.faultMail
  dsimp only
  rw [hif]
  split
  · rw [hs, hs, hlogs]
    rfl
  · rw [hs, hs, hlogs]
    rfl
  · rw [hlogs]
    rfl

/-- An open output on the page is marked in every copy of its frame. -/
theorem faultMail_marks {page fn : Nat} {f : Frame} {x : WinSt} (hf : f ∈ s.frames) (hx : x ∈ f.wins) (hw : x.w < 8)
    (hp : x.phase = .bound ∨ x.phase = .written) (hfn : x.fn = fn)
    (ho : overlaps page x.addr x.len = true ∨ overlaps page x.desc 64 = true) :
    Marked f.st f.num x.w (s.faultMail page fn) := by
  have hframes := faultMail_keeps (fun s => s.frames) (fun n s => State.raise_frames s n) (fun _ _ _ => rfl) page fn s
  have hmem : (8 * f.st + x.w, f.num) ∈ openOn page fn (s.raise (evHl 14)) := by
    unfold openOn
    rw [State.raise_frames]
    refine List.mem_flatMap.mpr ⟨f, hf, List.mem_map.mpr ⟨x, List.mem_filter.mpr ⟨hx, ?_⟩, rfl⟩⟩
    rcases hp with hp | hp <;> rcases ho with ho | ho <;> simp [hp, hfn, ho]
  have hmarks := marked_markAll (s := { s.raise (evHl 14) with erk := { (s.raise (evHl 14)).erk with
    pours := (s.raise (evHl 14)).erk.pours.map (fun x => if pourHit page fn x then { x with failed := true } else x) } })
    hw (Or.inl hmem)
  intro f' hf'
  rw [hframes] at hf'
  exact hmarks f' hf'

/-- A received output on the page is marked. -/
theorem faultMail_pours {page fn : Nat} {x : ErkPour} (hx : x ∈ s.erk.pours) (hp : x.phase = .written) (hfn : x.fn = fn)
    (ho : overlaps page x.addr x.len = true ∨ overlaps page x.desc 64 = true) :
    { x with failed := true } ∈ (s.faultMail page fn).erk.pours := by
  have herk := faultMail_keeps (fun s => s.erk) (fun n s => State.raise_erk s n) (fun _ _ _ => rfl) page fn s
  have hhit : pourHit page fn x = true := by
    unfold pourHit
    rcases ho with ho | ho <;> simp [hp, hfn, ho]
  have hmarks : (faultMarks page fn s).erk.pours =
      s.erk.pours.map (fun x => if pourHit page fn x then { x with failed := true } else x) := by
    unfold faultMarks
    rw [markAll_erk, State.raise_erk]
  rw [herk, hmarks]
  exact List.mem_map.mpr ⟨x, hx, if_pos hhit⟩

/-- A write of the fault mailbox that passes its check. -/
theorem busWrite64_mailbox (r v : Nat) (s : State) : s.busWrite64 r Reg.OUT_FAULT_MBOX v =
    if !s.reqReaches r then s
    else match s.denyReason r Reg.OUT_FAULT_MBOX (some (v % 2 ^ 32)) with
      | some c => s.logDeny r Reg.OUT_FAULT_MBOX true false c
      | none => s.faultMail (v / 4096) (v % 16) := by
  have hmark (c : Nat) : s.denyMark Reg.OUT_FAULT_MBOX (v % 2 ^ 32) c = s := by
    simp [State.denyMark, within, Reg.OUT_FAULT_MBOX]
  have hoff : s.domOff Reg.OUT_FAULT_MBOX = false := rfl
  rw [busWrite64_OUT_FAULT_MBOX]
  unfold State.busDo halfWord
  rw [hoff]
  simp only [Bool.false_eq_true, if_false, hmark]
  rfl

/-- Settles O31: a member that never starts, and what a page reported faulty marks (faultMail_marks, faultMail_pours). -/
theorem missingMembersAndFaultPages : Obligations.MissingMembersAndFaultPages := by
  refine ⟨fun st ns s hl => ?_, fun r v s => ?_, fun s page fn f x hf hx hw hp hfn ho f' hf' hst hnum y hy hyw =>
    faultMail_marks hf hx hw hp hfn ho f' hf' hst hnum y hy hyw, fun s page fn x hx hp hfn ho => faultMail_pours hx hp hfn ho⟩
  · show Host.Outcome.next (s.event ns (State.logMissing st.val)) = _
    rw [event_loaded ns _ s hl]
    rfl
  · show Host.Outcome.next (s.busWrite64 r.val Reg.OUT_FAULT_MBOX v.toNat).settle = _
    rw [busWrite64_mailbox] <;> rfl

end Sys2Proof.Machine
end

section
/-! Proofs/Reads.lean: registers with read effects (R341, R471). -/

namespace Sys2Proof.Machine

/-- Which register with a read effect an offset is, in the order in which they are told apart; 8 = none. -/
def effectOf (off : Nat) : Nat :=
  if off == Reg.PM_REFUSE then 0
  else if off == Reg.PLC_REF then 1
  else if off == Reg.CEN_PUB then 2
  else if off == Reg.HL_TAGS then 3
  else if off == Reg.TXE_BUF then 4
  else if within off 0x100000 0x18000 && off % 0x1000 == 0x0C then 5
  else if within off 0x400000 0xC0000 && off % 0x10000 == 0x10 then 6
  else if within off 0x500000 0x10000 && off % 0x800 == 0x200 then 7
  else 8

/-- What the read of a register with an effect answers and leaves. -/
def effectRead (s : State) (r off : Nat) : Nat → Nat × State
  | 0 => (s.peek r off, s.put Fld.PM_REFUSE_valid 0)
  | 1 => (s.peek r off, s.put Fld.PLC_REF_valid 0)
  | 2 => s.cenPubRead (s.reqDomain r)
  | 3 => (s.peek r off, s.put Fld.HL_TAGS_peak (s.get Fld.HL_TAGS_now))
  | 4 => (s.get Fld.TXE_BUF_peak * 2 ^ 16 + s.txeLive, s.put Fld.TXE_BUF_peak s.txeLive)
  | 5 => (s.peek r off, s.put (Fld.PORT_EQ_min_margin ((off - 0x100000) / 0x1000)) (s.get (Fld.PORT_EQ_margin ((off - 0x100000) / 0x1000))))
  | 6 => (s.peek r off, s.put (Fld.EAS_WAIT_max_wait ((off - 0x400000) / 0x10000)) 0)
  | 7 => s.resHead ((off - 0x500000) / 0x800) (s.reqDomain r)
  | _ => (s.peek r off, s)

theorem readEffect_getD (s : State) (r off : Nat) : (s.readEffect r off).getD (s.peek r off, s) =
    if s.domOff off then (s.peek r off, s) else effectRead s r off (effectOf off) := by
  unfold State.readEffect effectOf
  repeat' split
  all_goals rfl

/-- A read of a word register whose effect is the k-th. -/
theorem readBy_effect {off k : Nat} (r : Nat) (s : State) (hw : isReg off .word = true) (hk : effectOf off = k) :
    s.readBy r off = if s.domOff off then s.sees r off (s.peek r off) s
      else s.sees r off (effectRead s r off k).1 (effectRead s r off k).2 := by
  rw [readBy_word s hw, readEffect_getD, hk]
  split <;> rfl

/-- A register of a domain that never rests. -/
theorem readBy_effect_on {off k : Nat} (r : Nat) (s : State) (hw : isReg off .word = true) (hk : effectOf off = k)
    (hd : domainOf off = none) : s.readBy r off = s.sees r off (effectRead s r off k).1 (effectRead s r off k).2 := by
  have hoff : s.domOff off = false := by
    unfold State.domOff
    rw [hd]
  rw [readBy_effect r s hw hk, hoff, if_neg (by decide)]

theorem isReg_PORT_EQ : ∀ p : Fin 24, isReg (Reg.PORT_EQ p.val) .word = true ∧ effectOf (Reg.PORT_EQ p.val) = 5 := by decide

theorem isReg_EAS_WAIT : ∀ e : Fin 12, isReg (Reg.EAS_WAIT e.val) .word = true ∧ effectOf (Reg.EAS_WAIT e.val) = 6 := by decide

theorem isReg_RES_HEAD : ∀ st : Fin 32, isReg (Reg.STAT_RES_HEAD st.val) .word = true ∧ effectOf (Reg.STAT_RES_HEAD st.val) = 7 ∧
    domainOf (Reg.STAT_RES_HEAD st.val) = none := by decide

/-- Settles O33: each register is of one word and has its effect (readBy_effect). -/
theorem readsWithEffects : Obligations.ReadsWithEffects := by
  intro r s
  refine ⟨?_, ?_, ?_, fun p => ?_, fun e => ?_, ?_, ?_, fun st => ?_⟩
  · show Host.Outcome.next (s.readBy r.val Reg.PM_REFUSE).settle = _
    rw [readBy_effect_on (k := 0) _ s (by decide) (by decide) (by decide)]
    rfl
  · show Host.Outcome.next (s.readBy r.val Reg.PLC_REF).settle = _
    rw [readBy_effect_on (k := 1) _ s (by decide) (by decide) (by decide)]
    rfl
  · show Host.Outcome.next (s.readBy r.val Reg.HL_TAGS).settle = _
    rw [readBy_effect (k := 3) _ s (by decide) (by decide)]
    rfl
  · show Host.Outcome.next (s.readBy r.val (Reg.PORT_EQ p.val)).settle = _
    obtain ⟨hw, hk⟩ := isReg_PORT_EQ p
    have hp : (Reg.PORT_EQ p.val - 0x100000) / 0x1000 = p.val := by simp only [Reg.PORT_EQ]; omega
    rw [readBy_effect _ s hw hk]
    simp only [effectRead, hp]
  · show Host.Outcome.next (s.readBy r.val (Reg.EAS_WAIT e.val)).settle = _
    obtain ⟨hw, hk⟩ := isReg_EAS_WAIT e
    have he : (Reg.EAS_WAIT e.val - 0x400000) / 0x10000 = e.val := by simp only [Reg.EAS_WAIT]; omega
    rw [readBy_effect _ s hw hk]
    simp only [effectRead, he]
  · show Host.Outcome.next (s.readBy r.val Reg.TXE_BUF).settle = _
    rw [readBy_effect (k := 4) _ s (by decide) (by decide)]
    rfl
  · show Host.Outcome.next (s.readBy r.val Reg.CEN_PUB).settle = _
    rw [readBy_effect (k := 2) _ s (by decide) (by decide)]
    rfl
  · show Host.Outcome.next (s.readBy r.val (Reg.STAT_RES_HEAD st.val)).settle = _
    obtain ⟨hw, hk, hd⟩ := isReg_RES_HEAD st
    have hst : (Reg.STAT_RES_HEAD st.val - 0x500000) / 0x800 = st.val := by simp only [Reg.STAT_RES_HEAD]; omega
    rw [readBy_effect_on _ s hw hk hd]
    simp only [effectRead, hst]

end Sys2Proof.Machine
end

section
/-! Proofs/Flash.lean: the flash commands of a requester (R98). -/

namespace Sys2Proof.Machine

/-! ## The journal goes on beside them -/

/-- What the journal changes as it goes on: its own state and the warmer's. -/
def JrOnly (s t : State) : Prop := t = { s with life := t.life, warm := t.warm }

theorem JrOnly.trans {s t u : State} (h : JrOnly s t) (g : JrOnly t u) : JrOnly s u := by
  unfold JrOnly at *
  rw [h] at g
  exact g

theorem jrBegin_only (k : JKind) (rest : List JKind) (s : State) : JrOnly s (s.jrBegin k rest) := by
  unfold State.jrBegin
  split
  · rfl
  · dsimp only
    split <;> rfl

theorem norOp_map_none {s : State} (h : s.norOp = none) (f : NorOp → NorOp) : { s with norOp := s.norOp.map f } = s := by
  cases s
  cases h
  rfl

/-- Without a flash command in hand, what goes on is the journal alone. -/
theorem jrStart_only {s : State} (h : s.norOp = none) : JrOnly s s.jrStart := by
  unfold State.jrStart
  dsimp only
  split
  · have hdone (u : State) (hu : u.norOp = none) (l : Life) :
        JrOnly u { u with life := l, norOp := u.norOp.map (fun o => { o with on := true }) } := by
      have hnone := norOp_map_none (s := { u with life := l }) hu (fun o => { o with on := true })
      exact hnone ▸ rfl
    split
    · exact JrOnly.trans (t := s.lifeFold) rfl (hdone s.lifeFold h _)
    · exact hdone s h _
  · split
    · rfl
    · split
      · next o _ =>
        have hpark : JrOnly s { s with life := { s.life with op := none, parked := some o } } := rfl
        split
        · exact hpark.trans (jrBegin_only _ _ _)
        · exact hpark
      · split
        · rfl
        · split
          · exact jrBegin_only _ _ s
          · rfl
        · split
          · exact jrBegin_only _ _ s
          · rw [norOp_map_none h]
            rfl

/-! ## What an operation leaves -/

/-- The page buffer filled with what is read from an address. -/
def bufFill (addr : Nat) (l : List Nat) (s : State) : State :=
  forEach l (fun n s => s.setReg (Reg.BOOT_NOR_BUF n) (BitVec.ofNat 32 (leVal (s.norRead (addr + 4 * n) 4)))) s

theorem norRead_congr {s u : State} (h : u.nor = s.nor) (a n : Nat) : u.norRead a n = s.norRead a n := by
  unfold State.norRead
  rw [h]

theorem bufFill_regs (addr : Nat) (l : List Nat) (s : State) : RegsOnly s (bufFill addr l s) := by
  induction l generalizing s with
  | nil => rfl
  | cons n ns ih =>
    exact RegsOnly.trans (t := s.setReg (Reg.BOOT_NOR_BUF n) (BitVec.ofNat 32 (leVal (s.norRead (addr + 4 * n) 4)))) rfl (ih _)

theorem bufFill_reg_ne (addr : Nat) (l : List Nat) (s : State) {off : Nat} (h : ∀ n ∈ l, off ≠ Reg.BOOT_NOR_BUF n) :
    (bufFill addr l s).reg off = s.reg off := by
  induction l generalizing s with
  | nil => rfl
  | cons n ns ih =>
    refine (ih _ (fun m hm => h m (List.mem_cons_of_mem _ hm))).trans ?_
    exact State.reg_setReg_ne s _ (h n (List.mem_cons_self ..))

theorem bufFill_reg (addr : Nat) (l : List Nat) (s : State) {n : Nat} (h : n ∈ l) :
    (bufFill addr l s).reg (Reg.BOOT_NOR_BUF n) = BitVec.ofNat 32 (leVal (s.norRead (addr + 4 * n) 4)) := by
  induction l generalizing s with
  | nil => cases h
  | cons m ms ih =>
    by_cases hm : n ∈ ms
    · exact (ih (s.setReg (Reg.BOOT_NOR_BUF m) (BitVec.ofNat 32 (leVal (s.norRead (addr + 4 * m) 4)))) hm).trans
        (congrArg (fun l => BitVec.ofNat 32 (leVal l)) (norRead_congr rfl _ _))
    · have hnm : n = m := (List.mem_cons.mp h).resolve_right hm
      subst hnm
      refine (bufFill_reg_ne addr ms _ (fun k hk => ?_)).trans (State.reg_setReg_same s _ _)
      intro he
      have hkn : n = k := by
        simp only [Reg.BOOT_NOR_BUF] at he
        omega
      exact hm (hkn ▸ hk)

/-- Bytes left open: those outside their range read as before. -/
theorem norOpen_get (a n : Nat) (s : State) {b : Nat} (h : b < a ∨ a + n ≤ b) : (s.norOpen a n).norGet b = s.norGet b := by
  have hloop (l : List Nat) (hl : ∀ i ∈ l, i < n) (u : State) : State.norGet (forEach l (fun i s =>
      { s with nor := cellPut 0xFF#8 s.nor (a + i) (Config.norByte s.free (a + i)) }) u) b = u.norGet b := by
    induction l generalizing u with
    | nil => rfl
    | cons i is ih =>
      have hi := hl i (List.mem_cons_self ..)
      refine (ih (fun j hj => hl j (List.mem_cons_of_mem _ hj)) _).trans ?_
      unfold State.norGet
      rw [cellGet_put, if_neg (by omega)]
  exact hloop (List.range n) (fun i hi => List.mem_range.mp hi) s

theorem norProg_congr {s u : State} (h : u.nor = s.nor) (a : Nat) (bs : List Nat) : (u.norProg a bs).nor = (s.norProg a bs).nor := by
  unfold State.norProg
  generalize List.zip (List.range bs.length) bs = l
  induction l generalizing s u with
  | nil => exact h
  | cons e es ih =>
    refine ih ?_
    dsimp only
    rw [h]

/-- The state of a command's end with its busy flag taken back. -/
def norIdle (s : State) : State := { s with norOp := none }.put Fld.BOOT_NOR_CTRL_busy 0

theorem norGet_put (s : State) (f : Fld) (v b : Nat) : (s.put f v).norGet b = s.norGet b := rfl

theorem norIdle_nor (s : State) : (norIdle s).nor = s.nor := rfl

theorem norIdle_norGet (s : State) (b : Nat) : (norIdle s).norGet b = s.norGet b := rfl

theorem norIdle_busy (s : State) : (norIdle s).get Fld.BOOT_NOR_CTRL_busy = 0 :=
  State.get_put_same _ Fld.BOOT_NOR_CTRL_busy 0 (by decide) (by decide)

/-- A flash command in hand ends, the journal goes on, and the command with it. -/
theorem norDone_eq {s : State} {o : NorOp} (failed : Bool) (ho : s.norOp = some o) (hj : s.life.op = none) :
    s.norDone failed = State.jrStart (if o.op == 3 then bufFill o.addr (List.range 64) (norIdle s)
      else if failed then ((norIdle s).norOpen o.addr (if o.op == 1 then 65536 else 256)).put Fld.BOOT_NOR_CTRL_reason 0x31
      else if o.op == 1 then (norIdle s).norErase o.addr
      else (norIdle s).norProg o.addr o.data) := by
  unfold State.norDone
  rw [ho, hj]
  rfl

/-- What the journal leaves of an operation's end. -/
theorem jrStart_settled {v : State} (h : v.norOp = none) (hb : v.get Fld.BOOT_NOR_CTRL_busy = 0) :
    v.jrStart.settle.norOp = none ∧ v.jrStart.settle.get Fld.BOOT_NOR_CTRL_busy = 0 ∧
    (v.jrStart.settle.nor = v.nor ∧ ∀ b, v.jrStart.settle.norGet b = v.norGet b) ∧
    (∀ off, off < 0x080000 → v.jrStart.settle.reg off = v.reg off) := by
  have hj := jrStart_only h
  unfold JrOnly at hj
  have hreg (off : Nat) (ho : off < 0x080000) : v.jrStart.settle.reg off = v.reg off := by
    rw [State.settle_reg _ _ (by simp only [Reg.SIG_GPIO_LVL]; omega) (by omega), hj]
    rfl
  have hnor : v.jrStart.settle.nor = v.nor := by rw [State.settle_nor, hj]
  refine ⟨?_, ?_, ⟨hnor, fun b => ?_⟩, hreg⟩
  · rw [State.settle_norOp, hj]
    exact h
  · exact (congrArg (fldGet Fld.BOOT_NOR_CTRL_busy) (hreg Reg.BOOT_NOR_CTRL (by decide))).trans hb
  · unfold State.norGet
    rw [hnor]

section
variable {s : State} {o : NorOp} (ho : s.norOp = some o) (hj : s.life.op = none)
include ho hj

/-- A read ends with the page buffer filled. -/
theorem norDone_read (failed : Bool) (h3 : o.op = 3) :
    let t := (s.norDone failed).settle
    t.norOp = none ∧ t.get Fld.BOOT_NOR_CTRL_busy = 0 ∧ t.nor = s.nor ∧
    ∀ n < 64, t.reg (Reg.BOOT_NOR_BUF n) = BitVec.ofNat 32 (leVal (s.norRead (o.addr + 4 * n) 4)) := by
  have hfill := bufFill_regs o.addr (List.range 64) (norIdle s)
  unfold RegsOnly at hfill
  have hbusy : (bufFill o.addr (List.range 64) (norIdle s)).get Fld.BOOT_NOR_CTRL_busy = 0 :=
    (congrArg (fldGet Fld.BOOT_NOR_CTRL_busy) (bufFill_reg_ne _ _ _ (fun n _ => by
      simp only [Fld.BOOT_NOR_CTRL_busy, Reg.BOOT_NOR_CTRL, Reg.BOOT_NOR_BUF]; omega))).trans (norIdle_busy s)
  obtain ⟨h1, h2, ⟨hnor, -⟩, hreg⟩ := jrStart_settled (by rw [hfill]; rfl) hbusy
  dsimp only
  rw [norDone_eq failed ho hj, if_pos (by simp [h3])]
  refine ⟨h1, h2, ?_, fun n hn => ?_⟩
  · rw [hnor, hfill]
    rfl
  · rw [hreg _ (by simp only [Reg.BOOT_NOR_BUF]; omega), bufFill_reg _ _ _ (List.mem_range.mpr hn), norRead_congr (norIdle_nor s)]

/-- A failed erase or program leaves its bytes open. -/
theorem norDone_failed (h3 : o.op ≠ 3) :
    let t := (s.norDone true).settle
    t.norOp = none ∧ t.get Fld.BOOT_NOR_CTRL_busy = 0 ∧ t.get Fld.BOOT_NOR_CTRL_reason = 0x31 ∧
    ∀ b, o.addr + 65536 ≤ b ∨ b < o.addr → t.norGet b = s.norGet b := by
  obtain ⟨n, hn, hsize⟩ : ∃ n, n ≤ 65536 ∧ (if o.op == 1 then 65536 else 256) = n := ⟨_, by split <;> decide, rfl⟩
  have hopen := norOpen_eq o.addr n (norIdle s)
  dsimp only
  rw [norDone_eq true ho hj, if_neg (by simp [h3]), if_pos rfl, hsize]
  generalize hv : (norIdle s).norOpen o.addr n = v at hopen
  have hop : (v.put Fld.BOOT_NOR_CTRL_reason 0x31).norOp = none := by
    rw [State.put_norOp, hopen]
    rfl
  have hbusy : (v.put Fld.BOOT_NOR_CTRL_reason 0x31).get Fld.BOOT_NOR_CTRL_busy = 0 := by
    rw [State.get_put_disj _ _ (by decide) (by decide) (Or.inl (by decide)), hopen]
    exact norIdle_busy s
  obtain ⟨h1, h2, ⟨-, hget⟩, hreg⟩ := jrStart_settled hop hbusy
  refine ⟨h1, h2, ?_, fun b hb => ?_⟩
  · exact (congrArg (fldGet Fld.BOOT_NOR_CTRL_reason) (hreg Reg.BOOT_NOR_CTRL (by decide))).trans
      (State.get_put_same _ Fld.BOOT_NOR_CTRL_reason 0x31 (by decide) (by decide))
  · rw [hget b, norGet_put, ← hv, norOpen_get o.addr n (norIdle s) (by omega), norIdle_norGet]

/-- A good erase or program leaves its result in the flash. -/
theorem norDone_good (h3 : o.op ≠ 3) :
    let t := (s.norDone false).settle
    t.norOp = none ∧ t.get Fld.BOOT_NOR_CTRL_busy = 0 ∧
    (o.op = 1 → ∀ b, t.norGet b = if b / 65536 = o.addr / 65536 then 0xFF else s.norGet b) ∧
    (o.op = 2 → t.nor = (s.norProg o.addr o.data).nor) := by
  have hend (v : State) (hv : NorOnly (norIdle s) v) : v.norOp = none ∧ v.get Fld.BOOT_NOR_CTRL_busy = 0 := by
    obtain ⟨m, rfl, -⟩ := hv
    exact ⟨rfl, norIdle_busy s⟩
  dsimp only
  rw [norDone_eq false ho hj, if_neg (by simp [h3]), if_neg (by decide)]
  by_cases h1 : o.op = 1
  · rw [if_pos (by simp [h1])]
    obtain ⟨hnone, hbusy⟩ := hend _ (norErase_norOnly o.addr (norIdle s))
    obtain ⟨hop, hb, ⟨-, hget⟩, -⟩ := jrStart_settled hnone hbusy
    exact ⟨hop, hb, fun _ b => (hget b).trans (norErase_get (norIdle s) o.addr b), fun h => by omega⟩
  · rw [if_neg (by simp [h1])]
    obtain ⟨hnone, hbusy⟩ := hend _ (norProg_norOnly o.addr o.data (norIdle s))
    obtain ⟨hop, hb, ⟨hnor, -⟩, -⟩ := jrStart_settled hnone hbusy
    exact ⟨hop, hb, fun h => absurd h h1, fun _ => hnor.trans (norProg_congr (norIdle_nor s) _ _)⟩

/-- How a flash command ends: in each case the flash and the registers that it leaves. -/
theorem norDone_ends (failed : Bool) :
    let t := (s.norDone failed).settle
    t.norOp = none ∧ t.get Fld.BOOT_NOR_CTRL_busy = 0 ∧
    (o.op = 3 → t.nor = s.nor ∧ ∀ n < 64, t.reg (Reg.BOOT_NOR_BUF n) = BitVec.ofNat 32 (leVal (s.norRead (o.addr + 4 * n) 4))) ∧
    (o.op ≠ 3 → failed = true → t.get Fld.BOOT_NOR_CTRL_reason = 0x31 ∧
      (∀ b, o.addr + 65536 ≤ b ∨ b < o.addr → t.norGet b = s.norGet b)) ∧
    (o.op = 1 → failed = false → ∀ b, t.norGet b = if b / 65536 = o.addr / 65536 then 0xFF else s.norGet b) ∧
    (o.op = 2 → failed = false → t.nor = (s.norProg o.addr o.data).nor) := by
  by_cases h3 : o.op = 3
  · obtain ⟨h1, h2, hread⟩ := norDone_read ho hj failed h3
    exact ⟨h1, h2, fun _ => hread, fun h => absurd h3 h, fun h => by omega, fun h => by omega⟩
  · cases failed with
    | true =>
      obtain ⟨h1, h2, hfail⟩ := norDone_failed ho hj h3
      exact ⟨h1, h2, fun h => absurd h h3, fun _ _ => hfail, fun _ h => absurd h (by decide), fun _ h => absurd h (by decide)⟩
    | false =>
      obtain ⟨h1, h2, herase, hprog⟩ := norDone_good ho hj h3
      exact ⟨h1, h2, fun h => absurd h h3, fun _ h => absurd h (by decide), fun h _ => herase h, fun h _ => hprog h⟩

end

/-- Without a command in hand, or behind the journal's, the end of one does nothing. -/
theorem norDone_idle {s : State} (failed : Bool) (h : s.norOp = none ∨ s.life.op.isSome = true) : s.norDone failed = s := by
  unfold State.norDone
  split
  · rfl
  · next o ho =>
    rcases h with h | h
    · rw [ho] at h
      cases h
    · rw [if_pos h]

/-- A command of the flash: refused, or in hand. -/
theorem norCmd_go {op : Nat} (h : op ≠ 0) (s : State) : s.norCmd op =
    if !(s.phase == .active || s.phase == .failed) || s.norOp.isSome then s
    else
      let u := s.put Fld.BOOT_NOR_CTRL_op op
      let a := s.get Fld.BOOT_NOR_ADDR_addr
      if !(op == 3) && s.norKept a then u.put Fld.BOOT_NOR_CTRL_reason 0x30
      else if !(a % (if op == 1 then 0x10000 else 256) == 0) then u.put Fld.BOOT_NOR_CTRL_reason 0x32
      else
        let w := { (u.put Fld.BOOT_NOR_CTRL_reason 0).put Fld.BOOT_NOR_CTRL_busy 1 with
          norOp := some ⟨op, a, if op == 2 then s.norBuf else [], s.life.op.isNone⟩ }
        if op == 1 then w.lifeItem 227 1 else w := by
  unfold State.norCmd State.norServed
  rw [if_neg (c := (op == 0) = true) (by simpa using h)]

theorem busWrite_norCmd {op : Nat} (h4 : op < 4) (r : Nat) (s : State) :
    s.busWrite r Reg.BOOT_NOR_CTRL op = s.busDo r Reg.BOOT_NOR_CTRL op (State.norCmd op) := by
  rw [busWrite_BOOT_NOR_CTRL, Nat.mod_eq_of_lt h4]

/-- Settles O37: a command is a write of BOOT_NOR_CTRL, its end is norDone (norDone_idle, norDone_ends). -/
theorem flashCommands : Obligations.FlashCommands := by
  refine ⟨fun r s => ⟨?_, ?_, ?_⟩, fun s ns failed hr => ⟨fun h => ?_, fun h => ?_, fun o ho hj => ?_⟩⟩
  · show Host.Outcome.next (s.busWrite r.val Reg.BOOT_NOR_CTRL 1).settle = _
    rw [busWrite_norCmd (by decide), show State.norCmd 1 = _ from funext (norCmd_go (by decide))]
  · show Host.Outcome.next (s.busWrite r.val Reg.BOOT_NOR_CTRL 2).settle = _
    rw [busWrite_norCmd (by decide), show State.norCmd 2 = _ from funext (norCmd_go (by decide))]
  · show Host.Outcome.next (s.busWrite r.val Reg.BOOT_NOR_CTRL 3).settle = _
    rw [busWrite_norCmd (by decide), show State.norCmd 3 = _ from funext (norCmd_go (by decide))]
  · show Host.Outcome.next (s.running ns (State.norDone failed)) = _
    rw [running_runs ns _ s hr, norDone_idle failed (Or.inl (by simpa using h))]
  · show Host.Outcome.next (s.running ns (State.norDone failed)) = _
    rw [running_runs ns _ s hr, norDone_idle failed (Or.inr (by simpa using h))]
  · refine ⟨((s.advance ns).norDone failed).settle, congrArg _ (running_runs ns _ s hr), ?_⟩
    have hends := norDone_ends (s := s.advance ns) (by simpa using ho) (by simpa using hj) failed
    have hget (b : Nat) : (s.advance ns).norGet b = s.norGet b := by
      unfold State.norGet
      rw [State.advance_nor]
    have hread (a n : Nat) : (s.advance ns).norRead a n = s.norRead a n := norRead_congr (State.advance_nor s ns) a n
    have hprog : ((s.advance ns).norProg o.addr o.data).nor = (s.norProg o.addr o.data).nor := norProg_congr (State.advance_nor s ns) _ _
    simp only [hget, hread, hprog, State.advance_nor] at hends
    exact hends

end Sys2Proof.Machine
end

section
/-! Proofs/Packets.lean: packets reach their port (R44, R109 to R115). -/

namespace Sys2Proof.Machine

/-- A packet that passed its header check goes to the handling of its kind. -/
def State.handle (x : Ingr) (s : State) : State :=
  let p := x.pkt.port
  match x.pkt.body with
  | .start num => s.frameStart p x.pkt.link x.pkt.vc num x.cap
  | .line dt num codes crcOk cse room => s.pixelLine p x.pkt.link x.pkt.vc dt x.cap num codes crcOk cse room
  | .stop => s.frameEnd p x.pkt.link x.pkt.vc
  | .embedded bytes crcOk cse => s.embedded p x.pkt.link x.pkt.vc bytes crcOk cse
  | .user kind bytes crcOk cse => s.userData p x.pkt.link x.pkt.vc kind bytes crcOk cse
  | .other dt _ => s.otherLong p dt

/-- What a header check makes of a packet that is handled by f. -/
def checked (s : State) (k : Packet) (f : State → State) : State :=
  let hdr := if k.arr.scr == s.flag (if k.link then Fld.PORT_CFG_scr_b k.port else Fld.PORT_CFG_scr_a k.port) then k.arr.hdr
    else .uncorrectable
  let g := fun (u : State) => if k.arr.lrte && !u.flag (Fld.PORT_CFG_lrte k.port) then u else f u
  match hdr with
  | .ok => g s
  | .corrected => g ((s.bump (Fld.PORT_ERR_ECC_corr k.port)).raise (evPort k.port 5))
  | .uncorrectable => (s.bump (Fld.PORT_ERR_ECC_uncorr k.port)).raise (evPort k.port 6)

theorem receive_eq (s : State) (x : Ingr) (hp : x.pkt.port < 24) : s.receive x = checked s x.pkt (State.handle x) := by
  have hlrte : ((s.bump (Fld.PORT_ERR_ECC_corr x.pkt.port)).raise (evPort x.pkt.port 5)).flag (Fld.PORT_CFG_lrte x.pkt.port) =
      s.flag (Fld.PORT_CFG_lrte x.pkt.port) := by
    unfold State.flag
    rw [State.raise_get _ _ _ (by unfold evPort; omega) (by simp only [Fld.PORT_CFG_lrte, Reg.PORT_CFG]; omega)]
    unfold State.get
    rw [State.reg_bump_ne]
    simp only [Fld.PORT_CFG_lrte, Reg.PORT_CFG, Fld.PORT_ERR_ECC_corr, Reg.PORT_ERR_ECC]
    omega
  have hdr : s.hdrOf x.pkt = if x.pkt.arr.scr == s.flag (if x.pkt.link then Fld.PORT_CFG_scr_b x.pkt.port else Fld.PORT_CFG_scr_a x.pkt.port)
    then x.pkt.arr.hdr else .uncorrectable := rfl
  unfold State.receive checked
  dsimp only
  rw [← hdr]
  cases s.hdrOf x.pkt with
  | ok =>
    cases x.pkt.arr.lrte && !s.flag (Fld.PORT_CFG_lrte x.pkt.port) <;> rfl
  | corrected =>
    rw [hlrte]
    cases x.pkt.arr.lrte && !s.flag (Fld.PORT_CFG_lrte x.pkt.port) <;> rfl
  | uncorrectable => rfl

/-- What a packet does that its port's PHY hands on, handled by f. -/
def reached (s : State) (k : Packet) (f : State → State) : State :=
  if !(s.domPower (2 * k.port) && s.domPower (2 * k.port + 1)) ||
      s.ingress.any (fun y => y.pkt.port == k.port && y.pkt.link == k.link && y.pkt.vc == k.vc) ||
      (k.starts && (s.vcEntries k.port k.link k.vc).any (fun e => s.strmWaits (s.entStream k.port e))) then
    { s with ingress := s.ingress ++ [Ingr.mk k (s.now, s.synced)] }.raiseIf k.starts (evPm 2)
  else checked s k f

theorem deliver_eq (s : State) (k : Packet) (hp : k.port < 24) :
    s.deliver k = reached s k (State.handle ⟨k, (s.now, s.synced)⟩) := by
  unfold State.deliver reached
  dsimp only
  rw [receive_eq s _ hp]
  rfl

theorem phyTakes_eq (s : State) (k : Packet) : s.phyTakes k =
    (s.portOn k.port && (if Nat.ble 16 k.port then Nat.ble k.arr.rate (s.get (Fld.PORT_LINK_rate k.port)) &&
      (!k.link || s.get (Fld.PORT_CFG_phy_mode k.port) == 1) else s.flag (Fld.PORT_LSTAT_link_up k.port) && !k.link)) := by
  unfold State.phyTakes State.comboLink
  cases s.portOn k.port with
  | false => rfl
  | true => simp only [Bool.true_and]

/-- A packet with fault injection off: taken where pixel work is, then those that were held and fall due. -/
theorem packet_eq (s : State) (k : Packet) (f : State → State) (hp : k.port < 24) (hfi : s.fiOn = false)
    (hf : State.handle ⟨k, (s.now, s.synced)⟩ = f) : s.packet k =
    if !(s.working && s.portOn k.port && (if Nat.ble 16 k.port then Nat.ble k.arr.rate (s.get (Fld.PORT_LINK_rate k.port)) &&
        (!k.link || s.get (Fld.PORT_CFG_phy_mode k.port) == 1) else s.flag (Fld.PORT_LSTAT_link_up k.port) && !k.link)) then s
    else (reached s k f).fiDue.2.deliverAll (reached s k f).fiDue.1 := by
  have hinj : s.inject 1 k.port = (FiEffect.none_, s) := by
    unfold State.inject
    rw [hfi, if_neg (by decide)]
  unfold State.packet
  dsimp only
  rw [phyTakes_eq, hinj, ← hf, ← deliver_eq s k hp, Bool.and_assoc]
  rfl

/-- Without an entry for its link and virtual channel a packet counts as unmapped. -/
theorem unmapped_of_entries {p vc : Nat} {link : Bool} {s : State} (h : s.vcEntries p link vc = []) (num dt kind : Nat) (n : Option Nat)
    (codes bytes : List Nat) (a c : Bool) (b : CseField) (cap : Nat × Bool) :
    s.frameStart p link vc num cap = s.unmapped p ∧ s.pixelLine p link vc dt cap n codes a b c = s.unmapped p ∧
    s.frameEnd p link vc = s.unmapped p ∧ s.embedded p link vc bytes a b = s.unmapped p ∧
    s.userData p link vc kind bytes a b = s.unmapped p := by
  have hpix : s.pixelEntry p link vc dt = none := by
    unfold State.pixelEntry
    rw [h]
    rfl
  refine ⟨?_, ?_, ?_, ?_, ?_⟩
  · unfold State.frameStart
    rw [h]
  · unfold State.pixelLine
    rw [hpix]
  · unfold State.frameEnd
    rw [h]
  · unfold State.embedded
    rw [h]
  · unfold State.userData
    rw [h]

theorem otherLong_eq (p dt : Nat) : State.otherLong p dt = fun u =>
    if dt = 0x10 ∨ dt = 0x11 then u else (u.bump (Fld.PORT_ERR_MISC_unmapped p)).raise (evPort p 15) := by
  funext u
  unfold State.otherLong
  simp only [Bool.or_eq_true, beq_iff_eq]
  rfl

/-- Settles O40: each packet command is a packet that reaches its port (packet_eq), handled by its kind. -/
theorem packetsReachTheirPort : Obligations.PacketsReachTheirPort := by
  refine ⟨?_, fun p num link vc dt n codes bytes a c b cap kind s h => unmapped_of_entries h num dt kind n codes bytes a c b cap⟩
  intro p link vc arr ns s hl a cap reaches hfi
  have hgo (body : PktBody) (f : State → State) (hf : State.handle ⟨⟨p.val, link, vc.val, arr, body⟩, cap⟩ = f) :
      s.event ns (State.packet ⟨p.val, link, vc.val, arr, body⟩) = (reaches body f).settlePlan := by
    rw [event_loaded ns _ s hl, packet_eq a ⟨p.val, link, vc.val, arr, body⟩ f p.isLt hfi hf]
    rfl
  exact ⟨fun num => congrArg _ (hgo (.start num.val) _ rfl),
    fun dt n codes crc room cse => congrArg _ (hgo (.line dt.val (n.map Fin.val) codes crc cse room) _ rfl),
    congrArg _ (hgo .stop _ rfl),
    fun bytes crc cse => congrArg _ (hgo (.embedded (bytes.map BitVec.toNat) crc cse) _ rfl),
    fun kind bytes crc cse => congrArg _ (hgo (.user kind.val (bytes.map BitVec.toNat) crc cse) _ rfl),
    fun dt len => congrArg _ (hgo (.other dt.val len) _ (otherLong_eq p.val dt.val))⟩

end Sys2Proof.Machine
end

section
/-! Proofs/Lines.lean: lines of open frames, their repair, and timeouts (R115 to R124). -/

namespace Sys2Proof.Machine

variable {p k : Nat} {codes : List Nat} {crc cse room : Bool} {cap : Nat × Bool} {s : State}

/-! ## A line at its position (R115, R116) -/

theorem takeLine_noRoom (h : room = false) : s.takeLine p k cap codes crc cse room =
    (((s.bump (Fld.PORT_ERR_MISC_overflow p)).raise (evPort p 14)).addLine p k none cap).raise (evPort p 8) := by
  unfold State.takeLine
  rw [h]
  rfl

theorem takeLine_badCrc (hr : room = true) (h : crc = false) : s.takeLine p k cap codes crc cse room =
    ((s.bump (Fld.PORT_ERR_CRC_crc p)).raise (evPort p 7)).addLine p k none cap := by
  unfold State.takeLine
  rw [hr, h]
  rfl

theorem takeLine_badCse (hr : room = true) (hc : crc = true) (h : cse = false) (hs : s.cseServed p = true) :
    s.takeLine p k cap codes crc cse room = ((s.bump (Fld.PORT_ERR_CRC_cse p)).raise (evPort p 13)).addLine p k none cap := by
  unfold State.takeLine
  rw [hr, hc, h, hs]
  rfl

theorem takeLine_good (hr : room = true) (hc : crc = true) (h : cse = true ∨ s.cseServed p = false) :
    s.takeLine p k cap codes crc cse room =
      if codes.length < dtSamples (s.curDt (s.entStream p k)) (s.curW (s.entStream p k)) then (s.addLine p k none cap).raise (evPort p 8)
      else s.addLine p k (some (codes.take (dtSamples (s.curDt (s.entStream p k)) (s.curW (s.entStream p k))))) cap := by
  have hcse : (!cse && s.cseServed p) = false := by
    rcases h with h | h <;> simp [h]
  unfold State.takeLine
  simp only [hr, hc, hcse, Bool.not_true, Bool.false_eq_true, if_false, Nat.blt_eq]

/-! ## The position of a line (R117) -/

/-- A line past the frame's height: a sequence error once per frame. -/
def pastHeight (p k : Nat) (s : State) : State :=
  if (s.ent p k).beyond then s else
    ((s.setEnt p k { s.ent p k with beyond := true }).bump (Fld.PORT_ERR_LINE_seq p)).raise (evPort p 9)

theorem placeLine_unnumbered (h : s.flag (Fld.PORT_CFG_line_num p) = false) : s.placeLine p k cap none codes crc cse room =
    if s.curH (s.entStream p k) ≤ (s.ent p k).lines.length then pastHeight p k s else s.takeLine p k cap codes crc cse room := by
  unfold State.placeLine
  simp only [h, Bool.false_eq_true, if_false, Nat.ble_eq]
  rfl

theorem placeLine_numbered (i : Nat) (h : s.flag (Fld.PORT_CFG_line_num p) = true) :
    s.placeLine p k cap (some i) codes crc cse room =
      if i = 0 ∨ (i - 1) % (s.curProf (s.entStream p k)).lineStep ≠ 0 then s.seqError p
      else if s.curH (s.entStream p k) ≤ (i - 1) / (s.curProf (s.entStream p k)).lineStep then pastHeight p k s
      else if (i - 1) / (s.curProf (s.entStream p k)).lineStep < (s.ent p k).lines.length then s.seqError p
      else (s.repairTo p k ((i - 1) / (s.curProf (s.entStream p k)).lineStep)).takeLine p k cap codes crc cse room := by
  unfold State.placeLine
  simp only [h, if_true, Nat.ble_eq, Nat.blt_eq, Bool.or_eq_true, beq_iff_eq, Bool.not_eq_true', beq_eq_false_iff_ne]
  rfl

/-! ## Timeouts (R115, R119 to R124) -/

theorem inputLoss_idle (ho : s.flag (fOpen p k) = false) (he : s.entExp p k = 0) :
    s.inputLoss p k = (((s.put (fLoss p k) 1).raiseIf (!s.flag (fLoss p k)) (evPort p 10)).setEnt p k
      { s.ent p k with lossCtr := if s.flag (fLoss p k) then (s.ent p k).lossCtr else (s.ent p k).ctr, held := [], skip := false
                       wasReset := (s.ent p k).wasReset && s.flag (fReinit p k) }) := by
  unfold State.inputLoss
  simp only [ho, he, Bool.false_eq_true, if_false, beq_self_eq_true, if_true]

theorem embLost_eq (he : s.entExp p k = 0) : s.embLost p k =
    if (s.curProf (s.entStream p k)).eds.isEmpty ∨ (s.ent p k).emb = true then s else s.seqError p := by
  unfold State.embLost
  rw [he]
  cases (s.curProf (s.entStream p k)).eds.isEmpty <;> cases (s.ent p k).emb <;> rfl

/-- Settles O41: a line is placed (placeLine_unnumbered, placeLine_numbered) and taken (takeLine_noRoom to takeLine_good); the
timeouts are their operations in the shell of a loaded image. -/
theorem linesAndTimeouts : Obligations.LinesAndTimeouts := by
  refine ⟨fun p k codes crc cse room cap s => ⟨placeLine_unnumbered, placeLine_numbered, takeLine_noRoom, takeLine_badCrc, takeLine_badCse,
    fun hr hc h => ⟨fun hlen => ?_, fun hlen => ?_⟩⟩, fun p k ns s hl => ⟨?_, ?_, ?_⟩, fun p k s _ _ ho he => ⟨inputLoss_idle ho he, embLost_eq he⟩⟩
  · rw [takeLine_good hr hc h, if_pos hlen]
  · rw [takeLine_good hr hc h, if_neg (Nat.not_lt.mpr hlen)]
  · show Host.Outcome.next (s.event ns (State.lineTimeout p.val k.val)) = _
    rw [event_loaded ns _ s hl]
    rfl
  · show Host.Outcome.next (s.event ns (State.idleTimeout p.val k.val)) = _
    rw [event_loaded ns _ s hl]
    rfl
  · show Host.Outcome.next (s.event ns (State.reinitDone p.val k.val)) = _
    rw [event_loaded ns _ s hl]
    rfl

end Sys2Proof.Machine
end

section
/-! Proofs/Transfers.lean: how control transfers end (R134, R148). -/

namespace Sys2Proof.Machine

variable {p : Nat} {s : State} {j : Job}

/-! ## Nothing waits -/

/-- Whether a channel's job waits for something. -/
theorem waits_false {w : JobWait} (h : (s.chan p).job = none ∨ (s.chan p).wait ≠ w) :
    ((s.chan p).job.isSome && (s.chan p).wait == w) = false := by
  rcases h with h | h <;> simp [h]

theorem waits_true {w : JobWait} (hj : (s.chan p).job = some j) (hw : (s.chan p).wait = w) :
    ((s.chan p).job.isSome && (s.chan p).wait == w) = true := by
  simp [hj, hw]

theorem delayDone_idle (h : (s.chan p).job = none ∨ (s.chan p).wait ≠ .delay) : s.delayDone p = s := by
  unfold State.delayDone
  split
  · rfl
  · next j hj =>
    rw [if_neg]
    rcases h with h | h
    · rw [hj] at h
      cases h
    · simpa using h

theorem xferDone_idle (h : (s.chan p).job = none ∨ (s.chan p).wait ≠ .transfer) (res : XferRes) : s.xferDone p res = s := by
  unfold State.xferDone
  rw [waits_false h, if_neg (by decide)]

theorem tunnelLate_idle (h : (s.chan p).job = none ∨ (s.chan p).wait ≠ .transfer) : s.tunnelLate p = s := by
  unfold State.tunnelLate
  rw [waits_false h, if_neg (by decide)]

theorem stretchLate_idle (h : (s.chan p).job = none ∨ (s.chan p).wait ≠ .transfer) : s.stretchLate p = s := by
  unfold State.stretchLate
  rw [waits_false h, if_neg (by decide)]

theorem retryAfter_idle {w : JobWait} (h : (s.chan p).job = none ∨ (s.chan p).wait ≠ w) : s.retryAfter p w = s := by
  unfold State.retryAfter
  rw [waits_false h, if_neg (by decide)]

/-! ## A transfer that waits -/

theorem xferDone_waits (hj : (s.chan p).job = some j) (hw : (s.chan p).wait = .transfer) :
    (∀ bytes, s.xferDone p (.done bytes) = s.xferOk p (bytes.map BitVec.toNat)) ∧ s.xferDone p .nack = s.xferNack p ∧
    s.xferDone p .abandoned = s.xferAbandon p ∧ s.tunnelLate p = s.xferNack p ∧ s.stretchLate p = s.stretch p := by
  have hwaits := waits_true hj hw
  unfold State.xferDone State.tunnelLate State.stretchLate
  rw [hwaits]
  exact ⟨fun _ => rfl, rfl, rfl, rfl, rfl⟩

theorem xferNack_busClear (hj : (s.chan p).job = some .busClear) : s.xferNack p =
    (let u := ((s.put (Fld.SC_STAT_stuck p) 1).raise (evTime 9)).setJob p none .transfer
    (u.setChan p { u.chan p with firstEnd := true }).chanGo p) := by
  unfold State.xferNack
  dsimp only
  rw [hj]
  rfl

theorem xferNack_job (hj : (s.chan p).job = some j) (hb : j ≠ .busClear) : s.xferNack p =
    if (s.chan p).nacks < s.get (Fld.SC_CFG_retries p) then
      s.setChan p { s.chan p with nacks := (s.chan p).nacks + 1, wait := .nack }
    else (((s.bump (Fld.SC_STAT_nacks p)).raise (evTime 8)).jobFail p j 1).chanGo p := by
  unfold State.xferNack
  dsimp only
  rw [hj]
  split
  · next h => cases h
  · next h =>
    cases h
    exact absurd rfl hb
  · next h =>
    cases h
    simp only [Nat.blt_eq]

theorem xferAbandon_job (hj : (s.chan p).job = some j) : s.xferAbandon p =
    if (s.chan p).backs < 8 then
      (s.bump (Fld.SC_STAT_backoffs p)).setChan p { s.chan p with backs := (s.chan p).backs + 1, wait := .backoff }
    else (((s.bump (Fld.SC_STAT_backoffs p)).raise (evTime 11)).jobFail p j 2).chanGo p := by
  unfold State.xferAbandon
  dsimp only
  rw [hj]
  dsimp only
  simp only [Nat.blt_eq]

theorem stretch_job (hj : (s.chan p).job = some j) : s.stretch p =
    (s.setChan p { s.chan p with job := some .busClear, wait := .transfer, nacks := 0, backs := 0, todo := j :: (s.chan p).todo }).emit
      (.busClear p (s.busI3c p)) := by
  unfold State.stretch
  dsimp only
  rw [hj]
  rfl

theorem xferAgain_job (hj : (s.chan p).job = some j) :
    s.xferAgain p = (s.setChan p { s.chan p with wait := .transfer }).launch p j := by
  unfold State.xferAgain
  dsimp only
  rw [hj]

theorem retryAfter_waits {w : JobWait} (hj : (s.chan p).job = some j) (hw : (s.chan p).wait = w) :
    s.retryAfter p w = (s.setChan p { s.chan p with wait := .transfer }).launch p j := by
  unfold State.retryAfter
  rw [waits_true hj hw, if_pos rfl, xferAgain_job hj]

theorem delayDone_job (hj : (s.chan p).job = some j) (hw : (s.chan p).wait = .delay) : s.delayDone p =
    (let r := State.seqFrom p j 1100 (j.opNo + 1) s
    match r.2 with
    | some _ => r.1
    | none => (r.1.jobEnd p j).chanGo p) := by
  unfold State.delayDone
  rw [hj]
  dsimp only
  rw [if_pos (by simp [hw])] <;> rfl

/-- Settles O42: where nothing waits the event does nothing (waits_false); else the transfer's job decides. -/
theorem controlTransfers : Obligations.ControlTransfers := by
  intro p ns s hl a c
  have hdone (res : XferRes) : exec (.controlTransferDone p res ns) s = .next (a.xferDone p.val res).settlePlan :=
    congrArg _ (event_loaded ns _ s hl)
  have htunnel (q : Fin 16) (hq : q.val = p.val) : exec (.tunnelAnswerTimeout q ns) s = .next (a.tunnelLate p.val).settlePlan := by
    rw [← hq]
    exact congrArg _ (event_loaded ns _ s hl)
  have hstretch : exec (.clockStretchTimeout p ns) s = .next (a.stretchLate p.val).settlePlan := congrArg _ (event_loaded ns _ s hl)
  have hnack : exec (.nackRetryTimer p ns) s = .next (a.retryAfter p.val .nack).settlePlan := congrArg _ (event_loaded ns _ s hl)
  have hback : exec (.backoffTimer (.channel p) ns) s = .next (a.retryAfter p.val .backoff).settlePlan :=
    congrArg _ (event_loaded ns _ s hl)
  have hdelay : exec (.sequenceDelayExpiry p ns) s = .next (a.delayDone p.val).settlePlan := congrArg _ (event_loaded ns _ s hl)
  refine ⟨fun h => ⟨fun res => ?_, fun q hq => ?_, ?_⟩, fun h => ?_, fun h => ?_, fun h => ?_, fun hj hw => ?_, fun j hj hw => ?_,
    fun j hj hw => ?_, fun j hj hw => ?_, fun j hj hw => ?_⟩
  · rw [hdone, xferDone_idle h]
  · rw [htunnel q hq, tunnelLate_idle h]
  · rw [hstretch, stretchLate_idle h]
  · rw [hnack, retryAfter_idle h]
  · rw [hback, retryAfter_idle h]
  · rw [hdelay, delayDone_idle h]
  · obtain ⟨-, hn, -⟩ := xferDone_waits hj hw
    rw [hdone, hn, xferNack_busClear hj]
  · obtain ⟨hok, hn, hab, htl, hst⟩ := xferDone_waits hj hw
    refine ⟨fun bytes => ?_, fun hb hlt => ?_, fun hb hle => ?_, fun hlt => ?_, fun hle => ?_, fun q hq => ?_, ?_⟩
    · rw [hdone, hok]
    · rw [hdone, hn, xferNack_job hj hb, if_pos hlt]
    · rw [hdone, hn, xferNack_job hj hb, if_neg (Nat.not_lt.mpr hle)]
    · rw [hdone, hab, xferAbandon_job hj, if_pos hlt]
    · rw [hdone, hab, xferAbandon_job hj, if_neg (Nat.not_lt.mpr hle)]
    · rw [hdone, htunnel q hq, hn, htl]
    · rw [hstretch, hst, stretch_job hj]
  · rw [hnack, retryAfter_waits hj hw]
  · rw [hback, retryAfter_waits hj hw]
  · rw [hdelay, delayDone_job hj hw] <;> rfl

end Sys2Proof.Machine
end

section
/-! Proofs/Channels.lean: what happens at a control channel, and the mailbox (R137 to R147, R161, R403). -/

namespace Sys2Proof.Machine

/-! ## The word that starts a mailbox transfer (R161) -/

theorem mailWord_fields (rd two lsb : Bool) {tgt reg : Nat} (ht : tgt < 4) (hr : reg < 65536) :
    bit (mailWord rd tgt reg two lsb) 31 = true ∧ bit (mailWord rd tgt reg two lsb) 30 = rd ∧
    bits (mailWord rd tgt reg two lsb) 27 26 = (if two then 2 else 1) ∧ bits (mailWord rd tgt reg two lsb) 25 24 = tgt ∧
    bit (mailWord rd tgt reg two lsb) 23 = lsb ∧ mailWord rd tgt reg two lsb % 2 ^ 16 = reg := by
  have hbit (v b : Nat) (x : Bool) (h : v / 2 ^ b % 2 = b2n x) : bit v b = x := by
    unfold bit
    rw [Nat.shiftRight_eq_div_pow, h]
    cases x <;> rfl
  obtain ⟨w, hw, hw12⟩ : ∃ w, (if two then 2 else 1) = w ∧ (w = 1 ∨ w = 2) := ⟨_, rfl, by cases two <;> decide⟩
  have hrd : b2n rd < 2 := by cases rd <;> decide
  have hlsb : b2n lsb < 2 := by cases lsb <;> decide
  unfold mailWord
  rw [hw]
  refine ⟨hbit _ _ _ ?_, hbit _ _ _ ?_, ?_, ?_, hbit _ _ _ ?_, ?_⟩
  · show _ = 1
    omega
  · omega
  · unfold bits
    rw [Nat.shiftRight_eq_div_pow]
    omega
  · unfold bits
    rw [Nat.shiftRight_eq_div_pow]
    omega
  · omega
  · omega

/-- The fields of a mailbox write beside go, done and result. -/
def mailStore (p v : Nat) (s : State) : State :=
  s.setReg (Reg.SC_XFER p) (BitVec.ofNat 32 ((v &&& 0x4F80FFFF) ||| ((s.reg (Reg.SC_XFER p)).toNat &&& 0xB0000000)))

theorem bit_toNat (w : Word) (b : Nat) : bit w.toNat b = w.getLsbD b := bit_eq_testBit _ _

/-- A field of one bit. -/
theorem flag_bit (s : State) (off b : Nat) : s.flag ⟨off, b, b⟩ = (s.reg off).getLsbD b := by
  rw [← bit_toNat]
  unfold State.flag State.get fldGet bits bit
  have h2 := Nat.mod_two_eq_zero_or_one ((s.reg off).toNat >>> b)
  rw [show b + 1 - b = 1 by omega, Nat.pow_one]
  rcases h2 with h | h <;> rw [h] <;> rfl

/-- Storing the fields leaves go as it was. -/
theorem mailStore_go (p v : Nat) (s : State) : (mailStore p v s).flag (Fld.SC_XFER_go p) = (s.reg (Reg.SC_XFER p)).getLsbD 31 := by
  unfold Fld.SC_XFER_go mailStore
  rw [flag_bit, State.reg_setReg_same, BitVec.getLsbD_ofNat, Nat.testBit_or, Nat.testBit_and, Nat.testBit_and, BitVec.getLsbD,
    show Nat.testBit 0x4F80FFFF 31 = false from by decide, show Nat.testBit 0xB0000000 31 = true from by decide]
  simp

/-- A write of SC_p_XFER with go set. -/
theorem scXfer_go (p : Nat) {v : Nat} (h : bit v 31 = true) (s : State) : s.scXfer p v =
    (let u := mailStore p v s
    if (s.reg (Reg.SC_XFER p)).getLsbD 31 then u
    else if u.flag (Fld.SC_STAT_stuck p) || !u.tgtOn p (bits v 25 24) || !u.flag (Fld.SC_CFG_enable p) then
      ((u.put (Fld.SC_XFER_result p) 3).put (Fld.SC_XFER_go p) 0).raise (evTime 13)
    else ((u.put (Fld.SC_XFER_go p) 1).setChan p { u.chan p with
      mail := some ⟨bit v 30, if bits v 27 26 == 2 then 2 else 1, bits v 25 24, bit v 23, v % 2 ^ 16,
        s.get (Fld.SC_XDATA_data p)⟩ }).chanAdd p .mailbox) := by
  have hgo := mailStore_go p v s
  unfold State.scXfer State.mailGo
  dsimp only
  rw [h, bit_toNat]
  change (if (!true || _) = true then mailStore p v s else if (mailStore p v s).flag _ = true then mailStore p v s else _) = _
  rw [hgo]
  cases (s.reg (Reg.SC_XFER p)).getLsbD 31 <;> rfl

theorem scXfer_mail (p : Nat) (rd two lsb : Bool) {tgt reg : Nat} (ht : tgt < 4) (hr : reg < 65536) :
    State.scXfer p (mailWord rd tgt reg two lsb) = fun s =>
      let u := mailStore p (mailWord rd tgt reg two lsb) s
      if (s.reg (Reg.SC_XFER p)).getLsbD 31 then u
      else if u.flag (Fld.SC_STAT_stuck p) || !u.tgtOn p tgt || !u.flag (Fld.SC_CFG_enable p) then
        ((u.put (Fld.SC_XFER_result p) 3).put (Fld.SC_XFER_go p) 0).raise (evTime 13)
      else ((u.put (Fld.SC_XFER_go p) 1).setChan p { u.chan p with
        mail := some ⟨rd, if two then 2 else 1, tgt, lsb, reg, s.get (Fld.SC_XDATA_data p)⟩ }).chanAdd p .mailbox := by
  obtain ⟨h31, h30, hwide, htgt, hlsb, hreg⟩ := mailWord_fields rd two lsb ht hr
  have htwo : (if (if two then 2 else 1) == 2 then 2 else 1) = (if two then 2 else 1 : Nat) := by cases two <;> rfl
  funext s
  rw [scXfer_go p h31, h30, hwide, htgt, hlsb, hreg, htwo]

/-- Settles O43: each event is its operation in the shell of a loaded image; a mailbox transfer is a write of SC_p_XFER. -/
theorem controlChannelEvents : Obligations.ControlChannelEvents := by
  refine ⟨fun p k ns s hl => ?_, fun r p tgt reg two lsb rd s => ?_⟩
  · intro a c
    have hgo (f : State → State) : s.event ns f = (f a).settlePlan := event_loaded ns _ s hl
    refine ⟨congrArg _ (hgo (State.initRetry p.val k.val)), fun q sda hq => ?_, fun q hq => ?_, congrArg _ (hgo State.syncStart),
      congrArg _ (hgo (State.windowClose p.val k.val)), fun addr load => congrArg _ (hgo (State.ibi p.val addr.val)), ?_⟩
    · have hclear : State.clearAgain q.val sda = State.busRetry p.val sda := by
        funext u
        unfold State.clearAgain
        rw [hq, if_pos (by simp)]
      show Host.Outcome.next (s.event ns (State.clearAgain q.val sda)) = _
      rw [hclear, hgo]
      rfl
    · show Host.Outcome.next (s.event ns (State.firstTimeout q.val)) = _
      rw [hq, hgo]
      rfl
    · show Host.Outcome.next (s.event ns (State.readBack p.val k.val)) = _
      rw [hgo]
      rfl
  · have hexec : exec (if rd then .scMailboxRead r p tgt reg two lsb else .scMailboxWrite r p tgt reg two lsb) s =
        .next (s.busWrite r.val (Reg.SC_XFER p.val) (mailWord rd tgt.val reg.val two lsb)).settle := by
      cases rd <;> rfl
    rw [hexec, busWrite_SC_XFER, scXfer_mail p.val rd two lsb tgt.isLt reg.isLt]
    rfl

end Sys2Proof.Machine
end

section
/-! Proofs/Time.lean: vehicle time is disciplined, and sync edges are planned (R152 to R158). -/

namespace Sys2Proof.Machine

/-! ## A step of vehicle time (R153) -/

/-- What a group's replanning leaves of vehicle time and its state. -/
theorem grpReplan_time {g : Nat} (hg : g < 8) (s : State) :
    (s.grpReplan g).tm = s.tm ∧ (s.grpReplan g).get Fld.TIME_STAT_state = s.get Fld.TIME_STAT_state := by
  have hctrl (u : State) (v : Nat) : (u.put (Fld.SYNC_CTRL_run g) v).get Fld.TIME_STAT_state = u.get Fld.TIME_STAT_state :=
    State.get_put_ne _ _ (by simp only [Fld.TIME_STAT_state, Reg.TIME_STAT, Fld.SYNC_CTRL_run, Reg.SYNC_CTRL]; omega)
  have hnext (u : State) (v : Nat) : (u.setReg64 (Reg.SYNC_NEXT g) v).get Fld.TIME_STAT_state = u.get Fld.TIME_STAT_state := by
    unfold State.setReg64 State.get
    rw [State.reg_setReg_ne, State.reg_setReg_ne]
    all_goals
      simp only [Fld.TIME_STAT_state, Reg.TIME_STAT, Reg.SYNC_NEXT]
      omega
  unfold State.grpReplan
  split
  · exact ⟨rfl, rfl⟩
  · split
    · exact ⟨rfl, hctrl s 0⟩
    · dsimp only
      rw [State.raise_tm, State.raise_get _ _ _ (by decide) (by decide), State.bump_tm, State.put_tm, State.setReg64_tm]
      refine ⟨rfl, ?_⟩
      unfold State.get
      rw [State.reg_bump_ne _ (by simp only [Fld.TIME_STAT_state, Reg.TIME_STAT, Fld.SYNC_CTRL_replans, Reg.SYNC_CTRL]; omega)]
      exact (hctrl _ _).trans (hnext _ _)

theorem replanAll_time (l : List Nat) (hl : ∀ g ∈ l, g < 8) (s : State) :
    (forEach l State.grpReplan s).tm = s.tm ∧ (forEach l State.grpReplan s).get Fld.TIME_STAT_state = s.get Fld.TIME_STAT_state := by
  induction l generalizing s with
  | nil => exact ⟨rfl, rfl⟩
  | cons g gs ih =>
    obtain ⟨h1, h2⟩ := grpReplan_time (hl g (List.mem_cons_self ..)) s
    obtain ⟨g1, g2⟩ := ih (fun x hx => hl x (List.mem_cons_of_mem _ hx)) (s.grpReplan g)
    exact ⟨g1.trans h1, g2.trans h2⟩

/-- A step sets vehicle time and makes the state local-stepped. -/
theorem timeStep_time (off : Int) (s : State) :
    (s.timeStep off).tm.veh = unsgn 64 ((s.tm.veh : Int) + off) ∧ (s.timeStep off).get Fld.TIME_STAT_state = 1 := by
  unfold State.timeStep
  dsimp only
  obtain ⟨h1, h2⟩ := replanAll_time (List.range 8) (fun g hg => List.mem_range.mp hg)
    ((({ s with tm := { s.tm with veh := unsgn 64 ((s.tm.veh : Int) + off), good := 0 } }.put Fld.TIME_STAT_state 1).bump
      Fld.TIME_STAT_steps).raise (evTime 3))
  rw [h1, h2, State.raise_tm, State.raise_get _ _ _ (by decide) (by decide)]
  refine ⟨rfl, ?_⟩
  unfold State.bump State.bumpBy
  rw [State.get_put_disj _ _ (by decide) (by decide) (Or.inl (by decide))]
  exact State.get_put_same _ Fld.TIME_STAT_state 1 (by decide) (by decide)

/-! ## A measured offset (R153) -/

theorem clampI_bounds {lo hi : Int} (x : Int) (h : lo ≤ hi) : lo ≤ clampI lo hi x ∧ clampI lo hi x ≤ hi := by
  unfold clampI
  split
  · exact ⟨Int.le_refl _, h⟩
  · split
    · exact ⟨h, Int.le_refl _⟩
    · omega

/-- The state in which a small offset slews. -/
def slewed (off : Int) (s : State) : State :=
  { s.setReg Reg.TIME_OFFSET (BitVec.ofNat 32 (unsgn 32 (clampI (-2147483648) 2147483647 off))) with
    free := s.free + 1
    tm := { s.tm with corr := clampI (-500000) 500000 (Config.slew off s.free)
                      good := if Nat.ble off.natAbs 1000 then s.tm.good + 1 else 0 } }

theorem timeOffset_step {off : Int} (s : State) (h : 1000000 < off.natAbs) : s.timeOffset off =
    (s.setReg Reg.TIME_OFFSET (BitVec.ofNat 32 (unsgn 32 (clampI (-2147483648) 2147483647 off)))).timeStep off := by
  unfold State.timeOffset mag
  exact if_pos (by simpa using h)

theorem timeOffset_slew {off : Int} (s : State) (h : off.natAbs ≤ 1000000) : s.timeOffset off =
    if Nat.ble 8 (slewed off s).tm.good && !((slewed off s).get Fld.TIME_STAT_state == 2) then
      ({ slewed off s with tm := { (slewed off s).tm with hold := none } }.put Fld.TIME_STAT_state 2).raise (evTime 0)
    else slewed off s := by
  unfold State.timeOffset mag
  exact if_neg (by simpa using h)

theorem slewed_state (off : Int) (s : State) : (slewed off s).get Fld.TIME_STAT_state = s.get Fld.TIME_STAT_state := by
  show (s.setReg Reg.TIME_OFFSET _).get Fld.TIME_STAT_state = _
  unfold State.get
  rw [State.reg_setReg_ne _ _ (by decide)]

/-- What a small offset leaves of vehicle time. -/
theorem timeOffset_small {off : Int} (s : State) (h : off.natAbs ≤ 1000000) :
    (s.timeOffset off).tm.veh = s.tm.veh ∧ -500000 ≤ (s.timeOffset off).tm.corr ∧ (s.timeOffset off).tm.corr ≤ 500000 ∧
    (off.natAbs ≤ 1000 → 7 ≤ s.tm.good → (s.timeOffset off).get Fld.TIME_STAT_state = 2) ∧
    (s.tm.good < 7 ∨ 1000 < off.natAbs → (s.timeOffset off).get Fld.TIME_STAT_state = s.get Fld.TIME_STAT_state) ∧
    (1000 < off.natAbs → (s.timeOffset off).tm.good = 0) := by
  obtain ⟨hlo, hhi⟩ := clampI_bounds (lo := -500000) (hi := 500000) (Config.slew off s.free) (by decide)
  have hgood : (slewed off s).tm.good = if off.natAbs ≤ 1000 then s.tm.good + 1 else 0 := by
    simp only [slewed, Nat.ble_eq]
  have hcond : (Nat.ble 8 (slewed off s).tm.good && !((slewed off s).get Fld.TIME_STAT_state == 2)) = true ↔
      8 ≤ (slewed off s).tm.good ∧ s.get Fld.TIME_STAT_state ≠ 2 := by
    rw [slewed_state]
    simp
  rw [timeOffset_slew s h]
  by_cases hs : 8 ≤ (slewed off s).tm.good ∧ s.get Fld.TIME_STAT_state ≠ 2
  · rw [if_pos (hcond.mpr hs), State.raise_tm, State.raise_get _ _ _ (by decide) (by decide)]
    have h8 := hs.1
    rw [hgood] at h8
    refine ⟨rfl, hlo, hhi, fun _ _ => State.get_put_same _ Fld.TIME_STAT_state 2 (by decide) (by decide), fun h => ?_, fun h => ?_⟩
    · split at h8 <;> omega
    · rw [if_neg (by omega)] at h8
      omega
  · rw [if_neg (mt hcond.mp hs), slewed_state]
    refine ⟨rfl, hlo, hhi, fun h1 h7 => ?_, fun _ => rfl, fun h1 => ?_⟩
    · rw [hgood, if_pos h1] at hs
      omega
    · rw [hgood, if_neg (by omega)]

/-! ## gPTP (R152) -/

theorem announce_eq (d v who : Nat) (s : State) :
    (if s.get Fld.TIME_CFG_gptp_domain == d then s.announced v who else s) =
    if s.get Fld.TIME_CFG_gptp_domain == d && s.tm.master.all (fun m => Nat.blt v m.1 || m.2 == who) then
      { s with tm := { s.tm with master := some (v, who) } } else s := by
  unfold State.announced
  cases s.get Fld.TIME_CFG_gptp_domain == d <;> rfl

/-- Settles O44: each measurement is its operation in the shell of a loaded image; an offset steps (timeStep_time) or slews
(timeOffset_small). -/
theorem vehicleTimeIsDisciplined : Obligations.VehicleTimeIsDisciplined := by
  refine ⟨fun ns s hl => ?_, fun r v s => ?_, fun off s h => ?_, fun off s h => timeOffset_small s h⟩
  · intro a src came sync
    have hgo (f : State → State) : s.event ns f = (f a).settlePlan := event_loaded ns _ s hl
    refine ⟨fun d m => ?_, fun off => congrArg _ (hgo (State.ptmCame off)), congrArg _ (hgo State.ppsEdge), congrArg _ (hgo State.ppsLate),
      congrArg _ (hgo State.timeLost), congrArg _ (hgo State.holdoverLate), fun up => congrArg _ (hgo (State.mdioPoll up))⟩
    show Host.Outcome.next (s.event ns (State.gptpCame d.val m)) = _
    rw [hgo]
    unfold State.gptpCame
    dsimp only
    cases a.domHurt 147 with
    | true => rfl
    | false =>
      cases m with
      | announce v who => exact congrArg (fun t : State => Host.Outcome.next t.settlePlan) (announce_eq d.val v who a)
      | sync origin who => cases origin <;> rfl
      | _ => rfl
  · show Host.Outcome.next (s.busWrite64 r.val Reg.TIME_TOD v.toNat).settle = _
    rw [busWrite64_TIME_TOD]
    rfl
  · rw [timeOffset_step s h]
    exact timeStep_time off _

/-! ## Sync edges (R155, R156) -/

/-- A plan is met in the first period from its bound on. -/
theorem planAt_first (P φ b : Nat) (hP : 0 < P) : b ≤ planAt P φ (b : Int) ∧ planAt P φ (b : Int) < b + P ∧ planAt P φ (b : Int) % P = φ % P := by
  have hb : ((if (b : Int) < 0 then 0 else (b : Int)).toNat) = b := by
    rw [if_neg (by omega)]
    rfl
  have hP0 : (P == 0) = false := beq_eq_false_iff_ne.mpr (by omega)
  unfold planAt
  dsimp only
  rw [hb, hP0, if_neg (by decide)]
  have h1 := Nat.mod_lt φ hP
  have h2 := Nat.mod_lt (b + P - φ % P) hP
  have h3 := Nat.mod_lt (P - (b + P - φ % P) % P) hP
  refine ⟨by omega, by omega, ?_⟩
  rw [Nat.add_mod, Nat.mod_mod, ← Nat.add_mod]
  have hdiv := Nat.div_add_mod (b + P - φ % P) P
  generalize (b + P - φ % P) / P = q at hdiv
  generalize (b + P - φ % P) % P = r at *
  have hsum : b + (P - r) = φ % P + P * q := by omega
  rw [hsum, Nat.add_mul_mod_self_left, Nat.mod_mod]

/-- Settles O45: an edge and the outputs are their operations in the shell of a loaded image; the plan is planAt_first. -/
theorem syncEdgesArePlanned : Obligations.SyncEdgesArePlanned := by
  refine ⟨fun g s hl => ?_, fun P φ b hP => planAt_first P φ b hP, fun n ns s hl => ⟨?_, ?_⟩⟩
  · show Host.Outcome.next (s.event 0 (State.syncEdge g.val)) = _
    rw [event_loaded 0 _ s hl]
    rfl
  · show Host.Outcome.next (s.event ns (State.fsoEdge n.val)) = _
    rw [event_loaded ns _ s hl]
    rfl
  · show Host.Outcome.next (s.event ns (State.fsoEnd n.val)) = _
    rw [event_loaded ns _ s hl]
    rfl

end Sys2Proof.Machine
end

section
/-! Proofs/TxeRings.lean: the software channels' descriptors and their ends (R349 to R351). -/

namespace Sys2Proof.Machine

theorem hostErr_txe (res : HostRead) (s : State) : (s.hostErr res).txe = s.txe := by
  unfold State.hostErr
  split
  · rw [State.raise_txe]
    rfl
  · unfold State.palUncorr
    dsimp only
    split
    · rw [State.raise_txe]
      rfl
    · rw [State.setReg_txe, State.setReg_txe, State.raise_txe]
      rfl
  · rfl

theorem txeCh_of_txe {s u : State} (h : u.txe = s.txe) (c : Nat) : u.txeCh c = s.txeCh c := by
  unfold State.txeCh
  rw [h]

/-- The state in which a host read has timed out. -/
theorem late_txeCh (s : State) (c : Nat) : ((s.bump Fld.HL_ERR_cto).raise (evHl 6)).txeCh c = s.txeCh c :=
  txeCh_of_txe (by rw [State.raise_txe, State.bump_txe]) c

/-- What the end of a fetch in flight does (R350). -/
def fetchEnds (c : Nat) (x : TxeCh) (bytes : Option (List Nat)) (s0 : State) : State :=
  let u := s0.readEnd false (s0.txeFn c) (s0.txeDescAt c) 32
  if u.pourCh c then u.setTxe c { x with phase := .idle, again := false }
  else if x.again then (u.setTxe c { x with again := false }).txeFetch c
  else
    let b := bytes.getD []
    let d : TxeDesc := ⟨leAt b 0 4, leAt b 4 4, leAt b 8 8, leAt b 16 8⟩
    if bytes.isSome && u.fnOk (u.txeFn c) && bit d.w0 0 && bits d.w0 15 8 == u.txeGen c then
      let y := { x with desc := some d, pos := 0, moved := 0, drip := false, code := u.txeRefusal c d, result := 0, tries := 0, paused := false }
      if u.txeRefusal c d == 0 then (((u.setTxe c y).txePos c).txeBegin c).txeHold c
      else u.setTxe c { y with phase := .refused }
    else if x.tries == 16 then (u.setTxe c { x with phase := .stalled }).raise (evTxe c 1)
    else u.setTxe c { x with phase := .retry }

theorem txeFetched_eq {s : State} {c : Nat} {x : TxeCh} (bytes : Option (List Nat)) (hx : s.txeCh c = x) (hp : x.phase = .fetching) :
    s.txeFetched c bytes = fetchEnds c x bytes s := by
  subst hx
  unfold State.txeFetched
  dsimp only
  rw [if_neg (by simp [hp])]
  rfl

theorem txeFetchEnd_eq {s : State} {c : Nat} (res : HostRead) (hp : (s.txeCh c).phase = .fetching) :
    s.txeFetchEnd c res = fetchEnds c (s.txeCh c) (hostData res) (s.hostErr res) := by
  unfold State.txeFetchEnd
  rw [if_pos (by simp [hp])]
  exact txeFetched_eq _ (txeCh_of_txe (hostErr_txe res s) c) hp

theorem txeFetchLate_eq {s : State} {c : Nat} (hp : (s.txeCh c).phase = .fetching) :
    s.txeFetchLate c = fetchEnds c (s.txeCh c) none ((s.bump Fld.HL_ERR_cto).raise (evHl 6)) := by
  unfold State.txeFetchLate
  rw [if_pos (by simp [hp])]
  exact txeFetched_eq _ (late_txeCh s c) hp

/-- What the end of a flush read in flight does (R351). -/
def txeFlushDone (c : Nat) (x : TxeCh) (ok : Bool) (s0 : State) : State :=
  (s0.txeFlushEnds c).txeWriteBack c (if x.code == 0 && !ok then 0x12 else x.code) x.result

theorem txeFlushed_eq {s : State} {c : Nat} {x : TxeCh} (ok : Bool) (hx : s.txeCh c = x) (hp : x.phase = .flushing) :
    s.txeFlushed c ok = txeFlushDone c x ok s := by
  subst hx
  unfold State.txeFlushed
  dsimp only
  rw [if_pos (by simp [hp])]
  rfl

theorem txeFlushEnd_eq {s : State} {c : Nat} (res : HostRead) (hp : (s.txeCh c).phase = .flushing) :
    s.txeFlushEnd c res = txeFlushDone c (s.txeCh c) (hostData res).isSome (s.hostErr res) := by
  unfold State.txeFlushEnd
  rw [if_pos (by simp [hp])]
  exact txeFlushed_eq _ (txeCh_of_txe (hostErr_txe res s) c) hp

theorem txeFlushLate_eq {s : State} {c : Nat} (hp : (s.txeCh c).phase = .flushing) :
    s.txeFlushLate c = txeFlushDone c (s.txeCh c) false ((s.bump Fld.HL_ERR_cto).raise (evHl 6)) := by
  unfold State.txeFlushLate
  rw [if_pos (by simp [hp])]
  exact txeFlushed_eq _ (late_txeCh s c) hp

/-- A descriptor that is not refused keeps the rules of R349. -/
theorem txeRefusal_zero (c : Nat) (d : TxeDesc) (s : State) (h : s.txeRefusal c d = 0) :
    d.len ≠ 0 ∧ d.len % 4 = 0 ∧ d.len ≤ 0x10000000 ∧ d.dst % 4 = 0 ∧ bits d.w0 3 1 ≤ 3 ∧ bits d.w0 7 6 = 0 ∧
    (bit d.w0 5 = true → bits d.w0 3 1 ≠ 1 → d.src + d.len ≤ 96 * 2 ^ 20 ∧ s.mayRead (Reg.GRD_WIN 44) (s.reqDomain (s.txeFn c)) = true) ∧
    (bits d.w0 3 1 = 3 → s.mayWrite (Reg.GRD_CHK (bits d.w0 19 16)) (s.reqDomain (s.txeFn c)) = true) := by
  unfold State.txeRefusal at h
  dsimp only at h
  by_cases h20 : (!(bits d.w0 7 6 == 0) || !(bits d.w0 31 20 == 0) || Nat.blt 3 (bits d.w0 3 1) || d.len == 0 || !(d.len % 4 == 0) ||
      Nat.blt 0x10000000 d.len || !(d.dst % 4 == 0) || (if bits d.w0 3 1 == 1 then Nat.ble (2 ^ 32) d.src else !(d.src % 4 == 0))) = true
  · rw [if_pos h20] at h
    cases h
  · rw [if_neg h20] at h
    by_cases h21 : (bit d.w0 5 && !(bits d.w0 3 1 == 1) && (!s.mayRead (Reg.GRD_WIN 44) (s.reqDomain (s.txeFn c)) ||
        Nat.blt (96 * 2 ^ 20) (d.src + d.len))) = true
    · rw [if_pos h21] at h
      cases h
    · rw [if_neg h21] at h
      by_cases h22 : (bits d.w0 3 1 == 3 && !s.mayWrite (Reg.GRD_CHK (bits d.w0 19 16)) (s.reqDomain (s.txeFn c))) = true
      · rw [if_pos h22] at h
        cases h
      · simp only [Bool.or_eq_true, Bool.not_eq_true', beq_eq_false_iff_ne, beq_iff_eq, Nat.blt_eq, not_or, not_not, not_lt] at h20
        obtain ⟨⟨⟨⟨⟨⟨⟨hpad, -⟩, hop⟩, hlen⟩, hal⟩, hmax⟩, hdst⟩, -⟩ := h20
        refine ⟨hlen, hal, hmax, hdst, hop, hpad, fun hb ho => ?_, fun ho => ?_⟩
        · simp only [hb, Bool.true_and, Bool.and_eq_true, Bool.or_eq_true, Bool.not_eq_true', beq_eq_false_iff_ne, Nat.blt_eq, not_and, not_or,
            not_lt, Bool.not_eq_false] at h21
          exact (h21 ho).symm
        · simpa [ho] using h22

/-- Settles O51: each command is its operation in the shell of a loaded image, told apart by the channel's phase. -/
theorem transferRings : Obligations.TransferRings := by
  refine ⟨fun r c s => ?_, fun c ns s hl => ?_, txeRefusal_zero⟩
  · show Host.Outcome.next (s.busWrite r.val (Reg.TXE_DB c.val) 0).settle = _
    rw [busWrite_TXE_DB]
    rfl
  · intro a x
    have hgo (f : State → State) : s.event ns f = (f a).settlePlan := event_loaded ns _ s hl
    have hfetch (res : HostRead) : exec (.txeDescriptorFetch c res ns) s = .next (a.txeFetchEnd c.val res).settlePlan := congrArg _ (hgo _)
    have hflush (res : HostRead) : exec (.txeFlushComplete c res ns) s = .next (a.txeFlushEnd c.val res).settlePlan := congrArg _ (hgo _)
    have hlate (w : LateRead) : exec (.completionTimeout w ns) s = .next (a.readLate w).settlePlan := congrArg _ (hgo _)
    refine ⟨congrArg _ (hgo (State.txeRetry c.val)), congrArg _ (hgo (State.txeRefused c.val)), fun hp => ⟨fun res => ?_, ?_⟩,
      fun hp => ⟨fun res => ?_, ?_⟩, fun hp => ?_, fun hp => ?_⟩
    · rw [hfetch]
      unfold State.txeFetchEnd
      rw [if_neg (by simpa using hp)]
    · rw [hlate]
      unfold State.readLate State.txeFetchLate
      exact congrArg _ (congrArg State.settlePlan (if_neg (by simpa using hp)))
    · rw [hflush]
      unfold State.txeFlushEnd
      rw [if_neg (by simpa using hp)]
    · rw [hlate]
      unfold State.readLate State.txeFlushLate
      exact congrArg _ (congrArg State.settlePlan (if_neg (by simpa using hp)))
    · have hends (res : HostRead) : exec (.txeDescriptorFetch c res ns) s =
          .next (fetchEnds c.val x (hostData res) (a.hostErr res)).settlePlan := by rw [hfetch, txeFetchEnd_eq res hp]
      exact ⟨fun b => hends (.data b), fun w => hends (.bufferError w), hends .poisoned, hends .untranslated, hends .unsupported,
        (hlate _).trans (congrArg (fun t : State => Host.Outcome.next t.settlePlan) (txeFetchLate_eq hp))⟩
    · have hends (res : HostRead) : exec (.txeFlushComplete c res ns) s =
          .next (txeFlushDone c.val x (hostData res).isSome (a.hostErr res)).settlePlan := by rw [hflush, txeFlushEnd_eq res hp]
      exact ⟨fun b => hends (.data b), fun w => hends (.bufferError w), hends .poisoned, hends .untranslated, hends .unsupported,
        (hlate _).trans (congrArg (fun t : State => Host.Outcome.next t.settlePlan) (txeFlushLate_eq hp))⟩

end Sys2Proof.Machine
end

section
/-! Proofs/TxeDrips.lean: the drips of the software channels (R341 to R356). -/

namespace Sys2Proof.Machine

/-! ## Reading a drip -/

theorem quarter_pos {n : Nat} (h : 4 ≤ n) : 0 < n / 4 := Nat.div_pos h (by decide)

variable {s : State} {c : Nat} {d : TxeDesc}

/-- A channel without the turn reads nothing. -/
theorem txeDrip_no_turn (op : Nat) (rd : DripRead) (ok : Bool) (hn : s.txeNow ≠ some c) : s.txeDrip op c rd ok = s := by
  have hb : (s.txeNow == some c) = false := beq_eq_false_iff_ne.mpr hn
  unfold State.txeDrip
  dsimp only
  split
  · rfl
  · simp [hb]

theorem txeCompare_no_turn (rd rd2 : DripRead) (hn : s.txeNow ≠ some c) : s.txeCompare c rd rd2 = s := by
  have hb : (s.txeNow == some c) = false := beq_eq_false_iff_ne.mpr hn
  unfold State.txeCompare
  dsimp only
  split
  · rfl
  · simp [hb]

theorem txeHosted_no_turn (res : HostRead) (hn : s.txeNow ≠ some c) : s.txeHosted c res = false := by
  have hb : (s.txeNow == some c) = false := beq_eq_false_iff_ne.mpr hn
  simp [State.txeHosted, hb]

theorem txeRead_no_turn (op : Nat) (res : HostRead) (ok : Bool) (hn : s.txeNow ≠ some c) : s.txeRead op c res ok = s := by
  unfold State.txeRead
  rw [txeHosted_no_turn res hn, if_neg (by decide), txeDrip_no_turn op _ ok hn]

theorem txeReads_no_turn (p q : HostRead) (hn : s.txeNow ≠ some c) : s.txeReads c p q = s := by
  have hb : (s.txeNow == some c) = false := beq_eq_false_iff_ne.mpr hn
  unfold State.txeReads
  have h1 : (if s.txeHosted c p = true then s.hostErr p else s) = s := if_neg (Bool.eq_false_iff.mp (txeHosted_no_turn p hn))
  dsimp only
  rw [h1, if_neg (Bool.eq_false_iff.mp hb), txeCompare_no_turn _ _ hn]

section
variable (hd : (s.txeCh c).desc = some d) (hn : s.txeNow = some c)
include hd hn

/-- What the channel with the turn does with what its source gave. -/
theorem txeDrip_eq {op : Nat} (rd : DripRead) (ok : Bool) (hop : bits d.w0 3 1 = op) : s.txeDrip op c rd ok =
    match (if op == 1 then
        .ok (((List.range (Nat.min 32768 (d.len - (s.txeCh c).pos) / 4))).flatMap (fun _ => leBytes 4 d.src))
      else s.txeSource (s.txeCh c) d rd : Except Nat (List Nat)) with
    | .error e => (s.txeTouch (s.txeCh c) d (d.len - (s.txeCh c).pos)).txeMoved c 0 (if ok then e else 0x13) 0 []
    | .ok b =>
      if b.isEmpty then s
      else if !ok then (s.txeTouch (s.txeCh c) d b.length).txeMoved c 0 0x13 0 []
      else ((s.txeTouch (s.txeCh c) d b.length).txeReadTags c d b.length).txeMoved c b.length 0 0 b := by
  unfold State.txeDrip
  dsimp only
  rw [hd]
  dsimp only
  rw [if_neg (by simp [hn, hop])] <;> rfl

theorem txeHosted_host (res : HostRead) (hb : bit d.w0 5 = false) : s.txeHosted c res = true := by
  unfold State.txeHosted
  rw [hd]
  simp [hn, hb]

theorem txeRead_host {op : Nat} (res : HostRead) (ok : Bool) (hb : bit d.w0 5 = false) :
    s.txeRead op c res ok = (s.hostErr res).txeDrip op c (dripOf res) ok := by
  unfold State.txeRead
  rw [txeHosted_host hd hn res hb, if_pos rfl]

end

/-- A source in the host touches no palette word. -/
theorem txeTouch_host (x : TxeCh) (n : Nat) (hb : bit d.w0 5 = false) : s.txeTouch x d n = s := by
  unfold State.txeTouch
  rw [if_neg (by simp [hb])]

/-- A fill reads no palette word. -/
theorem txeTouch_fill (x : TxeCh) (n : Nat) (hop : bits d.w0 3 1 = 1) : s.txeTouch x d n = s := by
  unfold State.txeTouch
  rw [if_neg (by simp [hop])]

/-- A fill asks for no tags. -/
theorem txeReadTags_fill (n : Nat) (hop : bits d.w0 3 1 = 1) : s.txeReadTags c d n = s := by
  unfold State.txeReadTags
  dsimp only
  rw [if_pos (by simp [hop])]

theorem txeSource_host (x : TxeCh) (rd : DripRead) (hb : bit d.w0 5 = false) : s.txeSource x d rd = match rd with
    | .ok b => .ok (b.take (Nat.min (Nat.min 32768 (d.len - x.pos)) (b.length / 4 * 4)))
    | .failed => .error 0x10
    | .noXlat => .error 0x13
    | .bufErr => .error 0x14 := by
  unfold State.txeSource
  dsimp only
  rw [hb, if_neg (by decide)] <;> rfl

section
variable (hd : (s.txeCh c).desc = some d) (hn : s.txeNow = some c)
include hd hn

/-- A host read that failed moves nothing and keeps its code. -/
theorem txeDrip_error {op : Nat} (ok : Bool) {rd : DripRead} {e : Nat} (hop : bits d.w0 3 1 = op) (hb : bit d.w0 5 = false) (h1 : op ≠ 1)
    (he : s.txeSource (s.txeCh c) d rd = .error e) : s.txeDrip op c rd ok = s.txeMoved c 0 (if ok then e else 0x13) 0 [] := by
  rw [txeDrip_eq hd hn rd ok hop, if_neg (by simpa using h1), he]
  dsimp only
  rw [txeTouch_host _ _ hb]

/-- Bytes that came from the host are moved, or fail by their destination's translation. -/
theorem txeDrip_bytes {op : Nat} (ok : Bool) (l : List Nat) (hop : bits d.w0 3 1 = op) (hb : bit d.w0 5 = false) (h1 : op ≠ 1)
    (hne : l.take (Nat.min (Nat.min 32768 (d.len - (s.txeCh c).pos)) (l.length / 4 * 4)) ≠ []) :
    let b := l.take (Nat.min (Nat.min 32768 (d.len - (s.txeCh c).pos)) (l.length / 4 * 4))
    s.txeDrip op c (.ok l) ok = if ok then (s.txeReadTags c d b.length).txeMoved c b.length 0 0 b else s.txeMoved c 0 0x13 0 [] := by
  intro b
  have he : b.isEmpty = false := List.isEmpty_eq_false_iff.mpr hne
  rw [txeDrip_eq hd hn _ ok hop, if_neg (by simpa using h1), txeSource_host _ _ hb]
  dsimp only
  rw [if_neg (Bool.eq_false_iff.mp he), txeTouch_host _ _ hb]
  cases ok <;> rfl

/-- A copy out of the palette reads the words at its place. -/
theorem txeDrip_palette (l : List Nat) (hop : bits d.w0 3 1 = 0) (hb : bit d.w0 5 = true) (hcap : 4 ≤ Nat.min 32768 (d.len - (s.txeCh c).pos)) :
    let x := s.txeCh c
    let p := s.txePal (d.src + x.pos) (Nat.min 32768 (d.len - x.pos))
    s.txeDrip 0 c (.ok l) true = if p.2 then (s.txeTouch x d (d.len - x.pos)).txeMoved c 0 0x14 0 []
      else ((s.txeTouch x d p.1.length).txeReadTags c d p.1.length).txeMoved c p.1.length 0 0 p.1 := by
  intro x p
  have hsrc : s.txeSource x d (.ok l) = if p.2 then .error 0x14 else .ok p.1 := by
    unfold State.txeSource
    dsimp only
    rw [hb, if_pos rfl]
    show (if p.2 || false then (.error 0x14 : Except Nat (List Nat)) else .ok p.1) = _
    rw [Bool.or_false]
  have hne : p.1.isEmpty = false := by
    obtain ⟨k, hk⟩ := Nat.exists_eq_succ_of_ne_zero (quarter_pos hcap).ne'
    simp only [p, x, State.txePal, hk, Nat.succ_eq_add_one, List.range_succ_eq_map, List.map_cons, List.flatMap_cons]
    rfl
  rw [txeDrip_eq hd hn _ true hop, if_neg (by decide), hsrc]
  cases hp : p.2 with
  | true => rfl
  | false =>
    rw [if_neg (by decide)]
    dsimp only
    rw [if_neg (Bool.eq_false_iff.mp hne), if_neg (by decide)]
    rfl

/-- A fill writes its word to the whole drip. -/
theorem txeDrip_fill (ok : Bool) (hop : bits d.w0 3 1 = 1) (hcap : 4 ≤ Nat.min 32768 (d.len - (s.txeCh c).pos)) :
    let b := (List.range (Nat.min 32768 (d.len - (s.txeCh c).pos) / 4)).flatMap (fun _ => leBytes 4 d.src)
    s.txeDrip 1 c (.ok []) ok = if ok then s.txeMoved c b.length 0 0 b else s.txeMoved c 0 0x13 0 [] := by
  intro b
  have hne : b.isEmpty = false := by
    obtain ⟨k, hk⟩ := Nat.exists_eq_succ_of_ne_zero (quarter_pos hcap).ne'
    simp only [b, hk, Nat.succ_eq_add_one, List.range_succ_eq_map, List.flatMap_cons]
    rfl
  rw [txeDrip_eq hd hn _ ok hop, if_pos (by decide)]
  dsimp only
  rw [if_neg (Bool.eq_false_iff.mp hne), txeTouch_fill _ _ hop, txeReadTags_fill _ hop]
  cases ok <;> rfl

/-- A comparison of the channel with the turn. -/
theorem txeCompare_bytes (l m : List Nat) (hop : bits d.w0 3 1 = 2) (hb : bit d.w0 5 = false) :
    let u := l.take (Nat.min (Nat.min 32768 (d.len - (s.txeCh c).pos)) (l.length / 4 * 4))
    let n := Nat.min u.length (m.length / 4 * 4)
    n ≠ 0 → s.txeCompare c (.ok l) (.ok m) = match firstDiff (u.take n) (m.take n) with
      | some i => (s.txeReadTags c d n).txeMoved c n 1 ((s.txeCh c).pos + 4 * i) []
      | none => (s.txeReadTags c d n).txeMoved c n 0 0 [] := by
  intro u n hne
  unfold State.txeCompare
  dsimp only
  rw [hd]
  dsimp only
  rw [if_neg (by simp [hn, hop]), txeSource_host _ _ hb]
  dsimp only
  rw [if_neg (by rw [beq_iff_eq]; exact hne), txeTouch_host _ _ hb] <;> rfl

theorem txeCompare_failed (m : List Nat) (hop : bits d.w0 3 1 = 2) (hb : bit d.w0 5 = false) :
    s.txeCompare c .failed (.ok m) = s.txeMoved c 0 0x10 0 [] := by
  unfold State.txeCompare
  dsimp only
  rw [hd]
  dsimp only
  rw [if_neg (by simp [hn, hop]), txeSource_host _ _ hb] <;> rfl

theorem txeCompare_other_failed (l : List Nat) (hop : bits d.w0 3 1 = 2) (hb : bit d.w0 5 = false) :
    s.txeCompare c (.ok l) .failed = s.txeMoved c 0 0x11 0 [] := by
  unfold State.txeCompare
  dsimp only
  rw [hd]
  dsimp only
  rw [if_neg (by simp [hn, hop]), txeSource_host _ _ hb]
  dsimp only
  rw [txeTouch_host _ _ hb]

end

theorem txeReads_host (p q : HostRead) (hp : s.hostErr p = s) (hq : s.hostErr q = s) :
    s.txeReads c p q = s.txeCompare c (dripOf p) (dripOf q) := by
  unfold State.txeReads
  dsimp only
  rw [hp, ite_self, hq, ite_self]

/-- A data read past its time has failed. -/
theorem txeDataLate_eq (hd : (s.txeCh c).desc = some d) (hn : s.txeNow = some c) (hop : bits d.w0 3 1 = 0) (hb : bit d.w0 5 = false) :
    s.txeDataLate c = ((s.bump Fld.HL_ERR_cto).raise (evHl 6)).txeDrip 0 c .failed true := by
  unfold State.txeDataLate
  rw [hd]
  dsimp only
  rw [if_neg (by simp [hn, hop, hb]), hop]
  rfl

/-! ## The end of a drip, and its writing -/

theorem txeMoved_eq (c n code result : Nat) (b : List Nat) (s : State) :
    let t := { s.setTxe c { s.txeCh c with drip := true, moved := n, code := code, result := result, buf := b } with txeLast := c, txePick := none }
    s.txeMoved c n code result b = if (s.txeCh c).desc.any (fun d => bits d.w0 3 1 == 1) then t
      else (t.palFixed 1 (txeCells c n) true).peak Fld.TXE_BUF_peak (t.palFixed 1 (txeCells c n) true).txeLive := rfl

theorem txeSoft_eq {s0 : State} (hd : (s0.txeCh c).desc = some d) :
    let op := bits d.w0 3 1
    let s := s0.txeWrite c d
    let x := s.txeCh c
    let u := ({ s with pour := { s.pour with last := c } }.setTxe c
      { x with pos := x.pos + x.moved, moved := 0, drip := false, buf := [] }).txePos c
    s0.txeSoft c = if x.reset then u.txeKill c
      else if x.code == 1 then u.txeEnd c 1 x.result
      else if !(x.code == 0) then u.txeEnd c x.code x.pos
      else if x.pos + x.moved == d.len then u.txeEnd c 0
        (if op == 2 then 0xFFFFFFFF else if op == 3 then u.get (Fld.CHK_RUN_value (bits d.w0 19 16)) else x.pos + x.moved)
      else u.txeHold c := by
  unfold State.txeSoft
  rw [hd] <;> rfl

theorem palUncorr_txeFn (w : Nat) (b : Bool) (s : State) (c : Nat) : (s.palUncorr w b).txeFn c = s.txeFn c := by
  have hr : ((s.bump Fld.PAL_ECC_uncorr).raise (evMem 1)).txeFn c = s.txeFn c := by
    unfold State.txeFn
    rw [State.raise_get _ _ _ (by decide) (by simp only [Fld.TXE_CFG_fn, Reg.TXE_CFG]; omega)]
    unfold State.get
    rw [State.reg_bump_ne _ (by simp only [Fld.TXE_CFG_fn, Reg.TXE_CFG, Fld.PAL_ECC_uncorr, Reg.PAL_ECC]; omega)]
  unfold State.palUncorr
  dsimp only
  split
  · exact hr
  · rw [← hr]
    unfold State.txeFn State.get
    rw [State.reg_setReg_ne _ _ (by simp only [Fld.TXE_CFG_fn, Reg.TXE_CFG, Reg.PAL_ERR_OWN]; omega),
      State.reg_setReg_ne _ _ (by simp only [Fld.TXE_CFG_fn, Reg.TXE_CFG, Reg.PAL_ERR]; omega)]

/-- A read of a word leaves the channels' functions. -/
theorem palTouch_txeFn (w : Nat) (s : State) (c : Nat) : (s.palTouch false w).txeFn c = s.txeFn c := by
  unfold State.palTouch
  dsimp only
  split
  · rfl
  · split
    · unfold State.palCorr State.txeFn
      rw [State.raise_get _ _ _ (by decide) (by simp only [Fld.TXE_CFG_fn, Reg.TXE_CFG]; omega)]
      show (({ s with palFlip := tdel s.palFlip w } : State).bump Fld.PAL_ECC_corr).get (Fld.TXE_CFG_fn c) = _
      unfold State.get
      rw [State.reg_bump_ne _ (by simp only [Fld.TXE_CFG_fn, Reg.TXE_CFG, Fld.PAL_ECC_corr, Reg.PAL_ECC]; omega)]
      rfl
    · exact palUncorr_txeFn w false s c

theorem bufFree_txeFn (c n : Nat) (s : State) (e : Nat) : (s.bufFree c n).txeFn e = s.txeFn e :=
  forEach_keeps (fun u => u.txeFn e) _ (State.palTouch false) (fun w u => palTouch_txeFn w u e) s

theorem txeWrite_eq (c : Nat) (d : TxeDesc) (s : State) :
    let x := s.txeCh c
    let op := bits d.w0 3 1
    let u := s.bufFree c x.moved
    (x.reset = true → op ≠ 1 → s.txeWrite c d = u) ∧
    (x.reset = false → op ≠ 1 → s.bufBad c x.moved ≠ [] → s.txeWrite c d = u.setTxe c { x with code := 0x14, result := 0, moved := 0 }) ∧
    (x.reset = false → op ≠ 1 → s.bufBad c x.moved = [] → s.txeWrite c d =
      if op == 2 || !(x.code == 0) then u
      else if op == 3 then (u.hostPut (u.txeFn c) (d.dst + x.pos) false x.buf).chkBytes (bits d.w0 19 16) x.buf
      else u.hostPut (u.txeFn c) (d.dst + x.pos) false x.buf) ∧
    (op = 1 → s.txeWrite c d = if x.reset || !(x.code == 0) then s else s.hostPut (s.txeFn c) (d.dst + x.pos) false x.buf) := by
  intro x op u
  have hw : s.txeWrite c d = let s1 := if op == 1 then s else u
      if x.reset then s1
      else if !(op == 1) && !(s.bufBad c x.moved).isEmpty then s1.setTxe c { x with code := 0x14, result := 0, moved := 0 }
      else if op == 2 || !(x.code == 0) then s1
      else
        let s2 := s1.hostPut (s1.txeFn c) (d.dst + x.pos) false x.buf
        if op == 3 then s2.chkBytes (bits d.w0 19 16) x.buf else s2 := by
    have hfn : (if op == 1 then s else u).txeFn c = s.txeFn c := by
      split
      · rfl
      · exact bufFree_txeFn c x.moved s c
    dsimp only
    rw [hfn]
    rfl
  refine ⟨fun hr ho => ?_, fun hr ho hbad => ?_, fun hr ho hbad => ?_, fun ho => ?_⟩
  · rw [hw]
    simp [ho, hr]
  · rw [hw]
    simp [ho, hr, hbad]
  · rw [hw]
    simp [ho, hr, hbad]
  · rw [hw]
    cases hr : x.reset <;> simp [ho]

theorem txeBoundary_eq (c : Nat) (s0 : State) : s0.txeBoundary c =
    let u := s0.writeNext
    if u.pour.hand ≠ some c then s0
    else
      let v := { u with pour := { u.pour with hand := none } }
      let w := (if thas v.pour.jobs c then v.pourDrip c else v.txeSoft c).writeNext
      { w with txePick := w.txeNow } := by
  unfold State.txeBoundary
  dsimp only
  by_cases h : s0.writeNext.pour.hand = some c
  · have hb : (!(s0.writeNext.pour.hand == some c)) = false := by simp [h]
    rw [hb, if_neg (not_not.mpr h)]
    rfl
  · rw [if_pos (by simpa using h), if_pos h]

/-! ## Pause, resume and abort (R353) -/

theorem txeCtrl_eq (c : Nat) (s : State) (hp : s.pourCh c = false) :
    let x := s.txeCh c
    (s.flag (Fld.TXE_CTRL_pause c) = true → s.txeCtrl c 1 = s) ∧
    (s.flag (Fld.TXE_CTRL_pause c) = false → s.txeCtrl c 1 = (let u := s.put (Fld.TXE_CTRL_pause c) 1
      (u.setTxe c (u.txeCh c)).txeHold c)) ∧
    (s.flag (Fld.TXE_CTRL_pause c) = true → s.txeCtrl c 0 = (let u := s.put (Fld.TXE_CTRL_pause c) 0
      (u.setTxe c { u.txeCh c with paused := false }).txeGo c)) ∧
    (s.flag (Fld.TXE_CTRL_pause c) = false → x.drained = true → x.drain = false →
      s.txeCtrl c 2 = (s.setTxe c { x with drained := false }).txeGo c) ∧
    (s.flag (Fld.TXE_CTRL_pause c) = true → x.phase = .running → x.drip = false → x.paused = true →
      s.txeCtrl c 5 = s.txeEnd c 0x23 x.pos) := by
  intro x
  have h0 : bit 0 0 = false ∧ bit 0 1 = false ∧ bit 0 2 = false := by decide
  have h1 : bit 1 0 = true ∧ bit 1 1 = false ∧ bit 1 2 = false := by decide
  have h2 : bit 2 0 = false ∧ bit 2 1 = true ∧ bit 2 2 = false := by decide
  have h5 : bit 5 0 = true ∧ bit 5 1 = false ∧ bit 5 2 = true := by decide
  refine ⟨fun hf => ?_, fun hf => ?_, fun hf => ?_, fun hf hd hg => ?_, fun hf hph hdr hpa => ?_⟩
  · simp [State.txeCtrl, hf, h1]
  · simp [State.txeCtrl, State.txePause, hf, h1, hp, b2n]
  · simp [State.txeCtrl, State.txePause, hf, h0, hp, b2n]
  · simp only [x] at hd hg
    simp [State.txeCtrl, State.txeResume, hf, h2, hd, hg, x]
  · simp only [x] at hph hdr hpa
    simp [State.txeCtrl, State.txeAbort, hf, h5, hp, hph, hdr, hpa, x]

theorem txeHold_eq (c : Nat) (s : State) :
    let x := s.txeCh c
    let soft := s.flag (Fld.TXE_CTRL_pause c) && !s.pourCh c
    (soft || x.drain) = true → (x.phase = .running ∨ x.phase = .waitUnit) → x.drip = false →
    let held := { x with paused := x.paused || soft, drained := x.drained || x.drain, unit := false, saved := x.saved || x.unit }
    (x.unit = false → s.txeHold c = s.setTxe c held) ∧
    (∀ d, x.unit = true → x.desc = some d → s.txeHold c = ((s.put (Fld.TXE_CRC_value c)
      (s.get (Fld.CHK_RUN_value (bits d.w0 19 16)))).chkFree (bits d.w0 19 16)).setTxe c held) := by
  intro x soft hs hph hdr held
  have hgo : (!(x.phase == .running || x.phase == .waitUnit) || x.drip || !(soft || x.drain)) = false := by
    rw [hs, hdr]
    rcases hph with h | h <;> simp [h]
  have heq : s.txeHold c = (match x.desc with
      | some d => if x.unit then
          (s.put (Fld.TXE_CRC_value c) (s.get (Fld.CHK_RUN_value (bits d.w0 19 16)))).chkFree (bits d.w0 19 16)
        else s
      | none => s).setTxe c held := by
    unfold State.txeHold
    exact if_neg (by rw [hgo]; decide)
  refine ⟨fun hu => ?_, fun d hu hd => ?_⟩
  · rw [heq, hu]
    cases x.desc <;> rfl
  · rw [heq, hd, hu]
    rfl

/-- Settles O52: each command is its operation in the shell of a loaded image, with what the turn, the source and the channel's
phase make of it. -/
theorem transferDrips : Obligations.TransferDrips := by
  refine ⟨fun c ns d s hl => ?_, fun c op d s hd hn hop h1 hb => ?_, txeMoved_eq, fun c d s0 hd => txeSoft_eq hd, txeWrite_eq, fun r c s => ?_,
    txeCtrl_eq, txeHold_eq⟩
  · intro a x hd
    have hgo (f : State → State) : s.event ns f = (f a).settlePlan := event_loaded ns _ s hl
    have hread (op : Nat) (res : HostRead) (ok : Bool) : s.event ns (State.txeRead op c.val res ok) = (a.txeRead op c.val res ok).settlePlan := hgo _
    have hreads (p q : HostRead) : exec (.txeCompare c p q ns) s = .next (a.txeReads c.val p q).settlePlan := congrArg _ (hgo _)
    have hfill (ok : Bool) : exec (.txeFill c ok ns) s = .next (a.txeDrip 1 c.val (.ok []) ok).settlePlan := congrArg _ (hgo _)
    have hlimit : exec (.dripTimeLimit c ns) s = .next (a.txeLimit c.val).settlePlan := congrArg _ (hgo _)
    have hcopy (res : HostRead) (ok : Bool) : exec (.txeCopy c res ok ns) s = .next (a.txeRead 0 c.val res ok).settlePlan := congrArg _ (hgo _)
    have hfed (res : HostRead) (ok : Bool) : exec (.txeCheckFedCopy c res ok ns) s = .next (a.txeRead 3 c.val res ok).settlePlan :=
      congrArg _ (hgo _)
    refine ⟨fun hn => ⟨fun res ok => ⟨?_, ?_⟩, fun ok => ?_, fun p q => ?_, ?_⟩, fun hn => ?_,
      (congrArg _ (hgo (State.txeBoundary c.val))).trans (congrArg (fun t : State => Host.Outcome.next t.settlePlan) (txeBoundary_eq c.val a)),
      congrArg _ (hgo _)⟩
    · rw [hcopy, txeRead_no_turn _ _ _ hn]
    · rw [hfed, txeRead_no_turn _ _ _ hn]
    · rw [hfill, txeDrip_no_turn _ _ _ hn]
    · rw [hreads, txeReads_no_turn _ _ hn]
    · rw [hlimit]
      unfold State.txeLimit
      rw [if_neg (by simpa using hn)]
    · intro cap
      refine ⟨fun hb hop => ⟨fun bytes hne => ⟨?_, ?_⟩, fun ok => ?_, ?_, fun ok => ?_, fun w ok => ?_, ?_⟩, fun hb hop bytes hne => ?_,
        fun hb hop hcap => ?_, fun hop hcap => ⟨?_, ?_⟩, fun hb hop => ⟨fun p q hne => ?_, fun q => ?_, fun p => ?_⟩, ?_⟩
      · rw [hcopy, txeRead_host hd hn _ _ hb]
        have hne' := hne
        rw [← List.length_map (f := BitVec.toNat) (as := bytes)] at hne'
        refine (congrArg (fun t : State => Host.Outcome.next t.settlePlan) (txeDrip_bytes hd hn true (byteVals bytes) hop hb (by decide) hne')).trans ?_
        simp only [byteVals, List.length_map, if_true]
        rfl
      · rw [hcopy, txeRead_host hd hn _ _ hb]
        have hne' := hne
        rw [← List.length_map (f := BitVec.toNat) (as := bytes)] at hne'
        exact congrArg (fun t : State => Host.Outcome.next t.settlePlan) (txeDrip_bytes hd hn false (byteVals bytes) hop hb (by decide) hne')
      · rw [hcopy, txeRead_host hd hn _ _ hb]
        rfl
      · rw [hcopy, txeRead_host hd hn _ _ hb]
        exact congrArg (fun t : State => Host.Outcome.next t.settlePlan) (txeDrip_error hd hn true hop hb (by decide) (txeSource_host _ .failed hb))
      · rw [hcopy, txeRead_host hd hn _ _ hb]
        refine (congrArg (fun t : State => Host.Outcome.next t.settlePlan)
          (txeDrip_error hd hn ok hop hb (by decide) (txeSource_host _ .noXlat hb))).trans ?_
        rw [ite_self]
      · rw [hcopy, txeRead_host hd hn _ _ hb]
        rfl
      · have hlate : exec (.completionTimeout (.txeData c) ns) s = .next (a.txeDataLate c.val).settlePlan := congrArg _ (hgo _)
        rw [hlate, txeDataLate_eq hd hn hop hb]
      · rw [hfed, txeRead_host hd hn _ _ hb]
        have hne' := hne
        rw [← List.length_map (f := BitVec.toNat) (as := bytes)] at hne'
        refine (congrArg (fun t : State => Host.Outcome.next t.settlePlan) (txeDrip_bytes hd hn true (byteVals bytes) hop hb (by decide) hne')).trans ?_
        simp only [byteVals, List.length_map, if_true]
        rfl
      · intro p
        rw [hcopy]
        unfold State.txeRead
        have hh : a.hostErr (.data []) = a := rfl
        rw [hh, ite_self]
        exact congrArg (fun t : State => Host.Outcome.next t.settlePlan) (txeDrip_palette hd hn [] hop hb hcap)
      · rw [hfill]
        exact congrArg (fun t : State => Host.Outcome.next t.settlePlan) (txeDrip_fill hd hn true hop hcap)
      · rw [hfill]
        exact congrArg (fun t : State => Host.Outcome.next t.settlePlan) (txeDrip_fill hd hn false hop hcap)
      · rw [hreads, txeReads_host _ _ rfl rfl]
        have hq := txeCompare_bytes hd hn (byteVals p) (byteVals q) hop hb
        simp only [byteVals, List.length_map] at hq
        exact congrArg (fun t : State => Host.Outcome.next t.settlePlan) (hq hne)
      · rw [hreads, txeReads_host _ _ rfl rfl]
        exact congrArg (fun t : State => Host.Outcome.next t.settlePlan) (txeCompare_failed hd hn (byteVals q) hop hb)
      · rw [hreads, txeReads_host _ _ rfl rfl]
        exact congrArg (fun t : State => Host.Outcome.next t.settlePlan) (txeCompare_other_failed hd hn (byteVals p) hop hb)
      · rw [hlimit]
        unfold State.txeLimit
        rw [if_pos (by simp [hn])]
        rfl
  · refine ⟨txeDrip_error hd hn true hop hb h1 (txeSource_host _ .failed hb), txeDrip_error hd hn true hop hb h1 (txeSource_host _ .bufErr hb),
      fun rd hrd => ?_⟩
    rcases hrd with rfl | rfl
    · exact txeDrip_error hd hn false hop hb h1 (txeSource_host _ .failed hb)
    · exact txeDrip_error hd hn false hop hb h1 (txeSource_host _ .bufErr hb)
  · intro set_ ctrl
    have hw (v : Nat) : (s.busWrite r.val (Reg.TXE_CTRL c.val) v).settle = ctrl v := by rw [busWrite_TXE_CTRL]
    exact ⟨congrArg Host.Outcome.next (hw (set_ 1)), congrArg Host.Outcome.next (hw 0), congrArg Host.Outcome.next (hw (set_ 2)),
      congrArg Host.Outcome.next (hw (set_ 4))⟩

end Sys2Proof.Machine
end

section
/-! Proofs/Vehicle.lean: CAN, GPIO and the binding of signals (R359 to R371, R386). -/

namespace Sys2Proof.Machine

theorem blt_not_ble (a b : Nat) : Nat.blt a b = !Nat.ble b a := by
  rw [ble_eq_decide, blt_eq_decide, Bool.eq_iff_iff]
  simp

/-! ## CAN reception -/

section
variable {s : State} {c kind : Nat} {ext : Bool} {ident : Nat}

/-- A frame that no definition takes has no effect. -/
theorem canCame_untaken (bytes : List Nat) (h : s.canTakes c kind = false ∨ s.msgOf c kind ext ident = none) :
    s.canCame c kind ext ident bytes = s := by
  have hw : s.canWakes c kind ext ident bytes = false := by
    unfold State.canWakes
    rcases h with h | h <;> simp [h]
  have hr : s.canReceive c kind ext ident bytes = s := by
    unfold State.canReceive
    rcases h with h | h <;> simp [h]
  unfold State.canCame
  dsimp only
  rw [hw, hr, Bool.and_false, if_neg (by decide)]

/-- What the message definition that takes a frame does with it. -/
theorem canCame_taken (bytes : List Nat) {m : Nat} (ht : s.canTakes c kind = true) (hm : s.msgOf c kind ext ident = some m) :
    s.canCame c kind ext ident bytes =
      (let long := Nat.ble (s.get (Fld.SIG_MSG_CFG_min_len m)) (bytes.take 64).length
      let b := { s with sig := { s.sig with msgs := tset s.sig.msgs m ⟨s.tm.loc, false⟩ } }
      let ks := (List.range 256).filter (fun k => s.flag (Fld.SIG_DEF_POS_enable k) && s.get (Fld.SIG_DEF_POS_msg k) == m)
      let t := forEach ks (State.sigTake (bytes.take 64)) b
      let u := if !long then s.raise (evSig 9)
        else if s.flag (Fld.SIG_MSG_CFG_q_en m) then
          t.quePacketIn (s.get (Fld.SIG_MSG_CFG_queue m)) (frameItems m c kind ident (bytes.take 64))
        else t
      if s.phase == .standby && s.flag (Fld.SIG_MSG_CFG_wake m) && long then u.wake.raise (evSig 12) else u) := by
  have hw : s.canWakes c kind ext ident bytes =
      (s.flag (Fld.SIG_MSG_CFG_wake m) && Nat.ble (s.get (Fld.SIG_MSG_CFG_min_len m)) (bytes.take 64).length) := by
    unfold State.canWakes
    rw [ht, hm]
    rfl
  unfold State.canCame State.canReceive
  dsimp only
  rw [hw, ht, hm]
  dsimp only
  rw [blt_not_ble, Bool.and_assoc]
  rfl

end

/-! ## GPIO edges -/

theorem gpioCame_eq (n : Nat) (high : Bool) {s : State} (hl : s.loaded = true) : s.gpioCame n high =
    let u := if s.domHurt 146 || (s.gpioWant n).isSome then s
      else (s.put ⟨Reg.SIG_GPIO_LVL, n, n⟩ (b2n high)).raiseIf (s.gpioEdgeOn n high) (evSig 13)
    if s.phase == .standby && s.gpioWakes n high then u.wake.raise (evSig 12) else u := by
  unfold State.gpioCame State.gpioEdge
  rw [hl]
  rfl

/-- A period's frame goes out where it wins on a controller that sends its kind. -/
theorem canTx_eq (j : Nat) (wins : Bool) (b : State) : b.canTx j wins =
    if !(b.loaded && b.flag (Fld.SIG_TX_ID_enable j)) || b.domHurt 146 then b
    else
      let x := tget b.sig.tx j ⟨0, false⟩
      let u := b.raiseIf x.unsent (evSig 11)
      let c := u.get (Fld.SIG_TX_CFG_ctrl j)
      let kind := u.get (Fld.SIG_TX_CFG_kind j)
      let ok := wins && u.flag (Fld.SIG_CAN_CFG_enable c) && !u.flag (Fld.SIG_CAN_CFG_listen c) &&
        !(u.get (Fld.SIG_CAN_STAT_state c) == 2) && Nat.ble kind (u.get (Fld.SIG_CAN_CFG_mode c))
      let v := { u.draw with sig := { u.sig with tx := tset u.sig.tx j ⟨x.alive + 1, !ok⟩ } }
      if ok then v.emit (.can c kind (u.get (Fld.SIG_TX_ID_id j)) (u.flag (Fld.SIG_TX_ID_ext j)) (u.txPayload j x.alive))
      else v := by
  unfold State.canTx State.canSends
  cases wins <;> rfl

theorem canPassive_eq (c : Nat) (rc tc : Fin 256) (s : State) : s.canPassive c rc.val tc.val =
    if !s.canOn c then s
    else
      let passive := Nat.blt 127 rc.val || Nat.blt 127 tc.val
      (((s.put (Fld.SIG_CAN_STAT_rec c) rc.val).put (Fld.SIG_CAN_STAT_tec c) tc.val).put
      (Fld.SIG_CAN_STAT_state c) (b2n passive)).raiseIf (passive && !(s.get (Fld.SIG_CAN_STAT_state c) == 1)) (evSig (4 + c)) := by
  have h1 : Nat.min 255 rc.val = rc.val := Nat.min_eq_right (by omega)
  have h2 : Nat.min 255 tc.val = tc.val := Nat.min_eq_right (by omega)
  unfold State.canPassive
  dsimp only
  rw [h1, h2]

/-! ## The binding of signals (R369) -/

/-- Where the newest frame's outputs go on from its bound signals. -/
theorem sigBind_eq (st num : Nat) (a : State) : a.sigBind st num =
    (match a.frame st num with
    | none => a
    | some f =>
      if f.sigBound || !((a.sigs (fun _ => true)).isEmpty || decide (a.midpoint f ≤ (a.now : Int))) then a
      else
        let m := a.midpoint f
        let on := a.sigs (fun _ => true)
        let mine := on.filter (fun k => a.get (Fld.SIG_DEF_ROUTE_stream k) == st)
        let lost := on.any (fun k => (a.sigAt k m).1 == 4 &&
          (a.flag (Fld.SIG_DEF_ROUTE_meta_en k) || a.get (Fld.SIG_DEF_ROUTE_stream k) == st))
        let meta_ := (on.filter (fun k => a.flag (Fld.SIG_DEF_ROUTE_meta_en k))).map (fun k => sigEntry k (a.sigAt k m).1 (a.sigAt k m).2)
        let input := fun (i : Nat) => (mine.find? (fun k => a.get (Fld.SIG_DEF_ROUTE_law k) == i + 1)).map (fun k => intOf (a.sigAt k m).2)
        let newest := !a.frames.any (fun (g : Frame) => g.st == st && g.sigBound && Nat.blt 0 (sub32 g.num num) && serGE g.num num)
        let u := (a.modFrame st num (fun f => { f with sigs := meta_, inputs := [input 0, input 1], sigBound := true })).raiseIf lost (evSig 10)
        if !newest then u
        else
          let v := forEach (mine.filter (fun k => a.flag (Fld.SIG_DEF_ROUTE_gpio_en k))) (fun k (w : State) =>
            { w with sig := { w.sig with gpioSig := (putBits w.sig.gpioSig (w.get (Fld.SIG_DEF_ROUTE_gpio k))
              (w.get (Fld.SIG_DEF_ROUTE_gpio k)) (b2n (!(intOf (u.sigAt k m).2 == 0)))) } }) u
          forEach (mine.filter (fun k => a.flag (Fld.SIG_DEF_ROUTE_swr_en k))) (fun k (w : State) =>
            w.swrGo k (intOf (u.sigAt k m).2)) v) := by
  unfold State.sigBind
  cases a.frame st num with
  | none => rfl
  | some f =>
    dsimp only
    cases (!a.frames.any (fun (g : Frame) => g.st == st && g.sigBound && Nat.blt 0 (sub32 g.num num) && serGE g.num num)) <;> rfl

/-- Settles O53: each command is its operation in the shell of a loaded image. -/
theorem vehicleInputs : Obligations.VehicleInputs := by
  refine ⟨fun ns s hl => ?_, fun st num a => ?_⟩
  · intro a
    have hgo (f : State → State) : s.event ns f = (f a).settlePlan := event_loaded ns _ s hl
    have hla : a.loaded = true := (State.advance_loaded s ns).trans hl
    refine ⟨fun c kind ext ident bytes => ⟨fun h => ?_, rfl, fun m ht hm => ?_⟩, fun m => ?_, fun j wins came => ?_,
      fun c => congrArg _ (hgo (State.canBusOff c.val)), fun c => ?_, fun c rc tc => ?_, fun n high => ?_, fun st num came => ?_⟩
    · exact (congrArg _ (hgo _)).trans (congrArg (fun t : State => Host.Outcome.next t.settlePlan) (canCame_untaken (byteVals bytes) h))
    · exact (congrArg _ (hgo _)).trans (congrArg (fun t : State => Host.Outcome.next t.settlePlan) (canCame_taken (byteVals bytes) ht hm))
    · show Host.Outcome.next (s.event ns (State.msgTimeout m.val)) = _
      rw [hgo]
      unfold State.msgTimeout
      rw [hla, Bool.true_and]
    · intro b
      show Host.Outcome.next (s.event ns (fun u => (u.cansCame came).canTx j.val wins)) = _
      rw [hgo]
      dsimp only
      rw [canTx_eq]
    · show Host.Outcome.next (s.event ns (State.canRecover c.val)) = _
      rw [hgo]
      unfold State.canRecover
      rw [hla, Bool.true_and]
    · exact (congrArg _ (hgo _)).trans (congrArg (fun t : State => Host.Outcome.next t.settlePlan) (canPassive_eq c.val rc tc a))
    · exact (congrArg _ (hgo _)).trans (congrArg (fun t : State => Host.Outcome.next t.settlePlan) (gpioCame_eq n.val high hla))
    · show Host.Outcome.next (s.event ns (fun u => (u.cansCame came).sigBindAt st.val num.val)) = _
      rw [hgo]
      rfl
  · exact sigBind_eq st.val num.val a

end Sys2Proof.Machine
end

section
/-! Proofs/Glue.lean: the glue masters and the SPI and I2C targets (R372 to R376). -/

namespace Sys2Proof.Machine

/-! ## The glue masters -/

/-- How a glue transfer under way ends. -/
theorem glueEnd_eq {n : Nat} {x : GlueX} {s : State} (res : GlueRes) (low : Bool) (hx : tget? s.sig.gm n = some x) (hw : x.waiting = false) :
    s.glueEnd n res low = match res with
      | .done bytes =>
        (if x.rd then s.setReg (Reg.SIG_GM_XDATA n) (BitVec.ofNat 32 (leVal ((bytes.map BitVec.toNat).take x.width))) else s).glueFin n 0
      | .nack => s.glueFin n 1
      | .lost =>
        if Nat.ble 8 x.losses then s.glueFin n 2
        else { s with sig := { s.sig with gm := tset s.sig.gm n { x with losses := x.losses + 1, waiting := true } } }
      | .stretched => State.glueFin n (1 + Config.openVal s.free 372 % 3)
        ((if low then { s with sig := { s.sig with stuck := s.sig.stuck ||| (1 <<< n) } } else s).draw.emit (.glueClear n)) := by
  unfold State.glueEnd
  rw [hx]
  dsimp only
  rw [hw, if_neg (by decide)] <;> rfl

/-- A bus of a hurt glue domain takes no transfer. -/
theorem glueGo_hurt (n v : Nat) (s : State) (h : s.domHurt 146 = true) : s.glueGo n v = s := by
  unfold State.glueGo
  dsimp only
  rw [h, if_pos rfl]

/-- The state after a write of the transfer register. -/
def glueSet (n v : Nat) (s : State) : State :=
  s.setReg (Reg.SIG_GM_XFER n) (BitVec.ofNat 32 ((v &&& 0x4EFEFFFF) ||| ((s.reg (Reg.SIG_GM_XFER n)).toNat &&& 0xB0000000)))

section
variable {n v : Nat} {s : State} (hd : s.domHurt 146 = false) (hv : bit v 31 = true) (ho : bit (s.reg (Reg.SIG_GM_XFER n)).toNat 31 = false)
include hd hv ho

theorem glueGo_barred (h : (glueSet n v s).flag (Fld.SIG_GM_CFG_enable n) = false ∨ bit (glueSet n v s).sig.stuck n = true) :
    s.glueGo n v = (glueSet n v s).glueFin n 3 := by
  have hb : (!(glueSet n v s).flag (Fld.SIG_GM_CFG_enable n) || bit (glueSet n v s).sig.stuck n) = true := by
    rcases h with h | h <;> simp [h]
  unfold State.glueGo
  dsimp only
  rw [hd, if_neg (by decide), hv, ho, if_neg (by decide)]
  exact if_pos hb

theorem glueGo_starts (he : (glueSet n v s).flag (Fld.SIG_GM_CFG_enable n) = true) (hs : bit (glueSet n v s).sig.stuck n = false) :
    let u := glueSet n v s
    let w := u.get (Fld.SIG_GM_XFER_width n) + 1
    let rd := u.flag (Fld.SIG_GM_XFER_rd n)
    let c := if bit u.sig.gmClear n then u
      else { u with sig := { u.sig with gmClear := u.sig.gmClear ||| (1 <<< n) } }.emit (.glueClear n)
    s.glueGo n v = (({ c with sig := { c.sig with gm := tset c.sig.gm n ⟨u.get (Fld.SIG_GM_XFER_addr n), rd, u.flag (Fld.SIG_GM_XFER_reg2 n),
      u.get (Fld.SIG_GM_XFER_reg n), w, if rd then [] else leBytes w (u.reg (Reg.SIG_GM_XDATA n)).toNat, 0, false⟩ } }).put (Fld.SIG_GM_XFER_go n) 1).emit
      (.glue n (u.get (Fld.SIG_GM_XFER_addr n)) rd (u.flag (Fld.SIG_GM_XFER_reg2 n)) (u.get (Fld.SIG_GM_XFER_reg n))
        (if rd then [] else leBytes w (u.reg (Reg.SIG_GM_XDATA n)).toNat)) := by
  have hb : ¬(!(glueSet n v s).flag (Fld.SIG_GM_CFG_enable n) || bit (glueSet n v s).sig.stuck n) = true := by simp [he, hs]
  unfold State.glueGo
  dsimp only
  rw [hd, if_neg (by decide), hv, ho, if_neg (by decide)]
  exact if_neg hb

end

/-! ## Bytes of a frame -/

theorem beVal_beBytes_three {v : Nat} (h : v < 2 ^ 24) : beVal (beBytes 3 v) = v := by
  show ((0 * 256 + v / 256 / 256 % 256 % 256) * 256 + v / 256 % 256 % 256) * 256 + v % 256 % 256 = v
  omega

theorem beVal_beBytes_four {v : Nat} (h : v < 2 ^ 32) : beVal (beBytes 4 v) = v := by
  show (((0 * 256 + v / 256 / 256 / 256 % 256 % 256) * 256 + v / 256 / 256 % 256 % 256) * 256 + v / 256 % 256 % 256) * 256 + v % 256 % 256 = v
  omega

/-- A frame is whole when it has 16 bytes and its last one is the checksum of the others. -/
theorem spiWhole_sdi (used : List Nat) (e : SdiEnd) : spiWhole (sdiBytes used e) =
    ((sdiBytes used e).length == 16 && crc8j ((sdiBytes used e).take 15) == e.crc.toNat) := by
  unfold spiWhole
  by_cases hlen : (sdiBytes used e).length = 16
  · have hlast : nth (sdiBytes used e) 15 0 = e.crc.toNat := by
      unfold sdiBytes at hlen ⊢
      unfold nth
      have h15 : (used ++ byteVals e.rest).length = 15 := by
        rw [List.length_append, List.length_singleton] at hlen
        omega
      rw [← h15, List.getElem?_concat_length]
      rfl
    rw [hlast]
  · have hb : ((sdiBytes used e).length == 16) = false := beq_eq_false_iff_ne.mpr hlen
    rw [hb, Bool.false_and, Bool.false_and]

/-! ## The SPI target -/

/-- What a whole frame that is not dropped does with its command. -/
def spiKeep (seq : Nat) (e : Nat × Nat × State) : State := { e.2.2 with sig := { e.2.2.sig with spi := ⟨e.1, seq, e.2.1, false, false⟩ } }

/-- A frame of some used bytes, answered and acted on by g. -/
def spiFramed (used : List Nat) (sdi : SdiEnd) (busy : Bool) (seq : Nat) (g : State → Nat × Nat × State) (a : State) : State :=
  let b := sdiBytes used sdi
  let u := a.emit (.spi (a.spiAnswer busy))
  if !(a.loaded && !a.domHurt 146) then a
  else if !(b.length == 16 && crc8j (b.take 15) == sdi.crc.toNat) then
    (({ u with sig := { u.sig with spi := { u.sig.spi with crcBad := true, drop := false } } }).bump Fld.SIG_SPIT_STAT_crc_err).raise (evSig 16)
  else if busy then
    (({ u with sig := { u.sig with spi := { u.sig.spi with crcBad := false, drop := true } } }).bump Fld.SIG_SPIT_STAT_dropped).raise (evSig 17)
  else spiKeep seq (g u)

/-- A frame that carries a command runs it. -/
theorem spiFrame_cmd (cmd seq : Nat) (rest : List Nat) (sdi : SdiEnd) (busy : Bool) (now : Nat) (a : State) (h : cmd ≠ 0) :
    a.spiFrame (sdiBytes (cmd :: seq :: rest) sdi) now busy =
      spiFramed (cmd :: seq :: rest) sdi busy seq (State.spiCommand (sdiBytes (cmd :: seq :: rest) sdi) now) a := by
  have h0 : ¬((nth (sdiBytes (cmd :: seq :: rest) sdi) 0 0 == 0) = true) := by
    rw [beq_iff_eq]
    exact h
  unfold State.spiFrame State.targetsOn
  dsimp only
  rw [spiWhole_sdi, if_neg h0]
  rfl

theorem spiFrame_none (sdi : SdiEnd) (busy : Bool) (a : State) : a.spiFrame (sdiBytes [0] sdi) 0 busy =
    let b := sdiBytes [0] sdi
    if !(a.loaded && !a.domHurt 146) then a
    else
      let u := a.emit (.spi (a.spiAnswer busy))
      if !(b.length == 16 && crc8j (b.take 15) == sdi.crc.toNat) then
        (({ u with sig := { u.sig with spi := { u.sig.spi with crcBad := true, drop := false } } }).bump Fld.SIG_SPIT_STAT_crc_err).raise (evSig 16)
      else { u with sig := { u.sig with spi := { u.sig.spi with crcBad := false, drop := false } } } := by
  have h0 : (nth (sdiBytes [0] sdi) 0 0 == 0) = true := rfl
  unfold State.spiFrame State.targetsOn
  dsimp only
  rw [spiWhole_sdi, if_pos h0]
  rfl

theorem spiCommand_read {off : Nat} (seq : Nat) (rest : List Nat) (now : Nat) (s : State) (h : off < 2 ^ 24) :
    s.spiCommand (1 :: seq :: (beBytes 3 off ++ rest)) now = s.tgtRead 16 off := by
  show s.tgtRead 16 (beVal (beBytes 3 off)) = _
  rw [beVal_beBytes_three h]

theorem spiCommand_write {off v : Nat} (seq : Nat) (rest : List Nat) (now : Nat) (s : State) (h : off < 2 ^ 24) (hv : v < 2 ^ 32) :
    s.spiCommand (2 :: seq :: (beBytes 3 off ++ (beBytes 4 v ++ rest))) now = s.tgtWrite 16 off v now := by
  show s.tgtWrite 16 (beVal (beBytes 3 off)) (beVal (beBytes 4 v)) now = _
  rw [beVal_beBytes_three h, beVal_beBytes_four hv]

theorem spiCommand_unknown {cmd : Nat} (rest : List Nat) (now : Nat) (s : State) (h : 4 ≤ cmd) :
    s.spiCommand (cmd :: rest) now = (4, Config.openVal s.free 373 % 2 ^ 32, s.draw) := by
  have hne (k : Nat) (hk : k < 4) : ¬((cmd == k) = true) := by
    rw [beq_iff_eq]
    omega
  unfold State.spiCommand
  exact (if_neg (hne 1 (by decide))).trans ((if_neg (hne 2 (by decide))).trans (if_neg (hne 3 (by decide))))

/-! ## The I2C target -/

theorem i2ctWrite_eq (addr off v now crc : Nat) (a : State) : a.i2ctWrite addr off v now crc =
    if !a.i2ctOn addr then a
    else if crc8j ((2 * addr) :: (beBytes 3 off ++ beBytes 4 v)) ≠ crc then ((a.bump Fld.SIG_I2CT_CFG_errors).raise (evSig 18)).emit .i2ctNack
    else (a.tgtWrite 17 off v now).2.2 := by
  unfold State.i2ctWrite
  by_cases h : crc8j ((2 * addr) :: (beBytes 3 off ++ beBytes 4 v)) = crc
  · rw [if_neg (not_not.mpr h), beq_iff_eq.mpr h]
    rfl
  · rw [if_pos h, beq_eq_false_iff_ne.mpr h]
    rfl

theorem i2ctRead_eq (addr off crc : Nat) (a : State) : a.i2ctRead addr off crc =
    if !a.i2ctOn addr then a
    else if crc8j ((2 * addr) :: beBytes 3 off) ≠ crc then ((a.bump Fld.SIG_I2CT_CFG_errors).raise (evSig 18)).emit .i2ctNack
    else
      let e := a.tgtRead 17 off
      let head := (2 * addr) :: beBytes 3 off
      e.2.2.emit (.i2ct (beBytes 4 e.2.1 ++ [crc8j (head ++ [crc8j head, 2 * addr + 1] ++ beBytes 4 e.2.1)])) := by
  unfold State.i2ctRead
  by_cases h : crc8j ((2 * addr) :: beBytes 3 off) = crc
  · rw [if_neg (not_not.mpr h), beq_iff_eq.mpr h]
    rfl
  · rw [if_pos h, beq_eq_false_iff_ne.mpr h]
    rfl

theorem safetyCycle_eq {s : State} (h : s.runs = true) : s.safetyCycle = s.wrapInc Fld.SIG_SPIT_STAT_alive := by
  unfold State.safetyCycle
  rw [if_pos h]

theorem clearAgain_glue {p n : Nat} (low : Bool) (s : State) (h : p = 24 + n) : s.clearAgain p low =
    if !bit s.sig.stuck n then s
    else (if low then s else { s with sig := { s.sig with stuck := putBits s.sig.stuck n n 0 } }).emit (.glueClear n) := by
  have hp : p - 24 = n := by omega
  have hb : ¬(Nat.blt p 24 = true) := by
    rw [Nat.blt_eq]
    omega
  unfold State.clearAgain
  rw [if_neg hb, hp]
  rfl

/-- Settles O54: glue transfers by their start and end; a target's frame is its command (spiFrame_cmd) in the shell of a running
Falith. -/
theorem glueAndTargets : Obligations.GlueAndTargets := by
  refine ⟨fun r n w res low s => ⟨?_, ?_⟩, fun n x s hx hw => ⟨fun low => glueEnd_eq .nack low hx hw, fun b low => glueEnd_eq (.done b) low hx hw,
    fun low => glueEnd_eq .lost low hx hw, fun low => glueEnd_eq .stretched low hx hw⟩, fun n res low ns s hl => ?_, glueGo_hurt,
    fun n v s hd hv ho => ⟨glueGo_barred hd hv ho, glueGo_starts hd hv ho⟩, fun n q low ns s hl hq => ?_, fun ns s hr => ?_⟩
  · show Host.Outcome.next ((s.busWrite r.val (Reg.SIG_GM_XFER n.val) (w.toNat % 2 ^ 30 + 0xC0000000)).glueEnd n.val res low).settle = _
    rw [busWrite_SIG_GM_XFER]
  · show Host.Outcome.next ((s.busWrite r.val (Reg.SIG_GM_XFER n.val) (w.toNat % 2 ^ 30 + 0x80000000)).glueEnd n.val res low).settle = _
    rw [busWrite_SIG_GM_XFER]
  · show Host.Outcome.next (s.event ns (State.backOver (.glue n res low))) = _
    rw [event_loaded ns _ s hl]
    rfl
  · show Host.Outcome.next (s.event ns (State.clearAgain q.val low)) = _
    rw [event_loaded ns _ s hl, clearAgain_glue low _ hq]
  · intro a whole framed keep
    have hgo (f : State → State) : s.running ns f = (f a).settle := running_runs _ _ _ hr
    have hframe (used : List Nat) (sdi : SdiEnd) (now : Nat) (busy : Bool) :
        s.running ns (State.spiFrame (sdiBytes used sdi) now busy) = (a.spiFrame (sdiBytes used sdi) now busy).settle := hgo _
    refine ⟨fun seq off sdi busy => ?_, fun seq off d sdi busy => ?_, fun seq sdi busy => ?_, fun cmd seq sdi busy => ⟨?_, fun hc => ?_⟩,
      fun sdi busy => ?_, fun addr off d crc => ⟨?_, ?_⟩, ?_⟩
    · have hoff : off.val < 2 ^ 24 := off.isLt
      have hcmd : State.spiCommand (sdiBytes (1 :: seq.val :: beBytes 3 off.val) sdi) 0 = State.tgtRead 16 off.val := funext (fun u => by
        unfold sdiBytes
        rw [List.append_assoc]
        exact spiCommand_read seq.val _ 0 u hoff)
      show Host.Outcome.next (s.running ns (State.spiFrame (sdiBytes (1 :: seq.val :: beBytes 3 off.val) sdi) 0 busy)) = _
      rw [hframe, spiFrame_cmd 1 seq.val _ sdi busy 0 a (by decide), hcmd]
      rfl
    · have hoff : off.val < 2 ^ 24 := off.isLt
      have hcmd : State.spiCommand (sdiBytes (2 :: seq.val :: (beBytes 3 off.val ++ beBytes 4 d.v.toNat)) sdi) d.now.toNat =
          State.tgtWrite 16 off.val d.v.toNat d.now.toNat := funext (fun u => by
        unfold sdiBytes
        rw [List.append_assoc]
        exact spiCommand_write seq.val _ _ u hoff d.v.isLt)
      show Host.Outcome.next (s.running ns
        (State.spiFrame (sdiBytes (2 :: seq.val :: (beBytes 3 off.val ++ beBytes 4 d.v.toNat)) sdi) d.now.toNat busy)) = _
      rw [hframe, spiFrame_cmd 2 seq.val _ sdi busy _ a (by decide), hcmd]
      rfl
    · show Host.Outcome.next (s.running ns (State.spiFrame (sdiBytes [3, seq.val] sdi) 0 busy)) = _
      rw [hframe, spiFrame_cmd 3 seq.val _ sdi busy 0 a (by decide)]
      rfl
    · exact congrArg _ (hframe _ sdi 0 busy)
    · have hcmd : State.spiCommand (sdiBytes [cmd.val, seq.val] sdi) 0 =
          fun u => (4, Config.openVal u.free 373 % 2 ^ 32, u.draw) := funext (fun u => spiCommand_unknown _ 0 u hc)
      show Host.Outcome.next (s.running ns (State.spiFrame (sdiBytes [cmd.val, seq.val] sdi) 0 busy)) = _
      rw [hframe, spiFrame_cmd cmd.val seq.val _ sdi busy 0 a (by omega), hcmd]
      rfl
    · show Host.Outcome.next (s.running ns (State.spiFrame (sdiBytes [0] sdi) 0 busy)) = _
      rw [hframe, spiFrame_none]
      rfl
    · exact (congrArg _ (hgo _)).trans (congrArg (fun t : State => Host.Outcome.next t.settle) (i2ctWrite_eq addr.val off.val d.v.toNat d.now.toNat crc.toNat a))
    · exact (congrArg _ (hgo _)).trans (congrArg (fun t : State => Host.Outcome.next t.settle) (i2ctRead_eq addr.val off.val crc.toNat a))
    · show Host.Outcome.next (s.running ns State.safetyCycle) = _
      rw [hgo, safetyCycle_eq ((State.advance_runs s ns).trans hr)]

end Sys2Proof.Machine
end

section
/-! Proofs/Checks.lean: the check units (R390 to R395). -/

namespace Sys2Proof.Machine

/-! ## Feeding -/

theorem chkFeed_eq (r n v : Nat) (u : State) : u.chkFeed r n v =
    if u.chkTaker n == 1 && (u.unit n).by_ == r then
      u.chkRun n (chkFeedBytes (u.get (Fld.CHK_CTRL_poly n)) (u.get (Fld.CHK_RUN_value n))
        (leBytes (nth [1, 2, 4, 4] (u.get (Fld.CHK_CTRL_feed_bytes n)) 4) v))
    else u.bump (Fld.CHK_STAT_dropped n) := by
  unfold State.chkFeed State.chkBytes
  match u.get (Fld.CHK_CTRL_feed_bytes n) with
  | 0 | 1 | 2 | 3 | _ + 4 => rfl

theorem aliveBits_eq (s : State) (n : Nat) : s.aliveBits n = nth [0, 4, 8, 16] (s.get (Fld.CHK_CTRL_alive_bits n)) 16 := by
  unfold State.aliveBits
  match s.get (Fld.CHK_CTRL_alive_bits n) with
  | 0 | 1 | 2 | 3 | _ + 4 => rfl

/-- The alive check of R392. -/
theorem chkAlive_eq (n v : Nat) (u : State) : u.chkAlive n v =
    let b := nth [0, 4, 8, 16] (u.get (Fld.CHK_CTRL_alive_bits n)) 16
    let d := (v + 2 ^ 16 - u.get (Fld.CHK_ALIVE_value n)) % 2 ^ b
    let t := (u.put (Fld.CHK_ALIVE_value n) v).setUnit n { u.unit n with alive := true }
    if b == 0 || !(u.unit n).alive || d == 1 then t
    else if d == 0 then (t.bump (Fld.CHK_ALIVE_STAT_repeats n)).raise (evSafe (24 + n))
    else (t.bumpBy (Fld.CHK_ALIVE_STAT_losses n) (d - 1)).raise (evSafe (24 + n)) := by
  unfold State.chkAlive State.aliveStep
  dsimp only
  rw [aliveBits_eq]
  generalize (v + 2 ^ 16 - u.get (Fld.CHK_ALIVE_value n)) % 2 ^ nth [0, 4, 8, 16] (u.get (Fld.CHK_CTRL_alive_bits n)) 16 = d
  cases (nth [0, 4, 8, 16] (u.get (Fld.CHK_CTRL_alive_bits n)) 16 == 0 || !(u.unit n).alive) with
  | true => rfl
  | false =>
    match d with
    | 0 | 1 | _ + 2 => rfl

/-! ## The end of a feed -/

theorem chkEnd_bad {n : Nat} {u : State} (hc : u.flag (Fld.CHK_CTRL_cmp n) = true)
    (hne : u.get (Fld.CHK_RESULT_value n) ≠ u.get (Fld.CHK_EXPECT_value n) % 2 ^ (chkPoly (u.get (Fld.CHK_CTRL_poly n))).1) :
    u.chkEnd n = (((((u.put (Fld.CHK_STAT_mismatch n) 1).raise (evSafe (8 + n))).put (Fld.CHK_STAT_done n) 1).raise (evSafe 40)).put
      (Fld.CHK_STAT_taken n) 0).put (Fld.CHK_STAT_taker n) 0 := by
  have hb : (u.flag (Fld.CHK_CTRL_cmp n) && !(u.get (Fld.CHK_RESULT_value n) ==
      chkLow (u.get (Fld.CHK_CTRL_poly n)) (u.get (Fld.CHK_EXPECT_value n)))) = true := by
    unfold chkLow
    simp [hc, hne]
  unfold State.chkEnd State.chkFree
  dsimp only
  rw [if_pos hb]

theorem chkEnd_good {n : Nat} {u : State} (h : u.flag (Fld.CHK_CTRL_cmp n) = false ∨
      u.get (Fld.CHK_RESULT_value n) = u.get (Fld.CHK_EXPECT_value n) % 2 ^ (chkPoly (u.get (Fld.CHK_CTRL_poly n))).1) :
    u.chkEnd n = (((u.put (Fld.CHK_STAT_done n) 1).raise (evSafe 40)).put (Fld.CHK_STAT_taken n) 0).put (Fld.CHK_STAT_taker n) 0 := by
  have hb : ¬(u.flag (Fld.CHK_CTRL_cmp n) && !(u.get (Fld.CHK_RESULT_value n) ==
      chkLow (u.get (Fld.CHK_CTRL_poly n)) (u.get (Fld.CHK_EXPECT_value n)))) = true := by
    unfold chkLow
    rcases h with h | h <;> simp [h]
  unfold State.chkEnd State.chkFree
  dsimp only
  rw [if_neg hb]

/-! ## Scans -/

section
variable {r n : Nat} {u : State}

theorem chkScan_taken (h : u.chkTaker n ≠ 0) : u.chkScan r n = u.put (Fld.CHK_STAT_scan_result n) 0x22 := by
  unfold State.chkScan
  exact if_pos (by simpa using h)

theorem chkScan_range (h : u.chkTaker n = 0) (hbad : u.get (Fld.CHK_SCAN_LEN_space n) = 3 ∨ u.get (Fld.CHK_SCAN_START_start n) % 4 ≠ 0 ∨
      u.get (Fld.CHK_SCAN_LEN_length n) % 4 ≠ 0 ∨ u.get (Fld.CHK_SCAN_LEN_length n) = 0 ∨
      scanSize (u.get (Fld.CHK_SCAN_LEN_space n)) < u.get (Fld.CHK_SCAN_START_start n) + u.get (Fld.CHK_SCAN_LEN_length n)) :
    u.chkScan r n = u.put (Fld.CHK_STAT_scan_result n) 0x20 := by
  unfold State.chkScan
  refine (if_neg (by simp [h])).trans (if_pos ?_)
  simp only [Bool.or_eq_true, Bool.not_eq_true', beq_eq_false_iff_ne, beq_iff_eq, Nat.blt_eq, or_assoc]
  exact hbad

theorem chkScan_good (h : u.chkTaker n = 0) (h1 : u.get (Fld.CHK_SCAN_LEN_space n) < 3) (h2 : u.get (Fld.CHK_SCAN_START_start n) % 4 = 0)
    (h3 : u.get (Fld.CHK_SCAN_LEN_length n) % 4 = 0) (h4 : 0 < u.get (Fld.CHK_SCAN_LEN_length n))
    (h5 : u.get (Fld.CHK_SCAN_START_start n) + u.get (Fld.CHK_SCAN_LEN_length n) ≤ scanSize (u.get (Fld.CHK_SCAN_LEN_space n))) :
    u.chkScan r n = if u.scanMay r (u.get (Fld.CHK_SCAN_LEN_space n)) (u.get (Fld.CHK_SCAN_START_start n)) (u.get (Fld.CHK_SCAN_LEN_length n)) then
        (let t := u.chkTake n 2 r
        t.setUnit n { t.unit n with
          scan := (u.get (Fld.CHK_SCAN_START_start n), u.get (Fld.CHK_SCAN_LEN_length n), u.get (Fld.CHK_SCAN_LEN_space n)) })
      else u.put (Fld.CHK_STAT_scan_result n) 0x21 := by
  have hc : ¬(u.get (Fld.CHK_SCAN_LEN_space n) == 3 || !(u.get (Fld.CHK_SCAN_START_start n) % 4 == 0) ||
      !(u.get (Fld.CHK_SCAN_LEN_length n) % 4 == 0) || u.get (Fld.CHK_SCAN_LEN_length n) == 0 ||
      Nat.blt (scanSize (u.get (Fld.CHK_SCAN_LEN_space n))) (u.get (Fld.CHK_SCAN_START_start n) + u.get (Fld.CHK_SCAN_LEN_length n))) = true := by
    simp only [Bool.or_eq_true, Bool.not_eq_true', beq_eq_false_iff_ne, beq_iff_eq, Nat.blt_eq]
    omega
  unfold State.chkScan
  dsimp only
  rw [if_neg (by simp [h]), if_neg hc]
  by_cases hm : u.scanMay r (u.get (Fld.CHK_SCAN_LEN_space n)) (u.get (Fld.CHK_SCAN_START_start n)) (u.get (Fld.CHK_SCAN_LEN_length n)) = true
  · rw [if_pos hm, if_neg (by simp [hm])]
  · rw [if_neg hm, if_pos (by simpa using hm)]

end

section
variable {s : State}

theorem scanDrip_idle (h : ∀ n < 15, s.chkTaker n ≠ 2) : s.scanDrip State.scanReg = s := by
  have hf : (List.range 15).find? (fun n => s.chkTaker n == 2) = none := by
    rw [List.find?_eq_none]
    intro n hn
    simpa using h n (List.mem_range.mp hn)
  unfold State.scanDrip
  rw [hf]

variable {n : Nat} (hn : n < 15) (ht : s.chkTaker n = 2) (hl : ∀ m < n, s.chkTaker m ≠ 2)
include hn ht hl

/-- The lowest unit that scans has the drip. -/
theorem scanning_find : (List.range 15).find? (fun n => s.chkTaker n == 2) = some n := by
  rw [List.find?_range_eq_some]
  exact ⟨by simp [ht], List.mem_range.mpr hn, fun m hm => by simpa using hl m hm⟩

theorem scanDrip_abort (ha : (s.unit n).abort = true) : s.scanDrip State.scanReg = (s.put (Fld.CHK_STAT_scan_result n) 0x23).chkEnd n := by
  unfold State.scanDrip
  rw [scanning_find hn ht hl]
  exact if_pos ha

theorem scanDrip_goes (ha : (s.unit n).abort = false) :
    let start := (s.unit n).scan.1
    let len := (s.unit n).scan.2.1
    let space := (s.unit n).scan.2.2
    let pos := (s.unit n).pos
    let k := Nat.min 4096 ((len - pos) / 4)
    s.scanDrip State.scanReg =
      (let ws := (List.range k).map (fun i => s.scanWord State.scanReg space (start + pos + 4 * i))
      let b := ((s.chkBytes n (bytesOfWords (ws.map (fun w => w.1)))).draw).bumpBy (Fld.CHK_STAT_ecc n) (ws.filter (fun w => w.2)).length
      let c := if space == 1 then forEach ((tkeys s.palFlip).filter (fun w => Nat.ble ((start + pos) / 4) w &&
        Nat.blt w ((start + pos) / 4 + k))) (State.palTouch false) b else b
      let t := c.setUnit n { s.unit n with pos := pos + 4 * k }
      if len ≤ pos + 4 * k then (t.put (Fld.CHK_STAT_scan_result n) 0).chkEnd n else t) := by
  intro start len space pos k
  unfold State.scanDrip
  rw [scanning_find hn ht hl]
  refine (if_neg (Bool.eq_false_iff.mp ha)).trans ?_
  by_cases hle : len ≤ pos + 4 * k
  · exact (if_pos (Nat.ble_eq.mpr hle)).trans (if_pos hle).symm
  · exact (if_neg (mt Nat.ble_eq.mp hle)).trans (if_neg hle).symm

end

/-- Settles O55: the commands write a unit's registers, whose effects are the lemmas above. -/
theorem checkUnits : Obligations.CheckUnits := by
  refine ⟨fun r n w s => ?_, fun r n v s hv => ?_, fun r n v s => ⟨?_, ?_, ?_⟩, fun n u hc hne => chkEnd_bad hc hne, fun n u h => chkEnd_good h,
    fun r n u => ⟨chkScan_taken, chkScan_range, chkScan_good⟩, fun ns s hl => ⟨fun h => ?_, fun n hn ht hm => ⟨fun ha => ?_, fun ha => ?_⟩⟩,
    fun x u => ⟨rfl, rfl⟩⟩
  · intro R by_
    have hw (v : Nat) : (s.busWrite r.val (Reg.CHK_CTRL n.val) v).settle = (s.busDo r.val R v (State.chkCtrl r.val n.val v)).settle := by
      rw [busWrite_CHK_CTRL]
    exact ⟨congrArg Host.Outcome.next (hw (w.toNat % 2 ^ 28 + 2 ^ 31)), congrArg Host.Outcome.next (hw ((s.reg R).toNat ||| 0x40000000)),
      congrArg Host.Outcome.next (hw ((s.reg R).toNat ||| 0x20000000)), congrArg Host.Outcome.next (hw ((s.reg R).toNat ||| 0x10000000))⟩
  · exact ⟨chkCtrl_start r n s hv, chkCtrl_close r n s hv, chkCtrl_scan r n s hv, chkCtrl_abort r n s hv⟩
  · show Host.Outcome.next (s.busWrite r.val (Reg.CHK_FEED n.val) v.toNat).settle = _
    rw [busWrite_CHK_FEED, show State.chkFeed r.val n.val v.toNat = _ from funext (chkFeed_eq r.val n.val v.toNat)]
  · show Host.Outcome.next (s.busWrite r.val (Reg.CHK_RUN n.val) v.toNat).settle = _
    rw [busWrite_CHK_RUN]
    rfl
  · show Host.Outcome.next (s.busWrite r.val (Reg.CHK_ALIVE n.val) v.toNat).settle = _
    rw [busWrite_CHK_ALIVE, show State.chkAlive n.val (v.toNat % 2 ^ 16) = _ from funext (chkAlive_eq n.val (v.toNat % 2 ^ 16))]
  · show Host.Outcome.next (s.event ns (State.scanDrip State.scanReg)) = _
    rw [event_loaded ns _ s hl, scanDrip_idle h]
  · show Host.Outcome.next (s.event ns (State.scanDrip State.scanReg)) = _
    rw [event_loaded ns _ s hl, scanDrip_abort hn ht hm ha]
  · show Host.Outcome.next (s.event ns (State.scanDrip State.scanReg)) = _
    rw [event_loaded ns _ s hl, scanDrip_goes hn ht hm ha]

end Sys2Proof.Machine
end

section
/-! Proofs/ErkLink.lean: the Erkuhar link and its frames (R378 to R384). -/

namespace Sys2Proof.Machine

/-! ## The link -/

theorem fiDue_nil {s : State} (h : s.reord = []) : s.fiDue = ([], s) := by
  cases s
  cases h
  rfl

/-- With injection off, and nothing held back, an output goes out as it is. -/
theorem emitFi_plain (cls idx : Nat) (o : Out) {s : State} (hf : s.fiOn = false) (hr : s.reord = []) :
    s.emitFi cls idx o = s.emit (flipOut o []) := by
  have hinj : s.inject cls idx = (FiEffect.none_, s) := by
    unfold State.inject
    rw [hf, if_neg (by decide)]
  have hdue : (s.emit (flipOut o [])).fiDue = ([], s.emit (flipOut o [])) := fiDue_nil hr
  unfold State.emitFi
  rw [hinj]
  dsimp only [FiEffect.none_]
  rw [if_neg (by decide), hdue]
  rfl

section
variable {s : State}

theorem erkUp_eq (peer : Bool) (hl : s.loaded = true) : s.erkUp peer =
    if s.flag Fld.ERK_STAT_up || !s.flag Fld.ERK_CFG_enable || s.domHurt 142 || s.domHurt 143 then s
    else if peer == s.flag Fld.ERK_CFG_role then ((s.bump Fld.ERK_STAT_retrains).put Fld.ERK_STAT_role_clash 1).raise (evTime 19)
    else (((s.bump Fld.ERK_STAT_retrains).put Fld.ERK_STAT_role_clash 0).put Fld.ERK_STAT_up 1).raise (evTime 16) := by
  unfold State.erkUp
  rw [hl, Bool.true_and, Bool.or_comm (!s.flag Fld.ERK_CFG_enable)]

section
variable (h : s.flag Fld.ERK_STAT_up = false)
include h

theorem erkDown_off : s.erkDown = s := by
  unfold State.erkDown
  rw [h]
  rfl

theorem erkReplay_off : s.erkReplay = s := by
  unfold State.erkReplay
  rw [h]
  rfl

theorem erkIdleCame_off (ack : Nat) (gap ok : Bool) : s.erkIdleCame ack gap ok = s := by
  unfold State.erkIdleCame
  rw [h]
  rfl

theorem erkTimeSend_off : s.erkTimeSend = s := by
  unfold State.erkTimeSend
  rw [h]
  rfl

theorem erkCensusSend_off : s.erkCensusSend = s := by
  unfold State.erkCensusSend State.erkSend
  rw [h]
  rfl

end

section
variable (h : s.flag Fld.ERK_STAT_up = true)
include h

theorem erkDown_on : s.erkDown = (((s.put Fld.ERK_STAT_up 0).raise (evTime 17)).ctlEnd 3).erkTrain := by
  unfold State.erkDown
  rw [h]
  rfl

theorem erkReplay_none (h0 : s.erk.open_ = 0) : s.erkReplay = s := by
  unfold State.erkReplay
  rw [h, h0]
  rfl

theorem erkReplay_on (h0 : s.erk.open_ ≠ 0) : s.erkReplay =
    let b := (s.bump Fld.ERK_STAT_replays).raise (evTime 18)
    let old := b.erk.store.filter (fun e => serGE e.1 b.erk.acked)
    let reps := old.map (fun e => (e.1, tget b.erk.reps e.1 0 + 1))
    if reps.any (fun e => Nat.ble 8 e.2) then { b with erk := { b.erk with reps := [] } }.erkDown
    else forEach old (fun e (t : State) => t.emitFi 3 0 (.erk e.2)) { b with erk := { b.erk with reps := reps } } := by
  unfold State.erkReplay
  rw [h, beq_eq_false_iff_ne.mpr h0]
  rfl

theorem erkIdle_on : s.erkIdle = s.emitFi 3 0 (.erk (erkBytes ⟨7, 0, 0, 0, 0, 0, []⟩ s.erk.txSeq s.erk.rxSeq)) := by
  unfold State.erkIdle
  rw [h, if_pos rfl]

theorem erkIdleCame_on (ack : Nat) (gap ok : Bool) : s.erkIdleCame ack gap ok = if ok then s.erkAck ack gap
    else s.emitFi 3 0 (.erk (erkBytes ⟨7, 0, 0, 0, 0, 0, []⟩ s.erk.txSeq s.erk.rxSeq)) := by
  unfold State.erkIdleCame
  rw [h, erkIdle_on h]
  rfl

theorem erkTimeSend_on : s.erkTimeSend =
    let p := s.erk.peer.getD (0, 0)
    { s with erk := { s.erk with sent := s.now } }.erkSend
      ⟨2, 0, 0, 0, 0, 0, leBytes 8 s.now ++ leBytes 8 p.1 ++ leBytes 8 p.2⟩ := by
  unfold State.erkTimeSend
  rw [h]
  rfl

/-- With no injection, and nothing held back by one, a sent frame goes out and is kept. -/
theorem erkSend_plain (x : ErkMsg) (hf : s.fiOn = false) (hr : s.reord = []) (hlen : s.erk.store.length < 256) :
    let b := erkBytes x s.erk.txSeq s.erk.rxSeq
    s.erkSend x = { s.emit (.erk b) with
      erk := { s.erk with txSeq := add32 s.erk.txSeq 1, store := s.erk.store ++ [(s.erk.txSeq, b)] } } := by
  intro b
  have hdrop : (s.erk.store ++ [(s.erk.txSeq, b)]).length - 256 = 0 := by
    rw [List.length_append, List.length_singleton]
    omega
  unfold State.erkSend
  rw [h, if_neg (by decide)]
  dsimp only
  rw [emitFi_plain 3 0 _ hf hr]
  dsimp only [flipOut, List.foldl_nil]
  rw [show (s.emit (.erk b)).erk = s.erk from rfl, hdrop, List.drop_zero]

end

theorem erkAck_eq (ack : Nat) (gap : Bool) (s : State) : s.erkAck ack gap =
    (let t := if ack ≠ s.erk.acked ∧ sub32 ack s.erk.acked ≤ s.erk.open_ then
      { s with erk := { s.erk with acked := ack, reps := s.erk.reps.filter (fun x => serGE x.1 ack) } } else s
    if gap then t.erkReplay else t) := by
  have hc : (!(ack == s.erk.acked) && Nat.ble (sub32 ack s.erk.acked) s.erk.open_) = true ↔
      ack ≠ s.erk.acked ∧ sub32 ack s.erk.acked ≤ s.erk.open_ := by
    rw [Bool.and_eq_true, Nat.ble_eq, Bool.not_eq_true', beq_eq_false_iff_ne]
  unfold State.erkAck
  dsimp only
  by_cases h : ack ≠ s.erk.acked ∧ sub32 ack s.erk.acked ≤ s.erk.open_
  · rw [if_pos (hc.mpr h), if_pos h]
  · rw [if_neg (mt hc.mp h), if_neg h]

/-- A request that was given up goes again when its back-off ends. -/
theorem ctlAgain_eq (s : State) : s.ctlAgain =
    if !s.erk.back then s
    else
      let b := { s with erk := { s.erk with back := false } }
      match b.erk.ctl with
      | none => b
      | some (rd, off, data, _) => b.erkSend ⟨4, 0, 0, 0, 0, 0, leBytes 4 (b2n rd * 2 ^ 30 + off) ++ leBytes 4 data⟩ := by
  unfold State.ctlAgain
  by_cases h : s.erk.back = true
  · rw [if_pos h, h]
    rfl
  · rw [if_neg h, Bool.eq_false_iff.mpr h]
    rfl

end

/-! ## Requests of this end -/

/-- The fields of a go in the control register. -/
theorem pctl_fields (rd : Bool) (off : Fin 16777216) : bits (2 ^ 31 + b2n rd * 2 ^ 30 + off.val) 30 30 = b2n rd ∧
    bits (2 ^ 31 + b2n rd * 2 ^ 30 + off.val) 23 0 = off.val ∧ bit (2 ^ 31 + b2n rd * 2 ^ 30 + off.val) 31 = true ∧
    bit (2 ^ 31 + b2n rd * 2 ^ 30 + off.val) 30 = rd := by
  have h := off.isLt
  unfold bits bit
  simp only [Nat.shiftRight_eq_div_pow]
  cases rd <;> simp only [b2n, Bool.false_eq_true, if_false, if_true]
  · refine ⟨by omega, by omega, beq_iff_eq.mpr (by omega), beq_eq_false_iff_ne.mpr (by omega)⟩
  · refine ⟨by omega, by omega, beq_iff_eq.mpr (by omega), beq_iff_eq.mpr (by omega)⟩

/-- What a go of this end does. -/
def erkAsks (rd : Bool) (off : Nat) (u : State) : State :=
  if u.erk.ctl.isSome then u
  else
    let t := ((u.put Fld.ERK_PCTL_rd (b2n rd)).put Fld.ERK_PCTL_offset off)
    let data := if rd then 0 else (t.reg Reg.ERK_PCTL_DATA).toNat
    let t := t.put Fld.ERK_PCTL_go 1
    let t := { t with erk := { t.erk with ctl := some (rd, off, data, 0) } }
    if u.flag Fld.ERK_STAT_up then t.erkSend ⟨4, 0, 0, 0, 0, 0, leBytes 4 (b2n rd * 2 ^ 30 + off) ++ leBytes 4 data⟩
    else t.ctlEnd 3

/-- The state in which a request of this end is open. -/
def ctlOpened (rd : Bool) (off data : Nat) (w : State) : State := { w with erk := { w.erk with ctl := some (rd, off, data, 0) } }

theorem ctlAsk_opened (rd : Bool) (off data : Nat) (w : State) : (ctlOpened rd off data w).ctlAsk =
    (ctlOpened rd off data w).erkSend ⟨4, 0, 0, 0, 0, 0, leBytes 4 (b2n rd * 2 ^ 30 + off) ++ leBytes 4 data⟩ := rfl

theorem ctlOpened_go (rd : Bool) (off data : Nat) (w : State) :
    ({ w.put Fld.ERK_PCTL_go 1 with erk := { w.erk with ctl := some (rd, off, data, 0) } } : State) =
    ctlOpened rd off data (w.put Fld.ERK_PCTL_go 1) := by
  have h : (w.put Fld.ERK_PCTL_go 1).erk = w.erk := State.put_erk w _ _
  unfold ctlOpened
  rw [h]

theorem erkCtl_of_fields {v off : Nat} {rd : Bool} (h : bits v 30 30 = b2n rd ∧ bits v 23 0 = off ∧ bit v 31 = true ∧ bit v 30 = rd) :
    State.erkCtl v = erkAsks rd off := by
  obtain ⟨h1, h2, h3, h4⟩ := h
  funext u
  unfold State.erkCtl erkAsks
  rw [h1, h2, h3, h4]
  by_cases h : u.erk.ctl.isSome = true
  · rw [if_pos h, if_pos h]
  · rw [if_neg h, if_neg h]
    dsimp only
    rw [Bool.not_true, if_neg Bool.false_ne_true, ctlOpened_go, ctlAsk_opened]
    rfl

/-- Settles O56: each command is its operation in the shell of a loaded image, by whether the link is up. -/
theorem erkuharLink : Obligations.ErkuharLink := by
  refine ⟨fun ns s hl => ?_, erkAck_eq, fun ns s hl => ?_, fun x s h hf hr hlen => erkSend_plain h x hf hr hlen, fun r rd off s => ?_⟩
  · intro a down
    have hgo (f : State → State) : s.event ns f = (f a).settlePlan := event_loaded ns _ s hl
    have hla : a.loaded = true := (State.advance_loaded s ns).trans hl
    have hloss : exec (.erkLinkLoss ns) s = .next a.erkDown.settlePlan := congrArg _ (hgo _)
    have hreplay : exec (.erkReplayTimeout ns) s = .next a.erkReplay.settlePlan := congrArg _ (hgo _)
    have hidle (ack : Word) (gap ok : Bool) : exec (.erkIdleFrame ack gap ok ns) s = .next (a.erkIdleCame ack.toNat gap ok).settlePlan :=
      congrArg _ (hgo _)
    have htime : exec (.erkTimeSend ns) s = .next a.erkTimeSend.settlePlan := congrArg _ (hgo _)
    have hcensus : exec (.erkCensusSend ns) s = .next a.erkCensusSend.settlePlan := congrArg _ (hgo _)
    refine ⟨fun peer => ?_, fun h ack gap ok => ⟨?_, ?_, ?_, ?_, ?_⟩, fun h => ⟨?_, fun h0 => ?_, fun h0 => ?_, fun ack gap ok => ?_, ?_, hcensus⟩⟩
    · show Host.Outcome.next (s.event ns (State.erkUp peer)) = _
      rw [hgo, erkUp_eq peer hla]
    · rw [hloss, erkDown_off h]
    · rw [hreplay, erkReplay_off h]
    · rw [hidle, erkIdleCame_off h]
    · rw [htime, erkTimeSend_off h]
    · rw [hcensus, erkCensusSend_off h]
    · rw [hloss, erkDown_on h]
    · rw [hreplay, erkReplay_none h h0]
    · rw [hreplay, erkReplay_on h h0]
    · rw [hidle, erkIdleCame_on h]
    · rw [htime, erkTimeSend_on h]
  · show Host.Outcome.next (s.event ns State.ctlAgain) = _
    rw [event_loaded ns _ s hl, ctlAgain_eq] <;> rfl
  · intro v
    have hw : (s.busWrite r.val Reg.ERK_PCTL v).settle = (s.busDo r.val Reg.ERK_PCTL v (erkAsks rd off.val)).settle := by
      rw [busWrite_ERK_PCTL, erkCtl_of_fields (pctl_fields rd off)]
    have hv : v = (if rd then 0xC0000000 else 0x80000000) + off.val := by
      cases rd <;> simp [v, b2n]
    refine Eq.trans ?_ (congrArg Host.Outcome.next hw)
    rw [hv]
    cases rd <;> rfl

end Sys2Proof.Machine
end

section
/-! Proofs/ErkFrames.lean: the frames of the Erkuhar peer (R379 to R384, R411). -/

namespace Sys2Proof.Machine

/-- How a frame is taken: in sequence, with a right checksum, on a link that is up. -/
theorem erkFrame_eq (seq ack : Nat) (gap ok : Bool) (f : State → State) (a : State) : a.erkFrame seq ack gap ok f =
    if !a.flag Fld.ERK_STAT_up then a
    else if !ok then a.emitFi 3 0 (.erk (erkBytes ⟨7, 0, 0, 0, 0, 0, []⟩ a.erk.txSeq a.erk.rxSeq))
    else
      let b := a.erkAck ack gap
      if seq == b.erk.rxSeq then f { b with erk := { b.erk with rxSeq := add32 seq 1 } } else b.erkIdle := by
  unfold State.erkFrame State.erkTake
  cases hu : a.flag Fld.ERK_STAT_up with
  | false => rfl
  | true =>
    cases ok with
    | false => exact erkIdle_on hu
    | true =>
      dsimp only
      cases seq == (a.erkAck ack gap).erk.rxSeq <;> rfl

/-! ## Data frames (R381) -/

section
variable {w m num : Nat} {data : List Nat} {y : ErkIn} {u : State}
  (hf : u.erk.ins.find? (fun (z : ErkIn) => z.m == m && z.w == w) = some y) (hn : y.num = num)
include hf hn

/-- A part in the middle of an output is kept with what came before. -/
theorem mirTake_middle (seq : Nat) : u.mirTake m seq 0 w num y.bytes.length data =
    { u with erk := { u.erk with ins := u.erk.ins.filter (fun (z : ErkIn) => !(z.m == m && z.w == w)) ++ [{ y with bytes := y.bytes ++ data }] } } := by
  unfold State.mirTake
  rw [hf]
  simp [hn, bit]

/-- The last part carries the descriptor's bytes, and the output is poured. -/
theorem mirTake_last (seq : Nat) (hd : data.length = 48) : u.mirTake m seq 1 w num y.bytes.length data =
    { u with erk := { u.erk with
      ins := u.erk.ins.filter (fun (z : ErkIn) => !(z.m == m && z.w == w))
      pours := u.erk.pours ++ [⟨m, y.first, w, num, y.bytes, data, .waiting, 0, 0, 0, 0, false, false⟩] } } := by
  unfold State.mirTake
  rw [hf]
  simp [hn, hd, bit]

end

/-! ## Time and census frames (R383, R411) -/

theorem erkTimeCame_eq (sent : Word64) (echo : Option (Word64 × Word64)) (u : State) :
    u.erkTimeCame sent.toNat (echo.map (fun e => (e.1.toNat, e.2.toNat))) =
      (let v := { u with erk := { u.erk with peer := some (sent.toNat, u.now) } }
      match echo with
      | none => v
      | some (mine, there) => (v.setReg64 Reg.ERK_TIME_OFFSET (unsgn 64 (halfOf (((there.toNat : Int) - (mine.toNat : Int)) +
          ((sent.toNat : Int) - (u.now : Int))) u.free))).draw) := by
  cases echo <;> rfl

/-- Whole words come from a whole number of bytes. -/
theorem wordsOf_length (k : Nat) (l : List Nat) (h : l.length = 4 * k) : (wordsOf l).length = k := by
  induction k generalizing l with
  | zero =>
    rw [List.length_eq_zero_iff.mp (h.trans (Nat.mul_zero 4))]
    rfl
  | succ k ih =>
    match l, h with
    | a :: b :: c :: d :: rest, h =>
      have hr : rest.length = 4 * k := by
        simp only [List.length_cons] at h
        omega
      show (wordsOf rest).length + 1 = k + 1
      rw [ih rest hr]
    | [], h => simp at h
    | [_], h => simp at h; omega
    | [_, _], h => simp at h; omega
    | [_, _, _], h => simp at h; omega

theorem padTo_of_length {n : Nat} {l : List Nat} (h : l.length = n) : padTo n l = l := by
  unfold padTo
  rw [h, Nat.sub_self, List.replicate_zero, List.append_nil]

theorem erkCensusCame_eq (epoch : Word) {digest : List Nat} (hd : digest.length = 16) (u : State) : u.erkCensusCame epoch.toNat digest =
    let new := wordsOf digest
    let old := (List.range 4).map (fun n => (u.reg (Reg.ERK_PEER_DIGEST n)).toNat)
    let v := forEach (List.range 4) (fun n (t : State) => t.setReg (Reg.ERK_PEER_DIGEST n) (BitVec.ofNat 32 (nth new n 0)))
      (u.setReg Reg.ERK_PEER_EPOCH epoch)
    (v.raiseIf (!(epoch.toNat == (u.reg Reg.ERK_PEER_EPOCH).toNat && new == old)) (evTime 23)).cenPeer epoch.toNat digest := by
  have he : BitVec.ofNat 32 epoch.toNat = epoch := by rw [BitVec.ofNat_toNat, BitVec.setWidth_eq]
  unfold State.erkCensusCame
  rw [padTo_of_length (wordsOf_length 4 digest hd), he]

/-! ## Control frames and notices (R382, R384) -/

/-- An answered request of the peer, and what becomes of an own one that is open. -/
theorem ctlAsked_eq (rd : Bool) (off v now : Nat) (u : State) : u.ctlAsked rd off v now =
    if u.erk.ctl.isSome && !u.flag Fld.ERK_CFG_role then u
    else
      let e := if rd then u.tgtRead 18 off else u.tgtWrite 18 off v now
      let t := e.2.2.ctlReply (if e.1 == 0 then 0 else 1) (if rd then e.2.1 else 0)
      match t.erk.ctl with
      | none => t
      | some (rd', off', data', n) =>
        if u.erk.ctl.isNone || t.erk.back then t
        else if 9 ≤ n + 1 then (t.ctlEnd 2).raise (evTime 25)
        else { t with erk := { t.erk with ctl := some (rd', off', data', n + 1), back := true } } := by
  unfold State.ctlAsked State.ctlBack
  dsimp only
  by_cases hlead : (u.erk.ctl.isSome && !u.flag Fld.ERK_CFG_role) = true
  · rw [if_pos hlead, if_pos hlead]
  · rw [if_neg hlead, if_neg hlead]
    generalize (if rd then u.tgtRead 18 off else u.tgtWrite 18 off v now) = e
    obtain ⟨status, data, s1⟩ := e
    dsimp only
    generalize s1.ctlReply (if status == 0 then 0 else 1) (if rd then data else 0) = t
    have hnone : u.erk.ctl.isNone = !u.erk.ctl.isSome := by cases u.erk.ctl <;> rfl
    rw [hnone]
    cases u.erk.ctl.isSome with
    | false =>
      rw [if_neg Bool.false_ne_true]
      split
      · rfl
      · rw [if_pos (by rfl)]
    | true =>
      rw [if_pos rfl]
      simp only [Nat.ble_eq, Bool.not_true, Bool.false_or] <;> rfl

theorem ctlEnd_open {s : State} {c : Bool × Nat × Nat × Nat} (h : s.erk.ctl = some c) (result : Nat) : s.ctlEnd result =
    (({ s with erk := { s.erk with ctl := none, back := false } }.put Fld.ERK_PCTL_go 0).put Fld.ERK_PCTL_result result).raise (evTime 24) := by
  unfold State.ctlEnd
  rw [h]

theorem ctlAnswered_eq (denied : Bool) (v : Word) (u : State) : u.ctlAnswered (b2n denied) v.toNat =
    match u.erk.ctl with
    | none => u
    | some (rd, _, _, _) =>
      let t := if rd then u.setReg Reg.ERK_PCTL_DATA v else u
      (({ t with erk := { t.erk with ctl := none, back := false } }.put Fld.ERK_PCTL_go 0).put Fld.ERK_PCTL_result (b2n denied)).raise (evTime 24) := by
  have hv : BitVec.ofNat 32 v.toNat = v := by rw [BitVec.ofNat_toNat, BitVec.setWidth_eq]
  have hr : (if b2n denied == 0 then 0 else 1) = b2n denied := by cases denied <;> rfl
  unfold State.ctlAnswered
  rw [hv, hr]
  cases hc : u.erk.ctl with
  | none => rfl
  | some c =>
    obtain ⟨rd, off, data, n⟩ := c
    cases rd with
    | false => exact ctlEnd_open hc _
    | true => exact ctlEnd_open (s := u.setReg Reg.ERK_PCTL_DATA v) hc _

/-- Settles O57: a frame is taken as erkFrame_eq says, and each kind does its operation. -/
theorem erkuharFrames : Obligations.ErkuharFrames := by
  intro seq ack gap ns s hl a idle got
  have hgo (ok : Bool) (f : State → State) : s.event ns (State.erkFrame seq.toNat ack.toNat gap ok f) = (got ok f).settlePlan := by
    rw [event_loaded ns _ s hl, erkFrame_eq]
  have hframe (ok : Bool) {f g : State → State} (hfg : f = g) :
      s.event ns (State.erkFrame seq.toNat ack.toNat gap ok f) = (got ok g).settlePlan := by rw [hfg, hgo]
  refine ⟨fun ok flags st w num off data => congrArg _ (hgo ok _), fun flags st w num off data u => rfl,
    fun w m num data y u hf hn => ⟨mirTake_middle hf hn _, mirTake_last hf hn _⟩, fun ok sent echo => ?_, fun ok epoch digest hd => ?_,
    fun ok rd off d => ?_, fun ok denied v => ?_, fun ok first cause => ?_⟩
  · show Host.Outcome.next (s.event ns (State.erkFrame seq.toNat ack.toNat gap ok
      (State.erkTimeCame sent.toNat (echo.map (fun e => (e.1.toNat, e.2.toNat)))))) = _
    rw [hframe ok (funext (erkTimeCame_eq sent echo))] <;> rfl
  · have hlen : (digest.map BitVec.toNat).length = 16 := (List.length_map _).trans hd
    show Host.Outcome.next (s.event ns (State.erkFrame seq.toNat ack.toNat gap ok
      (State.erkCensusCame epoch.toNat (digest.map BitVec.toNat)))) = _
    rw [hframe ok (funext (erkCensusCame_eq epoch hlen))]
  · show Host.Outcome.next (s.event ns (State.erkFrame seq.toNat ack.toNat gap ok (State.ctlAsked rd off.val d.v.toNat d.now.toNat))) = _
    rw [hframe ok (funext (ctlAsked_eq rd off.val d.v.toNat d.now.toNat))] <;> rfl
  · show Host.Outcome.next (s.event ns (State.erkFrame seq.toNat ack.toNat gap ok (State.ctlAnswered (b2n denied) v.toNat))) = _
    rw [hframe ok (funext (ctlAnswered_eq denied v))] <;> rfl
  · exact congrArg _ (hgo ok _)

end Sys2Proof.Machine
end

section
/-! Proofs/Census.lean: the configuration census and its digest (R402 to R408). -/

namespace Sys2Proof.Machine

/-! ## Mismatches and repairs (R405, R406) -/

theorem mem_tset_same {α : Type} (t : Tbl α) (k : Nat) (v : α) : (k, v) ∈ tset t k v := by
  induction t with
  | nil => exact List.mem_cons_self ..
  | cons e rest ih =>
    obtain ⟨j, w⟩ := e
    unfold tset
    split
    · exact List.mem_cons_self ..
    · split
      · exact List.mem_cons_self ..
      · exact List.mem_cons_of_mem _ ih

/-- A mismatch leaves what decides over its repair. -/
theorem cenMismatch_repair (m k : Nat) (s : State) : (s.cenMismatch m none).mayRepair k = s.mayRepair k ∧
    (s.cenMismatch m none).cen.stop = s.cen.stop ∧ (s.cenMismatch m none).cen.fix = s.cen.fix ∧
    (s.cenMismatch m none).cen.fixed = s.cen.fixed := by
  have hget (f : Fld) (hf : f.off = Reg.CEN_CTRL) (u : State) (v : Nat) : (u.put (Fld.CEN_SET_STAT_state m) v).get f = u.get f ∧
      (u.bump (Fld.CEN_SET_STAT_mismatches m)).get f = u.get f := by
    refine ⟨State.get_put_ne _ _ ?_, ?_⟩
    · simp only [hf, Reg.CEN_CTRL, Fld.CEN_SET_STAT_state, Reg.CEN_SET_STAT]
      omega
    · unfold State.get
      rw [State.reg_bump_ne _ (by simp only [hf, Reg.CEN_CTRL, Fld.CEN_SET_STAT_mismatches, Reg.CEN_SET_STAT]; omega)]
  have hmis (f : Fld) (hf : f.off = Reg.CEN_CTRL) (g : Fld) (hg : g.off = Reg.CEN_MIS) (u : State) (v : Nat) :
      (u.put g v).get f = u.get f :=
    State.get_put_ne _ _ (by rw [hf, hg]; decide)
  have hflag (f : Fld) (hf : f.off = Reg.CEN_CTRL) : (s.cenMismatch m none).get f = s.get f := by
    have hbase : (((((s.cenMark m).put (Fld.CEN_SET_STAT_state m) 2).bump (Fld.CEN_SET_STAT_mismatches m)).raise (evSafe 0)).bump
        Fld.CEN_MIS_count).get f = s.get f := by
      unfold State.bump State.bumpBy
      rw [hmis f hf Fld.CEN_MIS_count rfl, State.raise_get _ _ _ (by decide) (by rw [hf]; decide)]
      exact ((hget f hf _ 0).2).trans (hget f hf _ 2).1
    unfold State.cenMismatch
    dsimp only
    split
    · exact hbase
    · rw [hmis f hf Fld.CEN_MIS_repaired rfl, hmis f hf Fld.CEN_MIS_set rfl, hmis f hf Fld.CEN_MIS_valid rfl]
      exact hbase
  have hcen : (s.cenMismatch m none).cen = (s.cenMark m).cen := by
    unfold State.cenMismatch
    dsimp only
    split
    · rw [State.bump_cen, State.raise_cen]
      rfl
    · rw [State.put_cen, State.put_cen, State.put_cen, State.bump_cen, State.raise_cen]
      rfl
  refine ⟨?_, by rw [hcen]; rfl, by rw [hcen]; rfl, by rw [hcen]; rfl⟩
  unfold State.mayRepair State.flag
  rw [hflag _ rfl, hflag _ rfl, hflag _ rfl, hcen]
  rfl

section
variable {m : Nat} {s : State} (hs : s.cen.stop.contains m = false) (hm : m ≤ 152)
include hs hm

/-- Without its repair enabled a mismatch of a set of registers is recorded alone. -/
theorem cenVerdict_unrepaired (hr : s.flag Fld.CEN_CTRL_repair_dom = false) (at_ : Nat) :
    s.cenVerdict m false at_ = s.cenMismatch m none := by
  obtain ⟨hmay, hstop, -, -⟩ := cenMismatch_repair m m s
  have hno : s.mayRepair m = false := by
    unfold State.mayRepair
    rw [if_neg (by simp; omega), if_pos (by omega), hr]
    rfl
  unfold State.cenVerdict
  dsimp only
  rw [if_neg Bool.false_ne_true, hmay, hno, hstop, hs]
  rfl

/-- With it enabled the set waits for its repair. -/
theorem cenVerdict_repaired (hr : s.flag Fld.CEN_CTRL_repair_dom = true) (hf : s.cen.fix = []) (hx : tget? s.cen.fixed m = none) (at_ : Nat) :
    s.cenVerdict m false at_ = (let t := s.cenMismatch m none
      { t with cen := { t.cen with fix := [(m, !s.flag Fld.CEN_MIS_valid)] } }) := by
  obtain ⟨hmay, hstop, hfix, hfixed⟩ := cenMismatch_repair m m s
  have hyes : s.mayRepair m = true := by
    unfold State.mayRepair
    rw [if_neg (by simp; omega), if_pos (by omega), hr, hs]
    rfl
  have hfresh : (s.cenMismatch m none).freshRepair m = false := by
    unfold State.freshRepair
    rw [hfixed, hx]
  unfold State.cenVerdict
  dsimp only
  rw [if_neg Bool.false_ne_true, hmay, hyes, hfresh, if_neg (by decide), if_neg (by decide), if_neg (by simp; omega), hfix, hf]
  rfl

end

/-- A mismatch marks the frames that it affects, and those that open while it stands. -/
theorem cenMark_frames {m : Nat} (s : State) (hm : m ≠ 153) :
    (s.cenMark m).frames = s.frames.map (fun f =>
      if f.stats = none ∧ tget s.cen.since m 0 ≤ f.at_ ∧ s.cenHits m [] f.st f.easel = true then { f with withdrawn := true } else f) ∧
    (∀ st e : Nat, s.cenHits m [] st e = true → (s.cenMark m).cenBad st e = true) := by
  have h153 : (m == 153) = false := beq_eq_false_iff_ne.mpr hm
  refine ⟨?_, fun st e h => ?_⟩
  · unfold State.cenMark
    dsimp only
    rw [h153, if_neg Bool.false_ne_true]
    refine List.map_congr_left (fun f _ => ?_)
    simp only [Bool.and_eq_true, Nat.ble_eq, Option.isNone_iff_eq_none, and_assoc]
  · unfold State.cenBad
    rw [List.any_eq_true]
    refine ⟨(m, []), ?_, h⟩
    unfold State.cenMark
    dsimp only
    rw [h153, if_neg Bool.false_ne_true]
    exact mem_tset_same _ _ _

/-! ## Drips (R402, R405) -/

section
variable {m i run : Nat} {s : State} (hm : m ≠ 153)
include hm

/-- The checksum of a set after a drip. -/
theorem cenBytes_regs : s.cenBytes m i = ((setMembers m).drop i |>.take 256).flatMap (fun e => memberBytes (s.liveWord e.1) e) := by
  unfold State.cenBytes
  rw [if_neg (by simpa using hm)]

theorem cenCount_regs : s.cenCount m = (setMembers m).length := by
  unfold State.cenCount
  rw [if_neg (by simpa using hm)]

theorem cenTouch_regs : s.cenTouch m i = s := by
  unfold State.cenTouch
  rw [if_neg (by simpa using hm)]

/-- A drip of the check after a repair. -/
theorem cenRe_eq (rest : List (Nat × Nat × Nat)) (hskip : s.cenSkip m = false) :
    let l := setMembers m
    let crc := crc32cFrom run (((l.drop i).take 256).flatMap (fun e => memberBytes (s.liveWord e.1) e))
    let b := if i = 0 then { s with cen := { s.cen with begun := tset s.cen.begun m s.tm.loc } } else s
    let done := { b with cen := { b.cen with re := rest } }
    s.cenRe m i run rest = if l.length ≤ i + 256 then
        (if crc = done.get (Fld.CEN_SET_GOLD_golden m) then done.repairOk m else done.repairFail m)
      else { b with cen := { b.cen with re := (m, i + 256, crc) :: rest } } := by
  intro l crc b done
  have hb : (if i == 0 then s.cenBegin m else s) = b := by
    by_cases h : i = 0
    · exact (if_pos (beq_iff_eq.mpr h)).trans (if_pos h).symm
    · exact (if_neg (by simpa using h)).trans (if_neg h).symm
  unfold State.cenRe
  rw [hskip, if_neg Bool.false_ne_true, cenBytes_regs hm, cenCount_regs hm, hb, cenTouch_regs hm]
  dsimp only
  by_cases hlen : l.length ≤ i + 256
  · rw [if_pos (Nat.ble_eq.mpr hlen), if_pos hlen]
    by_cases hg : crc = done.get (Fld.CEN_SET_GOLD_golden m)
    · exact (if_pos (beq_iff_eq.mpr hg)).trans (if_pos hg).symm
    · exact (if_neg (mt beq_iff_eq.mp hg)).trans (if_neg hg).symm
  · rw [if_neg (mt Nat.ble_eq.mp hlen), if_neg hlen]

/-- A drip of the pass. -/
theorem cenOn_eq (hc : s.cen.cur = some (m, i, run)) (hskip : s.cenSkip m = false) :
    let l := setMembers m
    let crc := crc32cFrom run (((l.drop i).take 256).flatMap (fun e => memberBytes (s.liveWord e.1) e))
    s.cenOn = if l.length ≤ i + 256 then
        (s.cenVerdict m (crc == s.get (Fld.CEN_SET_GOLD_golden m)) (tget s.cen.begun m 0)).cenGo (m + 1)
      else { s with cen := { s.cen with cur := some (m, i + 256, crc) } } := by
  intro l crc
  unfold State.cenOn
  rw [hc]
  dsimp only
  rw [hskip, if_neg Bool.false_ne_true, cenBytes_regs hm, cenCount_regs hm, cenTouch_regs hm]
  by_cases hlen : l.length ≤ i + 256
  · rw [if_pos (Nat.ble_eq.mpr hlen), if_pos hlen]
  · rw [if_neg (mt Nat.ble_eq.mp hlen), if_neg hlen]

end

/-- What a drip does: the check after a repair first, then a repair, else the pass. -/
theorem cenStep_re {s : State} {m i run : Nat} {rest : List (Nat × Nat × Nat)} (hl : s.loaded = true) (h : s.cen.re = (m, i, run) :: rest) :
    s.cenStep = s.cenRe m i run rest := by
  have hd : s.cenDrip = s.cenRe m i run rest := by
    unfold State.cenDrip
    rw [hl, h]
    rfl
  unfold State.cenStep State.cenMends
  rw [hd, h]
  rfl

theorem cenStep_fix {s : State} {m : Nat} {first : Bool} {rest : List (Nat × Bool)} (hl : s.loaded = true) (hre : s.cen.re = [])
    (hf : s.cen.fix = (m, first) :: rest) :
    let b := { s with cen := { s.cen with fix := rest } }
    s.cenStep = if s.cenSkip m then b else forEach (setMembers m) (fun e t => t.rewritten s e.1) (b.repairDom m first) := by
  intro b
  have hd : s.cenDrip = if s.cenSkip m then b else b.repairDom m first := by
    unfold State.cenDrip
    rw [hl, hre, hf]
    rfl
  have hmends : s.cenMends = if !s.cenSkip m then setMembers m else [] := by
    unfold State.cenMends
    rw [hl, hre, hf]
    rfl
  unfold State.cenStep
  rw [hd, hmends]
  cases s.cenSkip m <;> rfl

theorem cenStep_on {s : State} (hl : s.loaded = true) (hre : s.cen.re = []) (hf : s.cen.fix = []) : s.cenStep = s.cenOn := by
  have hd : s.cenDrip = s.cenOn := by
    unfold State.cenDrip
    rw [hl, hre, hf]
    rfl
  unfold State.cenStep State.cenMends
  rw [hd, hre, hf]
  rfl

theorem cenPass_eq (kat : Bool) {s : State} (hl : s.loaded = true) : s.cenPass kat =
    let b := if kat then s else (s.put Fld.BIST_STAT_domain 151).raise (evSafe 42)
    if s.cen.cur.isSome then b else b.cenGo 0 := by
  have hcur : (if kat then s else (s.put Fld.BIST_STAT_domain 151).raise (evSafe 42)).cen.cur = s.cen.cur := by
    cases kat
    · show (((s.put Fld.BIST_STAT_domain 151).raise (evSafe 42))).cen.cur = _
      rw [State.raise_cen, State.put_cen]
    · rfl
  unfold State.cenPass
  rw [hl, if_neg (by decide)]
  dsimp only
  rw [hcur]

theorem cenPublish_eq {s : State} (hl : s.loaded = true) : s.cenPublish =
    if s.flag Fld.CEN_STAT_pending then
      ((({ s with cen := { s.cen with pub := (s.get Fld.CEN_EPOCH_epoch, s.cenDigest) } }.setReg Reg.CEN_PUB
        (BitVec.ofNat 32 (s.get Fld.CEN_EPOCH_epoch))).put Fld.CEN_STAT_pending 0).raise (evSafe 6))
    else s := by
  unfold State.cenPublish
  rw [hl]
  cases s.flag Fld.CEN_STAT_pending <;> rfl

/-- Settles O58: a drip by what the census has in hand, in the shell of a loaded image. -/
theorem censusAndDigest : Obligations.CensusAndDigest := by
  refine ⟨fun ns s hl => ?_, fun m s _ hs => ⟨fun hm hr at_ => cenVerdict_unrepaired hs hm hr at_,
    fun hm hr hf hx at_ => cenVerdict_repaired hs hm hr hf hx at_, rfl⟩, fun m s => ⟨rfl, rfl⟩, fun m s hm => cenMark_frames s hm⟩
  intro a
  have hgo (f : State → State) : s.event ns f = (f a).settlePlan := event_loaded ns _ s hl
  have hla : a.loaded = true := (State.advance_loaded s ns).trans hl
  have hdrip {t : State} (h : a.cenStep = t) : exec (.censusDrip ns) s = .next t.settlePlan :=
    (congrArg Host.Outcome.next (hgo State.cenStep)).trans (by rw [h])
  refine ⟨fun kat => ?_, fun hre hf hc => hdrip ?_, fun m i run rest hre hm => ⟨fun hk => hdrip ?_, fun hk hlen => hdrip ?_,
    fun hk hlen => hdrip ?_⟩, fun m first rest hre hf => ⟨fun hk => hdrip ?_, fun hk => hdrip ?_⟩,
    fun m i run hre hf hc hm => ⟨fun hk => hdrip ?_, fun hk hlen => hdrip ?_, fun hk hlen hg => hdrip ?_, fun hk hlen hg => hdrip ?_⟩, ?_⟩
  · show Host.Outcome.next (s.event ns (State.cenPass kat)) = _
    rw [hgo, cenPass_eq kat hla]
  · rw [cenStep_on hla hre hf]
    unfold State.cenOn
    rw [hc]
  · rw [cenStep_re hla hre]
    unfold State.cenRe
    rw [hk, if_pos rfl]
  · rw [cenStep_re hla hre, cenRe_eq hm rest hk, if_neg (by omega)]
  · rw [cenStep_re hla hre, cenRe_eq hm rest hk, if_pos hlen]
  · rw [cenStep_fix hla hre hf, hk, if_pos rfl]
  · rw [cenStep_fix hla hre hf, hk, if_neg Bool.false_ne_true]
  · rw [cenStep_on hla hre hf]
    unfold State.cenOn
    rw [hc]
    exact if_pos hk
  · rw [cenStep_on hla hre hf, cenOn_eq hm hc hk, if_neg (by omega)]
  · rw [cenStep_on hla hre hf, cenOn_eq hm hc hk, if_pos hlen, beq_iff_eq.mpr hg]
    rfl
  · rw [cenStep_on hla hre hf, cenOn_eq hm hc hk, if_pos hlen, beq_eq_false_iff_ne.mpr hg]
  · show Host.Outcome.next (s.event ns State.cenPublish) = _
    rw [hgo, cenPublish_eq hla]

end Sys2Proof.Machine
end

section
/-! Proofs/SelfTest.lean: BIST, its fuses and the injectors (R417 to R423). -/

namespace Sys2Proof.Machine

/-- The reason of a refused BIST, or its start. -/
theorem bistStart_eq (op d : Nat) (u : State) : u.bistStart op d =
    if bistBlock d ≠ [] ∧ u.bistIdle d = false then u.put Fld.BIST_STAT_reason 0x60
    else if u.bistBusy = true then u.put Fld.BIST_STAT_reason 0x61
    else if bistBlock d = [] then u.put Fld.BIST_STAT_reason 0x62
    else
      let k := if d = 134 ∨ d = 150 then u.keysClear else u
      { (((k.put Fld.BIST_STAT_busy 1).put Fld.BIST_STAT_reason 0).put Fld.BIST_STAT_domain d) with bist := some (d, op) } := by
  unfold State.bistStart State.bistRefuse
  simp only [Bool.and_eq_true, Bool.not_eq_true', List.isEmpty_eq_false_iff, List.isEmpty_iff, Bool.or_eq_true, beq_iff_eq]

theorem bistFuse_eq (d : Nat) (u : State) : u.bistFuse d u.pw.vfuse =
    let n := u.get (Fld.BIST_DOM_spares d)
    if u.bistBusy then u.put Fld.BIST_STAT_reason 0x61
    else if (bistBlock d).isEmpty then u.put Fld.BIST_STAT_reason 0x62
    else if !u.pw.vfuse then u.put Fld.BIST_STAT_reason 0x33
    else if n == 0 || Nat.blt (u.get Fld.BIST_FUSE_left) n then u.put Fld.BIST_STAT_reason 0x63
    else
      let t := ((((((u.put Fld.BIST_FUSE_used (u.get Fld.BIST_FUSE_used + n)).put Fld.BIST_FUSE_left
        (u.get Fld.BIST_FUSE_left - n)).put (Fld.BIST_DOM_fused d) 1).put (Fld.BIST_DOM_spares d) 0).put
        Fld.BIST_STAT_reason 0).put Fld.BIST_STAT_domain d)
      { t with otp := { t.otp with repairs := t.otp.repairs ++ List.replicate n d } }.raise (evSafe 44) := rfl

/-- The key, operation and domain in a BIST command's word. -/
theorem bist_word {d k : Nat} (hd : d < 256) (hk : k < 4) : (0x5A3C0000 + 256 * k + d) / 2 ^ 16 = 0x5A3C ∧ (0x5A3C0000 + 256 * k + d) % 256 = d := by
  omega

theorem fiEnable_on (u : State) : u.fiEnable true =
    if !u.flag Fld.FI_CTRL_lab then u
    else
      let t := u.put Fld.FI_CTRL_enable 1
      if u.flag Fld.FI_CTRL_enable then t
      else (forEach (List.range 8) (fun k (x : State) => x.put (Fld.FI_STATE_x k) (x.fiSeed k)) t).raise (evSafe 45) := by
  unfold State.fiEnable
  cases u.flag Fld.FI_CTRL_enable <;> rfl

/-- The end of a run. -/
theorem bistDone_eq {res : BistResult} {d op : Nat} {s : State} (h : s.bist = some (d, op)) : s.bistDone res =
    let r := { res with logic := res.logic && bistLogic d }
    let b := ({ s with bist := none }.put Fld.BIST_STAT_busy 0).bistOne d r
    let c := if r.logic || r.memory then b else b.bistInit d
    let e := if d = 134 ∨ d = 150 then { c with spdm := { c.spdm with keys := !c.debug } } else c
    if d = 134 then e.fnShow.hlDoms else e := by
  unfold State.bistDone
  rw [h]
  simp only [Bool.or_eq_true, beq_iff_eq]
  rfl

/-- The count of a run that passed. -/
theorem bistOne_passed {d : Nat} {r : BistResult} (u : State) (hl : r.logic = false) (hm : r.memory = false) : u.bistOne d r =
    (let code := if r.repairs == 0 then 1 else 2
    let v := forEach (bistBlock d) (fun x (t : State) => (t.put (Fld.BIST_DOM_last x) code).bump (Fld.BIST_DOM_runs x)) u
    let w := ((v.lifeItem 225 1).bumpBy (Fld.BIST_DOM_spares d) r.repairs).raiseIf (!(r.repairs == 0)) (evSafe 43)
    ((w.put Fld.BIST_STAT_domain d).put Fld.BIST_STAT_result code).raise (evSafe 41)) := by
  have hc : bistCode r = if r.repairs == 0 then 1 else 2 := by
    unfold bistCode
    rw [hl, hm]
    rfl
  unfold State.bistOne
  rw [hc, hl, hm]
  rfl

/-- Settles O59: a command writes BIST_CTRL or FI_CTRL, whose effects are the lemmas above; an end acts in the shell of a loaded
image. -/
theorem selfTestCommands : Obligations.SelfTestCommands := by
  refine ⟨fun r d s => ?_, fun res ns s hl => ?_⟩
  · intro go
    have hd : d.val < 256 := Nat.lt_of_lt_of_le d.isLt (by decide)
    have hgo (op : Nat) (hop : op = 1 ∨ op = 2) : State.bistCmd (0x5A3C0000 + 256 * op + d.val) = go op := by
      have hlt : op < 4 := by omega
      obtain ⟨hk, hdom⟩ := bist_word hd hlt
      exact funext (fun u => (bistCmd_start u hk (bits_key op d.val hd hlt) hdom hop).trans (bistStart_eq op d.val u))
    have hfuse : State.bistCmd (0x5A3C0300 + d.val) = fun u => u.bistFuse d.val u.pw.vfuse := by
      obtain ⟨hk, hdom⟩ := bist_word (k := 3) hd (by decide)
      exact funext (fun u => bistCmd_fuse u hk (bits_key 3 d.val hd (by decide)) hdom)
    refine ⟨?_, ?_, fun vf => ?_, ?_⟩
    · show Host.Outcome.next (s.busWrite r.val Reg.BIST_CTRL (0x5A3C0100 + d.val)).settle = _
      rw [busWrite_BIST_CTRL, ← hgo 1 (Or.inl rfl)]
    · show Host.Outcome.next (s.busWrite r.val Reg.BIST_CTRL (0x5A3C0200 + d.val)).settle = _
      rw [busWrite_BIST_CTRL, ← hgo 2 (Or.inr rfl)]
    · show Host.Outcome.next (State.busWrite r.val Reg.BIST_CTRL (0x5A3C0300 + d.val) { s with pw := { s.pw with vfuse := vf } }).settle = _
      rw [busWrite_BIST_CTRL, hfuse]
      rfl
    · show Host.Outcome.next (s.busWrite r.val Reg.FI_CTRL 0x80000000).settle = _
      rw [busWrite_FI_CTRL, show bit 0x80000000 31 = true by decide, show State.fiEnable true = _ from funext fiEnable_on]
  · intro a
    have hdone : exec (.bistDone res ns) s = .next (a.bistDone res).awoken.settlePlan := congrArg Host.Outcome.next (event_loaded ns _ s hl)
    refine ⟨fun h => ?_, fun d op h => ?_, fun d u => rfl, fun d r u hlog hmem => bistOne_passed u hlog hmem⟩
    · rw [hdone]
      unfold State.bistDone
      rw [h]
    · rw [hdone, bistDone_eq h]

end Sys2Proof.Machine
end

section
/-! Proofs/RegWrites.lean: writes by the access of each field, and 64-bit registers (R4 to R7, R304, R471). -/

namespace Sys2Proof.Machine

/-! ## Words -/

/-- Bits taken out of a word. -/
theorem sub_and_testBit (a b i : Nat) : (a - (a &&& b)).testBit i = (a.testBit i && !b.testBit i) := by
  have hle (x y : Nat) : x &&& y ≤ x := Nat.and_le_left
  have hdiv (x y : Nat) : (x &&& y) / 2 = x / 2 &&& y / 2 := Nat.and_div_two
  have hmod (x y : Nat) : (x &&& y) % 2 = 1 ↔ x % 2 = 1 ∧ y % 2 = 1 := Nat.and_mod_two_eq_one
  induction i generalizing a b with
  | zero =>
    have h1 := hle a b
    have h2 := hmod a b
    rw [Nat.testBit_zero, Nat.testBit_zero, Nat.testBit_zero, Bool.eq_iff_iff]
    simp only [Bool.and_eq_true, Bool.not_eq_true', decide_eq_true_eq, decide_eq_false_iff_not]
    omega
  | succ i ih =>
    have hhalf : (a - (a &&& b)) / 2 = a / 2 - (a / 2 &&& b / 2) := by
      have h1 := hle a b
      have h2 := hmod a b
      rw [← hdiv]
      omega
    rw [Nat.testBit_succ, Nat.testBit_succ, Nat.testBit_succ, hhalf, ih]

theorem setWins_le (off v now : Nat) : setWins off v now ≤ v := by
  unfold setWins
  split
  · exact Nat.le_refl v
  · split
    · exact Nat.sub_le v _
    · exact Nat.le_refl v

theorem setWins_row {off : Nat} {row : RegRow} (h : rowOf off = some row) (v now : Nat) :
    setWins off v now = if within off (Reg.EVT_STAT 0) 0xC0 then v else v - (v &&& now &&& row.w1c) := by
  unfold setWins
  rw [h]

theorem setWins_none (off v : Nat) : setWins off v 0 = v := by
  unfold setWins
  split
  · rfl
  · split
    · rw [Nat.and_zero, Nat.zero_and, Nat.sub_zero]
    · rfl

theorem srcsOf_none (off : Nat) : srcsOf off 0 = [] := by
  unfold srcsOf
  split
  · rfl
  · rfl

theorem occurAll_nil (s : State) : s.occurAll [] = s := by
  unfold State.occurAll
  split <;> rfl

/-- The halves of an 8-byte value. -/
theorem halfWord_pair {lo hi : Nat} (hlo : lo < 2 ^ 32) (hhi : hi < 2 ^ 32) :
    halfWord (lo + 2 ^ 32 * hi) false = lo ∧ halfWord (lo + 2 ^ 32 * hi) true = hi := by
  unfold halfWord
  simp only [Bool.false_eq_true, if_false, if_true]
  omega

theorem halfWord_now (now : Word64) : halfWord now.toNat false = now.toNat % 2 ^ 32 ∧ halfWord now.toNat true = now.toNat / 2 ^ 32 := by
  have h : now.toNat / 2 ^ 32 < 2 ^ 32 := Nat.div_lt_of_lt_mul now.isLt
  exact ⟨rfl, Nat.mod_eq_of_lt h⟩

/-! ## Writes by form (R304) -/

section
variable (r off v : Nat) (now : Word64) (s : State)

/-- A 4-byte write with its same-cycle conditions. -/
theorem writeNow_word : s.writeNow r off v none now.toNat =
    (s.writeAny r off (setWins off v (now.toNat % 2 ^ 32)) none).occurAll (srcsOf off (now.toNat % 2 ^ 32)) := by
  unfold State.writeNow
  rw [(halfWord_now now).1]
  show State.occurAll (_ ++ []) _ = _
  rw [List.append_nil]
  rfl

/-- An 8-byte write of a PCIe function with its same-cycle conditions. -/
theorem writeNow_pair (hi : Nat) (hr : r < 16) : s.writeNow r off v (some hi) now.toNat =
    (s.writeAny r off (setWins off v (now.toNat % 2 ^ 32)) (some (setWins (off + 4) hi (now.toNat / 2 ^ 32)))).occurAll
      (srcsOf off (now.toNat % 2 ^ 32) ++ srcsOf (off + 4) (now.toNat / 2 ^ 32)) := by
  have hb : Nat.blt r 16 = true := Nat.blt_eq.mpr hr
  unfold State.writeNow
  rw [(halfWord_now now).1, (halfWord_now now).2, hb]
  rfl

/-- Other requesters have accesses of 4 bytes only. -/
theorem writeNow_narrow (hi : Nat) (hr : 16 ≤ r) : s.writeNow r off v (some hi) now.toNat = s.writeNow r off v none now.toNat := by
  have hb : Nat.blt r 16 = false := by
    rw [blt_eq_decide]
    exact decide_eq_false (by omega)
  unfold State.writeNow State.writeAny
  rw [hb]
  rfl

variable {r off v s}

theorem writeAny_misaligned (h : off % 4 ≠ 0) : s.writeAny r off v none = s.misaligned r off true := by
  unfold State.writeAny
  exact if_neg (by simpa using h)

theorem writeAny_word (h : off % 4 = 0) : s.writeAny r off v none = s.busWrite r off v := by
  unfold State.writeAny
  exact if_pos (by simpa using h)

theorem writeAny_pair_misaligned (hi : Nat) (hr : r < 16) (h : off % 8 ≠ 0) : s.writeAny r off v (some hi) = s.misaligned r off true := by
  unfold State.writeAny
  exact (if_pos (Nat.blt_eq.mpr hr)).trans (if_neg (by simpa using h))

theorem writeAny_pair (hi : Nat) (hr : r < 16) (h : off % 8 = 0) : s.writeAny r off v (some hi) = s.busWrite64 r off (v + 2 ^ 32 * hi) := by
  unfold State.writeAny
  exact (if_pos (Nat.blt_eq.mpr hr)).trans (if_pos (by simpa using h))

end

/-! ## Halves of a 64-bit register (R4) -/

theorem isReg_of_row {off : Nat} {row : RegRow} {w : RegWidth} (hm : inMsix off = false) (hrow : rowOf off = some row) (hw : row.width = w) :
    isReg off w = true := by
  unfold isReg
  rw [hm, hrow]
  simp [hw]

/-- A checked write to any register: the check of R446, the drop of R471, or the write. -/
theorem busWrite_reg {r off v : Nat} {w : RegWidth} (s : State) (hw : isReg off w = true) :
    s.busWrite r off v = s.busDo r off v (State.regWrite r off v) := by
  obtain ⟨hm, row, hrow, -⟩ := isReg_row hw
  unfold State.busWrite State.busDo
  rw [hm, hrow, Option.isSome_some, Bool.and_true, if_neg Bool.false_ne_true]

section
variable {off : Nat} {row : RegRow} (hrow : rowOf off = some row)
include hrow

theorem regWrite_low (hw : row.width = .low) (r v : Nat) : State.regWrite r off v = fun s => { s with held := tset s.held off v } := by
  funext s
  unfold State.regWrite
  rw [hrow]
  dsimp only
  rw [hw]

theorem regWrite_high (hw : row.width = .high) (r v : Nat) : State.regWrite r off v = fun s =>
    { s with held := tdel s.held (off - 4) }.write64 (off - 4) ((tget? s.held (off - 4)).getD (s.reg (off - 4)).toNat + 2 ^ 32 * v) := by
  funext s
  unfold State.regWrite
  rw [hrow]
  dsimp only
  rw [hw]

variable {r lo hi : Nat} {s : State} (hm : inMsix off = false) (hlo : lo < 2 ^ 32) (hhi : hi < 2 ^ 32) (hr : s.reqReaches r = true)
  (hd : s.denyReason r off (some lo) = none) (hd4 : s.denyReason r (off + 4) (some hi) = none) (hoff : s.domOff off = false)
include hm hlo hhi hr hd hd4 hoff

/-- An 8-byte write that passes both checks writes a 64-bit register as a whole, or two of one word in their order. -/
theorem busWrite64_passes : s.busWrite64 r off (lo + 2 ^ 32 * hi) =
    if row.width == .low then s.write64 off (lo + 2 ^ 32 * hi) else (s.regWrite r off lo).regWrite r (off + 4) hi := by
  obtain ⟨h1, h2⟩ := halfWord_pair hlo hhi
  have hdeny : s.denyReason64 r off (lo + 2 ^ 32 * hi) = none := by
    unfold State.denyReason64
    rw [h1, h2, hd]
    exact hd4
  unfold State.busWrite64
  rw [hr, hdeny]
  dsimp only
  rw [hm, hoff, hrow, h1, h2]
  rfl

end

theorem peek_lt (s : State) (r off : Nat) : s.peek r off < 2 ^ 32 := Nat.mod_lt _ (by decide)

/-- A read of the low half keeps the high half of the same moment. -/
theorem readBy_low {r off : Nat} (s : State) (hw : isReg off .low = true) (hq : off < 0x620000 ∨ 0x621800 ≤ off) :
    s.readBy r off = s.sees r off (s.peek r off % 2 ^ 32) { s with latch := tset s.latch off (s.peek r (off + 4)) } := by
  obtain ⟨hm, row, hrow, hwid⟩ := isReg_row hw
  have hque : (within off 0x620000 0x1800 && off % 0x40 == 0x20 && !s.domOff off) = false := by
    have hin : within off 0x620000 0x1800 = false := by
      refine Bool.eq_false_iff.mpr (fun h => ?_)
      simp only [within, Bool.and_eq_true, Nat.ble_eq, Nat.blt_eq] at h
      omega
    rw [hin, Bool.false_and, Bool.false_and]
  obtain ⟨h1, h2⟩ := halfWord_pair (peek_lt s r off) (peek_lt s r (off + 4))
  have hread : s.regRead r off = (s.peek r off, { s with latch := tset s.latch off (s.peek r (off + 4)) }) := by
    unfold State.regRead State.read64
    rw [hrow]
    dsimp only
    rw [hwid, hque, if_neg Bool.false_ne_true]
    dsimp only
    rw [h1, h2]
  unfold State.readBy State.sees State.busRead
  rw [Nat.mod_eq_of_lt (peek_lt s r off)]
  split
  · rfl
  · cases s.denyReason r off none with
    | some c => rfl
    | none =>
      dsimp only
      rw [hm, if_neg Bool.false_ne_true, hread]

/-! ## The fields of a register (R6) -/

/-- Below the sync groups a register's write sets nothing else going. -/
theorem imgHook_low {off : Nat} (old : Word) (s : State) (h : off < 0x070000) : s.imgHook off old = s := by
  have hw (lo n : Nat) (hlo : 0x070000 ≤ lo) : within off lo n = false := by
    refine Bool.eq_false_iff.mpr (fun h' => ?_)
    simp only [within, Bool.and_eq_true, Nat.ble_eq, Nat.blt_eq] at h'
    omega
  have he (x : Nat) (hx : 0x070000 ≤ x) : (off == x) = false := beq_eq_false_iff_ne.mpr (by omega)
  unfold State.imgHook
  simp [hw, he, Reg.ERK_CFG, Reg.HL_CFG]

/-- A register after a plain write, bit by bit. -/
theorem plainWrite_bits (off v : Nat) (row : RegRow) (s : State) (hoff : off < 0x070000) (hrow : rowOf off = some row) (hrw : row.rw < 2 ^ 32) :
    ∃ w : Word, s.plainWrite off v = s.setReg off w ∧ ∀ i < 32, w.getLsbD i =
      (((if row.rw.testBit i then v.testBit i else (s.reg off).getLsbD i) && !(row.w1c.testBit i && v.testBit i)) ||
        (row.w1s.testBit i && v.testBit i)) := by
  let kept := ((s.reg off).toNat &&& (0xFFFFFFFF - row.rw)) ||| (v &&& row.rw)
  refine ⟨BitVec.ofNat 32 ((kept - (kept &&& v &&& row.w1c)) ||| (v &&& row.w1s)), ?_, fun i hi => ?_⟩
  · unfold State.plainWrite
    rw [hrow]
    exact imgHook_low _ _ hoff
  · have hk : kept.testBit i = if row.rw.testBit i then v.testBit i else (s.reg off).getLsbD i := by
      simp only [kept, Nat.testBit_or, Nat.testBit_and, complement_testBit hrw hi, BitVec.testBit_toNat]
      cases row.rw.testBit i <;> simp
    rw [BitVec.getLsbD_ofNat, Nat.testBit_or, Nat.and_assoc, sub_and_testBit, Nat.testBit_and, Nat.testBit_and, hk]
    simp [hi, Bool.and_comm]

/-- Settles O50: a write's form by writeNow_word and writeNow_pair, its effect by the register's width and fields. -/
theorem registerAccesses : Obligations.RegisterAccesses := by
  refine ⟨fun r off v s => ⟨fun h => ⟨fun now => ?_, ?_, ?_⟩, fun hi now => ⟨fun hr h => ?_, fun hr => ?_⟩, ?_⟩,
    fun r off v row s hm hrow => ⟨fun now => ?_, fun hw h => fun hq => ?_, fun hw h => ?_⟩,
    fun off v row s h hrow hrw => plainWrite_bits off v row s h hrow hrw⟩
  · show Host.Outcome.next (s.writeNow r.val off.val v.toNat none now.toNat).settlePlan = _
    rw [writeNow_word, writeAny_misaligned h]
  · show Host.Outcome.next (s.writeAny r.val off.val v.toNat none).settlePlan = _
    rw [writeAny_misaligned h]
  · show Host.Outcome.next (s.readAny r.val off.val).settle = _
    unfold State.readAny
    rw [if_neg (by simpa using h)]
  · show Host.Outcome.next (s.writeNow r.val off.val v.toNat (some hi.toNat) now.toNat).settlePlan = _
    rw [writeNow_pair r.val off.val _ now s _ hr, writeAny_pair_misaligned _ hr h]
  · exact congrArg (fun t : State => Host.Outcome.next t.settlePlan) (writeNow_narrow r.val off.val v.toNat now s hi.toNat hr)
  · show Host.Outcome.next (s.writeAny r.val off.val v.toNat none).settlePlan =
      Host.Outcome.next (s.writeNow r.val off.val v.toNat none (0 : Word64).toNat).settlePlan
    rw [writeNow_word]
    show _ = Host.Outcome.next ((s.writeAny r.val off.val (setWins off.val v.toNat 0) none).occurAll (srcsOf off.val 0)).settlePlan
    rw [setWins_none, srcsOf_none, occurAll_nil]
  · intro lo w after
    have hset : setWins off.val v.toNat lo = w := setWins_row hrow _ _
    have hlt : w < 2 ^ 32 := Nat.lt_of_le_of_lt (hset ▸ setWins_le off.val v.toNat lo) v.isLt
    have hword (h : off.val % 4 = 0) : exec (.registerWrite r off ⟨v, none⟩ now) s = .next (after (s.busWrite r.val off.val w)) := by
      show Host.Outcome.next (s.writeNow r.val off.val v.toNat none now.toNat).settlePlan = _
      rw [writeNow_word, hset, writeAny_word h]
    have hpair (hi : Word) (hr : r.val < 16) (h : off.val % 8 = 0) : exec (.registerWrite r off ⟨v, some hi⟩ now) s = .next
        ((s.busWrite64 r.val off.val (w + 2 ^ 32 * setWins (off.val + 4) hi.toNat (now.toNat / 2 ^ 32))).occurAll
          (srcsOf off.val lo ++ srcsOf (off.val + 4) (now.toNat / 2 ^ 32))).settlePlan := by
      show Host.Outcome.next (s.writeNow r.val off.val v.toNat (some hi.toNat) now.toNat).settlePlan = _
      rw [writeNow_pair r.val off.val _ now s _ hr, hset, writeAny_pair _ hr h]
    have hhi (hi : Word) : setWins (off.val + 4) hi.toNat (now.toNat / 2 ^ 32) < 2 ^ 32 :=
      Nat.lt_of_le_of_lt (setWins_le _ _ _) hi.isLt
    refine ⟨fun hw h hc => ?_, fun hw h => ⟨?_, fun hi => ?_⟩, fun hi row' hw h hrow' => ?_⟩
    · rw [hword h, busWrite_plain s (isReg_of_row hm hrow hw) hc]
    · rw [hword (by omega), busWrite_reg s (isReg_of_row hm hrow hw), regWrite_low hrow hw]
    · intro h' hr hreach hd hd4 hoff
      rw [hpair hi hr h, busWrite64_passes hrow hm hlt (hhi hi) hreach hd hd4 hoff, hw]
      rfl
    · intro h' hr hreach hd hd4 hoff
      have hset' : setWins (off.val + 4) hi.toNat (now.toNat / 2 ^ 32) = h' := setWins_row hrow' _ _
      rw [hpair hi hr h, busWrite64_passes hrow hm hlt (hhi hi) hreach hd (hset' ▸ hd4) hoff, hw, hset']
      rfl
  · show Host.Outcome.next (s.readAny r.val off.val).settle = _
    unfold State.readAny
    rw [if_pos (by simp; omega), readBy_low s (isReg_of_row hm hrow hw) hq]
  · show Host.Outcome.next (s.writeAny r.val off.val v.toNat none).settlePlan = _
    rw [writeAny_word h, busWrite_reg s (isReg_of_row hm hrow hw), regWrite_high hrow hw]

end Sys2Proof.Machine
end

section
/-! Proofs/Small.lean: the reset state, conditions inside Falith, the guard table's changes and clock sources (R60, R61, R232, R291,
R432, R448, R454). -/

namespace Sys2Proof.Machine

/-- At reset no pin is asked for and none is low. -/
theorem reset_pinsFollow : State.reset.pinsFollow := by
  have hint : ∀ k < 4, nth State.reset.intLow k false = (State.reset.loaded && State.reset.intWant State.reset.activeSrcs k) := by decide +kernel
  have hwant : ∀ k < 2, State.reset.faultWant State.reset.activeSrcs k = false := by decide +kernel
  have hfault : ∀ k < 2, (nth State.reset.faultPin k ⟨false, false⟩).low = false := by decide +kernel
  have hoff : State.reset.loaded = false := by decide +kernel
  have hfc : ∀ n < 8, (nth State.reset.fcPin n ⟨false, false⟩).low = false := by decide +kernel
  refine ⟨hint, fun k hk _ _ h => ?_, fun k hk _ _ _ _ => hfault k hk, fun n hn => ⟨fun h => ?_, fun _ _ => hfc n hn, fun _ => hfc n hn⟩⟩
  · exact absurd h (by rw [hwant k hk]; decide)
  · exact absurd h (by rw [hoff]; decide)

/-- Settles O4: the reset state, looked at. -/
theorem resetState : Obligations.ResetState := by
  refine ⟨⟨reset_pinsFollow, by decide +kernel, rfl, rfl, rfl, rfl, by decide +kernel, rfl⟩, by decide +kernel,
    by decide +kernel, by decide +kernel, by decide +kernel, by decide +kernel, by decide +kernel, by decide +kernel, by decide +kernel,
    by decide +kernel⟩

/-! ## Conditions inside Falith -/

theorem easelMem_uncorrected (e : Nat) (s : State) : s.easelMem e true =
    if (easelDoms e).any s.domPower then State.retire e 4 ((s.bump (Fld.EAS_ECC_uncorr e)).raise (evEas e 5)) else s := by
  unfold State.easelMem
  cases (easelDoms e).any s.domPower <;> rfl

theorem easelMem_corrected (e : Nat) (s : State) : s.easelMem e false =
    if (easelDoms e).any s.domPower then (State.lifeCore 3 1 (s.bump (Fld.EAS_ECC_corr e))).raise (evEas e 4) else s := by
  unfold State.easelMem
  cases (easelDoms e).any s.domPower <;> rfl

theorem cxlCache_eq (on : Bool) (s : State) : s.cxlCache on =
    if s.flag Fld.HL_STAT_up && s.flag Fld.HL_STAT_cxl && s.flag Fld.HL_STAT_cache_on != on then
      ((s.put Fld.HL_STAT_cache_on (b2n on)).raise (evHl 9)).hlDoms else s := by
  unfold State.cxlCache
  cases s.flag Fld.HL_STAT_up <;> cases s.flag Fld.HL_STAT_cxl <;> cases s.flag Fld.HL_STAT_cache_on <;> cases on <;> rfl

/-- What a forced reset of a queue does. -/
theorem queForced_eq (q : Fin 96) (c : Fin 3) (u : State) : u.queForced q.val (c.val + 1) =
    State.raise (((u.queReset q.val).bump (Fld.QUE_STAT_resets q.val)).setReg Reg.QUE_ERR
      (BitVec.ofNat 32 (2 ^ 31 + (c.val + 1) * 2 ^ 24 + q.val))) (evMem 9) := by
  have hq : q.val % 128 = q.val := Nat.mod_eq_of_lt (by omega)
  have hc : (c.val + 1) % 4 = c.val + 1 := Nat.mod_eq_of_lt (by omega)
  unfold State.queForced
  rw [hq, hc]

/-- A pop of an empty queue shows its pop count alone. -/
theorem popWord_empty (n : Nat) : popWord [] false false n = 2 ^ 56 * (n % 256) := by
  simp [popWord, nth, b2n]

section
variable {s : State} (q cause r : Nat)

theorem queForcedWith_pop (hr : s.reqReaches r = true) (hd : s.denyReason r (Reg.QUE_POP q) none = none) :
    let w := popWord [] false false (s.get (Fld.QUE_POPS_pops q))
    s.queForcedWith q cause (some r) none =
      ({ s with latch := tset s.latch (Reg.QUE_POP q) (halfWord w true) }.emit (.read r (Reg.QUE_POP q) (halfWord w false))).queForced q cause := by
  unfold State.queForcedWith
  dsimp only
  rw [hr, hd]
  rfl

theorem queForcedWith_push {v : Nat} (hr : s.reqReaches r = true) (hd : s.denyReason r (Reg.QUE_PUSH q) (some v) = none)
    (hoff : s.domOff (Reg.QUE_PUSH q) = false) (hmay : s.queMayPush r q = true) (hen : s.flag (Fld.QUE_CFG_enable q) = true)
    (hv : bit v 18 = false) : s.queForcedWith q cause none (some (r, v)) = (s.bumpBy (Fld.QUE_LOST_lost q) 1).queForced q cause := by
  unfold State.queForcedWith
  dsimp only
  rw [busDo_passes s _ hr hd hoff, hmay, hen, hv]
  rfl

end

/-- Settles O13: each happening is its operation in the shell of a running Falith. -/
theorem conditionsThatOccur : Obligations.ConditionsThatOccur := by
  refine ⟨fun h ns s hs => congrArg Host.Outcome.next (running_stopped _ _ _ hs), fun ns s hr => ?_⟩
  intro a
  have hra : a.runs = true := (State.advance_runs s ns).trans hr
  have hgo (h : Happening) : exec (.eventOccurrence h ns) s = .next (a.happen h).settle :=
    congrArg Host.Outcome.next (running_runs _ _ _ hr)
  have hin {h : Happening} {t : State} (ht : a.happen h = if !a.runs then a else t) : exec (.eventOccurrence h ns) s = .next t.settle := by
    rw [hgo, ht, hra]
    rfl
  refine ⟨fun n => hin rfl, hin rfl, hin rfl, fun e => ?_, fun e => ?_, hin rfl, fun q c => ?_, fun on => ?_⟩
  · rw [hin (t := a.easelMem e.val true) rfl, easelMem_uncorrected]
  · rw [hin (t := a.easelMem e.val false) rfl, easelMem_corrected]
  · intro forced
    refine ⟨?_, fun r hreach hd => ?_, fun r v hreach hd hoff hmay hen hv => ?_⟩
    · rw [hin (t := a.queForced q.val (c.val + 1)) rfl, queForced_eq]
    · refine ⟨?_, popWord_empty _⟩
      rw [hin (t := a.queForcedWith q.val (c.val + 1) (some r.val) none) rfl, queForcedWith_pop _ _ _ hreach hd, queForced_eq]
    · rw [hin (t := a.queForcedWith q.val (c.val + 1) none (some (r.val, v.toNat))) rfl,
        queForcedWith_push _ _ _ hreach hd hoff hmay hen hv, queForced_eq]
  · rw [hin (t := a.cxlCache on) rfl, cxlCache_eq]

/-! ## The guard table (R448, R449) -/

theorem applyRefusal_eq (s : State) : s.applyRefusal =
    (let maps := fun r => bit (s.reg (Reg.GRD_REQ r)).toNat 31 && (s.reg (Reg.GRD_REQ r)).toNat % 16 == 0
     let w := (s.reg (Reg.GRD_WIN 4)).toNat
     if !(maps s.holder) || (List.range 20).any (fun r => !(r == s.holder) && maps r) then some 0x70
     else if bit w 0 && bit w 16 then none else some 0x71) := by
  unfold State.applyRefusal
  dsimp only
  cases bit (s.reg (Reg.GRD_WIN 4)).toNat 0 <;> cases bit (s.reg (Reg.GRD_WIN 4)).toNat 16 <;> rfl

/-- The switch takes the copy that waited longest. -/
theorem grdSwitch_eq {tab : List (Nat × Word)} {rest : List (List (Nat × Word))} (s : State) (h : s.grdWait = tab :: rest) :
    let a := { s with
      grdLive := tab, grdWait := rest
      shadow := regsIn s.shadow 0 0x040100 ++ tab ++ regsIn s.shadow 0x040C00 0x1000000 }
    let b := (a.wrapInc Fld.GRD_STAT_generation).put Fld.GRD_STAT_waiting (if rest = [] then 0 else 1)
    s.grdSwitch = ((b.put Fld.GRD_STAT_holder b.holder).raise (evSec 1)).epochStep [152] := by
  have hw : (if rest = [] then 0 else 1) = b2n (!rest.isEmpty) := by cases rest <;> rfl
  unfold State.grdSwitch State.grdGoLive
  rw [hw, h]
  rfl

/-- Settles O16: the control register's two commands, and the switch in the shell of a loaded image. -/
theorem guardTableChanges : Obligations.GuardTableChanges := by
  refine ⟨fun r s => ?_, applyRefusal_eq, fun r s => ?_, fun ns s tab rest hl hw => ?_, fun ns s hl hw => ?_⟩
  · show Host.Outcome.next (s.busWrite r.val Reg.GRD_CTRL 1).settle = _
    rw [busWrite_GRD_CTRL]
    rfl
  · show Host.Outcome.next (s.busWrite r.val Reg.GRD_CTRL 2).settle = _
    rw [busWrite_GRD_CTRL]
    rfl
  · intro a b
    have hwa : (s.advance ns).grdWait = tab :: rest := (State.advance_grdWait s ns).trans hw
    have hsw := grdSwitch_eq (s.advance ns) hwa
    rw [State.advance_shadow] at hsw
    show Host.Outcome.next (s.event ns State.grdSwitch) = _
    rw [event_loaded ns _ s hl, hsw]
  · have hwa : (s.advance ns).grdWait = [] := (State.advance_grdWait s ns).trans hw
    show Host.Outcome.next (s.event ns State.grdSwitch) = _
    rw [event_loaded ns _ s hl]
    unfold State.grdSwitch
    rw [hwa, if_pos List.isEmpty_nil]

/-! ## Clock sources -/

theorem xtalStop_eq (s : State) : s.xtalStop =
    let rc := { s with warm := { s.warm with onRc := true, xtalOk := false } }
    if s.phase == .off then s
    else if s.runs then ((rc.put Fld.CK_SRC_warm_on_rc 1).put Fld.CK_SRC_xtal32k_ok 0).raise (evPm 17) else rc := rfl

theorem xtalBack_eq (s : State) : s.xtalBack =
    let xt := { s with warm := { s.warm with onRc := false, xtalOk := true } }
    if s.phase == .off then s
    else if s.runs then (xt.put Fld.CK_SRC_warm_on_rc 0).put Fld.CK_SRC_xtal32k_ok 1 else xt := rfl

theorem easelPllLost_eq (n : Nat) (s : State) :
    let a := ((s.put (Fld.CK_PLL_locked n) 0).bump (Fld.CK_PLL_unlocks n)).raise (evPm (8 + n))
    s.easelPllLost n = if a.plc.resting = some (2 * n + 1)
      then State.retire (2 * n) 3 (State.retire (2 * n + 1) 3 a)
      else State.retire (2 * n + 1) 3 (State.retire (2 * n) 3 a) := by
  unfold State.easelPllLost
  simp only [beq_iff_eq]

theorem easelDoms_pair (n : Nat) : easelDoms (2 * n) ++ easelDoms (2 * n + 1) =
    [48 + 4 * n, 49 + 4 * n, 72 + 2 * n, 50 + 4 * n, 51 + 4 * n, 73 + 2 * n] := by
  show [48 + 2 * (2 * n), 49 + 2 * (2 * n), 72 + 2 * n, 48 + 2 * (2 * n + 1), 49 + 2 * (2 * n + 1), 72 + (2 * n + 1)] = _
  have h1 : 2 * (2 * n) = 4 * n := by omega
  have h2 : 48 + 2 * (2 * n + 1) = 50 + 4 * n := by omega
  have h3 : 49 + 2 * (2 * n + 1) = 51 + 4 * n := by omega
  have h4 : 72 + (2 * n + 1) = 73 + 2 * n := by omega
  rw [h1, h2, h3, h4]

/-- What raising the rollback floor does. -/
def floorRaise (vfuse : Bool) (s : State) : State :=
  if !s.loaded then s
  else if !vfuse then s.put Fld.BOOT_SEC_cmd_reason 0x33
  else
    let f := Nat.max s.otp.floor s.img.secVer
    (({ s with otp := { s.otp with floor := f } }.put Fld.BOOT_SEC_floor f).put Fld.BOOT_SEC_cmd_reason 0).raise (evSec 5)

theorem bootCmd_floor (s : State) : s.bootCmd 0x5A3C0003 = floorRaise s.pw.vfuse s := by
  unfold State.bootCmd
  rw [if_neg (by decide), if_neg (by decide), if_neg (by decide), if_pos (by decide)]
  rfl

theorem busDo_congr {r off v : Nat} {f g : State → State} {s : State} (h : f s = g s) : s.busDo r off v f = s.busDo r off v g := by
  unfold State.busDo
  rw [h]

/-- Settles O21: the crystal, trim and PLL commands are their operations in their shells; the floor is a command of BOOT_CMD. -/
theorem clockSources : Obligations.ClockSources := by
  refine ⟨fun ns s => ⟨?_, ?_⟩, fun ppm s => ?_, fun n ns s hn hrun => ?_, fun n t ns s hl => ?_, fun r vfuse s => ?_⟩
  · show Host.Outcome.next (State.xtalStop (s.advance ns)).settle = _
    rw [xtalStop_eq, State.advance_phase, State.advance_runs]
  · show Host.Outcome.next (State.xtalBack (s.advance ns)).settle = _
    rw [xtalBack_eq, State.advance_phase, State.advance_runs]
  · show Host.Outcome.next (State.rcTrim ppm (s.advance 0)).settle = _
    have hcond : ((s.advance 0).phase == .off || (s.advance 0).warm.onRc) = (s.phase == .off || s.warm.onRc) := by
      rw [State.advance_phase, State.advance_warm]
    unfold State.rcTrim
    rw [hcond, State.advance_warm]
  · have hflag : (s.advance ns).flag (Fld.CK_PLL_running n.val) = true := by
      unfold State.flag State.get State.reg at hrun ⊢
      rw [State.advance_regs]
      exact hrun
    show Host.Outcome.next (State.pllUnlock n.val (s.advance ns)).settle = _
    unfold State.pllUnlock
    rw [if_pos (Nat.blt_eq.mpr hn), if_pos hflag, easelPllLost_eq]
  · have hra : (s.advance ns).runs = true := (State.advance_runs s ns).trans (runs_of_loaded hl)
    show Host.Outcome.next (s.event ns (State.pllRelock n.val t.val)) = _
    rw [event_loaded ns _ s hl]
    unfold State.pllRelock
    rw [hra, easelDoms_pair]
    simp only [Nat.blt_eq]
    rfl
  · show Host.Outcome.next (State.busWrite r.val Reg.BOOT_CMD 0x5A3C0003 { s with pw := { s.pw with vfuse := vfuse } }).settle = _
    rw [busWrite_BOOT_CMD, busDo_congr (bootCmd_floor _)]
    rfl

end Sys2Proof.Machine
end

section
/-! Proofs/Standing.lean: standby and wake, the states of the host's functions, descriptors of output rings, and accesses of a form
of their own (R50, R54, R304, R311, R437, R446). -/

namespace Sys2Proof.Machine

/-! ## Standby (R50, R54) -/

/-- A wake of the whole of Falith starts from Standby alone. -/
theorem wakeCmd_standby {s : State} (r : Nat) (h : s.phase = .standby) : s.wakeCmd r = (s.setPhase .waking).planUp := by
  unfold State.wakeCmd State.wake
  rw [h]
  rfl

theorem wakeComplete_waking {s : State} (h : s.phase = .waking) : s.wakeComplete =
    (let s1 := forEach ((List.range 152).filter (fun d =>
      s.dom d == .waking || ((s.dom d == .off || s.dom d == .powerdown) && (s.domNeed d || s.domHeld d)))) State.domBring s
    let s2 := (((s1.inputAsleep).setPhase .active).plcRun).raise (evPm 0)
    let s3 := if s2.syncOn then forEach (List.range 8) State.grpStart { s2 with sbSent := false } else { s2 with sbSent := false }
    (forEach s3.boundTgts (fun pk (s : State) => s.chanAdd pk.1 (.wake pk.2 0)) s3).txeWake (tkeys s3.txe)) := by
  unfold State.wakeComplete
  rw [if_neg (by rw [h]; decide)]

theorem wakeComplete_else {s : State} (h : s.phase ≠ .waking) : s.wakeComplete = s := by
  unfold State.wakeComplete
  rw [if_pos (by simp [h])]

/-- Settles O24: the two commands are branches on the phase; the two completions run in the shell of a loaded image. -/
theorem standbyAndWake : Obligations.StandbyAndWake := by
  refine ⟨fun r s => ?_, fun r s => ?_, fun ns s hl => ?_, fun ns s hl => ?_⟩
  · show Host.Outcome.next (s.busWrite r.val Reg.PM_CTRL 1).settlePlan = _
    rw [busWrite_PM_CTRL]
    refine congrArg (fun t => Host.Outcome.next (State.settlePlan t)) (busDo_congr ?_)
    show s.standbyEnter r.val = _
    unfold State.standbyEnter
    cases s.phase <;> rfl
  · show Host.Outcome.next (s.busWrite r.val Reg.PM_CTRL 2).settlePlan = _
    rw [busWrite_PM_CTRL]
    refine congrArg (fun t => Host.Outcome.next (State.settlePlan t)) (busDo_congr ?_)
    show s.wakeCmd r.val = _
    cases h : s.phase
    case standby => exact wakeCmd_standby _ h
    all_goals
      unfold State.wakeCmd State.wake
      rw [h] <;> rfl
  · intro a
    show Host.Outcome.next (s.event ns (fun s => s.wakeComplete.awoken)) = _
    rw [event_loaded ns _ s hl]
    refine congrArg (fun t => Host.Outcome.next (State.settlePlan (State.awoken t))) ?_
    show a.wakeComplete = _
    have ha : a.phase = s.phase := State.advance_phase s ns
    by_cases h : s.phase = .waking
    · rw [wakeComplete_waking (ha.trans h), if_pos (by rw [h]; rfl)]
      rfl
    · rw [wakeComplete_else (fun hw => h (ha.symm.trans hw)), if_neg (by simpa using h)]
  · intro a b
    show Host.Outcome.next (s.event ns State.standbyDone) = _
    rw [event_loaded ns _ s hl]
    refine congrArg (fun t => Host.Outcome.next (State.settlePlan t)) ?_
    show a.standbyDone = _
    have hb : a.standbyDone = if !(b.phase == .entering && b.sbSent) then b else _ := rfl
    rw [hb]
    cases b.phase == .entering && b.sbSent <;> rfl

/-! ## The host's functions -/

theorem fnD3_eq (fn : Nat) (s : State) : s.fnD3 fn =
    if (s.fn fn).present && (s.fn fn).d0 then (((s.setFn fn { s.fn fn with d0 := false }).raise (evHl 11)).fnShow).pourCut.erkCut else s := by
  unfold State.fnD3
  dsimp only
  cases (s.fn fn).present <;> cases (s.fn fn).d0 <;> rfl

theorem fnD0_eq (fn : Nat) (en mask : Bool) (dc : DevCtl) (s : State) : s.fnD0 fn en mask dc =
    if s.phase = .boot ∨ (s.phase = .failed ∧ fn ≠ 0) then s else
      let v := (s.setFn fn ⟨true, true, false, en, mask, dc⟩).raiseIf (!(s.fn fn).d0 && (s.fn fn).present) (evHl 11)
      let w := if (s.fn fn).fmask && !mask then
        forEach (List.range (if fn = 0 then 2048 else 64)) (fun x (u : State) => u.msiUnmasked fn x) v else v
      let u := forEach (List.range w.reads.length) (fun _ u => State.readNext u) w.fnShow
      if u.loaded && u.fnOk fn && !(s.fnOk fn) then u.fnResume fn else u := by
  unfold State.fnD0
  simp only [Bool.or_eq_true, Bool.and_eq_true, beq_iff_eq, Bool.not_eq_true', beq_eq_false_iff_ne]

theorem fnReset_eq (fn : Nat) (s : State) : s.fnReset fn =
    if (s.fn fn).present then s.fnGone fn ⟨true, (s.fn fn).d0, true, false, false, DevCtl.init⟩ else s := by
  unfold State.fnReset
  cases (s.fn fn).present <;> rfl

theorem vfGone_eq (vf : Nat) (s : State) : s.vfGone (vf + 1) =
    if (s.fn (vf + 1)).present then s.fnGone (vf + 1) (FnSt.init false) else s := by
  unfold State.vfGone
  cases (s.fn (vf + 1)).present <;> rfl

/-- Falith without what the host had set up for a function. -/
def fnCleared (fn : Nat) (u : State) : State :=
  { u with
    atc := u.atc.filter (fun e => !(e.1 == fn))
    msix := u.msix.filter (fun e => !(e.1 / 65536 == fn)), msixPend := u.msixPend.filter (fun k => !(k / 2048 == fn)) }

theorem fnGone_eq (fn : Nat) (f : FnSt) (s : State) : s.fnGone fn f =
    ((fnCleared fn ((((s.setFn fn f).pourCut.erkCut).fnForget fn).txeReset fn)).raise (evHl 10)).fnShow := rfl

theorem fnCleared_steps (fn : Nat) (u : State) :
    (let v := { u with atc := u.atc.filter (fun e => !(e.1 == fn)) }
     { v with msix := v.msix.filter (fun e => !(e.1 / 65536 == fn)), msixPend := v.msixPend.filter (fun k => !(k / 2048 == fn)) }) =
      fnCleared fn u := rfl

/-- Settles O28: each command is its operation in the shell of a running Falith. -/
theorem functionStates : Obligations.FunctionStates := by
  intro s ns hr a gone
  have hgone (fn : Nat) (f : FnSt) : a.fnGone fn f = gone fn f := by
    rw [fnGone_eq]
    exact congrArg (fun t => (State.raise t (evHl 10)).fnShow) (fnCleared_steps fn _).symm
  refine ⟨fun fn => ?_, fun fn en mask dc => ?_, fun fn => ?_, fun vf => ?_⟩
  · rw [show exec (.functionD3hotEntry fn ns) s = .next (a.fnD3 fn.val).settle from
      congrArg Host.Outcome.next (running_runs _ _ _ hr), fnD3_eq]
  · rw [show exec (.functionD0Entry fn ⟨en, mask⟩ dc ns) s = .next (a.fnD0 fn.val en mask dc).settle from
      congrArg Host.Outcome.next (running_runs _ _ _ hr), fnD0_eq, State.advance_phase]
  · rw [show exec (.functionLevelReset fn ns) s = .next (a.fnReset fn.val).settle from
      congrArg Host.Outcome.next (running_runs _ _ _ hr), fnReset_eq, hgone]
  · rw [show exec (.vfRemoval vf ns) s = .next (a.vfGone (vf.val + 1)).settle from
      congrArg Host.Outcome.next (running_runs _ _ _ hr), vfGone_eq, hgone]

/-! ## Descriptors of output rings (R311, R315, R321) -/

/-- Rings 6 and 7 of a stream have no registers. -/
theorem rowOf_OUT_DB_none : ∀ n : Fin 264, n.val < 256 ∧ 6 ≤ n.val % 8 → rowOf (Reg.OUT_DB n.val) = none := by decide +kernel

theorem domainOf_OUT_DB : ∀ n : Fin 264, domainOf (Reg.OUT_DB n.val) = none := by decide +kernel

theorem inMsix_OUT_DB : ∀ n : Fin 264, inMsix (Reg.OUT_DB n.val) = false := by decide +kernel

/-- A write where no register stands, outside the MSI-X tables and the blocks of a domain, is checked and does nothing. -/
theorem busWrite_noReg {off : Nat} (r v : Nat) (s : State) (hm : inMsix off = false) (hrow : rowOf off = none) (hd : domainOf off = none) :
    s.busWrite r off v = s.busDo r off v (fun u => u) := by
  have hoff : s.domOff off = false := by
    unfold State.domOff
    rw [hd]
  have hreg : s.regWrite r off v = s := by
    unfold State.regWrite
    rw [hrow]
  unfold State.busWrite State.busDo
  rw [hm, hoff, hreg, Bool.false_and, if_neg Bool.false_ne_true, if_neg Bool.false_ne_true]

theorem hostErr_rings (res : HostRead) (s : State) : (s.hostErr res).rings = s.rings := by
  unfold State.hostErr
  split
  · rw [State.raise_rings]
    rfl
  · unfold State.palUncorr
    dsimp only
    split
    · rw [State.raise_rings]
      rfl
    · rw [State.setReg_rings, State.setReg_rings, State.raise_rings]
      rfl
  · rfl

/-- How the fetch f of a ring ends: with the bytes that came, or without any. -/
def ringFetchEnds (r : Nat) (f : Fetch) (b : Option (List Nat)) (u : State) : State :=
  let v := u.readEnd false f.fn f.desc 16
  if f.dead then v.setRing r { v.ring r with fetches := (v.ring r).fetches.filter (fun g => !(g == f)) }
  else
    let w := v.modFetch r f.num (fun g => { g with busy := false, again := false })
    if f.again then w.fetchIssue r f.num
    else
      let d := b.getD []
      if b.isSome && v.fnOk f.fn && bit (leAt d 0 4) 0 && bits (leAt d 0 4) 15 8 == v.genOf r f.num then
        w.modFetch r f.num (fun g => { g with got := some (leAt d 8 8, leAt d 4 4) })
      else w.raiseIf (f.tries == 16) (evHl 16)

section
variable {s : State} {r : Nat} {f : Fetch} (h : (s.ring r).fetches.find? (fun f => f.busy) = some f)
include h

theorem fetchDone_busy {u : State} (hu : u.rings = s.rings) (b : Option (List Nat)) : u.fetchDone r b = ringFetchEnds r f b u := by
  have hfind : (u.ring r).fetches.find? (fun f => f.busy) = some f := by
    unfold State.ring
    rw [hu]
    exact h
  unfold State.fetchDone
  rw [hfind]
  rfl

theorem fetches_any_busy : (s.ring r).fetches.any (fun f => f.busy) = true :=
  List.any_eq_true.mpr ⟨f, List.mem_of_find?_eq_some h, List.find?_some (p := fun f : Fetch => f.busy) h⟩

theorem fetchEnd_busy (res : HostRead) : s.fetchEnd r res = ringFetchEnds r f (hostData res) (s.hostErr res) := by
  unfold State.fetchEnd
  rw [if_pos (fetches_any_busy h), fetchDone_busy h (hostErr_rings res s)]

theorem fetchTimeout_busy : s.fetchTimeout r = ringFetchEnds r f none ((s.bump Fld.HL_ERR_cto).raise (evHl 6)) := by
  unfold State.fetchTimeout
  rw [if_pos (fetches_any_busy h), fetchDone_busy h (by rw [State.raise_rings, State.bump_rings])]

end

/-- Settles O29: the doorbell is the ring's register, or none; the rest are operations in the shell of a loaded image. -/
theorem descriptorsAreFetched : Obligations.DescriptorsAreFetched := by
  refine ⟨fun r ring s => ?_, fun ring ns s hl => ?_, fun ring ns f s hl hf => ?_⟩
  · show Host.Outcome.next (s.busWrite r.val (Reg.OUT_DB ring.val) 0).settle = _
    by_cases hnone : ring.val < 256 ∧ 6 ≤ ring.val % 8
    · rw [busWrite_noReg _ _ s (inMsix_OUT_DB ring) (rowOf_OUT_DB_none ring hnone) (domainOf_OUT_DB ring)]
      exact congrArg (fun t => Host.Outcome.next (State.settle t)) (busDo_congr (if_pos hnone).symm)
    · rw [busWrite_OUT_DB _ _ _ _ (by omega)]
      exact congrArg (fun t => Host.Outcome.next (State.settle t)) (busDo_congr (if_neg hnone).symm)
  · intro a
    show Host.Outcome.next (s.event ns (State.fetchRetry ring.val)) = _
    rw [event_loaded ns _ s hl]
    rfl
  · intro a ends
    have ha : (a.ring ring.val).fetches.find? (fun f => f.busy) = some f := by
      unfold State.ring at hf ⊢
      rw [State.advance_rings]
      exact hf
    have hgo (res : HostRead) : exec (.descriptorFetchComplete ring res ns) s =
        .next (ends (hostData res) (a.hostErr res)).settlePlan := by
      show Host.Outcome.next (s.event ns (State.fetchEnd ring.val res)) = _
      rw [event_loaded ns _ s hl, fetchEnd_busy ha]
      rfl
    refine ⟨fun b => hgo _, hgo _, fun res hres => ?_, fun word => hgo _, ?_⟩
    · obtain rfl | rfl := hres
      · exact hgo _
      · exact hgo _
    · show Host.Outcome.next (s.event ns (State.fetchTimeout ring.val)) = _
      rw [event_loaded ns _ s hl, fetchTimeout_busy ha]
      rfl

/-! ## The palette view and accesses of a wrong form (R304, R305, R446) -/

theorem palBarRead_eq (off n : Nat) (s : State) : s.palBarRead off n =
    (if !s.reqReaches 0 then s
    else
      let c := if !s.reqEnabled 0 then 7 else if !s.loaded then 5 else 1
      if s.reqEnabled 0 && s.loaded && s.mayRead (Reg.GRD_WIN 44) (s.reqDomain 0) then s.palView 0 off n
      else (s.logDeny 0 off false true c).emit
        (.palRead 0 off (((List.range ((n + 3) / 4)).flatMap (fun _ => leBytes 4 (denyWord c))).take n))) := by
  unfold State.palBarRead State.palDeny
  cases s.reqEnabled 0
  · rfl
  · cases s.loaded
    · rfl
    · cases s.mayRead (Reg.GRD_WIN 44) (s.reqDomain 0) <;> rfl

theorem palBarWrite_eq (off : Nat) (s : State) : s.palBarWrite off =
    if !s.reqReaches 0 then s
    else s.logDeny 0 off true true (if !s.reqEnabled 0 then 7 else if !s.loaded then 5 else 6) := by
  unfold State.palBarWrite State.palDeny
  cases s.reqEnabled 0
  · rfl
  · cases s.loaded <;> rfl

theorem misaligned_eq (r off : Nat) (w : Bool) (s : State) : s.misaligned r off w =
    (if !s.reqReaches r then s
    else if r < 16 then
      let u := (s.bump Fld.HL_ERR_aer_uncorr).raise (evHl 5)
      if w then u else u.emit (.abort r off)
    else
      let c := if s.reqEnabled r then 9 else 7
      let u := s.logDeny r off w false c
      if w then u else u.emit (.read r off (denyWord c))) := by
  have haer : s.aer true = (s.bump Fld.HL_ERR_aer_uncorr).raise (evHl 5) := rfl
  unfold State.misaligned
  rw [haer]
  simp only [Nat.blt_eq]

/-- Settles O32: each form's operation, by the branch of the check that it meets. -/
theorem paletteViewAndWrongForms : Obligations.PaletteViewAndWrongForms := by
  refine ⟨fun off n s => ?_, fun off s => ?_, fun r off w s => ?_⟩
  · exact congrArg (fun t => Host.Outcome.next (State.settle t)) (palBarRead_eq _ _ _)
  · exact congrArg (fun t => Host.Outcome.next (State.settle t)) (palBarWrite_eq _ _)
  · exact congrArg (fun t => Host.Outcome.next (State.settle t)) (misaligned_eq _ _ _ _)

end Sys2Proof.Machine
end

section
/-! Proofs/Easels.lean: what easels work on, how they rest and retire, and the links of the sensor ports (R101 to R104, R167 to R188,
R243, R260). -/

namespace Sys2Proof.Machine

/-! ## Rest and retirement (R183 to R188) -/

/-- A command of PLC_EASEL_CTRL with its key. -/
theorem easelCmd_retire (e : Fin 12) (s : State) : s.easelCmd (0x5A3C0100 + e.val) = s.retire e.val 5 := by
  have hkey : ∀ e : Fin 12, (0x5A3C0100 + e.val) / 2 ^ 16 = 0x5A3C ∧ Nat.ble 12 ((0x5A3C0100 + e.val) % 16) = false ∧
      (0x5A3C0100 + e.val) % 16 = e.val ∧ bits (0x5A3C0100 + e.val) 9 8 = 1 := by decide
  obtain ⟨h1, h2, h3, h4⟩ := hkey e
  unfold State.easelCmd
  rw [h1, h2, h3, h4]
  rfl

theorem easelCmd_readmit (e : Fin 12) (s : State) : s.easelCmd (0x5A3C0200 + e.val) = s.readmitAsk e.val := by
  have hkey : ∀ e : Fin 12, (0x5A3C0200 + e.val) / 2 ^ 16 = 0x5A3C ∧ Nat.ble 12 ((0x5A3C0200 + e.val) % 16) = false ∧
      (0x5A3C0200 + e.val) % 16 = e.val ∧ bits (0x5A3C0200 + e.val) 9 8 = 2 := by decide
  obtain ⟨h1, h2, h3, h4⟩ := hkey e
  unfold State.easelCmd
  rw [h1, h2, h3, h4]
  rfl

theorem retire_retired {e : Nat} (reason : Nat) {s : State} (h : thas s.plc.retired e = true) : s.retire e reason = s := by
  unfold State.retire
  rw [if_pos h]

/-- Settles O47: each happening is its operation in the shell of a loaded image, each command one of PLC_EASEL_CTRL. -/
theorem easelsRestAndRetire : Obligations.EaselsRestAndRetire := by
  refine ⟨fun ns s hl => ?_, fun r e s => ⟨?_, ?_⟩, fun e reason s h => retire_retired reason h⟩
  · intro a
    refine ⟨?_, ?_, fun res repairs => ?_, fun e => ?_⟩
    · show Host.Outcome.next (s.event ns State.rotate) = _
      rw [event_loaded ns _ s hl]
      rfl
    · show Host.Outcome.next (s.event ns State.rotated) = _
      rw [event_loaded ns _ s hl]
      rfl
    · show Host.Outcome.next (s.event ns (State.restDone res.val repairs)) = _
      rw [event_loaded ns _ s hl]
      rfl
    · show Host.Outcome.next (s.event ns (State.readmit e.val)) = _
      rw [event_loaded ns _ s hl]
      rfl
  · show Host.Outcome.next (s.busWrite r.val Reg.PLC_EASEL_CTRL (0x5A3C0100 + e.val)).settlePlan = _
    rw [busWrite_PLC_EASEL_CTRL, busDo_congr (easelCmd_retire e s)]
  · show Host.Outcome.next (s.busWrite r.val Reg.PLC_EASEL_CTRL (0x5A3C0200 + e.val)).settlePlan = _
    rw [busWrite_PLC_EASEL_CTRL, busDo_congr (easelCmd_readmit e s)]
    rfl

/-! ## Lines, strokes, statistics and laws -/

/-- A frame is found for the laws only at the front of their queue. -/
theorem lawFrame_spec {st : Nat} {s : State} {f : Frame} (h : s.lawFrame st = some f) :
    ∃ t rest, s.lawQ = (t, st, f.num) :: rest ∧ f.st = st ∧ f.stats.isSome = true ∧ f.lawed = false ∧ f.sigBound = true := by
  unfold State.lawFrame at h
  split at h
  next x rest hq =>
    split at h
    next hst =>
      obtain ⟨t, st', num⟩ := x
      have hst' : st' = st := by simpa using hst
      have hf := List.find?_some h
      simp only [Bool.and_eq_true, beq_iff_eq, Bool.not_eq_true'] at hf
      obtain ⟨⟨⟨⟨h1, h2⟩, h3⟩, h4⟩, h5⟩ := hf
      exact ⟨t, rest, by rw [hq, h2, hst'], h1, h3, h4, h5⟩
    next => exact absurd h (by simp)
  next => exact absurd h (by simp)

/-- Settles O46: each happening is its operation in the shell of a loaded image. -/
theorem easelsWork : Obligations.EaselsWork := by
  refine ⟨fun e ns s hl => ?_, fun st ns s hl => ?_, fun st s f h => lawFrame_spec h⟩
  · intro a x
    refine ⟨?_, ?_⟩
    · show Host.Outcome.next (s.event ns (State.lineBoundary e.val)) = _
      rw [event_loaded ns _ s hl]
      rfl
    · show Host.Outcome.next (s.event ns (State.strokeEnd e.val)) = _
      rw [event_loaded ns _ s hl]
      rfl
  · intro a
    refine ⟨?_, ?_, ?_⟩
    · show Host.Outcome.next (s.event ns (State.strokeMiss st.val)) = _
      rw [event_loaded ns _ s hl]
      rfl
    · show Host.Outcome.next (s.event ns (State.statsClose st.val)) = _
      rw [event_loaded ns _ s hl]
      rfl
    · show Host.Outcome.next (s.event ns (State.lawsDone st.val)) = _
      rw [event_loaded ns _ s hl]
      rfl

/-! ## Links of the sensor ports (R101 to R104) -/

/-- Settles O39: each happening is its operation in the shell of a loaded image. -/
theorem portLinks : Obligations.PortLinks := by
  refine ⟨fun p gear ns s hl => ?_, fun p ns s hl => ?_, fun p s => ?_, fun p ns s hl => ?_, fun r p s => rfl, fun p m s hl => ?_,
    fun p n lost s hl => ?_⟩
  · show Host.Outcome.next (s.event ns (State.linkUp p.val gear.val)) = _
    rw [event_loaded ns _ s hl]
    rfl
  · show Host.Outcome.next (s.event ns (State.linkLoss p.val)) = _
    rw [event_loaded ns _ s hl]
    rfl
  · exact ⟨rfl, rfl⟩
  · show Host.Outcome.next (s.event ns (State.retrainStart p.val)) = _
    rw [event_loaded ns _ s hl]
    unfold State.retrainStart State.portBusy
    rw [Bool.not_not]
  · show Host.Outcome.next (s.event 0 (State.eqMargin p.val m.val)) = _
    rw [event_loaded 0 _ s hl]
    rfl
  · show Host.Outcome.next (s.event 0 (State.retx p.val n lost)) = _
    rw [event_loaded 0 _ s hl]
    rfl

end Sys2Proof.Machine
end

section
/-! Proofs/Spdm.lean: the SPDM responder, its sessions and the debug authorisation (R301, R412, R413, R419, R431). -/

namespace Sys2Proof.Machine

section
variable {s : State}

/-- What a request of a stage does: nothing while the mailbox is closed, and a refusal before its stage. -/
theorem doeAt_eq (n : Nat) (f : State → State) (s : State) : s.doeAt n f =
    if !s.doeOpen then s else if Nat.ble n s.spdm.stage then f s.secWake else s.secWake.emit (.doe .error) := rfl

theorem doeAt_passes {n : Nat} (f : State → State) (ho : s.doeOpen = true) (hn : n ≤ s.spdm.stage) : s.doeAt n f = f s.secWake := by
  unfold State.doeAt
  rw [ho, Nat.ble_eq.mpr hn]
  rfl

theorem spdmVersion_eq (s : State) : s.spdmVersion =
    if !s.doeOpen then s
    else ({ s.secWake.sessEnd with spdm := { s.secWake.sessEnd.spdm with stage := 1, log := [0x84] } }).emit (.doe (.version [0x12])) := by
  unfold State.spdmVersion
  cases s.doeOpen <;> rfl

theorem spdmAlgorithms_eq (o : Fin 16) : State.spdmAlgorithms o.val =
    State.doeAt 2 (fun s => ((s.doeLog 0xE3 [o.val]).doeStage 3).doeSay (.algorithms o.val)) := by
  have h : o.val % 16 = o.val := Nat.mod_eq_of_lt o.isLt
  unfold State.spdmAlgorithms
  rw [h]

theorem spdmCertificate_eq (slot off len : Nat) : State.spdmCertificate slot off len = State.doeAt 3 (fun s =>
    if slot = 0 ∧ off < certChain.length then
      let part := slice certChain off len
      (s.doeLog 0x82 [slot, off, len]).doeSay (.certificate part (certChain.length - off - part.length))
    else s.doeSay .error) := by
  have h : (!(slot == 0) || Nat.ble certChain.length off) = true ↔ ¬(slot = 0 ∧ off < certChain.length) := by
    simp only [Bool.or_eq_true, Bool.not_eq_true', beq_eq_false_iff_ne, Nat.ble_eq]
    omega
  unfold State.spdmCertificate
  simp only [h, ite_not]

theorem spdmChallenge_eq (slot : Nat) (nonce : List Nat) : State.spdmChallenge slot nonce = State.doeAt 3 (fun s =>
    if slot = 0 ∧ s.spdm.keys = true then
      (s.doeLog 0x83 nonce).draw.doeSay (.challengeAuth (sha384 certChain) ((s.doeLog 0x83 nonce).doeSign (sha384 certChain)))
    else s.doeSay .error) := by
  have h (s : State) : (!(slot == 0) || !s.spdm.keys) = true ↔ ¬(slot = 0 ∧ s.spdm.keys = true) := by
    simp only [Bool.or_eq_true, Bool.not_eq_true', beq_eq_false_iff_ne, Bool.not_eq_true, not_and_or, ne_eq]
  unfold State.spdmChallenge
  simp only [h, ite_not]

theorem measType_eq (i : Nat) : measType i =
    if i = 1 then MeasType.rom else if i = 2 ∨ i = 4 then .firmwareConfig else .hardwareConfig := by
  unfold measType
  simp only [Bool.or_eq_true, beq_iff_eq]

/-- What GET_MEASUREMENTS answers once it is let through. -/
def measured (i : Nat) (signed : Bool) (nonce : List Nat) (w : State) : State :=
  if signed = true ∧ w.spdm.keys = false then w.emit (.doe .error)
  else if i = 0 then (w.doeLog 0xE0 [0]).emit (.doe (.blockCount 5))
  else if i ≤ 5 ∨ i = 255 then
    let blocks := (if i = 255 then [1, 2, 3, 4, 5] else [i]).map (fun b =>
      (b, if b = 1 then MeasType.rom else if b = 2 ∨ b = 4 then .firmwareConfig else .hardwareConfig, w.measurement b))
    let u := w.doeLog 0xE0 (i :: nonce)
    if signed then u.draw.emit (.doe (.measurements blocks (some (Config.sign (u.spdm.log ++ blocks.flatMap (fun b => b.1 :: b.2.2)) u.free))))
    else u.emit (.doe (.measurements blocks none))
  else w.emit (.doe .error)

theorem spdmMeasurements_eq (i : Nat) (signed : Bool) (nonce : List Nat) :
    State.spdmMeasurements i signed nonce = State.doeAt 3 (measured i signed nonce) := by
  unfold State.spdmMeasurements measured State.doeSay State.doeSign
  simp only [measType_eq, Bool.and_eq_true, Bool.not_eq_true', Bool.or_eq_true, Nat.ble_eq, beq_iff_eq]

end

/-- Settles O34: each request is the responder's operation at its stage. -/
theorem spdmRequests : Obligations.SpdmRequests := by
  intro s w stage logged
  have hat (n : Nat) (f : State → State) : s.doeAt n f = stage n (f w) := rfl
  refine ⟨?_, fun req => rfl, fun o => ?_, rfl, fun slot off len => ?_, fun slot nonce => ?_, fun i signed nonce => ?_⟩
  · show Host.Outcome.next s.spdmVersion.settle = _
    rw [spdmVersion_eq]
    rfl
  · show Host.Outcome.next (State.spdmAlgorithms o.val s).settle = _
    rw [spdmAlgorithms_eq]
    rfl
  · show Host.Outcome.next (State.spdmCertificate slot.val off.val len.val s).settle = _
    rw [spdmCertificate_eq]
    rfl
  · show Host.Outcome.next (State.spdmChallenge slot.val (byteVals nonce) s).settle = _
    rw [spdmChallenge_eq]
    rfl
  · show Host.Outcome.next (State.spdmMeasurements i.val signed (byteVals nonce) s).settle = _
    rw [spdmMeasurements_eq]
    rfl

/-- What a change of the debug state does, of a running Falith. -/
theorem debugAuth_eq (on : Bool) {a : State} (hr : a.runs = true) : a.debugAuth on =
    if a.debug == on then a
    else
      let u := ({ (if on then a.keysClear else a).raise (evSec 4) with debug := on }).emit (.debug on)
      if on || u.domBist 150 || u.domBist 134 then u else u.keysDerive := by
  unfold State.debugAuth
  rw [hr]
  cases a.debug == on <;> rfl

/-- Settles O35: each request is the responder's operation, past its stage; debug runs in the shell of a running Falith. -/
theorem spdmSessions : Obligations.SpdmSessions := by
  refine ⟨fun s0 ho hn => ?_, fun s on ns hr => ?_⟩
  · intro s refused inside
    have hgo {f : State → State} : (s0.doeAt 3 f).settle = (f s).settle := by rw [doeAt_passes f ho hn] <;> rfl
    refine ⟨fun n share => congrArg Host.Outcome.next hgo, fun ok => congrArg Host.Outcome.next hgo, congrArg Host.Outcome.next hgo,
      congrArg Host.Outcome.next hgo, congrArg Host.Outcome.next hgo, congrArg Host.Outcome.next hgo, congrArg Host.Outcome.next hgo,
      congrArg Host.Outcome.next hgo, congrArg Host.Outcome.next hgo⟩
  · intro a
    have hra : a.runs = true := (State.advance_runs s ns).trans hr
    rw [show exec (.debugAuthorisation on ns) s = .next (a.debugAuth on).settle from
      congrArg Host.Outcome.next (running_runs _ _ _ hr), debugAuth_eq on hra]
    cases on <;> rfl

end Sys2Proof.Machine
end

section
/-! Proofs/Boot.lean: Boot begins at reset release, tries its candidates, and runs its key-on waves (R19, R73, R88, R89, R150, R415,
R416). -/

namespace Sys2Proof.Machine

theorem forEach_regsOnly {α : Type} (l : List α) (f : α → State → State) (h : ∀ x s, RegsOnly s (f x s)) (s : State) :
    RegsOnly s (forEach l f s) := by
  induction l generalizing s with
  | nil => exact RegsOnly.refl s
  | cons x xs ih => exact (h x s).trans (ih (f x s))

/-! ## What the life ledger does at Boot -/

/-- What the journal's scan at Boot changes: the warmer, the ledger, the register that shows it, and what an event changes. -/
structure LifeOnly (s t : State) : Prop where
  eq : t = { s with
    regs := t.regs, out := t.out, msixPend := t.msixPend, modSt := t.modSt, outHeld := t.outHeld, hot := t.hot
    warm := t.warm, life := t.life }
  reg : ∀ off, (off < 0x030000 ∨ 0x040000 ≤ off) → off ≠ Reg.LIFE_STAT → t.reg off = s.reg off
  out : s.out ⊆ t.out

namespace LifeOnly

theorem refl (s : State) : LifeOnly s s := ⟨rfl, fun _ _ _ => rfl, List.Subset.refl _⟩

theorem trans {s t u : State} (h : LifeOnly s t) (g : LifeOnly t u) : LifeOnly s u := by
  obtain ⟨h1, h2, h3⟩ := h
  obtain ⟨g1, g2, g3⟩ := g
  refine ⟨?_, fun off ho hl => (g2 off ho hl).trans (h2 off ho hl), List.Subset.trans h3 g3⟩
  rw [h1] at g1
  exact g1

theorem warm (s : State) (w : Warm) : LifeOnly s { s with warm := w } := ⟨rfl, fun _ _ _ => rfl, List.Subset.refl _⟩

theorem jrDue (k : JKind) (s : State) : LifeOnly s (s.jrDue k) := ⟨rfl, fun _ _ _ => rfl, List.Subset.refl _⟩

theorem raise (s : State) {n : Nat} (h : n < 1536) : LifeOnly s (s.raise n) := by
  obtain ⟨h1, h2⟩ := raise_evt s n h
  refine ⟨?_, fun off ho _ => h2 off ho, raise_out n s⟩
  rw [h1]

theorem raiseIf (s : State) (c : Bool) {n : Nat} (h : n < 1536) : LifeOnly s (s.raiseIf c n) := by
  cases c
  · exact refl s
  · exact raise s h

theorem put (s : State) {f : Fld} (v : Nat) (h : f.off = Reg.LIFE_STAT) : LifeOnly s (s.put f v) :=
  ⟨rfl, fun _ _ hl => State.reg_put_ne s v (by rw [h]; exact hl), List.Subset.refl _⟩

theorem forEach {α : Type} (l : List α) (f : α → State → State) (h : ∀ x s, LifeOnly s (f x s)) (s : State) :
    LifeOnly s (forEach l f s) := by
  induction l generalizing s with
  | nil => exact refl s
  | cons x xs ih => exact (h x s).trans (ih (f x s))

theorem get {s t : State} (h : LifeOnly s t) (f : Fld) (ho : f.off < 0x030000 ∨ 0x040000 ≤ f.off) (hl : f.off ≠ Reg.LIFE_STAT) :
    t.get f = s.get f := by
  unfold State.get
  rw [h.reg _ ho hl]

end LifeOnly

theorem jrScan_life (s : State) : LifeOnly s s.jrScan := by
  unfold State.jrScan
  split
  · exact ((LifeOnly.warm s _).trans (LifeOnly.jrDue _ _)).trans (LifeOnly.jrDue _ _)
  · next n b _ =>
    dsimp only
    have hdue (w : Warm) (c : Bool) (k : JKind) : LifeOnly s (if c then ({ s with warm := w } : State).jrDue k else { s with warm := w }) := by
      cases c
      · exact LifeOnly.warm s w
      · exact (LifeOnly.warm s w).trans (LifeOnly.jrDue _ _)
    split
    · exact hdue _ _ _
    · exact (((hdue _ _ _).trans (LifeOnly.warm _ _)).trans (LifeOnly.put _ 1 rfl)).trans (LifeOnly.raise _ (by decide))

theorem lifeBoot_life (s : State) : LifeOnly s s.lifeBoot := by
  unfold State.lifeBoot
  exact (((LifeOnly.raiseIf s _ (by decide)).trans (jrScan_life _)).trans (LifeOnly.forEach _ _ (fun k u => LifeOnly.jrDue k u) _)).trans
    ((LifeOnly.warm _ _).trans (LifeOnly.raiseIf _ _ (by decide)))

/-! ## The start of Boot (R19, R23, R73) -/

/-- The straps and the levels that Boot starts with. -/
def bootPower (env : BootEnv) (s : State) : Power :=
  let rose := s.pw.porst || !s.pw.main
  { s.pw with
    porst := false, out := [], absent := []
    strapClk := if rose then b2n env.clk else s.pw.strapClk, strapXspi := if rose then env.xspi.val else s.pw.strapXspi
    unread := unreadOf env (if rose then env.xspi.val else s.pw.strapXspi) }

/-- Registers at their Reset column, with vehicle time at 0. -/
def bootClean (pw : Power) (s : State) : State :=
  { s with pw := pw, regs := resetRegs, hlReset := pw.perst, phase := .boot, tm := TimeSt.init }

/-- What OTP and the straps say. -/
def bootFields (pw : Power) (s : State) : State :=
  ((bootClean pw s).otpFields.put Fld.CK_SRC_ref_ok 1).put
    Fld.BOOT_STATUS_xspi_mode (if pw.strapXspi == 3 then 0 else pw.strapXspi)

/-- What the warmer and the supplies show, and CK_7 locked. -/
def bootClocks (w : Warm) (supw : Bool) (s : State) : State :=
  let s3 := ((s.put Fld.CK_SRC_xtal32k_ok (b2n w.xtalOk)).put Fld.CK_SRC_warm_on_rc (b2n w.onRc)).put Fld.PM_STATE_supw (b2n supw)
  (((s3.put (Fld.CK_PLL_running 7) 1).put (Fld.CK_PLL_locked 7) 1).put (Fld.CK_PLL_last_lock 7) (Config.openVal s3.free 66 % 201)).draw

/-- The key-on BIST in wave 1 and the flash's reset pulse. -/
def bootWave (s : State) : State :=
  (((s.put Fld.BIST_STAT_keyon 1).put Fld.BIST_STAT_wave 1).emit (.pin .xspiRstN false)).emit (.pin .xspiRstN true)

/-- Boot up to the scan of the journal. -/
def bootSeen (env : BootEnv) (s : State) : State := bootWave (bootClocks s.warm s.pw.supw (bootFields (bootPower env s) s))

theorem bootBegin_eq (env : BootEnv) (s : State) : s.bootBegin env = ((bootSeen env s).lifeBoot.hlDoms).keysDerive := rfl

/-- What Boot's registers, outputs and draws leave as it is. -/
def BootKept (s t : State) : Prop :=
  t.phase = s.phase ∧ t.pw = s.pw ∧ t.tm = s.tm ∧ t.nor = s.nor ∧ t.img = s.img ∧ t.otp = s.otp ∧ t.hlReset = s.hlReset

namespace BootKept

theorem refl (s : State) : BootKept s s := ⟨rfl, rfl, rfl, rfl, rfl, rfl, rfl⟩

theorem trans {s t u : State} (h : BootKept s t) (g : BootKept t u) : BootKept s u := by
  obtain ⟨h1, h2, h3, h4, h5, h6, h7⟩ := h
  obtain ⟨g1, g2, g3, g4, g5, g6, g7⟩ := g
  exact ⟨g1.trans h1, g2.trans h2, g3.trans h3, g4.trans h4, g5.trans h5, g6.trans h6, g7.trans h7⟩

theorem put (s : State) (f : Fld) (v : Nat) : BootKept s (s.put f v) := ⟨rfl, rfl, rfl, rfl, rfl, rfl, rfl⟩

theorem setReg64 (s : State) (off v : Nat) : BootKept s (s.setReg64 off v) := ⟨rfl, rfl, rfl, rfl, rfl, rfl, rfl⟩

theorem emit (s : State) (o : Out) : BootKept s (s.emit o) := ⟨rfl, rfl, rfl, rfl, rfl, rfl, rfl⟩

theorem draw (s : State) : BootKept s s.draw := ⟨rfl, rfl, rfl, rfl, rfl, rfl, rfl⟩

theorem keysDerive (s : State) : BootKept s s.keysDerive := ⟨rfl, rfl, rfl, rfl, rfl, rfl, rfl⟩

theorem forEach {α : Type} (l : List α) (f : α → State → State) (h : ∀ x s, BootKept s (f x s)) (s : State) :
    BootKept s (forEach l f s) := by
  induction l generalizing s with
  | nil => exact refl s
  | cons x xs ih => exact (h x s).trans (ih (f x s))

theorem ofLife {s t : State} (h : LifeOnly s t) : BootKept s t := by
  rw [h.eq]
  exact refl s

theorem ofDoms {s t : State} (h : DomsOnly s t) : BootKept s t := by
  rw [h.1]
  exact refl s

end BootKept

theorem otpFields_kept (s : State) : BootKept s s.otpFields := by
  unfold State.otpFields
  dsimp only
  refine BootKept.trans ?_ (BootKept.put _ _ _)
  refine BootKept.trans ?_ (BootKept.put _ _ _)
  refine BootKept.trans ?_ (BootKept.forEach _ _ (fun d u => BootKept.put u _ _) _)
  refine BootKept.trans ?_ (BootKept.put _ _ _)
  refine BootKept.trans ?_ (BootKept.put _ _ _)
  refine BootKept.trans ?_ (BootKept.put _ _ _)
  exact (BootKept.put _ _ _).trans (BootKept.setReg64 _ _ _)

theorem bootClocks_kept (w : Warm) (supw : Bool) (s : State) : BootKept s (bootClocks w supw s) := by
  unfold bootClocks
  dsimp only
  refine BootKept.trans ?_ (BootKept.draw _)
  refine BootKept.trans ?_ (BootKept.put _ _ _)
  refine BootKept.trans ?_ (BootKept.put _ _ _)
  refine BootKept.trans ?_ (BootKept.put _ _ _)
  refine BootKept.trans ?_ (BootKept.put _ _ _)
  exact (BootKept.put _ _ _).trans (BootKept.put _ _ _)

theorem bootWave_kept (s : State) : BootKept s (bootWave s) := by
  unfold bootWave
  refine BootKept.trans ?_ (BootKept.emit _ _)
  refine BootKept.trans ?_ (BootKept.emit _ _)
  exact (BootKept.put _ _ _).trans (BootKept.put _ _ _)

theorem bootFields_kept (pw : Power) (s : State) : BootKept (bootClean pw s) (bootFields pw s) := by
  unfold bootFields
  exact ((otpFields_kept _).trans (BootKept.put _ _ _)).trans (BootKept.put _ _ _)

theorem bootSeen_kept (env : BootEnv) (s : State) : BootKept (bootClean (bootPower env s) s) (bootSeen env s) :=
  ((bootFields_kept _ s).trans (bootClocks_kept _ _ _)).trans (bootWave_kept _)

theorem bootBegin_kept (env : BootEnv) (s : State) : BootKept (bootClean (bootPower env s) s) (s.bootBegin env) := by
  rw [bootBegin_eq]
  exact (((bootSeen_kept env s).trans (BootKept.ofLife (lifeBoot_life _))).trans (BootKept.ofDoms (hlDoms_doms _))).trans
    (BootKept.keysDerive _)

/-- Registers outside BIST_STAT come to the flash's reset pulse as the clocks leave them. -/
theorem bootWave_get (s : State) {f : Fld} (h : f.off ≠ Reg.BIST_STAT) : (bootWave s).get f = s.get f := by
  unfold bootWave
  rw [State.emit_get, State.emit_get, State.get_put_ne _ _ h, State.get_put_ne _ _ h]

theorem bootWave_shows (s : State) : (bootWave s).get Fld.BIST_STAT_keyon = 1 ∧ (bootWave s).get Fld.BIST_STAT_wave = 1 := by
  unfold bootWave
  refine ⟨?_, ?_⟩
  · rw [State.emit_get, State.emit_get, State.get_put_disj _ _ (by decide) (by decide) (by decide)]
    exact State.get_put_same s Fld.BIST_STAT_keyon 1 (by decide) (by decide)
  · rw [State.emit_get, State.emit_get]
    exact State.get_put_same _ Fld.BIST_STAT_wave 1 (by decide) (by decide)

theorem bootClocks_get (w : Warm) (supw : Bool) (s : State) {f : Fld} (h1 : f.off ≠ Reg.CK_PLL 7) (h2 : f.off ≠ Reg.PM_STATE)
    (h3 : f.off ≠ Reg.CK_SRC ∨ f.hi < 3) : (bootClocks w supw s).get f = s.get f := by
  unfold bootClocks
  dsimp only
  rw [State.draw_get, State.get_put_ne _ _ h1, State.get_put_ne _ _ h1, State.get_put_ne _ _ h1, State.get_put_ne _ _ h2]
  obtain h3 | h3 := h3
  · rw [State.get_put_ne _ _ h3, State.get_put_ne _ _ h3]
  · rw [State.get_put_disj _ _ (by decide) (by decide) (Or.inl (by show f.hi < 4; omega)),
      State.get_put_disj _ _ (by decide) (by decide) (Or.inl h3)]

theorem bootSeen_shows (env : BootEnv) (s : State) :
    let t := bootSeen env s
    t.get Fld.BIST_STAT_keyon = 1 ∧ t.get Fld.BIST_STAT_wave = 1 ∧
    t.get Fld.BOOT_STATUS_xspi_mode = (if (bootPower env s).strapXspi == 3 then 0 else (bootPower env s).strapXspi) % 4 ∧
    t.get (Fld.CK_PLL_running 7) = 1 ∧ t.get (Fld.CK_PLL_locked 7) = 1 ∧ t.get Fld.CK_SRC_ref_ok = 1 := by
  unfold bootSeen
  refine ⟨?_, ?_, ?_, ?_, ?_, ?_⟩
  · exact (bootWave_shows _).1
  · exact (bootWave_shows _).2
  · rw [bootWave_get _ (by decide), bootClocks_get _ _ _ (by decide) (by decide) (Or.inl (by decide))]
    exact State.get_put_same _ Fld.BOOT_STATUS_xspi_mode _ (by decide) (by decide)
  · rw [bootWave_get _ (by decide)]
    unfold bootClocks
    dsimp only
    rw [State.draw_get, State.get_put_disj _ _ (by decide) (by decide) (by decide),
      State.get_put_disj _ _ (by decide) (by decide) (by decide)]
    exact State.get_put_same _ (Fld.CK_PLL_running 7) 1 (by decide) (by decide)
  · rw [bootWave_get _ (by decide)]
    unfold bootClocks
    dsimp only
    rw [State.draw_get, State.get_put_disj _ _ (by decide) (by decide) (by decide)]
    exact State.get_put_same _ (Fld.CK_PLL_locked 7) 1 (by decide) (by decide)
  · rw [bootWave_get _ (by decide), bootClocks_get _ _ _ (by decide) (by decide) (Or.inr (by decide))]
    unfold bootFields
    rw [State.get_put_ne _ _ (by decide)]
    exact State.get_put_same _ Fld.CK_SRC_ref_ok 1 (by decide) (by decide)

theorem keysDerive_get (s : State) (f : Fld) : s.keysDerive.get f = s.get f := rfl

theorem keysDerive_out (s : State) : s.keysDerive.out = s.out := rfl

/-- The start of Boot shows what is read before the journal's scan, and its outputs stand. -/
theorem bootBegin_shows (env : BootEnv) (s : State) :
    (∀ f : Fld, (f.off < 0x030000 ∨ 0x040000 ≤ f.off) → f.off ≠ Reg.LIFE_STAT → (∀ e < 152, f.off ≠ Reg.PM_DSTAT e) →
      (s.bootBegin env).get f = (bootSeen env s).get f) ∧
    (bootSeen env s).out ⊆ (s.bootBegin env).out := by
  have hlife := lifeBoot_life (bootSeen env s)
  have hdoms : DomBeside 0 8 (bootSeen env s).lifeBoot (bootSeen env s).lifeBoot.hlDoms :=
    forEach_hlDom_beside [134, 135, 136, 137] (by decide) _
  refine ⟨fun f h1 h2 h3 => ?_, ?_⟩
  · rw [bootBegin_eq, keysDerive_get, hdoms.get f h3, hlife.get f h1 h2]
  · have hout : (s.bootBegin env).out = (bootSeen env s).lifeBoot.out := by
      rw [bootBegin_eq, keysDerive_out, hdoms.eq]
    rw [hout]
    exact hlife.out

end Sys2Proof.Machine
end

section
/-! Proofs/KeyOn.lean: the key-on waves record their blocks, and Boot from its first to its last step (R73, R88, R89, R415, R416). -/

namespace Sys2Proof.Machine

/-! ## What leaves the BIST registers alone -/

/-- The phase stays, and so do the registers of the BIST block. -/
structure BistKept (s t : State) : Prop where
  phase : t.phase = s.phase
  reg : ∀ off, 0x0A0000 ≤ off → off < 0x0B0000 → t.reg off = s.reg off

namespace BistKept

theorem refl (s : State) : BistKept s s := ⟨rfl, fun _ _ _ => rfl⟩

theorem trans {s t u : State} (h : BistKept s t) (g : BistKept t u) : BistKept s u :=
  ⟨g.phase.trans h.phase, fun off h1 h2 => (g.reg off h1 h2).trans (h.reg off h1 h2)⟩

theorem of_regs {s t : State} (h1 : t.phase = s.phase) (h2 : t.regs = s.regs) : BistKept s t :=
  ⟨h1, fun off _ _ => by unfold State.reg; rw [h2]⟩

theorem setReg (s : State) {off : Nat} (w : Word) (h : off < 0x0A0000 ∨ 0x0B0000 ≤ off) : BistKept s (s.setReg off w) :=
  ⟨rfl, fun o h1 h2 => State.reg_setReg_ne s w (by omega)⟩

theorem put (s : State) {f : Fld} (v : Nat) (h : f.off < 0x0A0000 ∨ 0x0B0000 ≤ f.off) : BistKept s (s.put f v) :=
  ⟨rfl, fun o h1 h2 => State.reg_put_ne s v (by omega)⟩

theorem raise (s : State) {n : Nat} (h : n < 1536) : BistKept s (s.raise n) :=
  ⟨State.raise_phase s n, fun off h1 _ => State.raise_reg s n off h (Or.inr (by omega))⟩

theorem raiseIf (s : State) (c : Bool) {n : Nat} (h : n < 1536) : BistKept s (s.raiseIf c n) := by
  cases c
  · exact refl s
  · exact raise s h

theorem forEach {α : Type} (l : List α) (f : α → State → State) (h : ∀ x ∈ l, ∀ s, BistKept s (f x s)) (s : State) :
    BistKept s (forEach l f s) := by
  induction l generalizing s with
  | nil => exact refl s
  | cons x xs ih => exact (h x (List.mem_cons_self ..) s).trans (ih (fun y hy => h y (List.mem_cons_of_mem _ hy)) (f x s))

theorem get {s t : State} (h : BistKept s t) {f : Fld} (h1 : 0x0A0000 ≤ f.off) (h2 : f.off < 0x0B0000) : t.get f = s.get f := by
  unfold State.get
  rw [h.reg _ h1 h2]

theorem loaded {s t : State} (h : BistKept s t) : t.loaded = s.loaded := by
  unfold State.loaded
  rw [h.phase]

end BistKept

/-- A range of registers beside the BIST block. -/
def besideBist (g : Nat × Nat) : Bool := g.1 ≤ g.2 && (g.2 ≤ 0x0A0000 || 0x0B0000 ≤ g.1)

theorem resetRange_bist (s : State) {g : Nat × Nat} (h : besideBist g = true) : BistKept s (s.resetRange g.1 g.2) := by
  simp only [besideBist, Bool.and_eq_true, Bool.or_eq_true, decide_eq_true_eq] at h
  refine ⟨rfl, fun off h1 h2 => ?_⟩
  rw [resetRange_reg s _ _ off h.1, if_neg (by omega)]

theorem restore_bist (s : State) {g : Nat × Nat} (h : besideBist g = true) : BistKept s (s.restore g.1 g.2) := by
  simp only [besideBist, Bool.and_eq_true, Bool.or_eq_true, decide_eq_true_eq] at h
  unfold State.restore
  refine BistKept.forEach _ _ (fun o ho u => ?_) s
  have hin := (List.mem_filter.mp ho).2
  simp only [Bool.and_eq_true, Nat.ble_eq, Nat.blt_eq] at hin
  dsimp only
  split
  · exact BistKept.refl u
  · exact BistKept.setReg u _ (by omega)

theorem cenCheckSet_unloaded (m : Nat) {s : State} (h : s.loaded = false) : s.cenCheckSet m = s := by
  unfold State.cenCheckSet
  simp [h]

theorem domRestore_bist (d : Nat) {s : State} (hl : s.loaded = false) (h136 : d ≠ 136)
    (h : ∀ g ∈ domRanges d, besideBist g = true) : BistKept s (s.domRestore d) := by
  have hk : BistKept s (forEach (domRanges d) (fun r u => u.restore r.1 r.2) s) :=
    BistKept.forEach _ _ (fun g hg u => restore_bist u (h g hg)) s
  unfold State.domRestore
  dsimp only
  rw [if_neg (by simpa using h136), cenCheckSet_unloaded d (hk.loaded.trans hl)]
  exact hk

/-- The re-initialisation of blocks whose registers stand beside the BIST block's. -/
theorem bistInit_bist (d : Nat) {s : State} (hl : s.loaded = false)
    (h : ∀ x ∈ bistBlock d, x ≠ 136 ∧ ∀ g ∈ domRanges x, besideBist g = true) : BistKept s (s.bistInit d) := by
  have hone (x : Nat) (hx : x ∈ bistBlock d) (u : State) (hu : u.loaded = false) : BistKept u
      (let s1 := (forEach (domRanges x) (fun g s => s.resetRange g.1 g.2) u).domRestore x
       if Nat.ble 84 x && Nat.blt x 132 then s1.groupClear (x - 84) else s1) := by
    obtain ⟨h136, hg⟩ := h x hx
    have h1 : BistKept u (forEach (domRanges x) (fun g s => s.resetRange g.1 g.2) u) :=
      BistKept.forEach _ _ (fun g hm w => resetRange_bist w (hg g hm)) u
    have h2 := h1.trans (domRestore_bist x (h1.loaded.trans hu) h136 hg)
    dsimp only
    split
    · exact h2.trans (BistKept.of_regs rfl rfl)
    · exact h2
  unfold State.bistInit
  generalize bistBlock d = l at hone
  induction l generalizing s with
  | nil => exact BistKept.refl s
  | cons x xs ih =>
    have h1 := hone x (List.mem_cons_self ..) s hl
    exact h1.trans (ih (h1.loaded.trans hl) (fun y hy => hone y (List.mem_cons_of_mem _ hy)))

theorem showEasel_bist {e : Nat} (he : e < 12) (s : State) : BistKept s (s.showEasel e) := by
  unfold State.showEasel
  exact (BistKept.setReg s _ (by simp only [Reg.PLC_EASEL_STAT]; omega)).trans
    (BistKept.setReg _ _ (by simp only [Reg.PLC_EASEL_STROKES]; omega))

theorem chooseDrops_bist (s : State) : BistKept s s.chooseDrops := by
  unfold State.chooseDrops
  exact (BistKept.setReg s _ (by decide)).trans (BistKept.raiseIf _ _ (by decide))

theorem plcPuts_bist (s : State) (mode rest res free bud dem : Nat) :
    BistKept s ((((((s.put Fld.PLC_STAT_resting rest).put Fld.PLC_STAT_mode mode).put Fld.PLC_CELLS_reserved res).put
      Fld.PLC_CELLS_free free).put Fld.PLC_HL_budget bud).put Fld.PLC_HL_demand dem) := by
  refine BistKept.trans ?_ (BistKept.put _ _ (by decide))
  refine BistKept.trans ?_ (BistKept.put _ _ (by decide))
  refine BistKept.trans ?_ (BistKept.put _ _ (by decide))
  refine BistKept.trans ?_ (BistKept.put _ _ (by decide))
  exact (BistKept.put _ _ (by decide)).trans (BistKept.put _ _ (by decide))

theorem plcShow_bist (s : State) : BistKept s s.plcShow := by
  unfold State.plcShow State.cellsShow
  dsimp only
  refine BistKept.trans ?_ (BistKept.forEach _ _ (fun e he u => showEasel_bist (List.mem_range.mp he) u) _)
  split
  · exact (plcPuts_bist s _ _ _ _ _ _).trans (chooseDrops_bist _)
  · exact plcPuts_bist s _ _ _ _ _ _

/-! ## The blocks of a wave (R415) -/

theorem waveBlocks_beside : ∀ w < 7, ∀ d ∈ waveBlocks w, ∀ x ∈ bistBlock d, x < 152 ∧ x ≠ 136 ∧ ∀ g ∈ domRanges x, besideBist g = true := by
  decide +kernel

/-- No domain stands in two blocks of a wave. -/
theorem waveBlocks_apart : ∀ w < 7, ∀ d ∈ waveBlocks w, ∀ e ∈ waveBlocks w, ∀ x ∈ bistBlock d, x ∈ bistBlock e → d = e := by
  decide +kernel

theorem bistDom_put_get (s : State) {f : Fld} {x y : Nat} (v : Nat) (hf : f.off = Reg.BIST_DOM x) (h : y ≠ x) :
    (s.put f v).get (Fld.BIST_DOM_last y) = s.get (Fld.BIST_DOM_last y) :=
  State.get_put_ne s v (by rw [hf]; show Reg.BIST_DOM y ≠ _; simp only [Reg.BIST_DOM]; omega)

/-- What a block's record leaves of the registers: its own words, and those of BIST_STAT that are not the last result. -/
structure Recorded (d code : Nat) (s t : State) : Prop where
  phase : t.phase = s.phase
  keyon : t.get Fld.BIST_STAT_keyon = s.get Fld.BIST_STAT_keyon
  wave : t.get Fld.BIST_STAT_wave = s.get Fld.BIST_STAT_wave
  last : ∀ y < 152, t.get (Fld.BIST_DOM_last y) = if y ∈ bistBlock d then code else s.get (Fld.BIST_DOM_last y)

/-- A record of a block's domains, each with its run counted. -/
def lastPut (code : Nat) (l : List Nat) (s : State) : State :=
  forEach l (fun x (t : State) => (t.put (Fld.BIST_DOM_last x) code).bump (Fld.BIST_DOM_runs x)) s

theorem lastPut_get {code : Nat} (hc : code < 4) (l : List Nat) (s : State) (y : Nat) :
    (lastPut code l s).get (Fld.BIST_DOM_last y) = if y ∈ l then code else s.get (Fld.BIST_DOM_last y) := by
  induction l generalizing s with
  | nil => rfl
  | cons x xs ih =>
    have hstep : ((s.put (Fld.BIST_DOM_last x) code).bump (Fld.BIST_DOM_runs x)).get (Fld.BIST_DOM_last y) =
        if y = x then code else s.get (Fld.BIST_DOM_last y) := by
      unfold State.bump State.bumpBy
      split
      next hy =>
        rw [hy, State.get_put_disj _ _ (show 0 ≤ 15 by decide) (show 15 < 32 by decide) (Or.inr (show 15 < 30 by decide))]
        exact (State.get_put_same s (Fld.BIST_DOM_last x) code (show 30 ≤ 31 by decide) (show 31 < 32 by decide)).trans (Nat.mod_eq_of_lt hc)
      next hy => rw [bistDom_put_get _ _ rfl hy, bistDom_put_get _ _ rfl hy]
    refine (ih _).trans ?_
    rw [hstep]
    by_cases h1 : y ∈ xs <;> by_cases h2 : y = x <;> simp [h1, h2]

theorem lastPut_stat (code : Nat) (l : List Nat) (s : State) {f : Fld} (h : f.off = Reg.BIST_STAT) :
    (lastPut code l s).get f = s.get f := by
  refine forEach_keeps (fun u => u.get f) l _ (fun x u => ?_) s
  have hne : f.off ≠ Reg.BIST_DOM x := by
    rw [h]
    simp only [Reg.BIST_STAT, Reg.BIST_DOM]
    omega
  unfold State.bump State.bumpBy
  exact (State.get_put_ne _ _ hne).trans (State.get_put_ne _ _ hne)

theorem lastPut_phase (code : Nat) (l : List Nat) (s : State) : (lastPut code l s).phase = s.phase :=
  forEach_keeps (fun u => u.phase) l (fun x (u : State) => (u.put (Fld.BIST_DOM_last x) code).bump (Fld.BIST_DOM_runs x)) (fun _ _ => rfl) s

/-- How a block's record shows a run that passed. -/
def passCode (r : BistResult) : Nat := if r.repairs = 0 then 1 else 2

theorem passCode_lt (r : BistResult) : passCode r < 4 := by
  unfold passCode
  split <;> decide

theorem bistOne_steps {d : Nat} {r : BistResult} (u : State) (hl : r.logic = false) (hm : r.memory = false) : u.bistOne d r =
    (((((((lastPut (passCode r) (bistBlock d) u).lifeItem 225 1).bumpBy (Fld.BIST_DOM_spares d) r.repairs).raiseIf
      (!(r.repairs == 0)) (evSafe 43)).put Fld.BIST_STAT_domain d).put Fld.BIST_STAT_result (passCode r)).raise (evSafe 41)) := by
  have hc : (if r.repairs == 0 then 1 else 2) = passCode r := by
    unfold passCode
    simp only [beq_iff_eq]
  rw [bistOne_passed u hl hm]
  dsimp only
  rw [hc]
  rfl

/-- What the record of a run leaves in the words of BIST_STAT and BIST_DOM above their low fields. -/
theorem bistOne_get {d : Nat} {r : BistResult} (u : State) (hl : r.logic = false) (hm : r.memory = false) {f : Fld}
    (hoff : 0x0A0000 ≤ f.off) (hlo : 24 ≤ f.lo) : (u.bistOne d r).get f = (lastPut (passCode r) (bistBlock d) u).get f := by
  have hput (s : State) (g : Fld) (v : Nat) (h1 : g.lo ≤ g.hi) (h2 : g.hi < 24) : (s.put g v).get f = s.get f :=
    State.get_put_disj s v h1 (by omega) (Or.inr (by omega))
  rw [bistOne_steps u hl hm, State.raise_get _ _ _ (by decide) (Or.inr (by omega)), hput _ _ _ (by decide) (by decide),
    hput _ _ _ (by decide) (by decide), State.raiseIf_get _ _ _ _ (by decide) (Or.inr (by omega))]
  exact hput ((lastPut (passCode r) (bistBlock d) u).lifeItem 225 1) (Fld.BIST_DOM_spares d) _ (show 16 ≤ 23 by decide) (show 23 < 24 by decide)

theorem bistOne_phase {d : Nat} {r : BistResult} (u : State) (hl : r.logic = false) (hm : r.memory = false) :
    (u.bistOne d r).phase = u.phase := by
  rw [bistOne_steps u hl hm, State.raise_phase, State.put_phase, State.put_phase, State.raiseIf_phase, State.bumpBy_phase]
  exact lastPut_phase _ _ u

theorem bistOne_recorded {d : Nat} {r : BistResult} (u : State) (hl : r.logic = false) (hm : r.memory = false) :
    Recorded d (passCode r) u (u.bistOne d r) where
  phase := bistOne_phase u hl hm
  keyon := (bistOne_get u hl hm (by decide) (by decide)).trans (lastPut_stat _ _ u rfl)
  wave := (bistOne_get u hl hm (by decide) (by decide)).trans (lastPut_stat _ _ u rfl)
  last := fun y _ => (bistOne_get u hl hm (show 0x0A0000 ≤ Reg.BIST_DOM y by simp only [Reg.BIST_DOM]; omega)
    (show 24 ≤ 30 by decide)).trans (lastPut_get (passCode_lt r) _ u y)

/-- A block of a wave that passes is recorded and initialised again. -/
theorem waveBlock_recorded {w d : Nat} {r : BistResult} {s : State} (hw : w < 7) (hd : d ∈ waveBlocks w) (hl : r.logic = false)
    (hm : r.memory = false) (hs : s.loaded = false) : Recorded d (passCode r) s ((s.bistOne d r).bistInit d) := by
  obtain ⟨h1, h2, h3, h4⟩ := bistOne_recorded (d := d) s hl hm
  have hload : (s.bistOne d r).loaded = false := by
    unfold State.loaded at hs ⊢
    rw [h1]
    exact hs
  have hi := bistInit_bist d hload (fun x hx => (waveBlocks_beside w hw d hd x hx).2)
  refine ⟨hi.phase.trans h1, (hi.get (by decide) (by decide)).trans h2, (hi.get (by decide) (by decide)).trans h3, fun y hy => ?_⟩
  exact (hi.get (show 0x0A0000 ≤ Reg.BIST_DOM y by simp only [Reg.BIST_DOM]; omega)
    (show Reg.BIST_DOM y < 0x0B0000 by simp only [Reg.BIST_DOM]; omega)).trans (h4 y hy)

/-- The result of a block in a wave: a block that no result names has passed. -/
def waveResult (rs : List BistResult) (d : Nat) : BistResult :=
  let r := (rs.find? (fun r => r.dom.val == d)).getD bistPass
  { r with logic := r.logic && bistLogic d }

/-- A block's part in the end of its wave. -/
def waveStep (rs : List BistResult) (d : Nat) (s : State) : State :=
  let r := waveResult rs d
  if r.logic || r.memory then s.bistOne d r else (s.bistOne d r).bistInit d

section
variable {rs : List BistResult} (hrs : ∀ r ∈ rs, r.logic = false ∧ r.memory = false)
include hrs

theorem waveResult_passed (d : Nat) : (waveResult rs d).logic = false ∧ (waveResult rs d).memory = false := by
  unfold waveResult
  dsimp only
  cases h : rs.find? (fun r => r.dom.val == d) with
  | none => exact ⟨rfl, rfl⟩
  | some r =>
    obtain ⟨h1, h2⟩ := hrs r (List.mem_of_find?_eq_some h)
    exact ⟨by rw [Option.getD_some, h1, Bool.false_and], h2⟩

theorem waveStep_recorded {w d : Nat} {s : State} (hw : w < 7) (hd : d ∈ waveBlocks w) (hs : s.loaded = false) :
    Recorded d (passCode (waveResult rs d)) s (waveStep rs d s) := by
  obtain ⟨h1, h2⟩ := waveResult_passed hrs d
  have hif : waveStep rs d s = (s.bistOne d (waveResult rs d)).bistInit d := by
    unfold waveStep
    dsimp only
    rw [h1, h2]
    rfl
  rw [hif]
  exact waveBlock_recorded hw hd h1 h2 hs

/-- The blocks of a wave that passes, one after the other. -/
theorem waveSteps_recorded {w : Nat} (hw : w < 7) (l : List Nat) (hl : ∀ d ∈ l, d ∈ waveBlocks w) {s : State} (hs : s.loaded = false) :
    let t := forEach l (waveStep rs) s
    t.phase = s.phase ∧ t.get Fld.BIST_STAT_keyon = s.get Fld.BIST_STAT_keyon ∧ t.get Fld.BIST_STAT_wave = s.get Fld.BIST_STAT_wave ∧
    ∀ d ∈ waveBlocks w, ∀ x ∈ bistBlock d, (d ∈ l ∨ s.get (Fld.BIST_DOM_last x) = passCode (waveResult rs d)) →
      t.get (Fld.BIST_DOM_last x) = passCode (waveResult rs d) := by
  induction l generalizing s with
  | nil => exact ⟨rfl, rfl, rfl, fun d _ x _ h => h.resolve_left (List.not_mem_nil)⟩
  | cons e es ih =>
    have he := hl e (List.mem_cons_self ..)
    obtain ⟨h1, h2, h3, h4⟩ := waveStep_recorded hrs hw he hs
    have hs1 : (waveStep rs e s).loaded = false := by
      unfold State.loaded at hs ⊢
      rw [h1]
      exact hs
    obtain ⟨g1, g2, g3, g4⟩ := ih (fun d hd => hl d (List.mem_cons_of_mem _ hd)) hs1
    refine ⟨g1.trans h1, g2.trans h2, g3.trans h3, fun d hd x hx h => g4 d hd x hx ?_⟩
    have hx152 := (waveBlocks_beside w hw d hd x hx).1
    by_cases hde : d = e
    · right
      rw [h4 x hx152, if_pos (hde ▸ hx), hde]
    · have hxe : x ∉ bistBlock e := fun hmem => hde (waveBlocks_apart w hw d hd e he x hx hmem)
      rcases h with h | h
      · exact Or.inl ((List.mem_cons.mp h).resolve_left hde)
      · right
        rw [h4 x hx152, if_neg hxe, h]

end

/-- The waves' position after the end of wave w. -/
def waveNext (w : Nat) (s : State) : State :=
  if w == 6 then (s.put Fld.BIST_STAT_keyon 0).put Fld.BIST_STAT_wave 0 else s.put Fld.BIST_STAT_wave (w + 1)

/-- An easel that rests and was tested in this wave has passed. -/
def waveRested (w : Nat) (s : State) : State :=
  let passed := match s.plc.resting with
    | some e => (waveBlocks w).contains (48 + 2 * e)
    | none => false
  if passed then { s with plc := { s.plc with restOk := true } }.plcShow else s

theorem waveEnd_other {w : Nat} (rs : List BistResult) {s : State}
    (h : s.flag Fld.BIST_STAT_keyon = false ∨ s.get Fld.BIST_STAT_wave ≠ w) : s.waveEnd w rs = s := by
  unfold State.waveEnd
  exact if_pos (by rcases h with h | h <;> simp [h])

theorem waveEnd_inHand {w : Nat} (rs : List BistResult) {s : State} (hr : s.runs = true) (hk : s.flag Fld.BIST_STAT_keyon = true)
    (hw : s.get Fld.BIST_STAT_wave = w) : s.waveEnd w rs =
    (let u := waveRested w (waveNext w (forEach (waveBlocks w) (waveStep rs) s))
     let ports := if w == 5 then List.range 12 else if w == 6 then (List.range 24).drop 12 else []
     if u.loaded then (forEach ports State.chanStart u).waveBack w else u) := by
  unfold State.waveEnd
  rw [if_neg (by simp [hr, hk, hw])]
  rfl

theorem waveNext_phase (w : Nat) (s : State) : (waveNext w s).phase = s.phase := by
  unfold waveNext
  split <;> rfl

theorem waveNext_last (w : Nat) (s : State) (x : Nat) : (waveNext w s).get (Fld.BIST_DOM_last x) = s.get (Fld.BIST_DOM_last x) := by
  have hne : (Fld.BIST_DOM_last x).off ≠ Reg.BIST_STAT := by
    show Reg.BIST_DOM x ≠ _
    simp only [Reg.BIST_STAT, Reg.BIST_DOM]
    omega
  unfold waveNext
  split
  · exact (State.get_put_ne _ _ hne).trans (State.get_put_ne _ _ hne)
  · exact State.get_put_ne _ _ hne

theorem waveNext_stat {w : Nat} (hw : w < 7) {s : State} (hk : s.get Fld.BIST_STAT_keyon = 1) :
    (waveNext w s).get Fld.BIST_STAT_keyon = (if w = 6 then 0 else 1) ∧
    (waveNext w s).get Fld.BIST_STAT_wave = (if w = 6 then 0 else w + 1) := by
  unfold waveNext
  by_cases h6 : w = 6
  · rw [if_pos (by simp [h6]), if_pos h6, if_pos h6]
    refine ⟨?_, State.get_put_same _ Fld.BIST_STAT_wave 0 (by decide) (by decide)⟩
    rw [State.get_put_disj _ _ (by decide) (by decide) (by decide)]
    exact State.get_put_same s Fld.BIST_STAT_keyon 0 (by decide) (by decide)
  · rw [if_neg (by simp [h6]), if_neg h6, if_neg h6]
    refine ⟨?_, ?_⟩
    · rw [State.get_put_disj _ _ (by decide) (by decide) (by decide), hk]
    · exact (State.get_put_same s Fld.BIST_STAT_wave (w + 1) (by decide) (by decide)).trans (Nat.mod_eq_of_lt (show w + 1 < 2 ^ 3 by omega))

theorem waveRested_bist (w : Nat) (s : State) : BistKept s (waveRested w s) := by
  unfold waveRested
  dsimp only
  generalize (match s.plc.resting with | some e => (waveBlocks w).contains (48 + 2 * e) | none => false) = passed
  cases passed
  · exact BistKept.refl s
  · exact (BistKept.of_regs (s := s) (t := { s with plc := { s.plc with restOk := true } }) rfl rfl).trans (plcShow_bist _)

theorem get_of_flag {f : Fld} {s : State} (h : s.flag f = true) (hf : f.lo = f.hi) : s.get f = 1 := by
  have hlt : s.get f < 2 := by
    have h1 : f.hi + 1 - f.lo = 1 := by omega
    unfold State.get fldGet bits
    rw [h1]
    exact Nat.mod_lt _ (by decide)
  have hne : s.get f ≠ 0 := by simpa [State.flag] using h
  omega

/-- The end of the wave in hand, where no block of it fails and no image is loaded. -/
theorem waveEnd_passes {w : Nat} {rs : List BistResult} (hrs : ∀ r ∈ rs, r.logic = false ∧ r.memory = false) {s : State} (hw7 : w < 7)
    (hr : s.runs = true) (hl : s.loaded = false) (hk : s.flag Fld.BIST_STAT_keyon = true) (hw : s.get Fld.BIST_STAT_wave = w) :
    let t := s.waveEnd w rs
    t.get Fld.BIST_STAT_keyon = (if w = 6 then 0 else 1) ∧ t.get Fld.BIST_STAT_wave = (if w = 6 then 0 else w + 1) ∧
    ∀ d ∈ waveBlocks w, ∀ x ∈ bistBlock d, t.get (Fld.BIST_DOM_last x) = passCode (waveResult rs d) := by
  obtain ⟨h1, h2, -, h4⟩ := waveSteps_recorded hrs hw7 (waveBlocks w) (fun _ hd => hd) hl
  have hrest := waveRested_bist w (waveNext w (forEach (waveBlocks w) (waveStep rs) s))
  have hload : (waveRested w (waveNext w (forEach (waveBlocks w) (waveStep rs) s))).loaded = false := by
    rw [hrest.loaded]
    unfold State.loaded at hl ⊢
    rw [waveNext_phase, h1]
    exact hl
  obtain ⟨g1, g2⟩ := waveNext_stat hw7 (h2.trans (get_of_flag hk rfl))
  intro t
  have ht : t = waveRested w (waveNext w (forEach (waveBlocks w) (waveStep rs) s)) := by
    show s.waveEnd w rs = _
    rw [waveEnd_inHand rs hr hk hw]
    dsimp only
    rw [if_neg (by rw [hload]; decide)]
  rw [ht]
  refine ⟨(hrest.get (by decide) (by decide)).trans g1, (hrest.get (by decide) (by decide)).trans g2, fun d hd x hx => ?_⟩
  have hx152 := (waveBlocks_beside w hw7 d hd x hx).1
  rw [hrest.get (show 0x0A0000 ≤ Reg.BIST_DOM x by simp only [Reg.BIST_DOM]; omega)
    (show Reg.BIST_DOM x < 0x0B0000 by simp only [Reg.BIST_DOM]; omega), waveNext_last]
  exact h4 d hd x hx (Or.inl hd)

theorem passCode_waveResult (rs : List BistResult) (d : Nat) : passCode (waveResult rs d) =
    if ((rs.find? (fun r => r.dom.val == d)).elim 0 (fun r => r.repairs)) = 0 then 1 else 2 := by
  unfold passCode waveResult
  cases rs.find? (fun r => r.dom.val == d) <;> rfl

/-- Settles O19: Boot's start keeps and shows what bootSeen does; its candidates are tried by recursion on their list; a wave's end is
the record of its blocks one after the other. -/
theorem bootBeginsAndEnds : Obligations.BootBeginsAndEnds := by
  refine ⟨fun env s => ?_, fun env s => ?_, fun s => rfl, fun k h rest s => ?_, fun wave results s hr => ?_, fun d r s hd => ?_⟩
  · show Host.Outcome.next ((s.advance 0).resetRelease env).settle = _
    have hp := State.advance_phase s 0
    unfold State.resetRelease
    cases h : s.phase <;> rw [hp, h]
  · intro b rose
    obtain ⟨h1, h2, h3, h4, h5, h6, h7⟩ := bootBegin_kept env s
    obtain ⟨hget, hout⟩ := bootBegin_shows env s
    obtain ⟨s1, s2, s3, s4, s5, s6⟩ := bootSeen_shows env s
    have hkept {f : Fld} {v : Nat} (hs : (bootSeen env s).get f = v) (ho : f.off < 0x030000 ∨ 0x040000 ≤ f.off)
        (hl : f.off ≠ Reg.LIFE_STAT) (hd : ∀ e < 152, f.off ≠ Reg.PM_DSTAT e) : b.get f = v := (hget f ho hl hd).trans hs
    have hmode := hkept s3 (by decide) (by decide) (by decide)
    have hpw : b.pw.strapXspi = (bootPower env s).strapXspi := congrArg Power.strapXspi h2
    refine ⟨h1, congrArg Power.porst h2, congrArg Power.main h2, h3, congrArg Power.strapClk h2, hpw, h4, h5, h6, h7,
      hkept s1 (by decide) (by decide) (by decide), hkept s2 (by decide) (by decide) (by decide), fun hx => ?_, fun hx => ?_,
      hkept s4 (by decide) (by decide) (by decide), hkept s5 (by decide) (by decide) (by decide),
      hkept s6 (by decide) (by decide) (by decide), hout (List.mem_cons_self ..), hout (List.mem_cons_of_mem _ (List.mem_cons_self ..))⟩
    · rw [hmode, ← hpw, if_neg (by simp; omega)]
      omega
    · rw [hmode, ← hpw, hx]
      rfl
  · intro rejected
    show (match s.slotImage h k with
      | .error c => State.tryCandidates rest (s.reject k c none)
      | .ok i => match s.imagePlaced i with
        | .error (c, e) => State.tryCandidates rest (s.reject k c e)
        | .ok (a, c) => c.loadImage a) = _
    cases s.slotImage h k with
    | error c => rfl
    | ok i =>
      dsimp only
      cases s.imagePlaced i with
      | ok p => rfl
      | error p =>
        obtain ⟨c, e⟩ := p
        cases e <;> rfl
  · intro a w
    have hra : a.runs = true := (State.advance_runs s 0).trans hr
    refine ⟨congrArg Host.Outcome.next (running_runs 0 (fun u => (u.waveEnd w results).awoken) s hr),
      fun h => waveEnd_other results h, fun hl hk hw hrs => ?_⟩
    obtain ⟨h1, h2, h3⟩ := waveEnd_passes hrs (show w < 7 from Nat.lt_of_le_of_lt (Nat.succ_le_of_lt wave.isLt) (by decide)) hra hl hk hw
    exact ⟨h1, h2, fun d hd x hx => (h3 d hd x hx).trans (passCode_waveResult results d)⟩
  · unfold State.bistFence
    dsimp only
    rw [if_neg (by simp only [Bool.and_eq_true, Nat.ble_eq, Nat.blt_eq]; omega)]

end Sys2Proof.Machine
end
